-- ==== Sys2Proof/Word.lean ====
section
/-! DEFINITION. Fixed-length tables of like things (sections, lamps, channels …), the only
container of the model besides lists, and the plainest arithmetic. -/

namespace Sys2Proof

/-- A list that carries the proof of its length: "the part has n of these". -/
structure Table (α : Type) (n : Nat) where
  data : List α
  len : data.length = n
deriving DecidableEq, Repr

/-- The element with number `i`. -/
def Table.get {α : Type} {n : Nat} (t : Table α n) (i : Fin n) : α :=
  t.data[i.val]'(by rw [t.len]; exact i.isLt)

/-- The table with element `i` replaced. -/
def Table.set {α : Type} {n : Nat} (t : Table α n) (i : Fin n) (x : α) : Table α n :=
  ⟨t.data.set i.val x, by rw [List.length_set]; exact t.len⟩

/-- The table with element `i` changed by `f`. -/
def Table.modify {α : Type} {n : Nat} (t : Table α n) (i : Fin n) (f : α → α) : Table α n :=
  t.set i (f (t.get i))

/-- The table whose element `i` is `f i`. -/
def Table.ofFn {α : Type} {n : Nat} (f : Fin n → α) : Table α n :=
  ⟨List.ofFn f, List.length_ofFn⟩

/-- `n` copies of one element. -/
def Table.replicate {α : Type} (n : Nat) (x : α) : Table α n :=
  ⟨List.replicate n x, List.length_replicate⟩

/-- Every element changed by `f`. -/
def Table.map {α β : Type} {n : Nat} (f : α → β) (t : Table α n) : Table β n :=
  ⟨t.data.map f, by rw [List.length_map]; exact t.len⟩

/-- Every element changed by `f`, which also sees the element's number. -/
def Table.mapIdx {α β : Type} {n : Nat} (f : Fin n → α → β) (t : Table α n) : Table β n :=
  Table.ofFn fun i => f i (t.get i)

/-- The numbers 0..n-1 in ascending order. -/
def ids (n : Nat) : List (Fin n) := List.finRange n

/-- The object with number `k`, if there is one: object numbers on the line are plain numbers. -/
def asId (n k : Nat) : Option (Fin n) :=
  if h : k < n then some ⟨k, h⟩ else none

/-- A value held within `lo..hi`. -/
def clampNat (lo hi v : Nat) : Nat := max lo (min hi v)

/-- An integer held within `0..hi`. -/
def clampInt (hi : Nat) (v : Int) : Nat := min hi v.toNat

end Sys2Proof
end

