-- ==== Sys2Proof/Config.lean ====
section
/-! DEFINITION. The fixed numbers of the part, and the free values: constants with no body that stand
for values the manual does not state. -/

namespace Sys2Proof.Config

/-- Seconds of a scene day (R1). -/
def daySeconds : Nat := 86400

/-- Largest keyframe count (R13). -/
def maxKeyframes : Nat := 16

/-- Largest number of points of an axis program (R160). -/
def maxProgramPoints : Nat := 8

/-- Largest number of timetable entries (R154). -/
def maxTimetable : Nat := 48

/-- Longest line, not counting its terminator (R182). -/
def maxLine : Nat := 96

/-- Largest number of reports in the queue (R188). -/
def maxReports : Nat := 32

/-- The dropped-report count stays here (R188). -/
def maxDropped : Nat := 4294967295

/-- Largest count of one overrun marker (R183). -/
def maxOverrun : Nat := 65535

/-- The real millisecond count and its differences are taken modulo this (R85, R164). -/
def msModulus : Nat := 4294967296

/-- Largest raw count of the sense converter (R76). -/
def maxRawCount : Nat := 1023

/-- mA per raw count (R76). -/
def mAPerCount : Nat := 3

/-- Samples at the asserted level that accept a STOP or RST assertion (R65, R196). -/
def acceptSamples : Nat := 3

/-- Distance in tenths of a millimetre added to each braking and departure test (R134). -/
def brakeMargin : Nat := 300

/-- Overshoot past a stop mark that counts as a miss, in tenths of a millimetre (R140). -/
def overshoot : Nat := 2000

/-- Fixed part of the look-ahead distance, in tenths of a millimetre (R153). -/
def lookahead : Nat := 5000

/-- Distance of a markless stop point from the far end, in mm (R126). -/
def stopShort : Nat := 50

/-- FREE VALUE (log 22). The measured speed, before it is held within 0..6000, at an index event in
RUNNING or STOPPING whose axis has no last index: R164 takes the stamp less a last index that does not
exist. Applied to the counter `State.freeDraws`. -/
opaque freeSpeed : Nat → Nat

/-- FREE VALUE (log 26). The levels of the straps BAUD1 and BAUD0 at a device reset that follows a `RESET`
or an RST sample: the straps are set from outside, and no command gives their levels there (R181, R192).
Applied to the counter `State.freeDraws`. -/
opaque strapLevels : Nat → Bool × Bool

/-- FREE VALUE (log 23). What `TRAIN n` writes in the INDEX field of a train with no route (R158):
a number, or `NONE`. -/
opaque indexWithoutRoute : Nat → Option Nat

/-- FREE VALUE (log 23). What `TRAIN n` writes as the head section of an UNPLACED train (R158): a
number, or `NONE`. -/
opaque headOfUnplaced : Nat → Option Nat

end Sys2Proof.Config
end

