-- ==== Sys2Proof/Syntax.lean ====
section
/-! DEFINITION. The commands of the part: one constructor of `Instr` for each row of
spec/opcode_table.json, in the table's order, with the operands the rule of the row gives it. A line
command carries the numbers of its line as they were written, in or out of range: refusing a number is
the owning block's work. An event carries the object it concerns. -/

namespace Sys2Proof

/-! Object numbers (00_scope, Identifiers). -/
abbrev Train := Fin 6
abbrev Section := Fin 20
abbrev RunId := Fin 6
abbrev TurnoutId := Fin 8
abbrev CrossingId := Fin 2
abbrev MarkId := Fin 16
abbrev Axis := Fin 4
abbrev LampId := Fin 192
abbrev GroupId := Fin 16
abbrev RouteId := Fin 12
abbrev FloodId := Fin 6
abbrev Channel := Fin 24
/-- A mark or index input: 0..15 the mark inputs, 16..19 the index inputs 0..3 (R85). -/
abbrev InputId := Fin 20

/-- The two ends of a section (R91). -/
inductive End where
  | a | b
deriving DecidableEq, Repr

/-- How a keyframe runs to the next (R13). -/
inductive Transition where
  | linear | step
deriving DecidableEq, Repr

/-- The brightness curve of a DIMMED group (R19, R21). -/
inductive Curve where
  | linear | soft | hard
deriving DecidableEq, Repr

/-- The scan mode (R34). -/
inductive ScanMode where
  | normal | allOn | allOff | walk
deriving DecidableEq, Repr

/-- A mirror setting of the matrix (R42). -/
inductive Mirror where
  | normal | reversed
deriving DecidableEq, Repr

/-- The source of a flood (R49). -/
inductive FloodSource where
  | skyRed | skyGreen | skyBlue | ambient | none
deriving DecidableEq, Repr

/-- The direction in which a bridge drives its load (R55). -/
inductive Polarity where
  | plus | minus
deriving DecidableEq, Repr

/-- The kind of a mark (R89). -/
inductive MarkKind where
  | position | stop
deriving DecidableEq, Repr

/-- A branch leg of a turnout, and the position of the points that opens it (R94, R95). -/
inductive Branch where
  | normal | reverse
deriving DecidableEq, Repr

/-- Which way a train faces, against the way it was placed (R132). -/
inductive Orientation where
  | fwd | rev
deriving DecidableEq, Repr

/-- The kind of element a fixture window reaches (R189). -/
inductive FixtureKind where
  | lamp | flood | axis
deriving DecidableEq, Repr

/-- A scene time as written on the line, hh:mm or hh:mm:ss with 0 for absent seconds; its fields may be
out of range (section 1.4). -/
structure TimeTok where
  h : Nat
  m : Nat
  s : Nat := 0
deriving DecidableEq, Repr

/-- A section end as written on the line. -/
structure EndTok where
  sec : Nat
  e : End
deriving DecidableEq, Repr

/-- The levels a device reset reads at the STOP input and at the straps (R65, R181). -/
structure ResetPins where
  stop : Bool
  baud1 : Bool
  baud0 : Bool
deriving DecidableEq, Repr

/-- The commands of the part, one for each row of the opcode table. -/
inductive Instr where
  | clockStep
  | dwellEnd (n : Train)
  | clockQuery
  | clockStartQuery
  | clockRun
  | clockHold
  | clockRate (n : Nat)
  | clockStart (t : TimeTok)
  | clockSet (t : TimeTok)
  | key (t : TimeTok) (tr : Transition) (r g b a : Nat) (pairs : List (Nat × Nat))
  | keyG (t : TimeTok) (g v : Nat)
  | keyGNone (t : TimeTok) (g : Nat)
  | keyDrop (t : TimeTok)
  | keyList
  | keyQuery (t : TimeTok)
  | groupDimmed (g : Nat) (c : Curve)
  | groupSwitched (g th hy on wu : Nat)
  | groupQuery (g : Nat)
  | lampGroup (n : Nat) (g : Option Nat)
  | lampStagger (n st : Nat)
  | lampGroupStagger (n : Nat) (g : Option Nat) (st : Nat)
  | lampRange (n m : Nat) (g : Option Nat) (st k : Nat)
  | lampLevel (n v : Nat) (u : Option TimeTok)
  | lampFree (n : Nat)
  | lampQuery (n : Nat)
  | bright (n : Nat)
  | brightQuery
  | scan (m : ScanMode)
  | scanQuery
  | walkTimer
  | composeComplete
  | matrixDivider (d : Nat)
  | matrixRows (m : Mirror)
  | matrixCols (m : Mirror)
  | matrixQuery
  | frameEnd
  | floodPeriodEnd (n : FloodId)
  | floodSource (n : Nat) (src : FloodSource)
  | floodQuery (n : Nat)
  | periodEnd (ch : Channel)
  | senseTimer (ch : Channel)
  | conversionRequest (ch : Channel) (mA : Nat)
  | restore (n : Nat)
  | bridgePwm (n res p : Nat)
  | bridgeSense (n : Nat) (on : Bool)
  | bridgeTrip (n mA : Nat)
  | bridgeQuery (n : Nat)
  | stopLineAssert
  | stopLineRelease
  | stop
  | resume
  | conversionComplete
  | senseThreshold (n mA : Nat)
  | senseSectionQuery (n : Nat)
  | senseQuery
  | acceptedEdgeActive (i : InputId)
  | acceptedEdgeInactive (i : InputId)
  | stuckTimer (i : InputId)
  | inputMarkFilter (m f : Nat)
  | inputIndexFilter (n f : Nat)
  | inputMarkQuery (m : Nat)
  | inputIndexQuery (n : Nat)
  | sectionLength (n mm : Nat)
  | sectionDrop (n : Nat)
  | sectionJoin (n : Nat) (e : End) (u : EndTok)
  | sectionBuffer (n : Nat) (e : End)
  | sectionQuery (n : Nat)
  | turnoutLegs (t : Nat) (trunk normal reverse : EndTok)
  | turnoutDrop (t : Nat)
  | runDefine (r : Nat) (secs : List Nat)
  | runDrop (r : Nat)
  | runQuery (r : Nat)
  | markDefine (m sec mm : Nat) (kind : MarkKind)
  | markDrop (m : Nat)
  | markQuery (m : Nat)
  | pulseComplete
  | recoveryEnd
  | turnoutThrow (t : Nat) (pos : Branch)
  | turnoutPulse (t ms : Nat)
  | turnoutQuery (t : Nat)
  | crossingDefine (c sec a b v lead : Nat) (bell : Bool)
  | crossingDrop (c : Nat)
  | crossingQuery (c : Nat)
  | leadTimer (c : CrossingId)
  | flashTimer (c : CrossingId)
  | bellHalfPeriod
  | bellTone (hz : Nat)
  | bellQuiet (f t : TimeTok)
  | bellQuietNone
  | bellQuery
  | unitQuery (sec : Nat)
  | unitList
  | rampTick (n : Train)
  | trainResume (n : Nat)
  | trainPlace (n sec : Nat) (e : End)
  | trainLift (n : Nat)
  | trainFind (n sec : Nat) (e : End)
  | routeDefine (r : Nat) (secs : List Nat)
  | routeAdd (r : Nat) (secs : List Nat)
  | routeStop (r i dwell : Nat) (mark : Option Nat)
  | routeStopNone (r i : Nat)
  | routeLoop (r : Nat) (on : Bool)
  | routeDrop (r : Nat)
  | routeQuery (r : Nat)
  | trainGo (n r : Nat)
  | trainPark (n : Nat)
  | timetableAdd (t : TimeTok) (n r : Nat)
  | timetableDrop (t : TimeTok) (n : Nat)
  | timetableAutorun (on : Bool)
  | timetableQuery
  | timetableList (i : Nat)
  | trainCab (n step : Nat) (o : Option Orientation)
  | cabSupervisionTimer (n : Train)
  | trainName (n : Nat) (name : List Char)
  | trainLength (n mm : Nat)
  | trainTable (n st : Nat) (pairs : List (Nat × Nat))
  | trainTableQuery (n st : Nat)
  | trainRamp (n accel decel : Nat)
  | trainCreep (n c : Nat)
  | trainHome (n sec : Nat) (e : End)
  | trainHomeNone (n : Nat)
  | trainCabtime (n secs : Nat)
  | trainService (n st : Nat)
  | trainQuery (n : Nat)
  | axisProgram (n : Nat) (t : TimeTok) (v : Nat)
  | axisProgramDrop (n : Nat) (t : TimeTok)
  | axisProgramNone (n : Nat)
  | axisProgramQuery (n : Nat)
  | axisSpeed (n v : Nat)
  | axisFree (n : Nat)
  | updateTick (n : Axis)
  | stallTimer (n : Axis)
  | stopTimer (n : Axis)
  | axisClear (n : Nat)
  | axisDirection (n : Nat) (p : Polarity)
  | axisGain (n g : Nat)
  | axisKick (n d : Nat)
  | axisMaxduty (n d : Nat)
  | axisStall (n ms : Nat)
  | axisSlew (n w : Nat)
  | axisQuery (n : Nat)
  | budgetEvaluation
  | budgetCeiling (n : Nat)
  | budgetLamp (mA : Nat)
  | budgetFlood (mA : Nat)
  | budgetQuery
  | receiveCharacter (c : BitVec 8) (framingError : Bool)
  | lineWritten
  | mapDefine (w base count : Nat) (kind : FixtureKind) (first : Nat)
  | mapNone (w : Nat)
  | mapQuery (w : Nat)
  | mapList
  | set (f v : Nat) (u : Option TimeTok)
  | free (f : Nat)
  | get (f : Nat)
  | status
  | save
  | saveComplete
  | erase
  | eraseComplete
  | reset
  | powerOn (pins : ResetPins)
  | rstAssert
  | rstRelease (pins : ResetPins)
  | settlingTimer
  | inputSample (levels : BitVec 20)
  | stopLineSample (asserted : Bool)
  | rstSample (asserted : Bool)
  | realMillisecondCount
deriving DecidableEq, Repr

end Sys2Proof
end

