-- ==== Sys2Proof/WellFormed.lean ====
section
/-! DEFINITION. Which commands a line can spell at all (R182, R184): the form of the tokens, not the
ranges of the numbers, which the owning blocks refuse with NO RANGE. Events carry typed operands, so
every event is well formed but a conversion request whose current no sense input can carry. -/

namespace Sys2Proof

/-- A number token has 1 to 9 decimal digits (R184). -/
def numOk (n : Nat) : Bool := n ≤ 999999999

/-- The hours field has one or two digits, minutes and seconds two each (section 1.4). -/
def TimeTok.wf (t : TimeTok) : Bool := t.h ≤ 99 && t.m ≤ 99 && t.s ≤ 99

/-- A token of a name: letters and digits only, the letters read as capitals (R131, R184; log 16). A line
has at most 96 characters (R182). -/
def nameOk (name : List Char) : Bool :=
  !name.isEmpty && name.length ≤ Config.maxLine && name.all fun c => c.isUpper || c.isDigit

def pairsOk (ps : List (Nat × Nat)) : Bool := ps.all fun p => numOk p.1 && numOk p.2

def optNumOk : Option Nat → Bool
  | none => true
  | some n => numOk n

def optTimeOk : Option TimeTok → Bool
  | none => true
  | some t => t.wf

def EndTok.wf (e : EndTok) : Bool := numOk e.sec

/-- The check, constructor by constructor. -/
def Instr.wf : Instr → Bool
  | .clockStep => true
  | .dwellEnd _ => true
  | .clockQuery => true
  | .clockStartQuery => true
  | .clockRun => true
  | .clockHold => true
  | .clockRate n => numOk n
  | .clockStart t => t.wf
  | .clockSet t => t.wf
  | .key t _ r g b a pairs => t.wf && numOk r && numOk g && numOk b && numOk a && pairsOk pairs
  | .keyG t g v => t.wf && numOk g && numOk v
  | .keyGNone t g => t.wf && numOk g
  | .keyDrop t => t.wf
  | .keyList => true
  | .keyQuery t => t.wf
  | .groupDimmed g _ => numOk g
  | .groupSwitched g th hy on wu => numOk g && numOk th && numOk hy && numOk on && numOk wu
  | .groupQuery g => numOk g
  | .lampGroup n g => numOk n && optNumOk g
  | .lampStagger n st => numOk n && numOk st
  | .lampGroupStagger n g st => numOk n && optNumOk g && numOk st
  | .lampRange n m g st k => numOk n && numOk m && optNumOk g && numOk st && numOk k
  | .lampLevel n v u => numOk n && numOk v && optTimeOk u
  | .lampFree n => numOk n
  | .lampQuery n => numOk n
  | .bright n => numOk n
  | .brightQuery => true
  | .scan _ => true
  | .scanQuery => true
  | .walkTimer => true
  | .composeComplete => true
  | .matrixDivider d => numOk d
  | .matrixRows _ => true
  | .matrixCols _ => true
  | .matrixQuery => true
  | .frameEnd => true
  | .floodPeriodEnd _ => true
  | .floodSource n _ => numOk n
  | .floodQuery n => numOk n
  | .periodEnd _ => true
  | .senseTimer _ => true
  | .conversionRequest _ mA => mA ≤ 99999
  | .restore n => numOk n
  | .bridgePwm n res p => numOk n && numOk res && numOk p
  | .bridgeSense n _ => numOk n
  | .bridgeTrip n mA => numOk n && numOk mA
  | .bridgeQuery n => numOk n
  | .stopLineAssert => true
  | .stopLineRelease => true
  | .stop => true
  | .resume => true
  | .conversionComplete => true
  | .senseThreshold n mA => numOk n && numOk mA
  | .senseSectionQuery n => numOk n
  | .senseQuery => true
  | .acceptedEdgeActive _ => true
  | .acceptedEdgeInactive _ => true
  | .stuckTimer _ => true
  | .inputMarkFilter m f => numOk m && numOk f
  | .inputIndexFilter n f => numOk n && numOk f
  | .inputMarkQuery m => numOk m
  | .inputIndexQuery n => numOk n
  | .sectionLength n mm => numOk n && numOk mm
  | .sectionDrop n => numOk n
  | .sectionJoin n _ u => numOk n && u.wf
  | .sectionBuffer n _ => numOk n
  | .sectionQuery n => numOk n
  | .turnoutLegs t trunk normal reverse => numOk t && trunk.wf && normal.wf && reverse.wf
  | .turnoutDrop t => numOk t
  | .runDefine r secs => numOk r && !secs.isEmpty && secs.all numOk
  | .runDrop r => numOk r
  | .runQuery r => numOk r
  | .markDefine m sec mm _ => numOk m && numOk sec && numOk mm
  | .markDrop m => numOk m
  | .markQuery m => numOk m
  | .pulseComplete => true
  | .recoveryEnd => true
  | .turnoutThrow t _ => numOk t
  | .turnoutPulse t ms => numOk t && numOk ms
  | .turnoutQuery t => numOk t
  | .crossingDefine c sec a b v lead _ =>
      numOk c && numOk sec && numOk a && numOk b && numOk v && numOk lead
  | .crossingDrop c => numOk c
  | .crossingQuery c => numOk c
  | .leadTimer _ => true
  | .flashTimer _ => true
  | .bellHalfPeriod => true
  | .bellTone hz => numOk hz
  | .bellQuiet f t => f.wf && t.wf
  | .bellQuietNone => true
  | .bellQuery => true
  | .unitQuery sec => numOk sec
  | .unitList => true
  | .rampTick _ => true
  | .trainResume n => numOk n
  | .trainPlace n sec _ => numOk n && numOk sec
  | .trainLift n => numOk n
  | .trainFind n sec _ => numOk n && numOk sec
  | .routeDefine r secs => numOk r && !secs.isEmpty && secs.all numOk
  | .routeAdd r secs => numOk r && !secs.isEmpty && secs.all numOk
  | .routeStop r i dwell mark => numOk r && numOk i && numOk dwell && optNumOk mark
  | .routeStopNone r i => numOk r && numOk i
  | .routeLoop r _ => numOk r
  | .routeDrop r => numOk r
  | .routeQuery r => numOk r
  | .trainGo n r => numOk n && numOk r
  | .trainPark n => numOk n
  | .timetableAdd t n r => t.wf && numOk n && numOk r
  | .timetableDrop t n => t.wf && numOk n
  | .timetableAutorun _ => true
  | .timetableQuery => true
  | .timetableList i => numOk i
  | .trainCab n step _ => numOk n && numOk step
  | .cabSupervisionTimer _ => true
  | .trainName n name => numOk n && nameOk name
  | .trainLength n mm => numOk n && numOk mm
  | .trainTable n st pairs => numOk n && numOk st && !pairs.isEmpty && pairsOk pairs
  | .trainTableQuery n st => numOk n && numOk st
  | .trainRamp n accel decel => numOk n && numOk accel && numOk decel
  | .trainCreep n c => numOk n && numOk c
  | .trainHome n sec _ => numOk n && numOk sec
  | .trainHomeNone n => numOk n
  | .trainCabtime n secs => numOk n && numOk secs
  | .trainService n st => numOk n && numOk st
  | .trainQuery n => numOk n
  | .axisProgram n t v => numOk n && t.wf && numOk v
  | .axisProgramDrop n t => numOk n && t.wf
  | .axisProgramNone n => numOk n
  | .axisProgramQuery n => numOk n
  | .axisSpeed n v => numOk n && numOk v
  | .axisFree n => numOk n
  | .updateTick _ => true
  | .stallTimer _ => true
  | .stopTimer _ => true
  | .axisClear n => numOk n
  | .axisDirection n _ => numOk n
  | .axisGain n g => numOk n && numOk g
  | .axisKick n d => numOk n && numOk d
  | .axisMaxduty n d => numOk n && numOk d
  | .axisStall n ms => numOk n && numOk ms
  | .axisSlew n w => numOk n && numOk w
  | .axisQuery n => numOk n
  | .budgetEvaluation => true
  | .budgetCeiling n => numOk n
  | .budgetLamp mA => numOk mA
  | .budgetFlood mA => numOk mA
  | .budgetQuery => true
  | .receiveCharacter _ _ => true
  | .lineWritten => true
  | .mapDefine w base count _ first => numOk w && numOk base && numOk count && numOk first
  | .mapNone w => numOk w
  | .mapQuery w => numOk w
  | .mapList => true
  | .set f v u => numOk f && numOk v && optTimeOk u
  | .free f => numOk f
  | .get f => numOk f
  | .status => true
  | .save => true
  | .saveComplete => true
  | .erase => true
  | .eraseComplete => true
  | .reset => true
  | .powerOn _ => true
  | .rstAssert => true
  | .rstRelease _ => true
  | .settlingTimer => true
  | .inputSample _ => true
  | .stopLineSample _ => true
  | .rstSample _ => true
  | .realMillisecondCount => true

end Sys2Proof
end

