-- ==== Sys2Proof/Decode.lean ====
section
/-! DEFINITION. The command a table word spells. No row of spec/opcode_table.json gives bits ("fields"
is empty and there is no "fixed" in every row), so no word spells a command (log 4). Lines of text are
read by Machine/Parse.lean. -/

namespace Sys2Proof

/-- The command that the `nbits` bits of `w` spell: none, for every row of the table. -/
def decodeTableWord (_nbits _w : Nat) : Option Instr := none

end Sys2Proof
end

