-- ==== Sys2Proof/Machine/Text.lean ====
section
/-! DEFINITION. The words, tokens, replies and reports of the serial line (chapter 11), and the text
each is written as. The text is written only at the pin (Machine/Outputs.lean); the blocks form
replies and reports as data. -/

namespace Sys2Proof.Machine

/-- The literal words of command lines and replies. -/
inductive Kw where
  | clock | run | hold | set | rate | start | key | linear | step | g | none | drop | list
  | group | dimmed | soft | hard | switched | lamp | stagger | to | level | until | free
  | bright | scan | normal | allOn | allOff | walk | matrix | divider | rows | cols | reversed
  | flood | source | skyRed | skyGreen | skyBlue | ambient | bridge | pwm | sense | on | off
  | trip | restore | stop | resume | threshold | input | mark | index | filter | sectionW
  | length | a | b | buffer | turnout | legs | throw | reverse | pulse | position | crossing
  | lamps | flash | lead | bell | tone | quiet | unit | train | place | lift | find | go | park
  | cab | fwd | rev | name | table | ramp | creep | home | cabtime | service | route | add
  | loop | timetable | autorun | axis | program | speed | clear | direction | gain | kick
  | maxduty | stall | slew | plus | minus | budget | ceiling | map | get | status | save
  | erase | reset | running | held | light | dark | settled | unsettled | override | claim
  | duty | staged | driving | dead | cut | ma | occupied | active | inactive | stuck | last
  | defW | join | leg | trunk | unknown | moving | queued | idle | phase | warning | protectedW
  | sounding | silent | holder | wait | openW | blocked | reason | head | target | auth
  | unplaced | parked | waiting | stopping | dwelling | halted | lost | faulted | authority
  | deadlock | stopped | starting | stalled | cause | cmd | meas | dir | max | scale | motion
  | fixed | demand | total | over | under | dimming | axesLimited | departuresHeld | sw2460
  | ready | time | halt | store | line | latch | valid | invalid | saving | erasing | trains
deriving DecidableEq, Repr

/-- How a word is spelt. -/
def Kw.text : Kw → List Char
  | .clock => "CLOCK".toList
  | .run => "RUN".toList
  | .hold => "HOLD".toList
  | .set => "SET".toList
  | .rate => "RATE".toList
  | .start => "START".toList
  | .key => "KEY".toList
  | .linear => "LINEAR".toList
  | .step => "STEP".toList
  | .g => "G".toList
  | .none => "NONE".toList
  | .drop => "DROP".toList
  | .list => "LIST".toList
  | .group => "GROUP".toList
  | .dimmed => "DIMMED".toList
  | .soft => "SOFT".toList
  | .hard => "HARD".toList
  | .switched => "SWITCHED".toList
  | .lamp => "LAMP".toList
  | .stagger => "STAGGER".toList
  | .to => "TO".toList
  | .level => "LEVEL".toList
  | .until => "UNTIL".toList
  | .free => "FREE".toList
  | .bright => "BRIGHT".toList
  | .scan => "SCAN".toList
  | .normal => "NORMAL".toList
  | .allOn => "ALL_ON".toList
  | .allOff => "ALL_OFF".toList
  | .walk => "WALK".toList
  | .matrix => "MATRIX".toList
  | .divider => "DIVIDER".toList
  | .rows => "ROWS".toList
  | .cols => "COLS".toList
  | .reversed => "REVERSED".toList
  | .flood => "FLOOD".toList
  | .source => "SOURCE".toList
  | .skyRed => "SKY_RED".toList
  | .skyGreen => "SKY_GREEN".toList
  | .skyBlue => "SKY_BLUE".toList
  | .ambient => "AMBIENT".toList
  | .bridge => "BRIDGE".toList
  | .pwm => "PWM".toList
  | .sense => "SENSE".toList
  | .on => "ON".toList
  | .off => "OFF".toList
  | .trip => "TRIP".toList
  | .restore => "RESTORE".toList
  | .stop => "STOP".toList
  | .resume => "RESUME".toList
  | .threshold => "THRESHOLD".toList
  | .input => "INPUT".toList
  | .mark => "MARK".toList
  | .index => "INDEX".toList
  | .filter => "FILTER".toList
  | .sectionW => "SECTION".toList
  | .length => "LENGTH".toList
  | .a => "A".toList
  | .b => "B".toList
  | .buffer => "BUFFER".toList
  | .turnout => "TURNOUT".toList
  | .legs => "LEGS".toList
  | .throw => "THROW".toList
  | .reverse => "REVERSE".toList
  | .pulse => "PULSE".toList
  | .position => "POSITION".toList
  | .crossing => "CROSSING".toList
  | .lamps => "LAMPS".toList
  | .flash => "FLASH".toList
  | .lead => "LEAD".toList
  | .bell => "BELL".toList
  | .tone => "TONE".toList
  | .quiet => "QUIET".toList
  | .unit => "UNIT".toList
  | .train => "TRAIN".toList
  | .place => "PLACE".toList
  | .lift => "LIFT".toList
  | .find => "FIND".toList
  | .go => "GO".toList
  | .park => "PARK".toList
  | .cab => "CAB".toList
  | .fwd => "FWD".toList
  | .rev => "REV".toList
  | .name => "NAME".toList
  | .table => "TABLE".toList
  | .ramp => "RAMP".toList
  | .creep => "CREEP".toList
  | .home => "HOME".toList
  | .cabtime => "CABTIME".toList
  | .service => "SERVICE".toList
  | .route => "ROUTE".toList
  | .add => "ADD".toList
  | .loop => "LOOP".toList
  | .timetable => "TIMETABLE".toList
  | .autorun => "AUTORUN".toList
  | .axis => "AXIS".toList
  | .program => "PROGRAM".toList
  | .speed => "SPEED".toList
  | .clear => "CLEAR".toList
  | .direction => "DIRECTION".toList
  | .gain => "GAIN".toList
  | .kick => "KICK".toList
  | .maxduty => "MAXDUTY".toList
  | .stall => "STALL".toList
  | .slew => "SLEW".toList
  | .plus => "+".toList
  | .minus => "-".toList
  | .budget => "BUDGET".toList
  | .ceiling => "CEILING".toList
  | .map => "MAP".toList
  | .get => "GET".toList
  | .status => "STATUS".toList
  | .save => "SAVE".toList
  | .erase => "ERASE".toList
  | .reset => "RESET".toList
  | .running => "RUNNING".toList
  | .held => "HELD".toList
  | .light => "LIGHT".toList
  | .dark => "DARK".toList
  | .settled => "SETTLED".toList
  | .unsettled => "UNSETTLED".toList
  | .override => "OVERRIDE".toList
  | .claim => "CLAIM".toList
  | .duty => "DUTY".toList
  | .staged => "STAGED".toList
  | .driving => "DRIVING".toList
  | .dead => "DEAD".toList
  | .cut => "CUT".toList
  | .ma => "MA".toList
  | .occupied => "OCCUPIED".toList
  | .active => "ACTIVE".toList
  | .inactive => "INACTIVE".toList
  | .stuck => "STUCK".toList
  | .last => "LAST".toList
  | .defW => "DEF".toList
  | .join => "JOIN".toList
  | .leg => "LEG".toList
  | .trunk => "TRUNK".toList
  | .unknown => "UNKNOWN".toList
  | .moving => "MOVING".toList
  | .queued => "QUEUED".toList
  | .idle => "IDLE".toList
  | .phase => "PHASE".toList
  | .warning => "WARNING".toList
  | .protectedW => "PROTECTED".toList
  | .sounding => "SOUNDING".toList
  | .silent => "SILENT".toList
  | .holder => "HOLDER".toList
  | .wait => "WAIT".toList
  | .openW => "OPEN".toList
  | .blocked => "BLOCKED".toList
  | .reason => "REASON".toList
  | .head => "HEAD".toList
  | .target => "TARGET".toList
  | .auth => "AUTH".toList
  | .unplaced => "UNPLACED".toList
  | .parked => "PARKED".toList
  | .waiting => "WAITING".toList
  | .stopping => "STOPPING".toList
  | .dwelling => "DWELLING".toList
  | .halted => "HALTED".toList
  | .lost => "LOST".toList
  | .faulted => "FAULTED".toList
  | .authority => "AUTHORITY".toList
  | .deadlock => "DEADLOCK".toList
  | .stopped => "STOPPED".toList
  | .starting => "STARTING".toList
  | .stalled => "STALLED".toList
  | .cause => "CAUSE".toList
  | .cmd => "CMD".toList
  | .meas => "MEAS".toList
  | .dir => "DIR".toList
  | .max => "MAX".toList
  | .scale => "SCALE".toList
  | .motion => "MOTION".toList
  | .fixed => "FIXED".toList
  | .demand => "DEMAND".toList
  | .total => "TOTAL".toList
  | .over => "OVER".toList
  | .under => "UNDER".toList
  | .dimming => "DIMMING".toList
  | .axesLimited => "AXES_LIMITED".toList
  | .departuresHeld => "DEPARTURES_HELD".toList
  | .sw2460 => "SW2460".toList
  | .ready => "READY".toList
  | .time => "TIME".toList
  | .halt => "HALT".toList
  | .store => "STORE".toList
  | .line => "LINE".toList
  | .latch => "LATCH".toList
  | .valid => "VALID".toList
  | .invalid => "INVALID".toList
  | .saving => "SAVING".toList
  | .erasing => "ERASING".toList
  | .trains => "TRAINS".toList

/-- Every word that a command line may hold. -/
def Kw.all : List Kw :=
  [.clock, .run, .hold, .set, .rate, .start, .key, .linear, .step, .g, .none, .drop, .list,
   .group, .dimmed, .soft, .hard, .switched, .lamp, .stagger, .to, .level, .until, .free,
   .bright, .scan, .normal, .allOn, .allOff, .walk, .matrix, .divider, .rows, .cols, .reversed,
   .flood, .source, .skyRed, .skyGreen, .skyBlue, .ambient, .bridge, .pwm, .sense, .on, .off,
   .trip, .restore, .stop, .resume, .threshold, .input, .mark, .index, .filter, .sectionW,
   .length, .a, .b, .buffer, .turnout, .legs, .throw, .reverse, .pulse, .position, .crossing,
   .lamps, .flash, .lead, .bell, .tone, .quiet, .unit, .train, .place, .lift, .find, .go,
   .park, .cab, .fwd, .rev, .name, .table, .ramp, .creep, .home, .cabtime, .service, .route,
   .add, .loop, .timetable, .autorun, .axis, .program, .speed, .clear, .direction, .gain,
   .kick, .maxduty, .stall, .slew, .plus, .minus, .budget, .ceiling, .map, .get, .status,
   .save, .erase, .reset]

/-- The word a run of capitals spells. -/
def Kw.ofChars (cs : List Char) : Option Kw :=
  Kw.all.find? fun k => k.text == cs

/-- The reasons of a refusal (R185). -/
inductive Reason where
  | syntaxErr | range | unknown | full | conflict | path | layout | state | busy | motion
  | stopped | cut | long | overrun | start
deriving DecidableEq, Repr

def Reason.text : Reason → List Char
  | .syntaxErr => "SYNTAX".toList
  | .range => "RANGE".toList
  | .unknown => "UNKNOWN".toList
  | .full => "FULL".toList
  | .conflict => "CONFLICT".toList
  | .path => "PATH".toList
  | .layout => "LAYOUT".toList
  | .state => "STATE".toList
  | .busy => "BUSY".toList
  | .motion => "MOTION".toList
  | .stopped => "STOPPED".toList
  | .cut => "CUT".toList
  | .long => "LONG".toList
  | .overrun => "OVERRUN".toList
  | .start => "START".toList

/-- One token of a reply's data. -/
inductive Tok where
  | word (k : Kw)
  | num (n : Nat)
  | int (i : Int)
  | time (t : Nat)
  | name (cs : List Char)
deriving DecidableEq, Repr

/-- The answer to a line (R185). `resetOk` is the `OK` of a taken `RESET`: it is written as `OK`, and
the device reset follows its LF (R196). -/
inductive Reply where
  | ok
  | clamped
  | nomap
  | data (ts : List Tok)
  | no (r : Reason)
  | resetOk
deriving DecidableEq, Repr

/-- The pressure levels of the load account (R171). -/
inductive Pressure where
  | normal | dimming | axesLimited | departuresHeld
deriving DecidableEq, Repr

/-- The reports the blocks raise. -/
inductive Report where
  /-- `#READY` (R197) -/
  | ready
  /-- `#HALT LINE` (R65) -/
  | haltLine
  /-- `#HALT COMMAND` (R68) -/
  | haltCommand
  /-- `#STOP RELEASED` (R65) -/
  | stopReleased
  /-- `#TRIP channel mA` (R80) -/
  | trip (ch : Channel) (mA : Nat)
  /-- `#MARK m STUCK` or `#INDEX n STUCK` (R88) -/
  | stuck (i : InputId)
  /-- `#MARK m RELEASED` or `#INDEX n RELEASED` (R88) -/
  | released (i : InputId)
  /-- `#TURNOUT t position` (R102, R104) -/
  | turnout (t : TurnoutId) (p : Branch)
  /-- `#STRAY s` (R114) -/
  | stray (s : Section)
  /-- `#STRAY MARK m` (R143) -/
  | strayMark (m : MarkId)
  /-- `#DEADLOCK train unit holder` (R116) -/
  | deadlock (n : Train) (u : Section) (h : Train)
  /-- `#MARKMISS train` (R140) -/
  | markMiss (n : Train)
  /-- `#LOST train` (R144) -/
  | lost (n : Train)
  /-- `#MISSED train route` (R155) -/
  | missed (n : Train) (r : RouteId)
  /-- `#SKIPPED k` (R155) -/
  | skipped (k : Nat)
  /-- `#CAB train` (R156) -/
  | cab (n : Train)
  /-- `#STALL n` (R165) -/
  | stall (n : Axis)
  /-- `#BUDGET level` (R175) -/
  | budget (p : Pressure)
  /-- `#DROPPED n` (R188) -/
  | dropped (n : Nat)
  /-- `#SAVED` (R194) -/
  | saved
  /-- `#ERASED` (R195) -/
  | erased
deriving DecidableEq, Repr

/-- Decimal digits. -/
def digits (n : Nat) : List Char := Nat.toDigits 10 n

/-- Two digits. -/
def twoDigits (n : Nat) : List Char := if n < 10 then '0' :: digits n else digits n

/-- A scene time as replies write it, hh:mm:ss (section 1.4). -/
def timeText (t : Nat) : List Char :=
  twoDigits (t / 3600) ++ [':'] ++ twoDigits (t / 60 % 60) ++ [':'] ++ twoDigits (t % 60)

def Tok.text : Tok → List Char
  | .word k => k.text
  | .num n => digits n
  | .int (.ofNat n) => digits n
  | .int (.negSucc n) => '-' :: digits (n + 1)
  | .time t => timeText t
  | .name cs => cs

/-- Tokens separated by single spaces. -/
def joinToks : List (List Char) → List Char
  | [] => []
  | [t] => t
  | t :: ts => t ++ [' '] ++ joinToks ts

/-- The reply line without its CR LF (R185). -/
def Reply.text : Reply → List Char
  | .ok => "OK".toList
  | .clamped => "OK CLAMPED".toList
  | .nomap => "OK NOMAP".toList
  | .data ts => joinToks ("OK".toList :: ts.map Tok.text)
  | .no r => joinToks ["NO".toList, r.text]
  | .resetOk => "OK".toList

def Pressure.kw : Pressure → Kw
  | .normal => .normal
  | .dimming => .dimming
  | .axesLimited => .axesLimited
  | .departuresHeld => .departuresHeld

def branchKw : Branch → Kw
  | .normal => .normal
  | .reverse => .reverse

/-- `MARK m` or `INDEX n` of an input. -/
def inputText (i : InputId) : List (List Char) :=
  if i.val < 16 then ["#MARK".toList, digits i.val] else ["#INDEX".toList, digits (i.val - 16)]

/-- The report line without its CR LF. -/
def Report.text : Report → List Char
  | .ready => "#READY".toList
  | .haltLine => "#HALT LINE".toList
  | .haltCommand => "#HALT COMMAND".toList
  | .stopReleased => "#STOP RELEASED".toList
  | .trip ch mA => joinToks ["#TRIP".toList, digits ch.val, digits mA]
  | .stuck i => joinToks (inputText i ++ ["STUCK".toList])
  | .released i => joinToks (inputText i ++ ["RELEASED".toList])
  | .turnout t p => joinToks ["#TURNOUT".toList, digits t.val, (branchKw p).text]
  | .stray s => joinToks ["#STRAY".toList, digits s.val]
  | .strayMark m => joinToks ["#STRAY".toList, "MARK".toList, digits m.val]
  | .deadlock n u h => joinToks ["#DEADLOCK".toList, digits n.val, digits u.val, digits h.val]
  | .markMiss n => joinToks ["#MARKMISS".toList, digits n.val]
  | .lost n => joinToks ["#LOST".toList, digits n.val]
  | .missed n r => joinToks ["#MISSED".toList, digits n.val, digits r.val]
  | .skipped k => joinToks ["#SKIPPED".toList, digits k]
  | .cab n => joinToks ["#CAB".toList, digits n.val]
  | .stall n => joinToks ["#STALL".toList, digits n.val]
  | .budget p => joinToks ["#BUDGET".toList, p.kw.text]
  | .dropped n => joinToks ["#DROPPED".toList, digits n]
  | .saved => "#SAVED".toList
  | .erased => "#ERASED".toList

end Sys2Proof.Machine
end

