-- ==== Sys2Proof/Machine/State.lean ====
section
/-! DEFINITION. The state of the part: the stored configuration (`Scene`), the run-time state of each
block, the command line, and the queue of waiting commands. Plain data throughout. Every field names
the rule that gives it. `State.reset` is the part right after a device reset with the empty
configuration. -/

namespace Sys2Proof.Machine

/-! ## The stored configuration (R193) -/

/-- A keyframe (R13). -/
structure Keyframe where
  time : Nat
  tr : Transition
  red : Nat
  green : Nat
  blue : Nat
  ambient : Nat
  /-- pairs of group and level, in ascending group order -/
  pairs : List (GroupId × Nat)
deriving DecidableEq, Repr

/-- The kind of a group (R19). -/
inductive GroupKind where
  | dimmed | switched
deriving DecidableEq, Repr

/-- The stored fields of a group record (R19). -/
structure GroupDef where
  kind : GroupKind
  curve : Curve
  threshold : Nat
  hysteresis : Nat
  onLevel : Nat
  warmUp : Nat
deriving DecidableEq, Repr

/-- The stored fields of a lamp record (R26). -/
structure LampDef where
  group : Option GroupId
  stagger : Nat
deriving DecidableEq, Repr

/-- The stored fields of a bridge channel (R55). -/
structure ChannelDef where
  res : Nat
  prescale : Nat
  sense : Bool
  trip : Nat
deriving DecidableEq, Repr

/-- The leg of a turnout a section end is attached to (R91, R95). -/
inductive Leg where
  | trunk
  | branch (b : Branch)
deriving DecidableEq, Repr

/-- What a section end meets (R91). -/
inductive EndLink where
  | buffer
  | join (s : Section) (e : End)
  | leg (t : TurnoutId) (l : Leg)
deriving DecidableEq, Repr

/-- A defined section (R91). -/
structure SectionDef where
  length : Nat
  endA : EndLink
  endB : EndLink
deriving DecidableEq, Repr

/-- One end of one section. -/
structure SecEnd where
  sec : Section
  e : End
deriving DecidableEq, Repr

/-- A defined turnout (R95). -/
structure TurnoutDef where
  trunk : SecEnd
  normal : SecEnd
  reverse : SecEnd
deriving DecidableEq, Repr

/-- A mark definition (R89): the offset is in mm from end A. -/
structure MarkDef where
  sec : Section
  offset : Nat
  kind : MarkKind
deriving DecidableEq, Repr

/-- The definition of a crossing (R105); the lead time is in real seconds. -/
structure CrossingDef where
  sec : Section
  lampA : LampId
  lampB : LampId
  flash : Nat
  lead : Nat
  bell : Bool
deriving DecidableEq, Repr

/-- The definition of a train (R131). The speed table gives a duty and a scale speed for each step. -/
structure TrainDef where
  name : List Char
  length : Nat
  table : Table (Nat × Nat) 32
  accel : Nat
  decel : Nat
  creep : Nat
  service : Nat
  home : Option SecEnd
  cabTime : Nat
deriving DecidableEq, Repr

/-- A stop of a route (R149). -/
structure Stop where
  dwell : Nat
  mark : Option MarkId
deriving DecidableEq, Repr

/-- A position of a route (R149): its section, its entry end and its stop. A route leaves each position
by the end opposite its entry end, so the entry ends name the way it uses between two positions (R94). -/
structure RoutePos where
  sec : Section
  entry : End
  stop : Option Stop
deriving DecidableEq, Repr

/-- A defined route (R149). -/
structure RouteDef where
  positions : List RoutePos
  loop : Bool
deriving DecidableEq, Repr

/-- A timetable entry (R154). -/
structure TimeEntry where
  time : Nat
  train : Train
  route : RouteId
deriving DecidableEq, Repr

/-- The definition of an axis (R159). -/
structure AxisDef where
  program : List (Nat × Nat)
  direction : Polarity
  gain : Nat
  kick : Nat
  maxDuty : Nat
  stallLimit : Nat
  slew : Nat
deriving DecidableEq, Repr

/-- A defined window of the fixture map (R189). -/
structure Window where
  base : Nat
  count : Nat
  kind : FixtureKind
  first : Nat
deriving DecidableEq, Repr

/-- The configuration: every stored field (R193). The part runs on one and its store holds another. -/
structure Scene where
  clockRate : Nat
  startTime : Nat
  keyframes : List Keyframe
  groups : Table GroupDef 16
  lamps : Table LampDef 192
  brightness : Nat
  scan : ScanMode
  divider : Nat
  rows : Mirror
  cols : Mirror
  floodSources : Table FloodSource 6
  bridge : Table ChannelDef 24
  thresholds : Table Nat 20
  filters : Table Nat 20
  sections : Table (Option SectionDef) 20
  turnouts : Table (Option TurnoutDef) 8
  pulses : Table Nat 8
  runs : Table (Option (List Section)) 6
  marks : Table (Option MarkDef) 16
  crossings : Table (Option CrossingDef) 2
  bellTone : Nat
  quietWindow : Option (Nat × Nat)
  trains : Table TrainDef 6
  routes : Table (Option RouteDef) 12
  timetable : List TimeEntry
  autorun : Bool
  axes : Table AxisDef 4
  ceiling : Nat
  lampRating : Nat
  floodRating : Nat
  /-- windows 1..7: window w is entry w - 1; window 0 is fixed -/
  windows : Table (Option Window) 7
deriving DecidableEq, Repr

/-- A group of the empty configuration (R19). -/
def GroupDef.empty : GroupDef := ⟨.dimmed, .linear, 64, 8, 255, 0⟩

/-- A bridge channel of the empty configuration (R55). -/
def ChannelDef.empty : ChannelDef := ⟨64, 4, true, 1500⟩

/-- A train of the empty configuration (R131): the name is T and the train number. -/
def TrainDef.empty (n : Train) : TrainDef where
  name := 'T' :: digits n.val
  length := 300
  table := Table.ofFn fun s => (8 * s.val, 10 * s.val)
  accel := 8
  decel := 8
  creep := 2
  service := 12
  home := none
  cabTime := 3

/-- An axis of the empty configuration (R159). -/
def AxisDef.empty : AxisDef := ⟨[], .plus, 16, 120, 200, 5000, 100⟩

/-- The empty configuration: what a device reset takes when the valid marker is clear (R196). -/
def Scene.empty : Scene where
  clockRate := 60
  startTime := 0
  keyframes := []
  groups := Table.replicate 16 GroupDef.empty
  lamps := Table.replicate 192 ⟨none, 0⟩
  brightness := 16
  scan := .normal
  divider := 1
  rows := .normal
  cols := .normal
  floodSources := Table.replicate 6 .none
  bridge := Table.replicate 24 ChannelDef.empty
  thresholds := Table.replicate 20 6
  filters := Table.replicate 20 3
  sections := Table.replicate 20 none
  turnouts := Table.replicate 8 none
  pulses := Table.replicate 8 150
  runs := Table.replicate 6 none
  marks := Table.replicate 16 none
  crossings := Table.replicate 2 none
  bellTone := 1200
  quietWindow := none
  trains := Table.ofFn TrainDef.empty
  routes := Table.replicate 12 none
  timetable := []
  autorun := false
  axes := Table.replicate 4 AxisDef.empty
  ceiling := 4000
  lampRating := 20
  floodRating := 500
  windows := Table.replicate 7 none

/-! ## Run-time state of the blocks -/

/-- The state of the configuration store (R193). The valid marker is set exactly in VALID. -/
inductive StoreState where
  | valid | invalid | saving | erasing
deriving DecidableEq, Repr

/-- The configuration store (R193). -/
structure Store where
  image : Scene
  state : StoreState
deriving DecidableEq, Repr

/-- The scene clock (R1); rate and start time are in the configuration. `noticed` is the t1 of the last
step notice, or the new time of the last jump notice, or the time the device reset set, which the
sky engine and the axis controller use as the present scene time (R36, R160). -/
structure Clock where
  time : Nat
  acc : Nat
  running : Bool
  noticed : Nat
deriving DecidableEq, Repr

/-- The direction of a SWITCHED group (R19). -/
inductive Direction where
  | light | dark
deriving DecidableEq, Repr

/-- What the engine holds of a SWITCHED group (R19). -/
structure GroupRun where
  dir : Direction
  crossTime : Nat
  settled : Bool
deriving DecidableEq, Repr

/-- A level set from the line, with an optional expiry scene time (R26, R32). -/
structure Override where
  level : Nat
  expiry : Option Nat
deriving DecidableEq, Repr

/-- The run-time fields of a lamp record (R26). -/
structure LampRun where
  override : Option Override
  claim : Option CrossingId
  frozen : Nat
deriving DecidableEq, Repr

/-- One complete set of levels (R44). -/
structure Page where
  lamps : Table Nat 192
  floods : Table Nat 6
deriving DecidableEq, Repr

/-- The three sums a compose records (R37). -/
structure Sums where
  lamp : Nat
  flood : Nat
  claimed : Nat
deriving DecidableEq, Repr

/-- A compose in flight: its inputs were fixed at its start (R36), so its page and sums are known. -/
structure Compose where
  page : Page
  sums : Sums
deriving DecidableEq, Repr

/-- The sky engine (R13 to R38). -/
structure Sky where
  groups : Table GroupRun 16
  lamps : Table LampRun 192
  floods : Table (Option Override) 6
  walkPos : LampId
  walkTimer : Bool
  compose : Option Compose
  sums : Sums
deriving DecidableEq, Repr

/-- The lamp matrix (R44, R45), with the settings of the frame in progress (R41, R42). -/
structure Matrix where
  shown : Page
  composing : Page
  ready : Bool
  pending : Bool
  frameDivider : Nat
  frameRows : Mirror
  frameCols : Mirror
deriving DecidableEq, Repr

/-- A flood output (R49); its source is in the configuration. -/
structure FloodRun where
  staged : Option Nat
  applied : Nat
deriving DecidableEq, Repr

/-- The state of a bridge channel (R57). -/
inductive ChannelState where
  | off | driving | dead | cut
deriving DecidableEq, Repr

/-- A duty and a polarity. -/
structure Drive where
  duty : Nat
  pol : Polarity
deriving DecidableEq, Repr

/-- The run-time fields of a bridge channel (R55), and the resolution, prescale and on-time of the
period in progress (R56, R57). -/
structure ChannelRun where
  state : ChannelState
  applied : Drive
  staged : Option Drive
  armed : Bool
  discard : Bool
  periodRes : Nat
  periodPrescale : Nat
  onTime : Nat
deriving DecidableEq, Repr

/-- Stop control (R65): the accepted level of the STOP line, the run of samples at the other level, and
the latch. -/
structure StopControl where
  line : Bool
  run : Nat
  latch : Bool
deriving DecidableEq, Repr

/-- A conversion request (R72). -/
structure Request where
  ch : Channel
  discard : Bool
deriving DecidableEq, Repr

/-- The conversion in flight, with the held value it took at its start (R76). -/
structure Conversion where
  req : Request
  value : Nat
deriving DecidableEq, Repr

/-- The filtered state of a section (R81); the threshold is in the configuration. -/
structure Occupancy where
  occupied : Bool
  above : Nat
  below : Nat
deriving DecidableEq, Repr

/-- The sense converter (R72). -/
structure Sense where
  queue : List Request
  inflight : Option Conversion
  held : Table (Option Nat) 24
  slots : Table (Option Nat) 24
  filters : Table Occupancy 20
deriving DecidableEq, Repr

/-- The filter of a mark or index input (R85); the filter length is in the configuration. `sampled` is
set by the first sample after a device reset, which the accepted level takes (log 24). -/
structure InputRun where
  sampled : Bool
  active : Bool
  run : Nat
  runStart : Nat
  stuck : Bool
  last : Option Nat
  stuckTimer : Bool
deriving DecidableEq, Repr

/-- Where the points of a turnout are known to lie (R100): none is UNKNOWN. -/
abbrev Points := Option Branch

/-- On whose behalf a throw was asked (R100). -/
inductive Origin where
  | line
  | train (n : Train)
deriving DecidableEq, Repr

/-- An entry of the throw queue (R100). -/
structure Throw where
  t : TurnoutId
  wanted : Branch
  origin : Origin
deriving DecidableEq, Repr

/-- A coil pulse in flight and the length it started with, in real ms (R100, R104). -/
structure Pulse where
  entry : Throw
  ms : Nat
deriving DecidableEq, Repr

/-- The turnout driver (R100). -/
structure Driver where
  points : Table Points 8
  queue : List Throw
  pulse : Option Pulse
  recovery : Bool
deriving DecidableEq, Repr

/-- The state of a crossing (R107). -/
inductive CrossingState where
  | idle | warning | protectedBy
deriving DecidableEq, Repr

/-- The run-time fields of a crossing (R105): the lead timer holds the seconds it was started at. -/
structure CrossingRun where
  state : CrossingState
  phase : Bool
  leadTimer : Option Nat
  flashTimer : Bool
deriving DecidableEq, Repr

/-- The bell (R110, R111): the half-period timer holds the µs it was last started at. -/
structure Bell where
  quiet : Bool
  sounding : Bool
  output : Bool
  halfPeriod : Option Nat
deriving DecidableEq, Repr

/-- A unit record (R112), kept at the unit's key section. -/
structure UnitRec where
  holder : Option Train
  waiting : List Train
deriving DecidableEq, Repr

/-- The state of a train (section 8.2). -/
inductive TrainState where
  | unplaced | parked | waiting | running | stopping | dwelling | halted | lost | faulted
deriving DecidableEq, Repr

/-- Who gives the wanted step of a train (R132). -/
inductive Mode where
  | route | cab
deriving DecidableEq, Repr

/-- Why a STOPPING train is stopping (R132). -/
inductive StopCause where
  | authority | stop | command
deriving DecidableEq, Repr

/-- Why a WAITING train does not move (R132). -/
inductive WaitReason where
  | authority | budget | deadlock
deriving DecidableEq, Repr

/-- A section of a span or a powered set, with the end by which the train enters it (R113). -/
structure SpanElt where
  sec : Section
  entry : End
deriving DecidableEq, Repr

/-- An authority end as last worked out (R125, R127): the distance in tenths of a millimetre, and
whether the walk stopped at the stop point of the next stop. -/
structure Authority where
  dist : Int
  atStop : Bool
deriving DecidableEq, Repr

/-- The run-time fields of a train (R113, R132), with the authority end and powered set as last worked
out (R127, R128). The span is tail first. `cabTimer` holds the seconds the supervision timer was
started at. `cabSince` is set while a CAB line has been taken since the train last entered STOPPING, which the
return of R156 asks for (log 20). -/
structure TrainRun where
  state : TrainState
  mode : Mode
  cabStep : Nat
  orientation : Orientation
  pending : Option Orientation
  headPos : Nat
  target : Nat
  speed : Nat
  duty : Nat
  cause : Option StopCause
  route : Option (RouteId × Nat)
  served : Bool
  dwell : Nat
  reason : Option WaitReason
  cabTimer : Option Nat
  cabSince : Bool
  holdings : List Section
  span : List SpanElt
  request : Option Section
  deadlock : Bool
  retry : Bool
  authority : Option Authority
  powered : List SpanElt
deriving DecidableEq, Repr

/-- The state of an axis (R159). -/
inductive AxisState where
  | stopped | starting | running | stopping | stalled | halted
deriving DecidableEq, Repr

/-- Why a STALLED axis stalled (R159). -/
inductive StallCause where
  | index | cut
deriving DecidableEq, Repr

/-- The run-time fields of an axis (R159). The stall timer holds the ms it was started at. -/
structure AxisRun where
  state : AxisState
  cause : Option StallCause
  program : Nat
  override : Option Nat
  target : Nat
  duty : Nat
  last : Option Nat
  measured : Nat
  stallTimer : Option Nat
  stopTimer : Bool
deriving DecidableEq, Repr

/-- The run-time fields of the load account (R171). -/
structure Account where
  scale : Nat
  target : Nat
  level : Pressure
  overCount : Nat
  underCount : Nat
  motion : Nat
  fixed : Nat
  demand : Nat
  total : Nat
deriving DecidableEq, Repr

/-- A line as received (R182): its first 96 characters, and the marks of a long line, a bad line and a
line of nothing but spaces and tabs. -/
structure Line where
  chars : List Char
  long : Bool
  bad : Bool
  blank : Bool
deriving DecidableEq, Repr

/-- A receive line slot (R183). A HELD slot has its answer once its line has been taken or refused. -/
inductive Slot where
  | empty
  | receiving (l : Line)
  | held (l : Line) (answer : Option Reply)
deriving DecidableEq, Repr

/-- An entry of the reply order (R183). `direct` is the model's own: the answer of a line that came as a
whole command and not as characters (log 1). -/
inductive Entry where
  | slot (second : Bool)
  | overrun (count : Nat)
  | direct (r : Reply)
deriving DecidableEq, Repr

/-- Where the characters of the line in progress go (R183). -/
inductive Receiver where
  | idle
  | slot (second : Bool)
  | overrun (blank : Bool)
deriving DecidableEq, Repr

/-- A line the transmitter is writing (R187). -/
inductive Writing where
  | reply (r : Reply)
  | report (r : Report)
deriving DecidableEq, Repr

/-- The line rates of the straps (R181). -/
inductive Baud where
  | b9600 | b38400 | b57600 | b115200
deriving DecidableEq, Repr

/-- The command line block (chapter 11). `closed` is set from the taking of `RESET` (R196);
`lastReport` says whether the last line written was a report (R187). -/
structure CommandLine where
  slotA : Slot
  slotB : Slot
  rx : Receiver
  afterCr : Bool
  order : List Entry
  reports : List Report
  dropped : Nat
  writing : Option Writing
  lastReport : Option Bool
  gap : Bool
  rate : Baud
  closed : Bool
deriving DecidableEq, Repr

/-- What concerns the part as a whole: the phase and settling timer (R196), the RST hold and the run of
RST samples (R196), the real millisecond count (R85), and the levels last given at the STOP and
strap pins, which a device reset reads (R65, R181; log 26). -/
structure System where
  ready : Bool
  settling : Bool
  rstHeld : Bool
  rstRun : Nat
  ms : Nat
  pins : ResetPins
deriving DecidableEq, Repr

/-- The state of the part. `nextStart` is a start time set by `CLOCK START` since the last device reset,
to which the next one sets scene time whether or not it has been saved (R8; log 43). `freeDraws` (the next
free value, log 22) and `pending` (the commands that wait, first in, first out) are the model's own. -/
structure State where
  cfg : Scene
  store : Store
  clock : Clock
  sky : Sky
  matrix : Matrix
  floods : Table FloodRun 6
  channels : Table ChannelRun 24
  stopc : StopControl
  sense : Sense
  inputs : Table InputRun 20
  driver : Driver
  crossings : Table CrossingRun 2
  bell : Bell
  units : Table UnitRec 20
  trains : Table TrainRun 6
  axes : Table AxisRun 4
  account : Account
  line : CommandLine
  sys : System
  nextStart : Option Nat
  freeDraws : Nat
  pending : List Instr
deriving DecidableEq, Repr

/-- Faults. The part has no condition in which it stops: a trip, a stall, a halt or a lost train is a
state of a block, and a line it cannot take is answered. No constructor, so no command faults. -/
inductive Fault where
deriving DecidableEq, Repr

/-- Refusals. -/
inductive Refusal where
  /-- Raised by an arm of `exec` whose command has no meaning yet; safe. No arm raises it now. -/
  | notModelled (mnemonic : String)
deriving DecidableEq, Repr

/-! ## The part right after a device reset -/

/-- Page with every level 0 (R44). -/
def Page.dark : Page := ⟨Table.replicate 192 0, Table.replicate 6 0⟩

def Sums.zero : Sums := ⟨0, 0, 0⟩

/-- A lamp's run-time fields after a device reset (R26). -/
def LampRun.reset : LampRun := ⟨none, none, 0⟩

/-- A bridge channel after a device reset (R55, R71). -/
def ChannelRun.reset (d : ChannelDef) : ChannelRun :=
  ⟨.off, ⟨0, .plus⟩, none, false, false, d.res, d.prescale, 0⟩

/-- The sense converter after a device reset (R72, R81). -/
def Sense.reset : Sense where
  queue := []
  inflight := none
  held := Table.replicate 24 none
  slots := Table.replicate 24 none
  filters := Table.replicate 20 ⟨false, 0, 0⟩

/-- An input filter after a device reset (R85). R85 gives as the accepted level the one that the first sample
after the reset reads; until that sample comes the model holds INACTIVE (DESIGN CHOICE, log 52). -/
def InputRun.reset : InputRun := ⟨false, false, 0, 0, false, none, false⟩

/-- The turnout driver after a device reset (R100). -/
def Driver.reset : Driver := ⟨Table.replicate 8 none, [], none, false⟩

/-- A crossing after a device reset (R105). -/
def CrossingRun.reset : CrossingRun := ⟨.idle, false, none, false⟩

/-- A unit record after a rebuild (R112). -/
def UnitRec.free : UnitRec := ⟨none, []⟩

/-- A train's run-time fields after a device reset (R113, R132). -/
def TrainRun.reset : TrainRun where
  state := .unplaced
  mode := .route
  cabStep := 0
  orientation := .fwd
  pending := none
  headPos := 0
  target := 0
  speed := 0
  duty := 0
  cause := none
  route := none
  served := false
  dwell := 0
  reason := none
  cabTimer := none
  cabSince := false
  holdings := []
  span := []
  request := none
  deadlock := false
  retry := false
  authority := none
  powered := []

/-- An axis after a device reset (R159), with its program value and whether the halt is in force. -/
def AxisRun.reset (program : Nat) (halt : Bool) : AxisRun where
  state := if halt then .halted else .stopped
  cause := none
  program := program
  override := none
  target := 0
  duty := 0
  last := none
  measured := 0
  stallTimer := none
  stopTimer := false

/-- The load account after a device reset (R171, R180). -/
def Account.reset : Account := ⟨256, 256, .normal, 0, 0, 0, 0, 0, 0⟩

/-- The line rate the straps select (R181). -/
def Baud.ofStraps (baud1 baud0 : Bool) : Baud :=
  match baud1, baud0 with
  | false, false => .b9600
  | false, true => .b38400
  | true, false => .b57600
  | true, true => .b115200

/-- The command line block after a device reset (R192). -/
def CommandLine.reset (rate : Baud) : CommandLine where
  slotA := .empty
  slotB := .empty
  rx := .idle
  afterCr := false
  order := []
  reports := []
  dropped := 0
  writing := none
  lastReport := none
  gap := false
  rate := rate
  closed := false

/-- The part right after a device reset with a store that was never saved, the STOP line released and
both straps low (log 3). The first compose is in flight (R38), the settling timer runs (R196). -/
def State.reset : State where
  cfg := Scene.empty
  store := ⟨Scene.empty, .invalid⟩
  clock := ⟨0, 0, false, 0⟩
  sky :=
    { groups := Table.replicate 16 ⟨.light, 0, true⟩
      lamps := Table.replicate 192 LampRun.reset
      floods := Table.replicate 6 none
      walkPos := 0
      walkTimer := false
      compose := some ⟨Page.dark, Sums.zero⟩
      sums := Sums.zero }
  matrix := ⟨Page.dark, Page.dark, false, false, 1, .normal, .normal⟩
  floods := Table.replicate 6 ⟨none, 0⟩
  channels := Table.replicate 24 (ChannelRun.reset ChannelDef.empty)
  stopc := ⟨false, 0, false⟩
  sense := Sense.reset
  inputs := Table.replicate 20 InputRun.reset
  driver := Driver.reset
  crossings := Table.replicate 2 CrossingRun.reset
  bell := ⟨false, false, false, none⟩
  units := Table.replicate 20 UnitRec.free
  trains := Table.replicate 6 TrainRun.reset
  axes := Table.replicate 4 (AxisRun.reset 0 false)
  account := Account.reset
  line := CommandLine.reset .b9600
  sys := ⟨false, true, false, 0, 0, ⟨false, false, false⟩⟩
  nextStart := none
  freeDraws := 0
  pending := []

end Sys2Proof.Machine
end

