-- ==== Sys2Proof/Machine/Flags.lean ====
section
/-! DEFINITION. Flags the part derives from its state: the halt, the busy store, the axis limit and
departure hold, and what a channel or a section reads as. -/

namespace Sys2Proof.Machine

/-- The halt is in force while the STOP line's accepted level is asserted or the latch is set (R65). -/
def State.halt (s : State) : Bool := s.stopc.line || s.stopc.latch

/-- A SAVE is in flight: setting forms are answered `NO BUSY` (R194). -/
def State.busy (s : State) : Bool := s.store.state = .saving

/-- The axis limit is set in AXES_LIMITED and DEPARTURES_HELD (R175). -/
def Account.axisLimit (a : Account) : Bool :=
  match a.level with
  | .normal => false
  | .dimming => false
  | .axesLimited => true
  | .departuresHeld => true

/-- The departure hold is set in DEPARTURES_HELD (R175). -/
def Account.departureHold (a : Account) : Bool :=
  match a.level with
  | .normal => false
  | .dimming => false
  | .axesLimited => false
  | .departuresHeld => true

/-- The filtered state of a section (R82). -/
def State.occupied (s : State) (x : Section) : Bool := (s.sense.filters.get x).occupied

/-- Section n is driven by bridge channel n (00_scope). -/
def sectionChannel (x : Section) : Channel := ⟨x.val, by omega⟩

/-- Axis n is driven by bridge channel 20 + n (00_scope). -/
def axisChannel (n : Axis) : Channel := ⟨20 + n.val, by omega⟩

/-- A section's channel is CUT (R145). -/
def State.sectionCut (s : State) (x : Section) : Bool :=
  (s.channels.get (sectionChannel x)).state = .cut

/-- A section is defined (R91). -/
def Scene.defined (c : Scene) (x : Section) : Bool := (c.sections.get x).isSome

/-- A train is placed in every state but UNPLACED (section 8.2). -/
def TrainRun.placed (t : TrainRun) : Bool :=
  match t.state with
  | .unplaced => false
  | _ => true

/-- A train is moving in RUNNING and STOPPING (section 8.2). -/
def TrainRun.moving (t : TrainRun) : Bool :=
  match t.state with
  | .running => true
  | .stopping => true
  | _ => false

/-- Some train is placed, so a layout command is answered `NO LAYOUT` (R99). -/
def State.anyPlaced (s : State) : Bool := s.trains.data.any TrainRun.placed

/-- The wanted step of a train: its service step in ROUTE mode, its cab step in CAB mode (R132). -/
def State.wanted (s : State) (n : Train) : Nat :=
  match (s.trains.get n).mode with
  | .route => (s.cfg.trains.get n).service
  | .cab => (s.trains.get n).cabStep

end Sys2Proof.Machine
end

