-- ==== Sys2Proof/Machine/Operands.lean ====
section
/-! DEFINITION. The operand forms of line commands: scene times, optional groups, lists of object
numbers, and the tokens in which replies write the part's values. -/

namespace Sys2Proof.Machine

/-- The scene time a token names, or none where a field is out of range (section 1.4, R8). -/
def timeValue (t : TimeTok) : Option Nat :=
  if t.h ≤ 23 ∧ t.m ≤ 59 ∧ t.s ≤ 59 then some (t.h * 3600 + t.m * 60 + t.s) else none

/-- An optional expiry: none in the first place means out of range (R28). -/
def expiryValue : Option TimeTok → Option (Option Nat)
  | none => some none
  | some t => (timeValue t).map some

/-- `g` or `NONE` after `GROUP` on a lamp line (R27). -/
def groupValue : Option Nat → Option (Option GroupId)
  | none => some none
  | some g => (asId 16 g).map some

/-- A list of object numbers, or none where one does not exist. -/
def asIds (k : Nat) : List Nat → Option (List (Fin k))
  | [] => some []
  | n :: ns =>
    match asId k n, asIds k ns with
    | some i, some is => some (i :: is)
    | _, _ => none

/-- The section end a token names. -/
def endValue (t : EndTok) : Option SecEnd := (asId 20 t.sec).map fun x => ⟨x, t.e⟩

/-- The other end of a section. -/
def other : End → End
  | .a => .b
  | .b => .a

/-- The other orientation. -/
def turned : Orientation → Orientation
  | .fwd => .rev
  | .rev => .fwd

/-! ## Tokens of replies -/

def onOff (b : Bool) : Tok := .word (if b then .on else .off)

def endTok : End → Tok
  | .a => .word .a
  | .b => .word .b

def polTok : Polarity → Tok
  | .plus => .word .plus
  | .minus => .word .minus

def idTok {n : Nat} (i : Fin n) : Tok := .num i.val

/-- A value or `NONE`. -/
def optTok {α : Type} (f : α → Tok) : Option α → Tok
  | none => .word .none
  | some a => f a

def branchTok (b : Branch) : Tok := .word (branchKw b)

def pointsTok : Points → Tok
  | none => .word .unknown
  | some b => branchTok b

def mirrorTok : Mirror → Tok
  | .normal => .word .normal
  | .reversed => .word .reversed

def scanTok : ScanMode → Tok
  | .normal => .word .normal
  | .allOn => .word .allOn
  | .allOff => .word .allOff
  | .walk => .word .walk

def sourceTok : FloodSource → Tok
  | .skyRed => .word .skyRed
  | .skyGreen => .word .skyGreen
  | .skyBlue => .word .skyBlue
  | .ambient => .word .ambient
  | .none => .word .none

def curveTok : Curve → Tok
  | .linear => .word .linear
  | .soft => .word .soft
  | .hard => .word .hard

def transitionTok : Transition → Tok
  | .linear => .word .linear
  | .step => .word .step

def markKindTok : MarkKind → Tok
  | .position => .word .position
  | .stop => .word .stop

def fixtureTok : FixtureKind → Tok
  | .lamp => .word .lamp
  | .flood => .word .flood
  | .axis => .word .axis

def channelStateTok : ChannelState → Tok
  | .off => .word .off
  | .driving => .word .driving
  | .dead => .word .dead
  | .cut => .word .cut

def legTok : Leg → Tok
  | .trunk => .word .trunk
  | .branch b => branchTok b

def crossingStateTok : CrossingState → Tok
  | .idle => .word .idle
  | .warning => .word .warning
  | .protectedBy => .word .protectedW

def trainStateTok : TrainState → Tok
  | .unplaced => .word .unplaced
  | .parked => .word .parked
  | .waiting => .word .waiting
  | .running => .word .running
  | .stopping => .word .stopping
  | .dwelling => .word .dwelling
  | .halted => .word .halted
  | .lost => .word .lost
  | .faulted => .word .faulted

def modeTok : Mode → Tok
  | .route => .word .route
  | .cab => .word .cab

def reasonTok : WaitReason → Tok
  | .authority => .word .authority
  | .budget => .word .budget
  | .deadlock => .word .deadlock

def axisStateTok : AxisState → Tok
  | .stopped => .word .stopped
  | .starting => .word .starting
  | .running => .word .running
  | .stopping => .word .stopping
  | .stalled => .word .stalled
  | .halted => .word .halted

def causeTok : StallCause → Tok
  | .index => .word .index
  | .cut => .word .cut

def storeTok : StoreState → Tok
  | .valid => .word .valid
  | .invalid => .word .invalid
  | .saving => .word .saving
  | .erasing => .word .erasing

/-- An override as a query writes it: the level, with `UNTIL` and the expiry when it has one, or
`NONE` (R28, R53). -/
def overrideToks : Option Override → List Tok
  | none => [.word .none]
  | some ⟨v, none⟩ => [.num v]
  | some ⟨v, some e⟩ => [.num v, .word .until, .time e]

end Sys2Proof.Machine
end

