-- ==== Sys2Proof/Machine/Ops.lean ====
section
/-! DEFINITION. The shared operations every block's meanings are made of: replacing one block of the
state, raising a report, forming an answer, offering a line to the transmitter, and the two ways in
which a command reaches its block (an event, a line). -/

namespace Sys2Proof.Machine

/-! ## Replacing one block -/

def State.withCfg (s : State) (x : Scene) : State := { s with cfg := x }
def State.withStore (s : State) (x : Store) : State := { s with store := x }
def State.withClock (s : State) (x : Clock) : State := { s with clock := x }
def State.withSky (s : State) (x : Sky) : State := { s with sky := x }
def State.withMatrix (s : State) (x : Matrix) : State := { s with matrix := x }
def State.withFloods (s : State) (x : Table FloodRun 6) : State := { s with floods := x }
def State.withChannels (s : State) (x : Table ChannelRun 24) : State := { s with channels := x }
def State.withStopc (s : State) (x : StopControl) : State := { s with stopc := x }
def State.withSense (s : State) (x : Sense) : State := { s with sense := x }
def State.withInputs (s : State) (x : Table InputRun 20) : State := { s with inputs := x }
def State.withDriver (s : State) (x : Driver) : State := { s with driver := x }
def State.withCrossings (s : State) (x : Table CrossingRun 2) : State := { s with crossings := x }
def State.withBell (s : State) (x : Bell) : State := { s with bell := x }
def State.withUnits (s : State) (x : Table UnitRec 20) : State := { s with units := x }
def State.withTrains (s : State) (x : Table TrainRun 6) : State := { s with trains := x }
def State.withAxes (s : State) (x : Table AxisRun 4) : State := { s with axes := x }
def State.withAccount (s : State) (x : Account) : State := { s with account := x }
def State.withLine (s : State) (x : CommandLine) : State := { s with line := x }
def State.withSys (s : State) (x : System) : State := { s with sys := x }
def State.withNextStart (s : State) (x : Option Nat) : State := { s with nextStart := x }
def State.withFreeDraws (s : State) (x : Nat) : State := { s with freeDraws := x }
def State.withPending (s : State) (x : List Instr) : State := { s with pending := x }

/-! ## Reports (R188) -/

/-- A report joins the queue, or is dropped and counted when the queue holds 32 (R188). -/
def CommandLine.push (l : CommandLine) (r : Report) : CommandLine :=
  if l.reports.length < Config.maxReports then { l with reports := l.reports ++ [r] }
  else { l with dropped := min (l.dropped + 1) Config.maxDropped }

/-- A block raises a report. Before `#READY` it is discarded and not counted (R188). -/
def State.raise (s : State) (r : Report) : State :=
  if s.sys.ready then s.withLine (s.line.push r) else s

/-! ## The transmitter (R187) -/

/-- The slot with a given number. -/
def CommandLine.slot (l : CommandLine) (second : Bool) : Slot :=
  if second then l.slotB else l.slotA

def CommandLine.setSlot (l : CommandLine) (second : Bool) (x : Slot) : CommandLine :=
  if second then { l with slotB := x } else { l with slotA := x }

/-- The answer at the head of the reply order, when it has been formed (R187). -/
def CommandLine.headReply (l : CommandLine) : Option Reply :=
  match l.order with
  | [] => none
  | .slot b :: _ =>
    match l.slot b with
    | .held _ a => a
    | .receiving _ => none
    | .empty => none
  | .overrun _ :: _ => some (.no .overrun)
  | .direct r :: _ => some r

/-- The transmitter starts the head report; a place is free, so a dropped count above 0 queues
`#DROPPED n` at once (R188). -/
def CommandLine.startReport (l : CommandLine) : CommandLine :=
  match l.reports with
  | [] => l
  | r :: rs =>
    { l with
      writing := some (.report r)
      reports := if l.dropped = 0 then rs else rs ++ [.dropped l.dropped]
      dropped := 0 }

/-- At a line boundary the transmitter chooses its next line: the only one ready; else the report after
a reply, and the reply after a report or at the start (R187). With none ready it is idle, and the next
line follows no other. -/
def CommandLine.offer (l : CommandLine) : CommandLine :=
  match l.writing with
  | some _ => l
  | none =>
    match l.headReply, l.reports with
    | none, [] => { l with gap := false }
    | none, _ :: _ => l.startReport
    | some r, [] => { l with writing := some (.reply r) }
    | some r, _ :: _ =>
      if l.lastReport = some false then l.startReport else { l with writing := some (.reply r) }

/-- The transmitter is offered what the command has left to write (log 12). -/
def State.offer (s : State) : State := s.withLine s.line.offer

/-! ## How a command reaches its block -/

/-- A state and the answer to the line that led to it. -/
abbrev Ans := State × Reply

/-- The line is refused and changes nothing (R185). -/
def refuse (r : Reason) (s : State) : Ans := (s, .no r)

/-- The line is taken and answered `OK`. -/
def taken (s : State) : Ans := (s, .ok)

/-- The line is taken; a live value may have been brought into range (R186). -/
def takenClamped (clamped : Bool) (s : State) : Ans := (s, if clamped then .clamped else .ok)

/-- The line is a query: answered with data, nothing changed. -/
def answered (ts : List Tok) (s : State) : Ans := (s, .data ts)

/-- The answer of a line that came as a whole command joins the reply order (log 1). -/
def State.answer (s : State) (r : Reply) : State :=
  s.withLine { s.line with order := s.line.order ++ [.direct r] }

/-- The part takes lines: it is not held by RST, no `RESET` has been taken (R196) and it is READY. -/
def State.takesLines (s : State) : Bool := s.sys.ready && !s.sys.rstHeld && !s.line.closed

/-- Before `#READY` a line is answered `NO START` (R184). -/
def whenReady (f : State → Ans) (s : State) : Ans :=
  if s.sys.ready then f s else refuse .start s

/-- A line that came as a whole command: its block acts and forms the answer, which joins the reply
order. While RST holds the part nothing runs, and from the taking of `RESET` no line is taken (R196). -/
def lineCommand (f : State → Ans) (s : State) : Host.Outcome State Fault Refusal :=
  .next (if s.sys.rstHeld || s.line.closed then s else ((f s).1.answer (f s).2).offer)

/-- A line of a verb that waits for `#READY`. -/
def command (f : State → Ans) (s : State) : Host.Outcome State Fault Refusal :=
  lineCommand (whenReady f) s

/-- An event of a timer, a pin or the transmitter. While RST holds the part none of its blocks runs
(R196). -/
def event (f : State → State) (s : State) : Host.Outcome State Fault Refusal :=
  .next (if s.sys.rstHeld then s else (f s).offer)

/-- A setting form that changes the configuration: refused while a SAVE is in flight (R194). -/
def unlessBusy (s : State) (f : State → Ans) : Ans :=
  if s.busy then refuse .busy s else f s

/-! ## Changing one object -/

def State.modTrain (s : State) (n : Train) (f : TrainRun → TrainRun) : State :=
  s.withTrains (s.trains.modify n f)

def State.modUnit (s : State) (u : Section) (f : UnitRec → UnitRec) : State :=
  s.withUnits (s.units.modify u f)

def State.modAxis (s : State) (n : Axis) (f : AxisRun → AxisRun) : State :=
  s.withAxes (s.axes.modify n f)

def State.modChannel (s : State) (c : Channel) (f : ChannelRun → ChannelRun) : State :=
  s.withChannels (s.channels.modify c f)

def State.modInput (s : State) (i : InputId) (f : InputRun → InputRun) : State :=
  s.withInputs (s.inputs.modify i f)

def State.modCrossing (s : State) (c : CrossingId) (f : CrossingRun → CrossingRun) : State :=
  s.withCrossings (s.crossings.modify c f)

end Sys2Proof.Machine
end

