-- ==== Sys2Proof/Machine/Bridge.lean ====
section
/-! DEFINITION. Bridge channels (chapter 4): periods, duty requests, CUT and OFF, sense timers, and the
commands RESTORE and BRIDGE. -/

namespace Sys2Proof.Machine

/-! ## The on-time (R57) -/

/-- The duty steps of a duty at a resolution (R57). -/
def dutySteps (duty res : Nat) : Nat := duty * res / 256

/-- The sense steps at a resolution (R57). -/
def senseSteps (res : Nat) : Nat := if 2 * res / 256 = 0 then 1 else 2 * res / 256

/-- The on-time of a DRIVING period (R57). -/
def onTimeSteps (sense : Bool) (res duty : Nat) : Nat :=
  if sense then max (dutySteps duty res) (senseSteps res) else dutySteps duty res

/-! ## Duty requests (R58) -/

/-- An owner's request becomes the staged pair; in CUT and under the halt it is ignored (R58). -/
def dutyRequest (c : Channel) (d : Drive) (s : State) : State :=
  if s.halt || (s.channels.get c).state = .cut then s
  else s.modChannel c fun ch => { ch with staged := some d }

/-- Duty 0 in the channel's applied polarity (R129). -/
def dutyZero (c : Channel) (s : State) : State :=
  dutyRequest c ⟨0, (s.channels.get c).applied.pol⟩ s

/-! ## The period end (R56, R59) -/

/-- What the channel applies at a period end, by its state (R59). `d` holds the settings the next period
takes. -/
def applyStaged (halt : Bool) (d : ChannelDef) (ch : ChannelRun) : ChannelRun :=
  match ch.state with
  | .cut => ch
  | .off =>
    if halt then ch
    else
      let pair : Drive := ch.staged.getD ch.applied
      if onTimeSteps d.sense d.res pair.duty = 0 then
        { ch with applied := ⟨0, pair.pol⟩, staged := none }
      else
        { ch with
          state := .driving, applied := pair, staged := none, discard := true, armed := false }
  | .driving =>
    match ch.staged with
    | none => ch
    | some p =>
      if p.pol = ch.applied.pol ∨ ch.applied.duty = 0 then { ch with applied := p, staged := none }
      else { ch with state := .dead, applied := ⟨0, ch.applied.pol⟩ }
  | .dead =>
    { ch with state := .driving, applied := ch.staged.getD ch.applied, staged := none }

/-- The next period starts with the settings as they stand; its on-time is worked out from the result of
the period end (R56, R57). -/
def startPeriod (d : ChannelDef) (ch : ChannelRun) : ChannelRun :=
  { ch with
    periodRes := d.res
    periodPrescale := d.prescale
    onTime := match ch.state with
      | .driving => onTimeSteps d.sense d.res ch.applied.duty
      | .off => 0
      | .dead => 0
      | .cut => 0 }

/-- A PWM period of a channel ends (R59). -/
def periodEnd (c : Channel) (s : State) : State :=
  s.modChannel c fun ch =>
    startPeriod (s.cfg.bridge.get c) (applyStaged s.halt (s.cfg.bridge.get c) ch)

def execPeriodEnd (c : Channel) (s : State) : Host.Outcome State Fault Refusal :=
  event (periodEnd c) s

/-! ## Sense timers (R61) -/

/-- A sense timer expires: the channel is armed, in every state (R61). -/
def execSenseTimer (c : Channel) (s : State) : Host.Outcome State Fault Refusal :=
  event (fun s => s.modChannel c fun ch => { ch with armed := true }) s

/-! ## Entering OFF or CUT (R61, R62, R66, R75, R79) -/

/-- The converter's part of an entry to OFF or CUT: the channel's queued request is removed with its held
value (R75), and a slot that holds a sample becomes 0 (R79). -/
def dropRequest (c : Channel) (q : Sense) : Sense :=
  { q with
    queue := q.queue.filter fun r => r.ch != c
    held := q.held.set c none
    slots := q.slots.modify c fun x => x.map fun _ => 0 }

/-- A channel is released at once into OFF or CUT: applied duty 0 in the polarity kept, no staged pair,
not armed (R62, R66). -/
def releaseChannel (st : ChannelState) (c : Channel) (s : State) : State :=
  (s.modChannel c fun ch =>
      { ch with
        state := st, applied := ⟨0, ch.applied.pol⟩, staged := none, armed := false, onTime := 0 }).withSense
    (dropRequest c s.sense)

/-! ## RESTORE (R63) -/

/-- `RESTORE n` (R63): a CUT channel becomes OFF; its armed flag is left as it stands. -/
def takeRestore (n : Nat) (s : State) : Ans :=
  match asId 24 n with
  | none => refuse .range s
  | some c =>
    if (s.channels.get c).state = .cut then
      taken (s.modChannel c fun ch =>
        { ch with state := .off, applied := ⟨0, ch.applied.pol⟩, staged := none })
    else refuse .state s

def execRestore (n : Nat) (s : State) : Host.Outcome State Fault Refusal := command (takeRestore n) s

/-! ## BRIDGE (R64) -/

/-- A stored field of channel c changed. -/
def setBridge (c : Channel) (f : ChannelDef → ChannelDef) (s : State) : State :=
  s.withCfg { s.cfg with bridge := s.cfg.bridge.modify c f }

/-- `BRIDGE n PWM N p` (R64). -/
def takeBridgePwm (n res p : Nat) (s : State) : Ans :=
  match asId 24 n with
  | none => refuse .range s
  | some c =>
    if (res ≠ 256 ∧ res ≠ 64 ∧ res ≠ 32 ∧ res ≠ 16) ∨ p < 1 ∨ 128 < p then refuse .range s
    else unlessBusy s fun s => taken (setBridge c (fun d => { d with res := res, prescale := p }) s)

/-- `BRIDGE n SENSE ON|OFF` (R64). -/
def takeBridgeSense (n : Nat) (on : Bool) (s : State) : Ans :=
  match asId 24 n with
  | none => refuse .range s
  | some c => unlessBusy s fun s => taken (setBridge c (fun d => { d with sense := on }) s)

/-- `BRIDGE n TRIP mA` (R64). -/
def takeBridgeTrip (n mA : Nat) (s : State) : Ans :=
  match asId 24 n with
  | none => refuse .range s
  | some c =>
    if mA < 500 ∨ 3000 < mA then refuse .range s
    else unlessBusy s fun s => taken (setBridge c (fun d => { d with trip := mA }) s)

/-- The staged pair as a query writes it (R64). -/
def stagedToks : Option Drive → List Tok
  | none => [.word .none]
  | some d => [polTok d.pol, .num d.duty]

/-- `BRIDGE n` (R64): the record as set, and the latest sample. -/
def takeBridgeQuery (n : Nat) (s : State) : Ans :=
  match asId 24 n with
  | none => refuse .range s
  | some c =>
    let ch := s.channels.get c
    let d := s.cfg.bridge.get c
    answered ([channelStateTok ch.state, polTok ch.applied.pol, .num ch.applied.duty, .word .staged]
      ++ stagedToks ch.staged
      ++ [.word .pwm, .num d.res, .num d.prescale, .word .sense, onOff d.sense,
        .word .trip, .num d.trip, .word .ma, optTok .num (s.sense.slots.get c)]) s

def execBridgePwm (n res p : Nat) (s : State) : Host.Outcome State Fault Refusal :=
  command (takeBridgePwm n res p) s
def execBridgeSense (n : Nat) (on : Bool) (s : State) : Host.Outcome State Fault Refusal :=
  command (takeBridgeSense n on) s
def execBridgeTrip (n mA : Nat) (s : State) : Host.Outcome State Fault Refusal :=
  command (takeBridgeTrip n mA) s
def execBridgeQuery (n : Nat) (s : State) : Host.Outcome State Fault Refusal :=
  command (takeBridgeQuery n) s

end Sys2Proof.Machine
end

