-- ==== Sys2Proof/Machine/Sense.lean ====
section
/-! DEFINITION. The sense converter and the occupancy filters (chapter 5, first half): requests, the
start of a conversion, the delivery's own steps, and the command SENSE. What a delivery sets off in the
traffic controller and the axis controller is in Halt.lean. -/

namespace Sys2Proof.Machine

/-! ## Requests (R61, R73, R74) -/

/-- The held current as a raw count, times 3 mA (R76). -/
def sampleOf (mA : Nat) : Nat := min (mA / Config.mAPerCount) Config.maxRawCount * Config.mAPerCount

/-- The request at the head of the queue leaves it and its conversion starts: it takes the held value and
empties the hold stage (R76). A queued request always has a held value (R73, R75). -/
def startConversion (q : Sense) : Sense :=
  match q.queue with
  | [] => { q with inflight := none }
  | r :: rs =>
    { q with
      queue := rs
      inflight := some ⟨r, (q.held.get r.ch).getD 0⟩
      held := q.held.set r.ch none }

/-- A request joins the tail, or merges with the one its channel has in the queue, whose discard mark is
never lost (R74). -/
def joinRequests (r : Request) (q : List Request) : List Request :=
  if q.any fun x => x.ch = r.ch then
    q.map fun x => if x.ch = r.ch then { x with discard := x.discard || r.discard } else x
  else q ++ [r]

/-- A request arrives: its channel's hold stage captures the present current (R73), and an idle
converter starts at once (R74). -/
def arrive (r : Request) (mA : Nat) (q : Sense) : Sense :=
  let q := { q with queue := joinRequests r q.queue, held := q.held.set r.ch (some mA) }
  match q.inflight with
  | none => startConversion q
  | some _ => q

/-- The middle of an on-time: a channel that is armed, DRIVING and has an on-time raises one request,
which takes the first-sample discard with it (R61, R73). -/
def conversionRequest (c : Channel) (mA : Nat) (s : State) : State :=
  let ch := s.channels.get c
  if ch.armed ∧ ch.state = .driving ∧ 1 ≤ ch.onTime then
    (s.modChannel c fun ch => { ch with armed := false, discard := false }).withSense
      (arrive ⟨c, ch.discard⟩ mA s.sense)
  else s

def execConversionRequest (ch : Channel) (mA : Nat) (s : State) :
    Host.Outcome State Fault Refusal := event (conversionRequest ch mA) s

/-! ## Delivery's own steps (R78, R79, R82) -/

/-- Step 1: a sample of a channel in DRIVING or DEAD is written to its slot (R78, R79). -/
def writeSlot (c : Channel) (mA : Nat) (s : State) : State :=
  match (s.channels.get c).state with
  | .driving => s.withSense { s.sense with slots := s.sense.slots.set c (some mA) }
  | .dead => s.withSense { s.sense with slots := s.sense.slots.set c (some mA) }
  | .off => s
  | .cut => s

/-- A sample reaches an occupancy filter (R82). -/
def filterSample (threshold mA : Nat) (f : Occupancy) : Occupancy :=
  let f : Occupancy :=
    if threshold < mA then { f with above := min (f.above + 1) 3, below := 0 }
    else { f with below := min (f.below + 1) 8, above := 0 }
  if f.occupied = false ∧ f.above = 3 then { f with occupied := true }
  else if f.occupied = true ∧ f.below = 8 then { f with occupied := false }
  else f

/-- The section a channel feeds, for channels 0..19 (R78). -/
def channelSection (c : Channel) : Option Section := asId 20 c.val

/-- The axis a channel turns, for channels 20..23. -/
def channelAxis (c : Channel) : Option Axis := if c.val < 20 then none else asId 4 (c.val - 20)

/-- What a slot reads as in a sum: NONE is 0 mA (R79). -/
def slotValue (s : State) (c : Channel) : Nat := (s.sense.slots.get c).getD 0

/-! ## SENSE (R84) -/

/-- `SENSE n THRESHOLD mA` (R84). -/
def takeSenseThreshold (n mA : Nat) (s : State) : Ans :=
  match asId 20 n with
  | none => refuse .range s
  | some x =>
    if mA < 1 ∨ 100 < mA then refuse .range s
    else unlessBusy s fun s =>
      taken (s.withCfg { s.cfg with thresholds := s.cfg.thresholds.set x mA })

/-- `SENSE n` (R84). The state CLEAR is written `CLEAR`. -/
def takeSenseSectionQuery (n : Nat) (s : State) : Ans :=
  match asId 20 n with
  | none => refuse .range s
  | some x =>
    let f := s.sense.filters.get x
    answered [.word (if f.occupied then .occupied else .clear), .num f.above, .num f.below,
      .word .threshold, .num (s.cfg.thresholds.get x)] s

/-- `SENSE` (R84): the OCCUPIED sections, counted and listed. -/
def takeSenseQuery (s : State) : Ans :=
  let xs := (ids 20).filter s.occupied
  answered (.num xs.length :: xs.map idTok) s

def execSenseThreshold (n mA : Nat) (s : State) : Host.Outcome State Fault Refusal :=
  command (takeSenseThreshold n mA) s
def execSenseSectionQuery (n : Nat) (s : State) : Host.Outcome State Fault Refusal :=
  command (takeSenseSectionQuery n) s
def execSenseQuery (s : State) : Host.Outcome State Fault Refusal := command takeSenseQuery s

end Sys2Proof.Machine
end

