-- ==== Sys2Proof/Machine/Sky.lean ====
section
/-! DEFINITION. The sky engine (chapter 2): keyframes and their interpolation, groups, lamp records, the
level pipeline, compose, and the commands KEY, GROUP, LAMP, BRIGHT and SCAN. -/

namespace Sys2Proof.Machine

/-! ## Interpolation (R17, R18) -/

/-- What an interpolation runs for (section 2.2). -/
inductive SkyChannel where
  | red | green | blue | ambient
  | group (g : GroupId)
deriving DecidableEq, Repr

/-- A keyframe as one channel sees it. -/
structure KeyPoint where
  time : Nat
  value : Nat
  tr : Transition
deriving DecidableEq, Repr

/-- The level a keyframe's pair list gives a group (R13). -/
def pairLevel (ps : List (GroupId × Nat)) (g : GroupId) : Option Nat :=
  (ps.find? fun p => p.1 == g).map Prod.snd

def keyframeValue (k : Keyframe) : SkyChannel → Option Nat
  | .red => some k.red
  | .green => some k.green
  | .blue => some k.blue
  | .ambient => some k.ambient
  | .group g => pairLevel k.pairs g

/-- The keyframe sequence of a channel (R17). -/
def keySequence (ks : List Keyframe) (c : SkyChannel) : List KeyPoint :=
  ks.filterMap fun k => (keyframeValue k c).map fun v => ⟨k.time, v, k.tr⟩

/-- The value of a channel whose sequence is empty (R13). -/
def emptyValue : SkyChannel → Nat
  | .ambient => 255
  | _ => 0

/-- Keyframes A and B of a sequence at time t (R17): no B when A is the only one. -/
def keyPair (seq : List KeyPoint) (t : Nat) : Option (KeyPoint × Option KeyPoint) :=
  match seq with
  | [] => none
  | [a] => some (a, none)
  | first :: rest =>
    match (seq.filter fun k => k.time ≤ t).getLast?, seq.filter fun k => t < k.time with
    | none, _ => some (rest.getLastD first, some first)
    | some a, [] => some (a, some first)
    | some a, b :: _ => some (a, some b)

/-- Seconds of the scene day from `f` forward to `t`. -/
def dayDiff (t f : Nat) : Nat := (t + Config.daySeconds - f) % Config.daySeconds

/-- The value between A and B at time t (R18). -/
def between (a b : KeyPoint) (t : Nat) : Nat :=
  match a.tr with
  | .step => a.value
  | .linear =>
    let span := dayDiff b.time a.time
    let elapsed := dayDiff t a.time
    (a.value * (span - elapsed) + b.value * elapsed + span / 2) / span

/-- The value of a channel at scene time t (R17, R18). -/
def skyValue (c : Scene) (ch : SkyChannel) (t : Nat) : Nat :=
  match keyPair (keySequence c.keyframes ch) t with
  | none => emptyValue ch
  | some (a, none) => a.value
  | some (a, some b) => between a b t

/-- The ambient at scene time t. -/
def ambientAt (c : Scene) (t : Nat) : Nat := skyValue c .ambient t

/-! ## Groups (R19 to R25) -/

/-- The curve level of a DIMMED group's interpolated value (R21). -/
def curveLevel (c : Curve) (g : Nat) : Nat :=
  match c with
  | .linear => g
  | .soft => (g * g + 127) / 255
  | .hard => (g * g * g + 32512) / 65025

/-- The level every member of a settled group takes (R23). -/
def steadyLevel (d : GroupDef) : Direction → Nat
  | .dark => d.onLevel
  | .light => 0

/-- The level of a member of a SWITCHED group (R23). -/
def switchedLevel (d : GroupDef) (r : GroupRun) (t stagger frozen : Nat) : Nat :=
  if r.settled then steadyLevel d r.dir
  else
    let e := dayDiff t r.crossTime
    match r.dir with
    | .dark =>
      if e < stagger then 0
      else if e < stagger + d.warmUp then d.onLevel * (e - stagger) / d.warmUp
      else d.onLevel
    | .light => if e < stagger then frozen else 0

/-- Lamp i is a member of group g. -/
def memberOf (c : Scene) (g : GroupId) (i : LampId) : Bool := (c.lamps.get i).group = some g

/-- The largest stagger among the members of a group, 0 without members (R24). -/
def maxStagger (c : Scene) (g : GroupId) : Nat :=
  c.lamps.data.foldl (fun m l => if l.group = some g then max m l.stagger else m) 0

/-- The frozen level of each member of a group set by `f`. -/
def freezeMembers (c : Scene) (g : GroupId) (f : LampId → LampRun → Nat) (sky : Sky) : Sky :=
  { sky with
    lamps := sky.lamps.mapIdx fun i l => if memberOf c g i then { l with frozen := f i l } else l }

/-- A SWITCHED group turns at time t (R22): members freeze at the level of the old direction and old
crossing time. -/
def turnGroup (c : Scene) (g : GroupId) (t : Nat) (dir : Direction) (sky : Sky) : Sky :=
  let frozen := freezeMembers c g
    (fun i l => switchedLevel (c.groups.get g) (sky.groups.get g) t (c.lamps.get i).stagger l.frozen)
    sky
  { frozen with groups := frozen.groups.set g ⟨dir, t, false⟩ }

/-- The start-of-compose test of one group (R22, R24). -/
def passGroup (c : Scene) (t : Nat) (sky : Sky) (g : GroupId) : Sky :=
  let d := c.groups.get g
  let r := sky.groups.get g
  let a := ambientAt c t
  match d.kind with
  | .dimmed => sky
  | .switched =>
    if r.dir = .light ∧ a < d.threshold then turnGroup c g t .dark sky
    else if r.dir = .dark ∧ min 255 (d.threshold + d.hysteresis) < a then turnGroup c g t .light sky
    else if r.settled = false ∧ maxStagger c g + d.warmUp ≤ dayDiff t r.crossTime then
      { sky with groups := sky.groups.set g { r with settled := true } }
    else sky

/-- The start-of-compose pass over the groups, in ascending order (R22). -/
def groupPass (c : Scene) (t : Nat) (sky : Sky) : Sky := (ids 16).foldl (passGroup c t) sky

/-- Settling one SWITCHED group at scene time t (R25). A DIMMED group is not touched. -/
def settleGroup (c : Scene) (t : Nat) (sky : Sky) (g : GroupId) : Sky :=
  let d := c.groups.get g
  match d.kind with
  | .dimmed => sky
  | .switched =>
    let dir : Direction := if ambientAt c t < d.threshold then .dark else .light
    let frozen := freezeMembers c g (fun _ _ => steadyLevel d dir) sky
    { frozen with groups := frozen.groups.set g ⟨dir, t, true⟩ }

/-- Settling every SWITCHED group (R25). -/
def settleAll (c : Scene) (t : Nat) (sky : Sky) : Sky := (ids 16).foldl (settleGroup c t) sky

/-! ## The level pipeline (R31, R32) -/

/-- Stage 2: an override's level replaces the base. -/
def overrideStage (o : Option Override) (level : Nat) : Nat :=
  match o with
  | none => level
  | some v => v.level

/-- Stage 3 for a lamp. -/
def lampScan (m : ScanMode) (walk i : LampId) (level : Nat) : Nat :=
  match m with
  | .normal => level
  | .allOn => 255
  | .allOff => 0
  | .walk => if i = walk then 255 else 0

/-- Stage 3 for a flood (R32). -/
def floodScan (m : ScanMode) (level : Nat) : Nat :=
  match m with
  | .normal => level
  | .allOn => 255
  | .allOff => 0
  | .walk => 0

/-- Stage 4: master brightness. -/
def brightStage (b level : Nat) : Nat := (level * b + 8) / 16

/-- Stage 6: budget scale. -/
def budgetStage (scale level : Nat) : Nat := (level * scale + 128) / 256

/-- Stage 1 for a lamp: the base of its group (R31), with the curve levels of the 16 groups worked out. -/
def lampBase (c : Scene) (curves : Table Nat 16) (groups : Table GroupRun 16) (t : Nat) (d : LampDef)
    (r : LampRun) : Nat :=
  match d.group with
  | none => 0
  | some g =>
    match (c.groups.get g).kind with
    | .dimmed => curves.get g
    | .switched => switchedLevel (c.groups.get g) (groups.get g) t d.stagger r.frozen

/-- Stage 1 for a flood: the interpolated value of its source (R32). -/
def floodBase (c : Scene) (t : Nat) : FloodSource → Nat
  | .skyRed => skyValue c .red t
  | .skyGreen => skyValue c .green t
  | .skyBlue => skyValue c .blue t
  | .ambient => ambientAt c t
  | .none => 0

/-- Stage 7: the level of a lamp claimed by crossing `x` (R30). Lamp a is lit in flash phase 0, lamp b
in flash phase 1. -/
def claimLevel (c : Scene) (crossings : Table CrossingRun 2) (i : LampId) (x : CrossingId) : Nat :=
  match c.crossings.get x with
  | none => 0
  | some d =>
    let phase := (crossings.get x).phase
    if (i = d.lampA ∧ phase = false) ∨ (i = d.lampB ∧ phase = true) then d.flash else 0

/-- The pre-budget level of a lamp: stages 1 to 5 (R31). -/
def lampPre (s : State) (t : Nat) (curves : Table Nat 16) (i : LampId) : Nat :=
  brightStage s.cfg.brightness
    (lampScan s.cfg.scan s.sky.walkPos i
      (overrideStage (s.sky.lamps.get i).override
        (lampBase s.cfg curves s.sky.groups t (s.cfg.lamps.get i) (s.sky.lamps.get i))))

/-- The pre-budget level of a flood (R32). -/
def floodPre (s : State) (t : Nat) (f : FloodId) : Nat :=
  brightStage s.cfg.brightness
    (floodScan s.cfg.scan
      (overrideStage (s.sky.floods.get f) (floodBase s.cfg t (s.cfg.floodSources.get f))))

/-- The final level of a lamp: stage 6, or stage 7 for a claimed lamp (R31). -/
def lampFinal (s : State) (pre : Nat) (i : LampId) : Nat :=
  match (s.sky.lamps.get i).claim with
  | none => budgetStage s.account.scale pre
  | some x => claimLevel s.cfg s.crossings i x

/-- The curve level of every group at time t (R21). -/
def curveLevels (c : Scene) (t : Nat) : Table Nat 16 :=
  Table.ofFn fun g => curveLevel (c.groups.get g).curve (skyValue c (.group g) t)

/-- One whole page and its three sums (R31, R32, R37), at scene time t. -/
def composePage (s : State) (t : Nat) : Compose :=
  let curves := curveLevels s.cfg t
  let pre : Table Nat 192 := Table.ofFn (lampPre s t curves)
  let final : Table Nat 192 := pre.mapIdx fun i p => lampFinal s p i
  let floodsPre : Table Nat 6 := Table.ofFn (floodPre s t)
  let claimed := fun i : LampId => (s.sky.lamps.get i).claim.isSome
  { page := ⟨final, floodsPre.map (budgetStage s.account.scale)⟩
    sums :=
      { lamp := (pre.mapIdx fun i p => if claimed i then 0 else p).data.sum
        flood := floodsPre.data.sum
        claimed := (final.mapIdx fun i p => if claimed i then p else 0).data.sum } }

/-! ## Compose (R35 to R37) -/

/-- A compose starts: the pass over the groups, then every level from the state after it (R36). Its
scene time is that of the last notice. -/
def startCompose (s : State) : State :=
  let t := s.clock.noticed
  let s1 := s.withSky (groupPass s.cfg t s.sky)
  s1.withSky { s1.sky with compose := some (composePage s1 t) }

/-- A recompose request (R36): it starts a compose at once, or sets the pending flag. -/
def requestRecompose (s : State) : State :=
  if s.sky.compose.isSome || s.matrix.ready then s.withMatrix { s.matrix with pending := true }
  else startCompose s

/-- A compose completes (R37): the page is written and marked ready, the sums replace the old ones. -/
def completeCompose (s : State) : State :=
  match s.sky.compose with
  | none => s
  | some c =>
    (s.withSky { s.sky with compose := none, sums := c.sums }).withMatrix
      { s.matrix with composing := c.page, ready := true }

def execComposeComplete (s : State) : Host.Outcome State Fault Refusal := event completeCompose s

/-! ## Time (R4, R29, R10) -/

/-- A step from t0 to t1 passes t (R4). -/
def passes (t0 t1 t : Nat) : Bool :=
  if t0 < t1 then t0 < t && t ≤ t1
  else if t1 < t0 then t0 < t || t ≤ t1
  else false

/-- Overrides are removed where the expiry satisfies `p` (R29). -/
def expireWhere (p : Nat → Bool) (o : Option Override) : Option Override :=
  match o with
  | some ⟨_, some e⟩ => if p e then none else o
  | _ => o

def expireOverrides (p : Nat → Bool) (sky : Sky) : Sky :=
  { sky with
    lamps := sky.lamps.map fun l => { l with override := expireWhere p l.override }
    floods := sky.floods.map (expireWhere p) }

/-- The sky engine at a step notice (R3, R29): one recompose request serves the notice and the overrides
that expire at it (R35; DESIGN CHOICE, log 10). -/
def skyStep (t0 t1 : Nat) (s : State) : State :=
  requestRecompose (s.withSky (expireOverrides (passes t0 t1) s.sky))

/-- The sky engine at a jump notice (R10, R25, R29), with one recompose request after both (R35; log 10). -/
def skyJump (new : Nat) (s : State) : State :=
  requestRecompose (s.withSky (expireOverrides (fun _ => true) (settleAll s.cfg new s.sky)))

/-! ## KEY (R14 to R16) -/

/-- A keyframe put in time order, replacing the one at its time (R14). -/
def putKeyframe (k : Keyframe) : List Keyframe → List Keyframe
  | [] => [k]
  | x :: xs =>
    if k.time < x.time then k :: x :: xs
    else if k.time = x.time then k :: xs
    else x :: putKeyframe k xs

def keyframeAt (ks : List Keyframe) (t : Nat) : Option Keyframe := ks.find? fun k => k.time == t

/-- A pair put in group order, replacing the group's pair (R15). -/
def putPair (g : GroupId) (v : Nat) : List (GroupId × Nat) → List (GroupId × Nat)
  | [] => [(g, v)]
  | x :: xs =>
    if g < x.1 then (g, v) :: x :: xs
    else if g = x.1 then (g, v) :: xs
    else x :: putPair g v xs

/-- The pairs of a KEY line, or none where a group or level is out of range (R14). -/
def pairValues : List (Nat × Nat) → Option (List (GroupId × Nat))
  | [] => some []
  | (g, v) :: ps =>
    match asId 16 g, pairValues ps with
    | some i, some is => if v ≤ 255 then some ((i, v) :: is) else none
    | _, _ => none

/-- No group is named in two pairs (R14). -/
def pairsDistinct (ps : List (GroupId × Nat)) : Bool := (ps.map Prod.fst).Nodup

def sortPairs (ps : List (GroupId × Nat)) : List (GroupId × Nat) :=
  ps.foldl (fun acc p => putPair p.1 p.2 acc) []

/-- The configuration with another keyframe list; the sky is composed afresh (R14). -/
def setKeyframes (s : State) (ks : List Keyframe) : State :=
  requestRecompose (s.withCfg { s.cfg with keyframes := ks })

/-- `KEY t LINEAR|STEP r g b a [G g v …]` (R14). -/
def takeKey (t : TimeTok) (tr : Transition) (r g b a : Nat) (pairs : List (Nat × Nat)) (s : State) :
    Ans :=
  match timeValue t, pairValues pairs with
  | some time, some ps =>
    if r > 255 ∨ g > 255 ∨ b > 255 ∨ a > 255 then refuse .range s
    else unlessBusy s fun s =>
      if !pairsDistinct ps then refuse .conflict s
      else if (keyframeAt s.cfg.keyframes time).isNone
          ∧ Config.maxKeyframes ≤ s.cfg.keyframes.length then refuse .full s
      else taken (setKeyframes s
        (putKeyframe ⟨time, tr, r, g, b, a, sortPairs ps⟩ s.cfg.keyframes))
  | _, _ => refuse .range s

/-- `KEY t G g v` (R15). -/
def takeKeyG (t : TimeTok) (g v : Nat) (s : State) : Ans :=
  match timeValue t, asId 16 g with
  | some time, some i =>
    if v > 255 then refuse .range s
    else unlessBusy s fun s =>
      match keyframeAt s.cfg.keyframes time with
      | none => refuse .unknown s
      | some k =>
        taken (setKeyframes s
          (putKeyframe { k with pairs := putPair i v k.pairs } s.cfg.keyframes))
  | _, _ => refuse .range s

/-- `KEY t G g NONE` (R15); a keyframe with no pair for g is left as it is. R35 lists every taken `KEY G` as a
source of a recompose request, and R15 says that this form then changes nothing: the model requests none
(DESIGN CHOICE, log 56). -/
def takeKeyGNone (t : TimeTok) (g : Nat) (s : State) : Ans :=
  match timeValue t, asId 16 g with
  | some time, some i =>
    unlessBusy s fun s =>
      match keyframeAt s.cfg.keyframes time with
      | none => refuse .unknown s
      | some k =>
        if (pairLevel k.pairs i).isNone then taken s
        else taken (setKeyframes s
          (putKeyframe { k with pairs := k.pairs.filter fun p => p.1 != i } s.cfg.keyframes))
  | _, _ => refuse .range s

/-- `KEY DROP t` (R16). -/
def takeKeyDrop (t : TimeTok) (s : State) : Ans :=
  match timeValue t with
  | none => refuse .range s
  | some time =>
    unlessBusy s fun s =>
      if (keyframeAt s.cfg.keyframes time).isNone then refuse .unknown s
      else taken (setKeyframes s (s.cfg.keyframes.filter fun k => k.time != time))

/-- `KEY LIST` (R16). -/
def takeKeyList (s : State) : Ans :=
  answered (.num s.cfg.keyframes.length :: s.cfg.keyframes.map fun k => .time k.time) s

/-- The keyframe in the form used to define it (R16). -/
def keyframeToks (k : Keyframe) : List Tok :=
  [.time k.time, transitionTok k.tr, .num k.red, .num k.green, .num k.blue, .num k.ambient]
    ++ k.pairs.flatMap fun p => [.word .g, idTok p.1, .num p.2]

/-- `KEY t` (R16). -/
def takeKeyQuery (t : TimeTok) (s : State) : Ans :=
  match timeValue t with
  | none => refuse .range s
  | some time =>
    match keyframeAt s.cfg.keyframes time with
    | none => refuse .unknown s
    | some k => answered (keyframeToks k) s

def execKey (t : TimeTok) (tr : Transition) (r g b a : Nat) (pairs : List (Nat × Nat)) (s : State) :
    Host.Outcome State Fault Refusal := command (takeKey t tr r g b a pairs) s
def execKeyG (t : TimeTok) (g v : Nat) (s : State) : Host.Outcome State Fault Refusal :=
  command (takeKeyG t g v) s
def execKeyGNone (t : TimeTok) (g : Nat) (s : State) : Host.Outcome State Fault Refusal :=
  command (takeKeyGNone t g) s
def execKeyDrop (t : TimeTok) (s : State) : Host.Outcome State Fault Refusal :=
  command (takeKeyDrop t) s
def execKeyList (s : State) : Host.Outcome State Fault Refusal := command takeKeyList s
def execKeyQuery (t : TimeTok) (s : State) : Host.Outcome State Fault Refusal :=
  command (takeKeyQuery t) s

/-! ## GROUP (R20) -/

/-- `GROUP g DIMMED curve` (R20): the switched fields stay as they were. -/
def takeGroupDimmed (g : Nat) (c : Curve) (s : State) : Ans :=
  match asId 16 g with
  | none => refuse .range s
  | some i =>
    unlessBusy s fun s =>
      taken (requestRecompose (s.withCfg { s.cfg with
        groups := s.cfg.groups.modify i fun d => { d with kind := .dimmed, curve := c } }))

/-- `GROUP g SWITCHED th hy on wu` (R20): the group is settled at the present scene time. -/
def takeGroupSwitched (g th hy on wu : Nat) (s : State) : Ans :=
  match asId 16 g with
  | none => refuse .range s
  | some i =>
    if th > 255 ∨ hy > 64 ∨ on > 255 ∨ wu > 600 then refuse .range s
    else unlessBusy s fun s =>
      let cfg := { s.cfg with
        groups := s.cfg.groups.modify i fun d =>
          { d with kind := .switched, threshold := th, hysteresis := hy, onLevel := on, warmUp := wu } }
      taken (requestRecompose ((s.withCfg cfg).withSky (settleGroup cfg s.clock.time s.sky i)))

/-- The tokens of a group query (R20). -/
def groupToks (d : GroupDef) (r : GroupRun) : List Tok :=
  match d.kind with
  | .dimmed => [.word .dimmed, curveTok d.curve]
  | .switched =>
    [.word .switched, .num d.threshold, .num d.hysteresis, .num d.onLevel, .num d.warmUp,
      .word (match r.dir with | .light => .light | .dark => .dark), .time r.crossTime,
      .word (if r.settled then .settled else .unsettled)]

/-- `GROUP g` (R20). -/
def takeGroupQuery (g : Nat) (s : State) : Ans :=
  match asId 16 g with
  | none => refuse .range s
  | some i => answered (groupToks (s.cfg.groups.get i) (s.sky.groups.get i)) s

def execGroupDimmed (g : Nat) (c : Curve) (s : State) : Host.Outcome State Fault Refusal :=
  command (takeGroupDimmed g c) s
def execGroupSwitched (g th hy on wu : Nat) (s : State) : Host.Outcome State Fault Refusal :=
  command (takeGroupSwitched g th hy on wu) s
def execGroupQuery (g : Nat) (s : State) : Host.Outcome State Fault Refusal :=
  command (takeGroupQuery g) s

/-! ## LAMP (R27, R28) -/

/-- Lamp i joins a group, or none; its frozen level becomes 0 where the group changes (R27). -/
def setLampGroup (i : LampId) (g : Option GroupId) (s : State) : State :=
  let changed := (s.cfg.lamps.get i).group ≠ g
  let s1 := s.withCfg { s.cfg with lamps := s.cfg.lamps.modify i fun d => { d with group := g } }
  if changed then
    s1.withSky { s1.sky with lamps := s1.sky.lamps.modify i fun l => { l with frozen := 0 } }
  else s1

def setLampStagger (i : LampId) (st : Nat) (s : State) : State :=
  s.withCfg { s.cfg with lamps := s.cfg.lamps.modify i fun d => { d with stagger := st } }

/-- `LAMP n GROUP g|NONE` (R27). -/
def takeLampGroup (n : Nat) (g : Option Nat) (s : State) : Ans :=
  match asId 192 n, groupValue g with
  | some i, some gv => unlessBusy s fun s => taken (requestRecompose (setLampGroup i gv s))
  | _, _ => refuse .range s

/-- `LAMP n STAGGER s` (R27). -/
def takeLampStagger (n st : Nat) (s : State) : Ans :=
  match asId 192 n with
  | none => refuse .range s
  | some i =>
    if st > 1800 then refuse .range s
    else unlessBusy s fun s => taken (requestRecompose (setLampStagger i st s))

/-- `LAMP n GROUP g|NONE STAGGER s` (R27). -/
def takeLampGroupStagger (n : Nat) (g : Option Nat) (st : Nat) (s : State) : Ans :=
  match asId 192 n, groupValue g with
  | some i, some gv =>
    if st > 1800 then refuse .range s
    else unlessBusy s fun s => taken (requestRecompose (setLampStagger i st (setLampGroup i gv s)))
  | _, _ => refuse .range s

/-- The range form: lamps n..m join a group with staggers st, st + k, … (R27). -/
def setLampRange (n m : Nat) (g : Option GroupId) (st k : Nat) (s : State) : State :=
  (ids 192).foldl
    (fun s i =>
      if n ≤ i.val ∧ i.val ≤ m then setLampStagger i (st + (i.val - n) * k) (setLampGroup i g s)
      else s)
    s

/-- `LAMP n TO m GROUP g|NONE STAGGER s k` (R27). -/
def takeLampRange (n m : Nat) (g : Option Nat) (st k : Nat) (s : State) : Ans :=
  match groupValue g with
  | none => refuse .range s
  | some gv =>
    if 191 < n ∨ 191 < m ∨ m < n ∨ 1800 < st + (m - n) * k then refuse .range s
    else unlessBusy s fun s => taken (requestRecompose (setLampRange n m gv st k s))

/-- A lamp's override set or removed; the page is composed afresh (R28). -/
def setLampOverride (i : LampId) (o : Option Override) (s : State) : State :=
  requestRecompose
    (s.withSky { s.sky with lamps := s.sky.lamps.modify i fun l => { l with override := o } })

/-- A lamp's override removed; without one nothing changes (R28), and no recompose is requested, although R35
lists every taken line that frees a lamp, and every `FREE` on one, as a source (DESIGN CHOICE, log 56). -/
def freeLamp (i : LampId) (s : State) : State :=
  if (s.sky.lamps.get i).override.isNone then s else setLampOverride i none s

/-- `LAMP n LEVEL v [UNTIL t]` (R28): the level is live. -/
def takeLampLevel (n v : Nat) (u : Option TimeTok) (s : State) : Ans :=
  match asId 192 n, expiryValue u with
  | some i, some e => takenClamped (v > 255) (setLampOverride i (some ⟨min v 255, e⟩) s)
  | _, _ => refuse .range s

/-- `LAMP n FREE` (R28). -/
def takeLampFree (n : Nat) (s : State) : Ans :=
  match asId 192 n with
  | none => refuse .range s
  | some i => taken (freeLamp i s)

/-- The tokens of a lamp query (R28): the level is that of the shown page (R48). -/
def lampToks (s : State) (i : LampId) : List Tok :=
  [.word .group, optTok idTok (s.cfg.lamps.get i).group,
    .word .stagger, .num (s.cfg.lamps.get i).stagger, .word .override]
    ++ overrideToks (s.sky.lamps.get i).override
    ++ [.word .claim, optTok idTok (s.sky.lamps.get i).claim,
      .word .level, .num (s.matrix.shown.lamps.get i)]

/-- `LAMP n` (R28). -/
def takeLampQuery (n : Nat) (s : State) : Ans :=
  match asId 192 n with
  | none => refuse .range s
  | some i => answered (lampToks s i) s

def execLampGroup (n : Nat) (g : Option Nat) (s : State) : Host.Outcome State Fault Refusal :=
  command (takeLampGroup n g) s
def execLampStagger (n st : Nat) (s : State) : Host.Outcome State Fault Refusal :=
  command (takeLampStagger n st) s
def execLampGroupStagger (n : Nat) (g : Option Nat) (st : Nat) (s : State) :
    Host.Outcome State Fault Refusal := command (takeLampGroupStagger n g st) s
def execLampRange (n m : Nat) (g : Option Nat) (st k : Nat) (s : State) :
    Host.Outcome State Fault Refusal := command (takeLampRange n m g st k) s
def execLampLevel (n v : Nat) (u : Option TimeTok) (s : State) : Host.Outcome State Fault Refusal :=
  command (takeLampLevel n v u) s
def execLampFree (n : Nat) (s : State) : Host.Outcome State Fault Refusal :=
  command (takeLampFree n) s
def execLampQuery (n : Nat) (s : State) : Host.Outcome State Fault Refusal :=
  command (takeLampQuery n) s

/-! ## BRIGHT and SCAN (R33, R34) -/

/-- `BRIGHT n` (R33): the brightness is live. -/
def takeBright (n : Nat) (s : State) : Ans :=
  unlessBusy s fun s =>
    takenClamped (n < 1 || 16 < n)
      (requestRecompose (s.withCfg { s.cfg with brightness := clampNat 1 16 n }))

/-- `BRIGHT` (R33). -/
def takeBrightQuery (s : State) : Ans := answered [.num s.cfg.brightness] s

/-- `SCAN mode` (R34): WALK starts the walk at lamp 0, any other mode stops it. -/
def takeScan (m : ScanMode) (s : State) : Ans :=
  unlessBusy s fun s =>
    let s1 := s.withCfg { s.cfg with scan := m }
    let sky : Sky :=
      match m with
      | .walk => { s.sky with walkPos := 0, walkTimer := true }
      | _ => { s.sky with walkTimer := false }
    taken (requestRecompose (s1.withSky sky))

/-- `SCAN` (R34). -/
def takeScanQuery (s : State) : Ans := answered [scanTok s.cfg.scan] s

/-- The walk timer expires while it runs (R34): lamp 191 is followed by lamp 0. -/
def walkExpiry (s : State) : State :=
  if s.sky.walkTimer then requestRecompose (s.withSky { s.sky with walkPos := s.sky.walkPos + 1 })
  else s

def execBright (n : Nat) (s : State) : Host.Outcome State Fault Refusal := command (takeBright n) s
def execBrightQuery (s : State) : Host.Outcome State Fault Refusal := command takeBrightQuery s
def execScan (m : ScanMode) (s : State) : Host.Outcome State Fault Refusal := command (takeScan m) s
def execScanQuery (s : State) : Host.Outcome State Fault Refusal := command takeScanQuery s
def execWalkTimer (s : State) : Host.Outcome State Fault Refusal := event walkExpiry s

end Sys2Proof.Machine
end

