-- ==== Sys2Proof/Machine/Budget.lean ====
section
/-! DEFINITION. The load account (chapter 10) and the command BUDGET. -/

namespace Sys2Proof.Machine

/-! ## The terms (R172, R173) -/

/-- Motion: the sum of the sample slots (R172). -/
def motionTerm (s : State) : Nat := ((ids 24).map (slotValue s)).sum

/-- Fixed: what the claimed lamps draw (R172). -/
def fixedTerm (c : Scene) (x : Sums) : Nat := x.claimed * c.lampRating / 255

/-- Demand: what the composed lighting would draw at full budget (R172). -/
def demandTerm (c : Scene) (x : Sums) : Nat := (x.lamp * c.lampRating + x.flood * c.floodRating) / 255

/-- The target scale (R173); the subtraction stops at 0. -/
def targetScale (ceiling motion fixed demand : Nat) : Nat :=
  let avail := ceiling - motion - fixed
  if demand ≤ avail then 256 else max 64 (avail * 256 / demand)

/-- The new budget scale: down at once, up by 16 at most (R173). -/
def nextScale (scale target : Nat) : Nat := if target < scale then target else min (scale + 16) target

/-- The terms of an evaluation written into the account (R172, R173). -/
def evaluate (s : State) : Account :=
  let motion := motionTerm s
  let fixed := fixedTerm s.cfg s.sky.sums
  let demand := demandTerm s.cfg s.sky.sums
  let target := targetScale s.cfg.ceiling motion fixed demand
  let scale := nextScale s.account.scale target
  { s.account with
    scale := scale, target := target, motion := motion, fixed := fixed, demand := demand
    total := motion + fixed + demand * scale / 256 }

/-! ## The pressure level (R174) -/

/-- The level changes: both counts are set to 0 (R174). -/
def Account.enter (a : Account) (p : Pressure) : Account :=
  { a with level := p, overCount := 0, underCount := 0 }

/-- The headroom test (R174). -/
def Account.clear (a : Account) (ceiling : Nat) : Bool := decide (a.total * 10 ≤ ceiling * 9)

/-- The test of the pressure level (R174). -/
def Account.retest (a : Account) (ceiling : Nat) : Account :=
  match a.level with
  | .normal => if a.scale < 256 then a.enter .dimming else a
  | .dimming =>
    if a.scale = 64 ∧ ceiling < a.total then a.enter .axesLimited
    else if a.scale = 256 then a.enter .normal
    else a
  | .axesLimited =>
    if ceiling < a.total then
      if 3 ≤ a.overCount + 1 then a.enter .departuresHeld
      else { a with overCount := a.overCount + 1, underCount := 0 }
    else if a.clear ceiling then
      if 10 ≤ a.underCount + 1 then a.enter .dimming
      else { a with underCount := a.underCount + 1, overCount := 0 }
    else { a with overCount := 0, underCount := 0 }
  | .departuresHeld =>
    if a.clear ceiling then
      if 10 ≤ a.underCount + 1 then a.enter .axesLimited
      else { a with underCount := a.underCount + 1 }
    else { a with underCount := 0 }

/-- One evaluation; none takes place before `#READY` (R172 to R175). -/
def budgetEvaluation (s : State) : State :=
  if s.sys.ready then
    let a := evaluate s
    let b := a.retest s.cfg.ceiling
    let s' := s.withAccount b
    let s' := if a.scale = s.account.scale then s' else requestRecompose s'
    if b.level = a.level then s' else s'.raise (.budget b.level)
  else s

def execBudgetEvaluation (s : State) : Host.Outcome State Fault Refusal := event budgetEvaluation s

/-! ## BUDGET (R177 to R179) -/

/-- Trains and figures are at rest, as a raised ceiling needs (R177). -/
def State.atRest (s : State) : Bool :=
  (s.trains.data.all fun t => t.speed == 0)
  && s.axes.data.all fun a => a.state != .starting && a.state != .running

/-- `BUDGET CEILING n` (R177). -/
def takeBudgetCeiling (n : Nat) (s : State) : Ans :=
  let v := clampNat 500 20000 n
  unlessBusy s fun s =>
    if s.cfg.ceiling < v ∧ s.atRest = false then refuse .motion s
    else takenClamped (decide (v ≠ n)) (s.withCfg { s.cfg with ceiling := v })

/-- `BUDGET LAMP mA` (R178). -/
def takeBudgetLamp (mA : Nat) (s : State) : Ans :=
  if mA < 1 ∨ 100 < mA then refuse .range s
  else unlessBusy s fun s => taken (s.withCfg { s.cfg with lampRating := mA })

/-- `BUDGET FLOOD mA` (R178). -/
def takeBudgetFlood (mA : Nat) (s : State) : Ans :=
  if mA < 10 ∨ 3000 < mA then refuse .range s
  else unlessBusy s fun s => taken (s.withCfg { s.cfg with floodRating := mA })

/-- `BUDGET` (R179). -/
def takeBudgetQuery (s : State) : Ans :=
  let a := s.account
  answered [.word a.level.kw, .word .scale, .num a.scale, .word .target, .num a.target, .word .ceiling,
    .num s.cfg.ceiling, .word .lamp, .num s.cfg.lampRating, .word .flood, .num s.cfg.floodRating,
    .word .motion, .num a.motion, .word .fixed, .num a.fixed, .word .demand, .num a.demand,
    .word .total, .num a.total, .word .over, .num a.overCount, .word .under, .num a.underCount] s

def execBudgetCeiling (n : Nat) (s : State) : Host.Outcome State Fault Refusal :=
  command (takeBudgetCeiling n) s
def execBudgetLamp (mA : Nat) (s : State) : Host.Outcome State Fault Refusal :=
  command (takeBudgetLamp mA) s
def execBudgetFlood (mA : Nat) (s : State) : Host.Outcome State Fault Refusal :=
  command (takeBudgetFlood mA) s
def execBudgetQuery (s : State) : Host.Outcome State Fault Refusal := command takeBudgetQuery s

end Sys2Proof.Machine
end

