-- ==== Sys2Proof/Machine/Axes.lean ====
section
/-! DEFINITION. Rotating fixtures (chapter 9): programs, the update tick, index events, timers, the halt,
and the command AXIS. -/

namespace Sys2Proof.Machine

/-! ## Programs (R160) -/

/-- The speed of the last point of a list. -/
def lastSpeed (ps : List (Nat × Nat)) : Nat := (ps.getLast?.map Prod.snd).getD 0

/-- A program's value at a scene time: the point with the greatest time not after it, or the last point
carried over midnight (R160). -/
def programValue (ps : List (Nat × Nat)) (t : Nat) : Nat :=
  match (ps.filter fun p => decide (p.1 ≤ t)).getLast? with
  | some p => p.2
  | none => lastSpeed ps

/-- Every axis's program value worked out at a scene time (R160). -/
def setProgramValues (t : Nat) (s : State) : State :=
  s.withAxes (s.axes.mapIdx fun n a => { a with program := programValue (s.cfg.axes.get n).program t })

/-- A point put in its place, in time order (R160). -/
def putPoint (t v : Nat) : List (Nat × Nat) → List (Nat × Nat)
  | [] => [(t, v)]
  | p :: ps =>
    if t < p.1 then (t, v) :: p :: ps
    else if t = p.1 then (t, v) :: ps
    else p :: putPoint t v ps

/-! ## Asking the channel (R162, R163) -/

/-- The definition of an axis. -/
def State.axisDef (s : State) (n : Axis) : AxisDef := s.cfg.axes.get n

/-- The axis sends its duty, in its direction, to its channel. -/
def sendAxisDuty (n : Axis) (s : State) : State :=
  dutyRequest (axisChannel n) ⟨(s.axes.get n).duty, (s.axisDef n).direction⟩ s

/-! ## The update tick (R161, R162) -/

/-- The commanded speed of an axis (R161). -/
def State.commanded (s : State) (n : Axis) : Nat :=
  let a := s.axes.get n
  let v := a.override.getD a.program
  if s.account.axisLimit then v / 2 else v

/-- A value moves toward another by at most a step. -/
def slewToward (step goal v : Nat) : Nat :=
  if v < goal then min (v + step) goal else max (v - step) goal

/-- The slew step (R162). -/
def slewStep (slew : Nat) : Nat := if slew / 10 = 0 then 1 else slew / 10

/-- Step 1: the effective target (R162). -/
def slewAxis (d : AxisDef) (cmd : Nat) (a : AxisRun) : AxisRun :=
  match a.state with
  | .stalled => { a with target := 0 }
  | .halted => { a with target := 0 }
  | .stopped | .starting | .running | .stopping =>
    { a with target := slewToward (slewStep d.slew) cmd a.target }

/-- The axis enters STOPPING (R162). -/
def AxisRun.beginStop (a : AxisRun) : AxisRun :=
  { a with state := .stopping, duty := 0, stallTimer := none, stopTimer := true }

/-- Step 2: the state (R162). -/
def startOrStop (d : AxisDef) (a : AxisRun) : AxisRun :=
  match a.state with
  | .stopped =>
    if 0 < a.target then
      { a with state := .starting, duty := d.kick, stallTimer := some d.stallLimit }
    else a
  | .starting => if a.target = 0 then a.beginStop else a
  | .running => if a.target = 0 then a.beginStop else a
  | .stopping => a
  | .stalled => a
  | .halted => a

/-- An update tick; none occurs before `#READY` (R162). -/
def updateTick (n : Axis) (s : State) : State :=
  if s.sys.ready then
    let d := s.axisDef n
    let cmd := s.commanded n
    sendAxisDuty n (s.modAxis n fun a => startOrStop d (slewAxis d cmd a))
  else s

def execUpdateTick (n : Axis) (s : State) : Host.Outcome State Fault Refusal :=
  event (updateTick n) s

/-! ## Index events (R163, R164) -/

/-- The measured speed from two stamps (R164). -/
def speedFrom (last stamp : Nat) : Nat :=
  600000 / max 100 ((stamp + Config.msModulus - last) % Config.msModulus)

/-- The measured speed at a stamp; with no last index it is a free value, held within the field's range
(R164; log 22). -/
def measuredSpeed (draw : Nat) (last : Option Nat) (stamp : Nat) : Nat :=
  match last with
  | some l => speedFrom l stamp
  | none => min 6000 (Config.freeSpeed draw)

/-- The duty corrected by the speed loop (R164). -/
def correctedDuty (d : AxisDef) (target measured duty : Nat) : Nat :=
  clampInt d.maxDuty ((duty : Int) + ((((target : Int) - measured) * d.gain).tdiv 256))

/-- What an index event does to the axis record (R163). An axis that goes from STARTING to STOPPING without an
index keeps a stamp recorded before it started; R163 says of such a stamp both that it gives no measurement and
that an index in STOPPING measures from the last one: the model measures from it (DESIGN CHOICE, log 51). -/
def indexAxis (d : AxisDef) (draw stamp : Nat) (a : AxisRun) : AxisRun :=
  match a.state with
  | .starting =>
    { a with
      state := .running, duty := min d.kick d.maxDuty, stallTimer := some d.stallLimit
      last := some stamp }
  | .running =>
    let m := measuredSpeed draw a.last stamp
    { a with
      measured := m, duty := correctedDuty d a.target m a.duty, stallTimer := some d.stallLimit
      last := some stamp }
  | .stopping =>
    { a with
      measured := measuredSpeed draw a.last stamp, stopTimer := true, last := some stamp }
  | .stopped | .stalled | .halted => { a with last := some stamp }

/-- An index event measures a speed with no last index. -/
def AxisRun.measuresFree (a : AxisRun) : Bool :=
  a.last.isNone && (a.state == .running || a.state == .stopping)

/-- An index event reaches an axis (R163): a duty it changes is sent at once. -/
def indexEvent (n : Axis) (stamp : Nat) (s : State) : State :=
  let a := s.axes.get n
  let s' := s.modAxis n (indexAxis (s.axisDef n) s.freeDraws stamp)
  let s' := if a.measuresFree then s'.withFreeDraws (s.freeDraws + 1) else s'
  if (s'.axes.get n).duty = a.duty then s' else sendAxisDuty n s'

/-! ## Timers (R165) -/

/-- The stall timer expires (R165). -/
def stallExpiry (n : Axis) (s : State) : State :=
  match (s.axes.get n).stallTimer with
  | none => s
  | some _ =>
    (sendAxisDuty n
      (s.modAxis n fun a =>
        { a with
          state := .stalled, cause := some .index, duty := 0, measured := 0
          stallTimer := none })).raise (.stall n)

/-- The stop timer expires (R165). -/
def stopExpiry (n : Axis) (s : State) : State :=
  if (s.axes.get n).stopTimer then
    s.modAxis n fun a => { a with state := .stopped, measured := 0, stopTimer := false }
  else s

def execStallTimer (n : Axis) (s : State) : Host.Outcome State Fault Refusal :=
  event (stallExpiry n) s
def execStopTimer (n : Axis) (s : State) : Host.Outcome State Fault Refusal :=
  event (stopExpiry n) s

/-! ## CUT and the halt (R166, R167) -/

/-- A CUT notice for an axis's channel (R166). -/
def axisCutNotice (n : Axis) (s : State) : State :=
  s.modAxis n fun a =>
    { a with
      state := .stalled, cause := some .cut, duty := 0, measured := 0, stallTimer := none
      stopTimer := false }

/-- The halt takes an axis that is not STALLED to HALTED (R167). -/
def haltAxis (a : AxisRun) : AxisRun :=
  match a.state with
  | .stalled => a
  | .stopped | .starting | .running | .stopping | .halted =>
    { a with
      state := .halted, duty := 0, measured := 0, target := 0, stallTimer := none
      stopTimer := false }

def haltAxes (s : State) : State := s.withAxes (s.axes.map haltAxis)

/-- A resume notice takes a HALTED axis to STOPPED (R167). -/
def resumeAxis (a : AxisRun) : AxisRun :=
  match a.state with
  | .halted => { a with state := .stopped }
  | .stopped | .starting | .running | .stopping | .stalled => a

def resumeAxes (s : State) : State := s.withAxes (s.axes.map resumeAxis)

/-! ## AXIS (R160, R161, R166, R169) -/

def setAxisDef (n : Axis) (f : AxisDef → AxisDef) (s : State) : State :=
  s.withCfg { s.cfg with axes := s.cfg.axes.modify n f }

/-- A program set: its value is worked out at the present scene time of R160. -/
def setProgram (n : Axis) (ps : List (Nat × Nat)) (s : State) : State :=
  (setAxisDef n (fun d => { d with program := ps }) s).modAxis n
    fun a => { a with program := programValue ps s.clock.noticed }

/-- `AXIS n PROGRAM hh:mm[:ss] v` (R160). -/
def takeAxisProgram (n : Nat) (t : TimeTok) (v : Nat) (s : State) : Ans :=
  match asId 4 n, timeValue t with
  | some n, some t =>
    if 600 < v then refuse .range s
    else unlessBusy s fun s =>
      let ps := (s.axisDef n).program
      if Config.maxProgramPoints ≤ ps.length ∧ ¬ ps.any fun p => p.1 == t then refuse .full s
      else taken (setProgram n (putPoint t v ps) s)
  | _, _ => refuse .range s

/-- `AXIS n PROGRAM DROP hh:mm[:ss]` (R160). -/
def takeAxisProgramDrop (n : Nat) (t : TimeTok) (s : State) : Ans :=
  match asId 4 n, timeValue t with
  | some n, some t =>
    unlessBusy s fun s =>
      let ps := (s.axisDef n).program
      if ps.any fun p => p.1 == t then taken (setProgram n (ps.filter fun p => p.1 != t) s)
      else refuse .unknown s
  | _, _ => refuse .range s

/-- `AXIS n PROGRAM NONE` (R160). -/
def takeAxisProgramNone (n : Nat) (s : State) : Ans :=
  match asId 4 n with
  | none => refuse .range s
  | some n => unlessBusy s fun s => taken (setProgram n [] s)

/-- `AXIS n PROGRAM` (R160). -/
def takeAxisProgramQuery (n : Nat) (s : State) : Ans :=
  match asId 4 n with
  | none => refuse .range s
  | some n =>
    let ps := (s.axisDef n).program
    answered (.num ps.length :: ps.flatMap fun p => [.time p.1, .num p.2]) s

/-- A live speed set on an axis (R161). -/
def setAxisOverride (n : Axis) (v : Option Nat) (s : State) : State :=
  s.modAxis n fun a => { a with override := v }

/-- `AXIS n SPEED v` (R161). -/
def takeAxisSpeed (n v : Nat) (s : State) : Ans :=
  match asId 4 n with
  | none => refuse .range s
  | some n => takenClamped (decide (600 < v)) (setAxisOverride n (some (min v 600)) s)

/-- `AXIS n FREE` (R161). -/
def takeAxisFree (n : Nat) (s : State) : Ans :=
  match asId 4 n with
  | none => refuse .range s
  | some n => taken (setAxisOverride n none s)

/-- `AXIS n CLEAR` (R166). -/
def takeAxisClear (n : Nat) (s : State) : Ans :=
  match asId 4 n with
  | none => refuse .range s
  | some n =>
    if (s.axes.get n).state ≠ .stalled then refuse .state s
    else if (s.channels.get (axisChannel n)).state = .cut then refuse .cut s
    else taken (s.modAxis n fun a =>
      { a with state := if s.halt then .halted else .stopped, cause := none, target := 0 })

/-- The states in which a direction is taken (R169). -/
def AxisRun.mayTurn (a : AxisRun) : Bool :=
  match a.state with
  | .stopped | .stalled | .halted => true
  | .starting | .running | .stopping => false

/-- `AXIS n DIRECTION +|-` (R169). -/
def takeAxisDirection (n : Nat) (p : Polarity) (s : State) : Ans :=
  match asId 4 n with
  | none => refuse .range s
  | some n =>
    unlessBusy s fun s =>
      if (s.axes.get n).mayTurn then taken (setAxisDef n (fun d => { d with direction := p }) s)
      else refuse .state s

/-- A definition field of an axis with its range (R169). -/
def defineAxis (n lo hi v : Nat) (f : AxisDef → AxisDef) (s : State) : Ans :=
  match asId 4 n with
  | none => refuse .range s
  | some n =>
    if v < lo ∨ hi < v then refuse .range s
    else unlessBusy s fun s => taken (setAxisDef n f s)

def takeAxisGain (n g : Nat) (s : State) : Ans := defineAxis n 1 64 g (fun d => { d with gain := g }) s
def takeAxisKick (n d : Nat) (s : State) : Ans :=
  defineAxis n 0 255 d (fun x => { x with kick := d }) s
def takeAxisMaxduty (n d : Nat) (s : State) : Ans :=
  defineAxis n 1 255 d (fun x => { x with maxDuty := d }) s
def takeAxisStall (n ms : Nat) (s : State) : Ans :=
  defineAxis n 500 30000 ms (fun x => { x with stallLimit := ms }) s
def takeAxisSlew (n w : Nat) (s : State) : Ans := defineAxis n 1 600 w (fun x => { x with slew := w }) s

/-- `AXIS n` (R169). -/
def takeAxisQuery (n : Nat) (s : State) : Ans :=
  match asId 4 n with
  | none => refuse .range s
  | some n =>
    let a := s.axes.get n
    let d := s.axisDef n
    answered [axisStateTok a.state, .word .cause, optTok causeTok a.cause, .word .cmd,
      .num (s.commanded n), .word .target, .num a.target, .word .meas, .num a.measured, .word .duty,
      .num a.duty, .word .override, optTok .num a.override, .word .last, optTok .num a.last,
      .word .dir, polTok d.direction, .word .gain, .num d.gain, .word .kick, .num d.kick, .word .max,
      .num d.maxDuty, .word .stall, .num d.stallLimit, .word .slew, .num d.slew] s

def execAxisProgram (n : Nat) (t : TimeTok) (v : Nat) (s : State) :
    Host.Outcome State Fault Refusal := command (takeAxisProgram n t v) s
def execAxisProgramDrop (n : Nat) (t : TimeTok) (s : State) : Host.Outcome State Fault Refusal :=
  command (takeAxisProgramDrop n t) s
def execAxisProgramNone (n : Nat) (s : State) : Host.Outcome State Fault Refusal :=
  command (takeAxisProgramNone n) s
def execAxisProgramQuery (n : Nat) (s : State) : Host.Outcome State Fault Refusal :=
  command (takeAxisProgramQuery n) s
def execAxisSpeed (n v : Nat) (s : State) : Host.Outcome State Fault Refusal :=
  command (takeAxisSpeed n v) s
def execAxisFree (n : Nat) (s : State) : Host.Outcome State Fault Refusal :=
  command (takeAxisFree n) s
def execAxisClear (n : Nat) (s : State) : Host.Outcome State Fault Refusal :=
  command (takeAxisClear n) s
def execAxisDirection (n : Nat) (p : Polarity) (s : State) : Host.Outcome State Fault Refusal :=
  command (takeAxisDirection n p) s
def execAxisGain (n g : Nat) (s : State) : Host.Outcome State Fault Refusal :=
  command (takeAxisGain n g) s
def execAxisKick (n d : Nat) (s : State) : Host.Outcome State Fault Refusal :=
  command (takeAxisKick n d) s
def execAxisMaxduty (n d : Nat) (s : State) : Host.Outcome State Fault Refusal :=
  command (takeAxisMaxduty n d) s
def execAxisStall (n ms : Nat) (s : State) : Host.Outcome State Fault Refusal :=
  command (takeAxisStall n ms) s
def execAxisSlew (n w : Nat) (s : State) : Host.Outcome State Fault Refusal :=
  command (takeAxisSlew n w) s
def execAxisQuery (n : Nat) (s : State) : Host.Outcome State Fault Refusal :=
  command (takeAxisQuery n) s

end Sys2Proof.Machine
end

