-- ==== Sys2Proof/Machine/Layout.lean ====
section
/-! DEFINITION. The layout (chapter 6, first half): sections and their ends, units, the ways in which
sections meet, routes against the layout, and the commands SECTION, TURNOUT LEGS and DROP, RUN and
MARK. -/

namespace Sys2Proof.Machine

/-! ## Sections, ends and units (R91, R97) -/

/-- What the named end of a section meets. -/
def SectionDef.link (d : SectionDef) : End → EndLink
  | .a => d.endA
  | .b => d.endB

def SectionDef.setLink (d : SectionDef) (l : EndLink) : End → SectionDef
  | .a => { d with endA := l }
  | .b => { d with endB := l }

/-- What a section end meets; an undefined section's end meets nothing. -/
def Scene.link (c : Scene) (x : SecEnd) : EndLink :=
  match c.sections.get x.sec with
  | none => .buffer
  | some d => d.link x.e

def Scene.setLink (c : Scene) (x : SecEnd) (l : EndLink) : Scene :=
  { c with sections := c.sections.modify x.sec fun d => d.map fun d => d.setLink l x.e }

/-- The length of a section in mm. -/
def Scene.lengthOf (c : Scene) (x : Section) : Nat :=
  match c.sections.get x with
  | none => 0
  | some d => d.length

/-- The run a section is a member of (R96). -/
def Scene.runOf (c : Scene) (x : Section) : Option RunId :=
  (ids 6).find? fun r =>
    match c.runs.get r with
    | none => false
    | some xs => xs.contains x

/-- The lower-numbered of two sections. -/
def lower (x y : Section) : Section := if x.val ≤ y.val then x else y

/-- The key section of the unit a defined section lies in (R97). -/
def Scene.unitKey (c : Scene) (x : Section) : Option Section :=
  match c.sections.get x with
  | none => none
  | some _ =>
    match (c.runOf x).bind fun r => c.runs.get r with
    | none => some x
    | some xs => some (xs.foldl lower x)

/-- The sections of the unit with key section u, ascending (R97). -/
def Scene.unitSections (c : Scene) (u : Section) : List Section :=
  (ids 20).filter fun x => c.unitKey x == some u

/-- The holder of the unit a section lies in. -/
def State.holderOf (s : State) (x : Section) : Option Train :=
  match s.cfg.unitKey x with
  | none => none
  | some u => (s.units.get u).holder

/-- A unit is blocked while it has no holder and one of its sections is OCCUPIED (R112). -/
def State.blocked (s : State) (u : Section) : Bool :=
  (s.units.get u).holder.isNone && (s.cfg.unitSections u).any s.occupied

/-- A defined section is stray while it is OCCUPIED and its unit has no holder (R114). -/
def State.stray (s : State) (x : Section) : Bool :=
  s.cfg.defined x && s.occupied x && (s.holderOf x).isNone

/-- A train holds the unit of a section. -/
def State.holds (s : State) (n : Train) (x : Section) : Bool :=
  match s.cfg.unitKey x with
  | none => false
  | some u => (s.trains.get n).holdings.contains u

/-! ## The ways in which sections meet (R94) -/

/-- The section ends by which a train that leaves section x by end e can enter a section, each with the
turnout and branch it passes, or none (R94): end to end, or through a turnout, the normal leg before the
reverse leg. -/
def Scene.exits (c : Scene) (x : Section) (e : End) : List (SecEnd × Option (TurnoutId × Branch)) :=
  match c.link ⟨x, e⟩ with
  | .buffer => []
  | .join u f => [(⟨u, f⟩, none)]
  | .leg t .trunk =>
    match c.turnouts.get t with
    | none => []
    | some d => [(d.normal, some (t, .normal)), (d.reverse, some (t, .reverse))]
  | .leg t (.branch b) =>
    match c.turnouts.get t with
    | none => []
    | some d => [(d.trunk, some (t, b))]

/-- Section x, left by end e, meets the section of `y` by its end (R94). -/
def Scene.meets (c : Scene) (x : Section) (e : End) (y : SecEnd) : Bool :=
  (c.exits x e).any fun p => p.1 == y

/-- The turnout and branch that lie between end e of section x and end `y`, as the layout lies (R94). -/
def Scene.viaTo (c : Scene) (x : Section) (e : End) (y : SecEnd) : Option (TurnoutId × Branch) :=
  ((c.exits x e).find? fun p => p.1 == y).bind Prod.snd

/-- The ends by which section u can be entered from end e of section x. -/
def Scene.waysTo (c : Scene) (x : Section) (e : End) (u : Section) : List End :=
  ((c.exits x e).filter fun p => p.1.sec == u).map fun p => p.1.e

/-! ## Routes against the layout (R99, R149) -/

/-- The entry ends along a list of sections, from section x left by end e: the first choice for which the
whole list can be passed (R149; log 17). -/
def Scene.chooseWays (c : Scene) (x : Section) (e : End) : List Section → Option (List SecEnd)
  | [] => some []
  | u :: us =>
    (c.waysTo x e u).findSome? fun f =>
      (c.chooseWays u (other f) us).map fun rest => ⟨u, f⟩ :: rest

/-- A route's position leads into another as the layout lies: left by the end opposite its entry end, it
meets the other's entry end (R94, R149). -/
def Scene.leadsTo (c : Scene) (p q : RoutePos) : Bool :=
  c.meets p.sec (other p.entry) ⟨q.sec, q.entry⟩

/-- A route's consecutive positions still meet by the ends the route uses, and with the loop flag ON the
last one and position 0 (R99, R149). -/
def Scene.waysHold (c : Scene) (r : RouteDef) : List RoutePos → Bool
  | [] => true
  | [p] => !r.loop || r.positions.head?.all (c.leadsTo p)
  | p :: q :: ps => c.leadsTo p q && c.waysHold r (q :: ps)

/-- A stop mark may serve a stop in section x: it is defined there and of kind STOP (R99, R150). -/
def Scene.stopMarkFits (c : Scene) (x : Section) (m : MarkId) : Bool :=
  match c.marks.get m with
  | none => false
  | some d => d.sec == x && d.kind == .stop

/-- Every stop mark a route names may serve its stop. -/
def Scene.stopsHold (c : Scene) (r : RouteDef) : Bool :=
  r.positions.all fun p =>
    match p.stop with
    | none => true
    | some st =>
      match st.mark with
      | none => true
      | some m => c.stopMarkFits p.sec m

/-- The layout and the defined routes agree (R99). -/
def Scene.routesAgree (c : Scene) : Bool :=
  c.routes.data.all fun r =>
    match r with
    | none => true
    | some r => c.waysHold r r.positions && c.stopsHold r

/-! ## Taking a layout command (R99) -/

/-- A layout command whose tokens and ranges are in order: `BUSY`, then `LAYOUT` (R99). -/
def layoutEdit (s : State) (f : State → Ans) : Ans :=
  if s.busy then refuse .busy s else if s.anyPlaced then refuse .layout s else f s

/-- The sections that are stray, ascending. -/
def State.strays (s : State) : List Section := (ids 20).filter s.stray

/-- Each of the sections is reported as a stray. -/
def reportStrays (xs : List Section) (s : State) : State :=
  xs.foldl (fun s x => s.raise (.stray x)) s

/-- The units are rebuilt under a new configuration: every record starts free, and a section that
becomes stray is reported (R97, R112, R114). -/
def rebuildUnits (c : Scene) (s : State) : State :=
  let s' := (s.withCfg c).withUnits (Table.replicate 20 UnitRec.free)
  reportStrays (s'.strays.filter fun x => !s.stray x) s'

/-- The layout changes without a rebuild, unless a route would no longer agree with it (R99). -/
def layoutTaken (c : Scene) (s : State) : Ans :=
  if c.routesAgree then taken (s.withCfg c) else refuse .conflict s

/-- The layout changes and the units are rebuilt, unless a route would no longer agree (R97, R99). -/
def layoutRebuilt (c : Scene) (s : State) : Ans :=
  if c.routesAgree then taken (rebuildUnits c s) else refuse .conflict s

/-! ## SECTION (R92, R93) -/

/-- A defined mark of section x lies beyond a length (R92). -/
def Scene.markBeyond (c : Scene) (x : Section) (mm : Nat) : Bool :=
  c.marks.data.any fun m =>
    match m with
    | none => false
    | some d => d.sec == x && decide (mm < d.offset)

/-- `SECTION n LENGTH mm` (R92). -/
def takeSectionLength (n mm : Nat) (s : State) : Ans :=
  match asId 20 n with
  | none => refuse .range s
  | some x =>
    if mm < 100 ∨ 9999 < mm then refuse .range s
    else layoutEdit s fun s =>
      if s.cfg.markBeyond x mm then refuse .conflict s
      else
        match s.cfg.sections.get x with
        | none =>
          layoutRebuilt
            { s.cfg with sections := s.cfg.sections.set x (some ⟨mm, .buffer, .buffer⟩) } s
        | some d =>
          layoutTaken { s.cfg with sections := s.cfg.sections.set x (some { d with length := mm }) } s

/-- Something of the layout names section x (R92). -/
def Scene.sectionNamed (c : Scene) (x : Section) : Bool :=
  c.link ⟨x, .a⟩ != .buffer || c.link ⟨x, .b⟩ != .buffer || (c.runOf x).isSome
  || (c.marks.data.any fun m =>
      match m with
      | none => false
      | some d => d.sec == x)
  || (c.crossings.data.any fun k =>
      match k with
      | none => false
      | some d => d.sec == x)
  || c.routes.data.any fun r =>
      match r with
      | none => false
      | some d => d.positions.any fun p => p.sec == x

/-- `SECTION n DROP` (R92). -/
def takeSectionDrop (n : Nat) (s : State) : Ans :=
  match asId 20 n with
  | none => refuse .range s
  | some x =>
    layoutEdit s fun s =>
      match s.cfg.sections.get x with
      | none => taken s
      | some _ =>
        if s.cfg.sectionNamed x then refuse .conflict s
        else layoutRebuilt { s.cfg with sections := s.cfg.sections.set x none } s

/-- `SECTION n A|B s A|B` (R93). -/
def takeSectionJoin (n : Nat) (e : End) (u : EndTok) (s : State) : Ans :=
  match asId 20 n, endValue u with
  | some x, some y =>
    layoutEdit s fun s =>
      if s.cfg.defined x = false ∨ s.cfg.defined y.sec = false then refuse .unknown s
      else if x = y.sec ∨ s.cfg.link ⟨x, e⟩ ≠ .buffer ∨ s.cfg.link y ≠ .buffer then
        refuse .conflict s
      else layoutTaken ((s.cfg.setLink ⟨x, e⟩ (.join y.sec y.e)).setLink y (.join x e)) s
  | _, _ => refuse .range s

/-- `SECTION n A|B BUFFER` (R93). -/
def takeSectionBuffer (n : Nat) (e : End) (s : State) : Ans :=
  match asId 20 n with
  | none => refuse .range s
  | some x =>
    layoutEdit s fun s =>
      if s.cfg.defined x = false then refuse .unknown s
      else
        match s.cfg.link ⟨x, e⟩ with
        | .buffer => taken s
        | .join y f => layoutTaken ((s.cfg.setLink ⟨x, e⟩ .buffer).setLink ⟨y, f⟩ .buffer) s
        | .leg _ _ => refuse .conflict s

/-- A section end's link as a query writes it (R93). -/
def linkToks : EndLink → List Tok
  | .buffer => [.word .buffer]
  | .join y f => [.word .join, idTok y, endTok f]
  | .leg t l => [.word .leg, idTok t, legTok l]

/-- `SECTION n` (R93). -/
def takeSectionQuery (n : Nat) (s : State) : Ans :=
  match asId 20 n with
  | none => refuse .range s
  | some x =>
    match s.cfg.sections.get x with
    | none => answered [.word .none] s
    | some d =>
      answered ([.word .length, .num d.length, .word .a] ++ linkToks d.endA ++ [.word .b]
        ++ linkToks d.endB ++ [.word .run, optTok idTok (s.cfg.runOf x), .word .unit,
          optTok idTok (s.cfg.unitKey x)]) s

def execSectionLength (n mm : Nat) (s : State) : Host.Outcome State Fault Refusal :=
  command (takeSectionLength n mm) s
def execSectionDrop (n : Nat) (s : State) : Host.Outcome State Fault Refusal :=
  command (takeSectionDrop n) s
def execSectionJoin (n : Nat) (e : End) (u : EndTok) (s : State) :
    Host.Outcome State Fault Refusal := command (takeSectionJoin n e u) s
def execSectionBuffer (n : Nat) (e : End) (s : State) : Host.Outcome State Fault Refusal :=
  command (takeSectionBuffer n e) s
def execSectionQuery (n : Nat) (s : State) : Host.Outcome State Fault Refusal :=
  command (takeSectionQuery n) s

/-! ## TURNOUT LEGS and DROP (R95) -/

/-- The driver has a pulse in flight on a turnout or holds an entry for it (R95). -/
def Driver.concerns (d : Driver) (t : TurnoutId) : Bool :=
  (match d.pulse with
    | none => false
    | some p => p.entry.t == t)
  || d.queue.any fun e => e.t == t

/-- The legs of a turnout released: their ends count as BUFFER (R95). -/
def Scene.releaseLegs (c : Scene) (t : TurnoutId) : Scene :=
  match c.turnouts.get t with
  | none => c
  | some d => ((c.setLink d.trunk .buffer).setLink d.normal .buffer).setLink d.reverse .buffer

/-- The legs of a turnout defined (R95). -/
def Scene.attachLegs (c : Scene) (t : TurnoutId) (d : TurnoutDef) : Scene :=
  let c := { c with turnouts := c.turnouts.set t (some d) }
  ((c.setLink d.trunk (.leg t .trunk)).setLink d.normal (.leg t (.branch .normal))).setLink
    d.reverse (.leg t (.branch .reverse))

/-- The three ends may not be the legs of one turnout, the old legs released (R95). -/
def Scene.legsClash (c : Scene) (d : TurnoutDef) : Bool :=
  d.trunk == d.normal || d.trunk == d.reverse || d.normal == d.reverse
  || c.link d.trunk != .buffer || c.link d.normal != .buffer || c.link d.reverse != .buffer
  || d.trunk.sec == d.normal.sec || d.trunk.sec == d.reverse.sec

/-- `TURNOUT t LEGS trunk normal reverse` (R95). -/
def takeTurnoutLegs (t : Nat) (trunk normal reverse : EndTok) (s : State) : Ans :=
  match asId 8 t, endValue trunk, endValue normal, endValue reverse with
  | some t, some p, some q, some r =>
    layoutEdit s fun s =>
      if s.cfg.defined p.sec = false ∨ s.cfg.defined q.sec = false ∨ s.cfg.defined r.sec = false then
        refuse .unknown s
      else if s.driver.concerns t then refuse .state s
      else if (s.cfg.releaseLegs t).legsClash ⟨p, q, r⟩ then refuse .conflict s
      else layoutTaken ((s.cfg.releaseLegs t).attachLegs t ⟨p, q, r⟩) s
  | _, _, _, _ => refuse .range s

/-- `TURNOUT t DROP` (R95): the points read UNKNOWN from then on. -/
def takeTurnoutDrop (t : Nat) (s : State) : Ans :=
  match asId 8 t with
  | none => refuse .range s
  | some t =>
    layoutEdit s fun s =>
      match s.cfg.turnouts.get t with
      | none => taken s
      | some _ =>
        if s.driver.concerns t then refuse .state s
        else
          let c := s.cfg.releaseLegs t
          let c := { c with turnouts := c.turnouts.set t none }
          if c.routesAgree then
            taken ((s.withCfg c).withDriver
              { s.driver with points := s.driver.points.set t none })
          else refuse .conflict s

def execTurnoutLegs (t : Nat) (trunk normal reverse : EndTok) (s : State) :
    Host.Outcome State Fault Refusal := command (takeTurnoutLegs t trunk normal reverse) s
def execTurnoutDrop (t : Nat) (s : State) : Host.Outcome State Fault Refusal :=
  command (takeTurnoutDrop t) s

/-! ## RUN (R96) -/

/-- Some section of a list is a member of a run other than r (R96). -/
def Scene.inOtherRun (c : Scene) (r : RunId) (xs : List Section) : Bool :=
  xs.any fun x =>
    match c.runOf x with
    | none => false
    | some r' => r' != r

/-- `RUN r s s …` (R96). -/
def takeRunDefine (r : Nat) (secs : List Nat) (s : State) : Ans :=
  match asId 6 r, asIds 20 secs with
  | some r, some xs =>
    if xs.length < 2 ∨ 8 < xs.length then refuse .range s
    else layoutEdit s fun s =>
      if xs.any fun x => !s.cfg.defined x then refuse .unknown s
      else if ¬ xs.Nodup ∨ s.cfg.inOtherRun r xs then refuse .conflict s
      else layoutRebuilt { s.cfg with runs := s.cfg.runs.set r (some xs) } s
  | _, _ => refuse .range s

/-- `RUN r DROP` (R96). -/
def takeRunDrop (r : Nat) (s : State) : Ans :=
  match asId 6 r with
  | none => refuse .range s
  | some r =>
    layoutEdit s fun s =>
      match s.cfg.runs.get r with
      | none => taken s
      | some _ => layoutRebuilt { s.cfg with runs := s.cfg.runs.set r none } s

/-- `RUN r` (R96). -/
def takeRunQuery (r : Nat) (s : State) : Ans :=
  match asId 6 r with
  | none => refuse .range s
  | some r =>
    match s.cfg.runs.get r with
    | none => answered [.word .none] s
    | some xs => answered (.num xs.length :: xs.map idTok) s

def execRunDefine (r : Nat) (secs : List Nat) (s : State) : Host.Outcome State Fault Refusal :=
  command (takeRunDefine r secs) s
def execRunDrop (r : Nat) (s : State) : Host.Outcome State Fault Refusal :=
  command (takeRunDrop r) s
def execRunQuery (r : Nat) (s : State) : Host.Outcome State Fault Refusal :=
  command (takeRunQuery r) s

/-! ## MARK (R98) -/

/-- The offset lies beyond the end of a defined section (R98). -/
def Scene.offsetBeyond (c : Scene) (x : Section) (mm : Nat) : Bool :=
  match c.sections.get x with
  | none => false
  | some d => decide (d.length < mm)

/-- `MARK m s mm POSITION|STOP` (R98). -/
def takeMarkDefine (m sec mm : Nat) (kind : MarkKind) (s : State) : Ans :=
  match asId 16 m, asId 20 sec with
  | some m, some x =>
    if s.cfg.offsetBeyond x mm then refuse .range s
    else layoutEdit s fun s =>
      if s.cfg.defined x = false then refuse .unknown s
      else layoutTaken { s.cfg with marks := s.cfg.marks.set m (some ⟨x, mm, kind⟩) } s
  | _, _ => refuse .range s

/-- `MARK m DROP` (R98). -/
def takeMarkDrop (m : Nat) (s : State) : Ans :=
  match asId 16 m with
  | none => refuse .range s
  | some m => layoutEdit s fun s => layoutTaken { s.cfg with marks := s.cfg.marks.set m none } s

/-- `MARK m` (R98). -/
def takeMarkQuery (m : Nat) (s : State) : Ans :=
  match asId 16 m with
  | none => refuse .range s
  | some m =>
    match s.cfg.marks.get m with
    | none => answered [.word .none] s
    | some d => answered [idTok d.sec, .num d.offset, markKindTok d.kind] s

def execMarkDefine (m sec mm : Nat) (kind : MarkKind) (s : State) :
    Host.Outcome State Fault Refusal := command (takeMarkDefine m sec mm kind) s
def execMarkDrop (m : Nat) (s : State) : Host.Outcome State Fault Refusal :=
  command (takeMarkDrop m) s
def execMarkQuery (m : Nat) (s : State) : Host.Outcome State Fault Refusal :=
  command (takeMarkQuery m) s

end Sys2Proof.Machine
end

