-- ==== Sys2Proof/Machine/Path.lean ====
section
/-! DEFINITION. A train's path, the walk along it, its authority end and powered set (chapter 7,
sections 7.5 to 7.7). -/

namespace Sys2Proof.Machine

/-! ## The path (R124) -/

/-- An element of a path: the section, its entry end, the turnout and branch by which the path reaches it,
and, in the stop section, its stop mark or none. -/
structure PathElt where
  sec : Section
  entry : End
  via : Option (TurnoutId × Branch)
  stop : Option (Option MarkId)
deriving DecidableEq, Repr

/-- The travel polarity of a section entered by an end (R124). -/
def travelPol : End → Polarity
  | .a => .plus
  | .b => .minus

/-- The head of a span, its last section (R113). -/
def TrainRun.head (t : TrainRun) : Option SpanElt := t.span.getLast?

/-- Section x lies in the span. -/
def TrainRun.spans (t : TrainRun) (x : Section) : Bool := t.span.any fun e => e.sec == x

/-- A train follows a route's position. -/
def RouteDef.at (r : RouteDef) (i : Nat) : Option RoutePos := r.positions[i]?

/-- The stop mark, or none, of a position with a stop. -/
def RoutePos.stopMark (p : RoutePos) : Option (Option MarkId) := p.stop.map fun st => st.mark

/-- The positions after route position i; on a loop route they run on from position 0, up to position i
again (R124, R141). -/
def RouteDef.ahead (r : RouteDef) (i : Nat) : List RoutePos :=
  r.positions.drop (i + 1) ++ if r.loop then r.positions.take (i + 1) else []

/-- The elements of a path after end e of section x, up to and including the first stop (R124). The
turnout passed is the one that lies between the two ends (R94). -/
def pathToStop (c : Scene) (x : Section) (e : End) : List RoutePos → List PathElt
  | [] => []
  | p :: ps =>
    let q : PathElt := ⟨p.sec, p.entry, c.viaTo x e ⟨p.sec, p.entry⟩, p.stopMark⟩
    if p.stop.isSome then [q] else q :: pathToStop c p.sec (other p.entry) ps

/-- The path of a train on route r at index i whose head is at h (R124). -/
def routePath (c : Scene) (r : RouteDef) (i : Nat) (served : Bool) (h : SpanElt) : List PathElt :=
  match (if served then none else (r.at i).bind RoutePos.stopMark) with
  | some m => [⟨h.sec, h.entry, none, some m⟩]
  | none => ⟨h.sec, h.entry, none, none⟩ :: pathToStop c h.sec (other h.entry) (r.ahead i)

/-- What the far end of a section leads to as the layout lies (R124). -/
inductive Onward where
  | bufferStop
  | ends
  | into (e : PathElt)
deriving DecidableEq, Repr

/-- The far end of a section entered by an end (R124). -/
def onward (c : Scene) (points : Table Points 8) (x : Section) (entry : End) : Onward :=
  match c.link ⟨x, other entry⟩ with
  | .buffer => .bufferStop
  | .join u f => .into ⟨u, f, none, none⟩
  | .leg t .trunk =>
    match c.turnouts.get t, points.get t with
    | some d, some .normal => .into ⟨d.normal.sec, d.normal.e, some (t, .normal), none⟩
    | some d, some .reverse => .into ⟨d.reverse.sec, d.reverse.e, some (t, .reverse), none⟩
    | _, _ => .ends
  | .leg t (.branch b) =>
    match c.turnouts.get t with
    | none => .ends
    | some d =>
      if points.get t = some b then .into ⟨d.trunk.sec, d.trunk.e, some (t, b), none⟩ else .ends

/-- The CAB path from an element on; `k` more sections may follow. A path that ended at a buffer stop has
its last section as its stop section (R124). -/
def cabPath (c : Scene) (points : Table Points 8) : Nat → List Section → PathElt → List PathElt
  | 0, _, e => [e]
  | k + 1, seen, e =>
    match onward c points e.sec e.entry with
    | .bufferStop => [{ e with stop := some none }]
    | .ends => [e]
    | .into f =>
      if seen.contains f.sec then [e] else e :: cabPath c points k (f.sec :: seen) f

/-- A train's path, head section first (R124). A placed train in ROUTE mode with no route has none; its
authority is walked in its head section alone (log 18). -/
def State.path (s : State) (n : Train) : List PathElt :=
  let t := s.trains.get n
  match t.head with
  | none => []
  | some h =>
    match t.mode with
    | .cab => cabPath s.cfg s.driver.points 20 [h.sec] ⟨h.sec, h.entry, none, none⟩
    | .route =>
      match t.route with
      | none => [⟨h.sec, h.entry, none, none⟩]
      | some (r, i) =>
        match s.cfg.routes.get r with
        | none => [⟨h.sec, h.entry, none, none⟩]
        | some d => routePath s.cfg d i t.served h

/-! ## The walk (R125, R126) -/

/-- A mark's place measured from the entry end, in tenths of a millimetre (R126, R143). -/
def entryRelative (c : Scene) (x : Section) (entry : End) (offset : Nat) : Nat :=
  match entry with
  | .a => 10 * offset
  | .b => 10 * (c.lengthOf x - offset)

/-- The stop point of a stop section (R126). -/
def stopPoint (c : Scene) (x : Section) (entry : End) : Option MarkId → Nat
  | none => 10 * (c.lengthOf x - Config.stopShort)
  | some m =>
    match c.marks.get m with
    | none => 10 * (c.lengthOf x - Config.stopShort)
    | some d => entryRelative c x entry d.offset

/-- What a walk has found: the distance, whether it stopped at the stop point of the next stop, the
sections within, and the path left. -/
structure Walk where
  dist : Int
  atStop : Bool
  within : List PathElt
  rest : List PathElt
deriving DecidableEq, Repr

/-- The section is the crossing section of a defined crossing that is not PROTECTED (R125). -/
def State.crossingBars (s : State) (x : Section) : Bool :=
  (ids 2).any fun k =>
    match s.cfg.crossings.get k with
    | none => false
    | some d => d.sec == x && (s.crossings.get k).state != .protectedBy

/-- The path reaches an element through a turnout that does not hold the branch used (R125). -/
def State.pointsBar (s : State) (p : PathElt) : Bool :=
  match p.via with
  | none => false
  | some (t, b) => s.driver.points.get t != some b

/-- The walk stops before an element (R125); without `full`, as the look-ahead walks, turnout positions
and crossing states do not stop it (R153). -/
def State.walkStops (s : State) (n : Train) (full : Bool) (walked : List PathElt) (p : PathElt) : Bool :=
  (s.trains.get n).spans p.sec
  || (walked.any fun e => e.sec == p.sec)
  || (full && s.pointsBar p)
  || !s.holds n p.sec
  || (full && s.crossingBars p.sec)

/-- The walk over the sections that follow (R125, steps 2 and 3). -/
def State.walkOn (s : State) (n : Train) (full : Bool) : List PathElt → Walk → Walk
  | [], w => { w with rest := [] }
  | p :: ps, w =>
    if s.walkStops n full w.within p then { w with rest := p :: ps }
    else
      match p.stop with
      | some m =>
        { dist := w.dist + stopPoint s.cfg p.sec p.entry m
          atStop := true
          within := w.within ++ [p]
          rest := ps }
      | none =>
        s.walkOn n full ps
          { w with dist := w.dist + 10 * s.cfg.lengthOf p.sec, within := w.within ++ [p] }

/-- The walk of a train's path (R125). -/
def State.walk (s : State) (n : Train) (full : Bool) : Walk :=
  let pos : Int := (s.trains.get n).headPos
  match s.path n with
  | [] => ⟨0, false, [], []⟩
  | p :: ps =>
    match p.stop with
    | some m => ⟨max 0 (stopPoint s.cfg p.sec p.entry m - pos), true, [p], ps⟩
    | none => s.walkOn n full ps ⟨10 * s.cfg.lengthOf p.sec - pos, false, [p], []⟩

/-- The stop mark, or none, of the train's next stop, when the head section is its stop section. -/
def State.headStop (s : State) (n : Train) : Option (Option MarkId) :=
  match s.path n with
  | [] => none
  | p :: _ => p.stop

/-- The stop mark of the train's next stop. -/
def State.nextStopMark (s : State) (n : Train) : Option MarkId :=
  match (s.path n).getLast? with
  | none => none
  | some p => p.stop.join

/-! ## The authority end and the powered set (R127 to R129) -/

/-- The span and the sections within the authority (R128). A span section that was joined as passed (R142) can
lie in a unit that the train does not hold: R128's powered set takes it in, and R128's sentence on the sense
duty asks for a train that holds its unit. The model keeps it in the set (DESIGN CHOICE, log 48). -/
def poweredSet (t : TrainRun) (w : Walk) : List SpanElt :=
  t.span ++ (w.within.filter fun p => !t.spans p.sec).map
    fun p => ⟨p.sec, p.entry⟩

/-- An element's section is among others. -/
def SpanElt.among (e : SpanElt) (xs : List SpanElt) : Bool := xs.any fun f => f.sec == e.sec

/-- The train's duty asked for a section in its travel polarity (R128). -/
def driveSection (duty : Nat) (s : State) (e : SpanElt) : State :=
  dutyRequest (sectionChannel e.sec) ⟨duty, travelPol e.entry⟩ s

/-- Duty 0 for a section in its channel's applied polarity (R129). -/
def restSection (s : State) (x : Section) : State := dutyZero (sectionChannel x) s

/-- The authority end worked out afresh: a section that joins the powered set is sent the duty of the last
ramp tick, one that leaves it duty 0 (R127 to R129). -/
def refreshAuthority (n : Train) (s : State) : State :=
  let t := s.trains.get n
  if t.placed then
    let w := s.walk n true
    let new := poweredSet t w
    let s := (new.filter fun e => !e.among t.powered).foldl (driveSection t.duty) s
    let s := ((t.powered.filter fun e => !e.among new).map fun e => e.sec).foldl restSection s
    s.modTrain n fun t => { t with authority := some ⟨w.dist, w.atStop⟩, powered := new }
  else s.modTrain n fun t => { t with authority := none, powered := [] }

/-- Duty 0 over the powered set at once (R140, R144). These rules name no polarity: the model sends it in each
channel's applied polarity, as R129 does to a section that leaves the set (DESIGN CHOICE, log 53). -/
def restPowered (n : Train) (s : State) : State :=
  ((s.trains.get n).powered.map fun e => e.sec).foldl restSection s

/-- The sections of the units a train holds. -/
def State.heldSections (s : State) (n : Train) : List Section := (ids 20).filter (s.holds n)

/-- Step 6 of a ramp tick: the train's duty over the powered set, duty 0 over the held sections outside
it (R128, R129, R135). -/
def sendPower (n : Train) (s : State) : State :=
  let t := s.trains.get n
  let s' := t.powered.foldl (driveSection (if t.moving then t.duty else 0)) s
  ((s.heldSections n).filter fun x => !t.powered.any fun e => e.sec == x).foldl restSection s'

/-! ## Notices that concern an authority (R122, R123) -/

/-- The path of a train, up to and including the first section at which its walk stops, passes through
turnout t (R122). -/
def State.passesTurnout (s : State) (t : TurnoutId) (n : Train) : Bool :=
  (s.trains.get n).placed &&
    let w := s.walk n true
    (w.within ++ (if w.atStop then [] else w.rest.take 1)).any fun p =>
      match p.via with
      | none => false
      | some (t', _) => t' == t

/-- A position or completion notice: from one state of the driver to the next, the authority of every
placed train it concerns before or after is worked out afresh (R122; log 29). -/
def turnoutNotice (t : TurnoutId) (old s : State) : State :=
  ((ids 6).filter fun n => old.passesTurnout t n || s.passesTurnout t n).foldl
    (fun s n => refreshAuthority n s) s

/-- A state notice of a crossing: the authority of the train that holds its unit is worked out afresh
(R123). -/
def crossingNotice (k : CrossingId) (s : State) : State :=
  match s.cfg.crossings.get k with
  | none => s
  | some d =>
    match s.holderOf d.sec with
    | none => s
    | some n => refreshAuthority n s

end Sys2Proof.Machine
end

