-- ==== Sys2Proof/Machine/Crossings.lean ====
section
/-! DEFINITION. Level crossings and the bell (chapter 6, sections 6.7 and 6.8), and the commands CROSSING
and BELL. -/

namespace Sys2Proof.Machine

/-! ## The bell (R110, R111) -/

/-- The half-period of a tone in µs (R111). -/
def halfPeriodOf (hz : Nat) : Nat := 500000 / hz

/-- A crossing warns: it is WARNING or PROTECTED. -/
def CrossingRun.warns (k : CrossingRun) : Bool :=
  match k.state with
  | .idle => false
  | .warning => true
  | .protectedBy => true

/-- The bell's condition (R110). -/
def State.bellDue (s : State) : Bool :=
  !s.bell.quiet && (ids 2).any fun k =>
    match s.cfg.crossings.get k with
    | none => false
    | some d => d.bell && (s.crossings.get k).warns

/-- The bell's condition is tested: the bell starts high, and stops low (R110, R111). -/
def bellUpdate (s : State) : State :=
  if s.bellDue then
    if s.bell.sounding then s
    else
      s.withBell
        { s.bell with
          sounding := true, output := true, halfPeriod := some (halfPeriodOf s.cfg.bellTone) }
  else s.withBell { s.bell with sounding := false, output := false, halfPeriod := none }

/-- The half-period timer expires: the output toggles, and the timer restarts with the tone as it stands
(R111). -/
def bellExpiry (s : State) : State :=
  match s.bell.halfPeriod with
  | none => s
  | some _ =>
    s.withBell
      { s.bell with output := !s.bell.output, halfPeriod := some (halfPeriodOf s.cfg.bellTone) }

def execBellHalfPeriod (s : State) : Host.Outcome State Fault Refusal := event bellExpiry s

/-- A scene time lies in the quiet window (R110). -/
def inQuietWindow (w : Option (Nat × Nat)) (t : Nat) : Bool :=
  match w with
  | none => false
  | some (f, e) => if f < e then decide (f ≤ t) && decide (t < e) else decide (f ≤ t) || decide (t < e)

/-- The quiet flag is set from a scene time, and the bell's condition tested (R110). -/
def setQuietFrom (t : Nat) (s : State) : State :=
  bellUpdate (s.withBell { s.bell with quiet := inQuietWindow s.cfg.quietWindow t })

/-! ## Crossings (R106 to R108) -/

/-- The crossing's unit has a holder or waiters (R106). -/
def State.called (s : State) (d : CrossingDef) : Bool :=
  match s.cfg.unitKey d.sec with
  | none => false
  | some u => (s.units.get u).holder.isSome || !(s.units.get u).waiting.isEmpty

/-- Called, or the crossing section is OCCUPIED (R106). -/
def State.demanded (s : State) (d : CrossingDef) : Bool := s.called d || s.occupied d.sec

/-- A claim by crossing k on a lamp is recorded where the lamp holds none (R30). -/
def claimLamp (k : CrossingId) (l : LampRun) : LampRun :=
  match l.claim with
  | none => { l with claim := some k }
  | some _ => l

/-- Crossing k's claim on a lamp is removed; the other crossing's is left (R30). -/
def unclaimLamp (k : CrossingId) (l : LampRun) : LampRun :=
  if l.claim = some k then { l with claim := none } else l

/-- A recompose request where a lamp's claim was recorded or cleared since the lamps `old` (R30). -/
def requestForClaim (old : Table LampRun 192) (i : LampId) (s : State) : State :=
  if (s.sky.lamps.get i).claim = (old.get i).claim then s else requestRecompose s

/-- A crossing's two lamps changed, with a recompose request for each claim recorded or cleared (R30,
R108; log 10: both fields are written before the first request). -/
def changeClaims (d : CrossingDef) (f : LampRun → LampRun) (s : State) : State :=
  requestForClaim s.sky.lamps d.lampB
    (requestForClaim s.sky.lamps d.lampA
      (s.withSky { s.sky with lamps := (s.sky.lamps.modify d.lampA f).modify d.lampB f }))

/-- Entry to WARNING (R107, R108). -/
def enterWarning (k : CrossingId) (d : CrossingDef) (s : State) : State :=
  let s := s.modCrossing k fun _ => ⟨.warning, false, some d.lead, true⟩
  crossingNotice k (bellUpdate (changeClaims d (claimLamp k) s))

/-- Entry to IDLE (R107, R108). -/
def enterIdle (k : CrossingId) (d : CrossingDef) (s : State) : State :=
  let s := s.modCrossing k fun _ => ⟨.idle, false, none, false⟩
  crossingNotice k (bellUpdate (changeClaims d (unclaimLamp k) s))

/-- A unit notice or an occupancy notice reaches a crossing (R107). -/
def crossingAct (s : State) (k : CrossingId) : State :=
  match s.cfg.crossings.get k with
  | none => s
  | some d =>
    match (s.crossings.get k).state with
    | .idle => if s.called d then enterWarning k d s else s
    | .warning => if s.demanded d then s else enterIdle k d s
    | .protectedBy => if s.demanded d then s else enterIdle k d s

/-- The crossing's section lies in the unit with key section u (R106). -/
def Scene.crossingIn (c : Scene) (u : Section) (k : CrossingId) : Bool :=
  match c.crossings.get k with
  | none => false
  | some d => c.unitKey d.sec == some u

/-- A unit notice (R123): to every crossing whose crossing section lies in the unit (log 36). -/
def unitNotice (u : Section) (s : State) : State :=
  ((ids 2).filter (s.cfg.crossingIn u)).foldl crossingAct s

/-- The lead timer expires (R107). -/
def leadExpiry (k : CrossingId) (s : State) : State :=
  match (s.crossings.get k).leadTimer with
  | none => s
  | some _ =>
    crossingNotice k (bellUpdate
      (s.modCrossing k fun r => { r with state := .protectedBy, leadTimer := none }))

/-- The flash timer expires (R108). -/
def flashExpiry (k : CrossingId) (s : State) : State :=
  if (s.crossings.get k).flashTimer then
    requestRecompose (s.modCrossing k fun r => { r with phase := !r.phase })
  else s

def execLeadTimer (k : CrossingId) (s : State) : Host.Outcome State Fault Refusal :=
  event (leadExpiry k) s
def execFlashTimer (k : CrossingId) (s : State) : Host.Outcome State Fault Refusal :=
  event (flashExpiry k) s

/-! ## CROSSING (R105) -/

/-- The other crossing. -/
def otherCrossing (k : CrossingId) : CrossingId := if k = 0 then 1 else 0

/-- A crossing's lamps or section clash with each other or with the other crossing's (R105). -/
def Scene.crossingClash (c : Scene) (k : CrossingId) (d : CrossingDef) : Bool :=
  d.lampA == d.lampB ||
    match c.crossings.get (otherCrossing k) with
    | none => false
    | some o =>
      d.lampA == o.lampA || d.lampA == o.lampB || d.lampB == o.lampA || d.lampB == o.lampB
      || d.sec == o.sec

/-- The crossing is IDLE. -/
def State.crossingIdle (s : State) (k : CrossingId) : Bool := (s.crossings.get k).state == .idle

/-- `CROSSING c s LAMPS a b FLASH v LEAD n BELL ON|OFF` (R105). -/
def takeCrossingDefine (c sec a b v lead : Nat) (bell : Bool) (s : State) : Ans :=
  match asId 2 c, asId 20 sec, asId 192 a, asId 192 b with
  | some k, some x, some a, some b =>
    if 255 < v ∨ lead < 1 ∨ 10 < lead then refuse .range s
    else layoutEdit s fun s =>
      let d : CrossingDef := ⟨x, a, b, v, lead, bell⟩
      if s.cfg.defined x = false then refuse .unknown s
      else if s.crossingIdle k = false then refuse .state s
      else if s.cfg.crossingClash k d then refuse .conflict s
      else taken (bellUpdate
        (s.withCfg { s.cfg with crossings := s.cfg.crossings.set k (some d) }))
  | _, _, _, _ => refuse .range s

/-- `CROSSING c DROP` (R105). -/
def takeCrossingDrop (c : Nat) (s : State) : Ans :=
  match asId 2 c with
  | none => refuse .range s
  | some k =>
    layoutEdit s fun s =>
      if s.crossingIdle k = false then refuse .state s
      else taken (bellUpdate
        (s.withCfg { s.cfg with crossings := s.cfg.crossings.set k none }))

/-- `CROSSING c` (R105). -/
def takeCrossingQuery (c : Nat) (s : State) : Ans :=
  match asId 2 c with
  | none => refuse .range s
  | some k =>
    match s.cfg.crossings.get k with
    | none => answered [.word .none] s
    | some d =>
      let r := s.crossings.get k
      answered [crossingStateTok r.state, .word .phase, .num (if r.phase then 1 else 0), idTok d.sec,
        .word .lamps, idTok d.lampA, idTok d.lampB, .word .flash, .num d.flash, .word .lead,
        .num d.lead, .word .bell, onOff d.bell] s

def execCrossingDefine (c sec a b v lead : Nat) (bell : Bool) (s : State) :
    Host.Outcome State Fault Refusal := command (takeCrossingDefine c sec a b v lead bell) s
def execCrossingDrop (c : Nat) (s : State) : Host.Outcome State Fault Refusal :=
  command (takeCrossingDrop c) s
def execCrossingQuery (c : Nat) (s : State) : Host.Outcome State Fault Refusal :=
  command (takeCrossingQuery c) s

/-! ## BELL (R111) -/

/-- `BELL TONE hz` (R111). -/
def takeBellTone (hz : Nat) (s : State) : Ans :=
  if hz < 200 ∨ 4000 < hz then refuse .range s
  else unlessBusy s fun s => taken (s.withCfg { s.cfg with bellTone := hz })

/-- A change of the window sets the quiet flag from the present scene time (R110). -/
def setQuietWindow (w : Option (Nat × Nat)) (s : State) : State :=
  setQuietFrom s.clock.time (s.withCfg { s.cfg with quietWindow := w })

/-- `BELL QUIET from to` (R111). -/
def takeBellQuiet (f t : TimeTok) (s : State) : Ans :=
  match timeValue f, timeValue t with
  | some f, some t =>
    if f = t then refuse .range s
    else unlessBusy s fun s => taken (setQuietWindow (some (f, t)) s)
  | _, _ => refuse .range s

/-- `BELL QUIET NONE` (R111). -/
def takeBellQuietNone (s : State) : Ans :=
  unlessBusy s fun s => taken (setQuietWindow none s)

/-- The quiet window as a query writes it (R111). -/
def windowToks : Option (Nat × Nat) → List Tok
  | none => [.word .none]
  | some (f, t) => [.time f, .time t]

/-- `BELL` (R111). -/
def takeBellQuery (s : State) : Ans :=
  answered ([.word (if s.bell.sounding then .sounding else .silent), .word .tone,
    .num s.cfg.bellTone, .word .quiet] ++ windowToks s.cfg.quietWindow
    ++ [.word .quiet, onOff s.bell.quiet]) s

def execBellTone (hz : Nat) (s : State) : Host.Outcome State Fault Refusal :=
  command (takeBellTone hz) s
def execBellQuiet (f t : TimeTok) (s : State) : Host.Outcome State Fault Refusal :=
  command (takeBellQuiet f t) s
def execBellQuietNone (s : State) : Host.Outcome State Fault Refusal := command takeBellQuietNone s
def execBellQuery (s : State) : Host.Outcome State Fault Refusal := command takeBellQuery s

end Sys2Proof.Machine
end

