-- ==== Sys2Proof/Machine/Turnouts.lean ====
section
/-! DEFINITION. The turnout driver (chapter 6, section 6.6) and the commands TURNOUT THROW, PULSE and the
query. -/

namespace Sys2Proof.Machine

/-- The holder of a turnout's governing unit (R95). -/
def State.governor (s : State) (t : TurnoutId) : Option Train :=
  match s.cfg.turnouts.get t with
  | none => none
  | some d => s.holderOf d.trunk.sec

/-- The train of a request still holds the turnout's governing unit; a line throw needs no holder
(R101, R102). -/
def State.mayThrow (s : State) (e : Throw) : Bool :=
  match e.origin with
  | .line => true
  | .train n => s.governor e.t == some n

/-- The driver is idle: no pulse in flight and no recovery (R100). -/
def Driver.idle (d : Driver) : Bool := d.pulse.isNone && !d.recovery

/-- The driver replaced, and the traffic controller told that turnout t has a new position or has
completed (R102, R122). -/
def driverNotice (t : TurnoutId) (d : Driver) (s : State) : State := turnoutNotice t s (s.withDriver d)

/-- An entry becomes the pulse in flight: its turnout reads UNKNOWN, and the pulse has the length that
stands at this start (R102). -/
def startPulse (e : Throw) (es : List Throw) (s : State) : State :=
  driverNotice e.t
    { s.driver with
      queue := es
      pulse := some ⟨e, s.cfg.pulses.get e.t⟩
      points := s.driver.points.set e.t none } s

/-- The driver takes entries from the head of the queue until one starts a pulse (R102). -/
def takeEntries : List Throw → State → State
  | [], s => s.withDriver { s.driver with queue := [] }
  | e :: es, s =>
    if !s.mayThrow e then takeEntries es s
    else if s.driver.points.get e.t = some e.wanted then
      takeEntries es (driverNotice e.t { s.driver with queue := es } s)
    else startPulse e es s

/-- The wanted position and origin of a turnout's queued entry replaced (R101). -/
def replaceEntry (e : Throw) (q : List Throw) : List Throw :=
  q.map fun x => if x.t = e.t then e else x

/-- A completed line throw is reported (R102, R104). -/
def reportThrow (e : Throw) (s : State) : State :=
  match e.origin with
  | .line => s.raise (.turnout e.t e.wanted)
  | .train _ => s

/-- A throw request reaches the driver (R101). -/
def requestThrow (e : Throw) (s : State) : State :=
  if (s.cfg.turnouts.get e.t).isNone || !s.mayThrow e then s
  else if s.driver.queue.any fun x => x.t == e.t then
    s.withDriver { s.driver with queue := replaceEntry e s.driver.queue }
  else if s.driver.points.get e.t = some e.wanted then
    reportThrow e (driverNotice e.t s.driver s)
  else
    let s := s.withDriver { s.driver with queue := s.driver.queue ++ [e] }
    if s.driver.idle then takeEntries s.driver.queue s else s

/-- The pulse in flight has run its length (R102). -/
def pulseEnd (s : State) : State :=
  match s.driver.pulse with
  | none => s
  | some p =>
    reportThrow p.entry
      (driverNotice p.entry.t
        { s.driver with
          pulse := none
          recovery := true
          points := s.driver.points.set p.entry.t (some p.entry.wanted) } s)

/-- Recovery ends (R102). -/
def recoveryExpiry (s : State) : State :=
  if s.driver.recovery then
    takeEntries s.driver.queue (s.withDriver { s.driver with recovery := false })
  else s

def execPulseComplete (s : State) : Host.Outcome State Fault Refusal := event pulseEnd s
def execRecoveryEnd (s : State) : Host.Outcome State Fault Refusal := event recoveryExpiry s

/-! ## TURNOUT (R104) -/

/-- `TURNOUT t THROW NORMAL|REVERSE` (R104). -/
def takeTurnoutThrow (t : Nat) (pos : Branch) (s : State) : Ans :=
  match asId 8 t with
  | none => refuse .range s
  | some t =>
    match s.cfg.turnouts.get t with
    | none => refuse .unknown s
    | some _ =>
      if (s.governor t).isSome then refuse .state s
      else taken (requestThrow ⟨t, pos, .line⟩ s)

/-- `TURNOUT t PULSE ms` (R104). R104 names the replies `RANGE` and `BUSY` alone, and R185 leaves open whether
the line needs the turnout defined: an undefined turnout is taken (DESIGN CHOICE, log 47). -/
def takeTurnoutPulse (t ms : Nat) (s : State) : Ans :=
  match asId 8 t with
  | none => refuse .range s
  | some t =>
    if ms < 50 ∨ 500 < ms then refuse .range s
    else unlessBusy s fun s => taken (s.withCfg { s.cfg with pulses := s.cfg.pulses.set t ms })

/-- A turnout's activity as a query writes it (R104). A turnout with a pulse in flight can have a new entry
too (R101), for which R104 gives both words: it is written MOVING (DESIGN CHOICE, log 45). -/
def activityToks (d : Driver) (t : TurnoutId) : List Tok :=
  match d.pulse.filter fun p => p.entry.t == t with
  | some p => [.word .moving, branchTok p.entry.wanted]
  | none =>
    match d.queue.find? fun e => e.t == t with
    | some e => [.word .queued, branchTok e.wanted]
    | none => [.word .idle]

/-- A section end as a query writes it. -/
def secEndToks (x : SecEnd) : List Tok := [idTok x.sec, endTok x.e]

/-- `TURNOUT t` (R104). -/
def takeTurnoutQuery (t : Nat) (s : State) : Ans :=
  match asId 8 t with
  | none => refuse .range s
  | some t =>
    match s.cfg.turnouts.get t with
    | none => answered [.word .none, pointsTok (s.driver.points.get t)] s
    | some d =>
      answered ([pointsTok (s.driver.points.get t)] ++ activityToks s.driver t ++ [.word .legs]
        ++ secEndToks d.trunk ++ secEndToks d.normal ++ secEndToks d.reverse
        ++ [.word .pulse, .num (s.cfg.pulses.get t)]) s

def execTurnoutThrow (t : Nat) (pos : Branch) (s : State) : Host.Outcome State Fault Refusal :=
  command (takeTurnoutThrow t pos) s
def execTurnoutPulse (t ms : Nat) (s : State) : Host.Outcome State Fault Refusal :=
  command (takeTurnoutPulse t ms) s
def execTurnoutQuery (t : Nat) (s : State) : Host.Outcome State Fault Refusal :=
  command (takeTurnoutQuery t) s

end Sys2Proof.Machine
end

