-- ==== Sys2Proof/Machine/Reservations.lean ====
section
/-! DEFINITION. Reservations (chapter 7): requests, the deadlock check, grants, releases, withdrawals,
freeing, the throws asked for a train, and the command UNIT. -/

namespace Sys2Proof.Machine

/-! ## Throws asked for a train (R122) -/

/-- The turnouts a path uses ahead of its head, each with the branch of its first use, in path order. -/
def firstUses : List PathElt → List TurnoutId → List (TurnoutId × Branch)
  | [], _ => []
  | p :: ps, seen =>
    match p.via with
    | none => firstUses ps seen
    | some (t, b) => if seen.contains t then firstUses ps seen else (t, b) :: firstUses ps (t :: seen)

/-- The turnout's governing unit is the one with key section u (R95). -/
def Scene.governs (c : Scene) (u : Section) (t : TurnoutId) : Bool :=
  match c.turnouts.get t with
  | none => false
  | some d => c.unitKey d.trunk.sec == some u

/-- The throws that a unit of a train's path calls for (R122). A train in CAB mode asks for none. -/
def askThrows (n : Train) (s : State) (u : Section) : State :=
  match (s.trains.get n).mode with
  | .cab => s
  | .route =>
    ((firstUses (s.path n).tail []).filter fun p => s.cfg.governs u p.1).foldl
      (fun s p => requestThrow ⟨p.1, p.2, .train n⟩ s) s

/-- The throws for every unit in a train's holdings, in holdings order (R122; log 40). -/
def askAllThrows (n : Train) (s : State) : State := (s.trains.get n).holdings.foldl (askThrows n) s

/-! ## Grants (R117) -/

/-- The retry flag of every train whose deadlock mark is set is set (R116). -/
def setRetries (s : State) : State :=
  s.withTrains (s.trains.map fun t => { t with retry := t.retry || t.deadlock })

/-- A unit is granted to a train (R117). With `quiet` the unit notice is left to the caller, as within
the handling of an occupancy transition (R123). -/
def grant (quiet : Bool) (n : Train) (u : Section) (s : State) : State :=
  let s := s.modUnit u fun r => ⟨some n, r.waiting.erase n⟩
  let s := s.modTrain n fun t =>
    { t with
      holdings := t.holdings ++ [u]
      request := if t.request = some u then none else t.request }
  let s := setRetries s
  let s := if quiet then s else unitNotice u s
  refreshAuthority n (askThrows n s u)

/-! ## Releases (R119) -/

/-- The release itself: the holder is none, the unit leaves the holdings, and every section of it is sent
duty 0. -/
def dropUnit (n : Train) (u : Section) (s : State) : State :=
  let s := s.modUnit u fun r => { r with holder := none }
  let s := s.modTrain n fun t =>
    { t with
      holdings := t.holdings.erase u
      powered := t.powered.filter fun e => s.cfg.unitKey e.sec != some u }
  setRetries ((s.cfg.unitSections u).foldl restSection s)

/-- A unit is released by its holder (R119): an unblocked unit goes to its first waiter at once, and
otherwise its OCCUPIED sections become stray. -/
def releaseHeld (quiet : Bool) (n : Train) (u : Section) (s : State) : State :=
  let s := dropUnit n u s
  let strayed := fun s : State =>
    let s := reportStrays ((s.cfg.unitSections u).filter s.occupied) s
    if quiet then s else unitNotice u s
  match (s.units.get u).waiting with
  | [] => strayed s
  | w :: _ => if s.blocked u then strayed s else grant quiet w u s

/-- A train releases a unit (R119). Only the unit's holder can: a train frees a section that it passed
without holding its unit, and no unit changes hands by that (log 42). -/
def release (quiet : Bool) (n : Train) (s : State) (u : Section) : State :=
  if (s.units.get u).holder = some n then releaseHeld quiet n u s else s

/-! ## Requests (R115, R116) -/

/-- The holder of the unit a train's outstanding request names. -/
def State.nextInChain (s : State) (n : Train) : Option Train :=
  match (s.trains.get n).request with
  | none => none
  | some u => (s.units.get u).holder

/-- The deadlock check's chain, from a holder on, reaches train n within k links (R116). -/
def State.chainReaches (s : State) (n : Train) : Nat → Option Train → Bool
  | _, none => false
  | 0, some h => h == n
  | k + 1, some h => h == n || s.chainReaches n k (s.nextInChain h)

/-- A train's request is refused by the deadlock check: the mark is set, and a train at rest in WAITING
shows it at once (R116). -/
def TrainRun.deadlocked (t : TrainRun) : TrainRun :=
  { t with
    deadlock := true, retry := false
    reason := if t.state = .waiting then some .deadlock else t.reason }

/-- A train's request, deadlock mark and retry flag cleared (R120). The reason DEADLOCK goes with the
mark (R116; log 34). -/
def TrainRun.withdrawn (t : TrainRun) : TrainRun :=
  { t with
    request := none, deadlock := false, retry := false
    reason := if t.reason = some .deadlock then none else t.reason }

/-- A train asks for a unit (R115, R116). -/
def requestUnit (n : Train) (u : Section) (s : State) : State :=
  let r := s.units.get u
  if r.holder = some n then s
  else if r.holder = none ∧ s.blocked u = false ∧ r.waiting = [] then grant false n u s
  else
    match r.holder, s.chainReaches n 6 r.holder with
    | some h, true =>
      (s.modTrain n TrainRun.deadlocked).raise (.deadlock n u h)
    | _, _ =>
      unitNotice u
        ((s.modUnit u fun r => { r with waiting := r.waiting ++ [n] }).modTrain n
          fun t => { t with request := some u })

/-! ## Withdrawals (R120) -/

/-- A train's outstanding request is withdrawn, and its deadlock mark and retry flag cleared (R120). -/
def withdraw (n : Train) (s : State) : State :=
  match (s.trains.get n).request with
  | none => s.modTrain n TrainRun.withdrawn
  | some u =>
    unitNotice u
      ((s.modUnit u fun r => { r with waiting := r.waiting.erase n }).modTrain n TrainRun.withdrawn)

/-! ## Freeing (R118, R119) -/

/-- The span holds a section at a place other than its head (R118). -/
def TrainRun.trails (t : TrainRun) (x : Section) : Bool := t.span.dropLast.any fun e => e.sec == x

/-- A section leaves a span, the head's place apart (R118). -/
def unspan (x : Section) (span : List SpanElt) : List SpanElt :=
  (span.dropLast.filter fun e => e.sec != x) ++ span.getLast?.toList

/-- Train n is freed of section x, and of its unit when no section of it is left in the span (R118). -/
def freeSection (n : Train) (x : Section) (s : State) : State :=
  let s := s.modTrain n fun t =>
    { t with span := unspan x t.span, powered := t.powered.filter fun e => e.sec != x }
  let s := restSection s x
  let s :=
    match s.cfg.unitKey x with
    | none => s
    | some u =>
      if (s.trains.get n).span.any fun e => s.cfg.unitKey e.sec == some u then s
      else release true n s u
  refreshAuthority n s

/-- A CLEAR of a section frees it (R118). R118 holds that a section lies in one span at most; a section that
R142 joined as passed to a train that does not hold its unit can lie in two. The model frees it for the
lowest-numbered train that has it behind its head, and leaves it in the other spans (DESIGN CHOICE, log 49). -/
def freeOnClear (x : Section) (s : State) : State :=
  match (ids 6).find? fun n => (s.trains.get n).placed && (s.trains.get n).trails x with
  | none => s
  | some n => freeSection n x s

/-- A CLEAR unblocks a free unit that has waiters: the first is granted it (R119). -/
def grantOnClear (x : Section) (s : State) : State :=
  match s.cfg.unitKey x with
  | none => s
  | some u =>
    match (s.units.get u).holder, (s.units.get u).waiting with
    | none, w :: _ => if s.blocked u then s else grant true w u s
    | _, _ => s

/-! ## UNIT (R130) -/

/-- `UNIT s` (R130). -/
def takeUnitQuery (sec : Nat) (s : State) : Ans :=
  match asId 20 sec with
  | none => refuse .range s
  | some x =>
    match s.cfg.unitKey x with
    | none => refuse .unknown s
    | some u =>
      let r := s.units.get u
      answered ([.word .unit, idTok u, .word .holder, optTok idTok r.holder, .word .wait,
        .num r.waiting.length] ++ r.waiting.map idTok
        ++ [.word (if s.blocked u then .blocked else .openW)]) s

/-- The held units, by key section, ascending (R130). -/
def State.heldUnits (s : State) : List (Section × Train) :=
  (ids 20).filterMap fun u => (s.units.get u).holder.map fun n => (u, n)

/-- `UNIT` (R130). -/
def takeUnitList (s : State) : Ans :=
  answered (.num s.heldUnits.length :: s.heldUnits.flatMap fun p => [idTok p.1, idTok p.2]) s

def execUnitQuery (sec : Nat) (s : State) : Host.Outcome State Fault Refusal :=
  command (takeUnitQuery sec) s
def execUnitList (s : State) : Host.Outcome State Fault Refusal := command takeUnitList s

end Sys2Proof.Machine
end

