-- ==== Sys2Proof/Machine/Motion.lean ====
section
/-! DEFINITION. Train motion (chapter 8, sections 8.3 to 8.9): speed and stopping distance, the ramp tick,
serving a stop, position fixes, LOST and FAULTED trains, the halt, and the look-ahead. -/

namespace Sys2Proof.Machine

/-! ## Speed, duty and stopping distance (R133, R134) -/

/-- Entry i of a speed table; entry 32 is entry 31 (R131). -/
def TrainDef.step (d : TrainDef) (i : Nat) : Nat × Nat := d.table.data.getD (min i 31) (0, 0)

/-- The scale speed v(a) (R133): the quotient is taken toward zero. -/
def speedOf (d : TrainDef) (a : Nat) : Nat :=
  let lo : Int := (d.step (a / 16)).2
  let hi : Int := (d.step (a / 16 + 1)).2
  (lo + ((hi - lo) * (a % 16 : Nat)).tdiv 16).toNat

/-- The duty of a (R133), rounded half up, the quotient taken toward zero. -/
def dutyOf (d : TrainDef) (a : Nat) : Nat :=
  let lo : Int := (d.step (a / 16)).1
  let hi : Int := (d.step (a / 16 + 1)).1
  (lo + ((hi - lo) * (a % 16 : Nat) + 8).tdiv 16).toNat

/-- The ramp-down sum of R134 in at most k steps. -/
def rampDown (d : TrainDef) : Nat → Nat → Nat
  | 0, _ => 0
  | k + 1, a =>
    if a = 0 then 0
    else speedOf d (a - d.decel) + rampDown d k (a - d.decel)

/-- The stopping distance D(a) (R134); decel is at least 1, so a steps are enough. -/
def stoppingDistance (d : TrainDef) (a : Nat) : Nat := rampDown d a a

/-- D(a) + v(a) + 300, the sum of the departure and braking tests (R134). -/
def testDistance (d : TrainDef) (a : Nat) : Nat := stoppingDistance d a + speedOf d a + Config.brakeMargin

/-! ## Changes of state -/

/-- The definition of a train. -/
def State.trainDef (s : State) (n : Train) : TrainDef := s.cfg.trains.get n

/-- A train in WAITING whose deadlock mark is set shows the reason DEADLOCK (R116). -/
def TrainRun.waitReason (r : Option WaitReason) (t : TrainRun) : Option WaitReason :=
  if t.deadlock then some .deadlock else r

/-- A train enters WAITING with a reason, or with DEADLOCK while its deadlock mark is set (R116, R139);
while the halt is in force it enters HALTED (R146). -/
def enterWaitingFor (r : Option WaitReason) (n : Train) (s : State) : State :=
  s.modTrain n fun t =>
    if s.halt then { t with state := .halted, cause := none, reason := none }
    else { t with state := .waiting, cause := none, reason := t.waitReason r }

/-- A train enters WAITING for no reason yet but a deadlock (log 34). -/
def enterWaiting (n : Train) (s : State) : State := enterWaitingFor none n s

/-- A train becomes PARKED. -/
def park (n : Train) (s : State) : State :=
  s.modTrain n fun t =>
    { t with state := .parked, target := 0, cause := none, reason := none, dwell := 0 }

/-- A moving train enters STOPPING with target 0 and a cause; no CAB line has been taken since (R156). -/
def startStopping (c : StopCause) (n : Train) (s : State) : State :=
  s.modTrain n fun t => { t with state := .stopping, target := 0, cause := some c, cabSince := false }

/-- A train waits with a reason (R137). -/
def stayWaiting (r : WaitReason) (n : Train) (s : State) : State :=
  s.modTrain n fun t => { t with reason := some r }

/-! ## Serving a stop (R141) -/

/-- The position a route stands at is its last. -/
def RouteDef.atEnd (r : RouteDef) (i : Nat) : Bool := r.positions.length == i + 1

/-- The dwell of the stop at the route index, none where the stop ends the route (R141). -/
def State.servedDwell (s : State) (n : Train) : Option Nat :=
  match (s.trains.get n).route with
  | none => none
  | some (r, i) =>
    match s.cfg.routes.get r with
    | none => none
    | some d =>
      if d.atEnd i && !d.loop then none
      else some (((d.at i).bind fun p => p.stop.map fun st => st.dwell).getD 0)

/-- A train at rest serves the stop at the route position of its head section (R141). -/
def serveStop (n : Train) (s : State) : State :=
  let dwell := s.servedDwell n
  let s := s.modTrain n fun t =>
    { t with served := true, cause := none, reason := none, target := 0, speed := 0, duty := 0 }
  refreshAuthority n <|
    match dwell with
    | none => s.modTrain n fun t => { t with state := .parked, route := none }
    | some 0 => askAllThrows n (enterWaiting n (s.modTrain n fun t => { t with dwell := 0 }))
    | some (k + 1) => s.modTrain n fun t => { t with state := .dwelling, dwell := k + 1 }

/-- A train stops at once, at a stop mark or past it, and serves the stop (R140). -/
def stopAtMark (n : Train) (s : State) : State :=
  serveStop n (restPowered n (s.modTrain n fun t => { t with speed := 0, duty := 0, target := 0 }))

/-- The dwell of a DWELLING train is over (R141). -/
def endDwell (n : Train) (s : State) : State :=
  askAllThrows n (enterWaiting n (s.modTrain n fun t => { t with dwell := 0 }))

/-- A step notice takes its advance from a dwell (R141). -/
def takeDwell (d : Nat) (s : State) (n : Train) : State :=
  let t := s.trains.get n
  if t.state = .dwelling then
    if t.dwell ≤ d then endDwell n s else s.modTrain n fun t => { t with dwell := t.dwell - d }
  else s

/-- The dwell of train n ends (R141; log 6). -/
def dwellEnd (n : Train) (s : State) : State :=
  if (s.trains.get n).state = .dwelling then endDwell n s else s

def execDwellEnd (n : Train) (s : State) : Host.Outcome State Fault Refusal := event (dwellEnd n) s

/-! ## The turnabout (R157) -/

/-- Ten times the lengths of a list of span sections. -/
def spanTenths (c : Scene) (xs : List SpanElt) : Nat :=
  (xs.map fun e => 10 * c.lengthOf e.sec).sum

/-- The tail position of a train, held within its tail section (R157). -/
def tailPosition (c : Scene) (d : TrainDef) (t : TrainRun) : Nat :=
  let tail := (t.span.head?.map fun e => 10 * c.lengthOf e.sec).getD 0
  min tail (spanTenths c t.span.dropLast + t.headPos - 10 * d.length)

/-- Steps 1 to 3: the span, the head and the orientation turned (R157). -/
def turnSpan (c : Scene) (d : TrainDef) (t : TrainRun) : TrainRun :=
  let tail := (t.span.head?.map fun e => 10 * c.lengthOf e.sec).getD 0
  { t with
    span := t.span.reverse.map fun e => ⟨e.sec, other e.entry⟩
    headPos := tail - tailPosition c d t
    orientation := turned t.orientation
    pending := none }

/-- The units a train holds that contain no section of its span, in holdings order (R157). -/
def State.unspanned (s : State) (n : Train) : List Section :=
  let t := s.trains.get n
  t.holdings.filter fun u => !t.span.any fun e => s.cfg.unitKey e.sec == some u

/-- A turnabout of a train at rest (R157). -/
def turnabout (n : Train) (s : State) : State :=
  let s := s.modTrain n (turnSpan s.cfg (s.trainDef n))
  let s := (s.unspanned n).foldl (release false n) s
  refreshAuthority n (withdraw n s)

/-! ## Position fixes (R142, R143) -/

/-- The place of the first element of a list with section x. -/
def placeOf (x : Section) (xs : List Section) : Option Nat := xs.findIdx? fun y => y == x

/-- The route index moved to the first position after it whose section is x, counted on cyclically on a
loop route (R142). -/
def RouteDef.indexAfter (r : RouteDef) (i : Nat) (x : Section) : Nat :=
  match placeOf x ((r.ahead i).map RoutePos.sec) with
  | none => i
  | some k => (i + 1 + k) % r.positions.length

/-- The route and index after a fix into section x (R142). -/
def State.routeAfter (s : State) (n : Train) (x : Section) : Option (RouteId × Nat) :=
  match (s.trains.get n).route with
  | none => none
  | some (r, i) =>
    match s.cfg.routes.get r with
    | none => some (r, i)
    | some d => some (r, d.indexAfter i x)

/-- The elements of a path ahead of its head up to and including section x. -/
def pathUpTo (x : Section) (ps : List PathElt) : List SpanElt :=
  ((ps.takeWhile fun p => p.sec != x) ++ ((ps.find? fun p => p.sec == x).toList)).map
    fun p => ⟨p.sec, p.entry⟩

/-- The head is fixed into a section of the path ahead (R142). -/
def fixHead (n : Train) (x : Section) (s : State) : State :=
  let joined := pathUpTo x (s.path n).tail
  let route := s.routeAfter n x
  refreshAuthority n
    (s.modTrain n fun t =>
      { t with span := t.span ++ joined, headPos := 0, route := route, served := false })

/-- Section x lies on the path ahead of the head, inside a unit the train holds, and not in its span
(R142). -/
def State.liesAhead (s : State) (n : Train) (x : Section) : Bool :=
  let t := s.trains.get n
  t.placed && s.holds n x && !t.spans x
    && (s.path n).tail.any fun p => p.sec == x

/-- An OCCUPIED transition fixes the head of the train that has the section ahead (R142). -/
def positionFix (x : Section) (s : State) : State :=
  match (ids 6).find? fun n => s.liesAhead n x with
  | none => s
  | some n => fixHead n x s

/-- The head position becomes a mark's, and the train stops if the mark is the stop mark of its next stop
(R140, R143). -/
def fixAtMark (n : Train) (m : MarkId) (x : Section) (offset : Nat) (s : State) : State :=
  match (s.trains.get n).head with
  | none => s
  | some h =>
    let pos := match h.entry with
      | .a => offset
      | .b => 10 * s.cfg.lengthOf x - offset
    let s := s.modTrain n fun t => { t with headPos := pos }
    if s.headStop n = some (some m) then stopAtMark n s else refreshAuthority n s

/-- Section x is the head section of a moving train (R143). -/
def TrainRun.headsIn (t : TrainRun) (x : Section) : Bool :=
  t.moving && decide (t.head.map SpanElt.sec = some x)

/-- A moving train has section x in its span, or holds its unit: a mark of x is no stray (R143). -/
def State.expects (s : State) (n : Train) (x : Section) : Bool :=
  (s.trains.get n).moving && ((s.trains.get n).spans x || s.holds n x)

/-- A mark event reaches the traffic controller, its offset in tenths (R143): the cases are tested in the order
of the rule, so that a section joined as passed in a unit of another train (log 48) sends its marks to the train
whose head section it is. -/
def markEvent (m : MarkId) (x : Section) (offset : Nat) (s : State) : State :=
  match (ids 6).find? fun n => (s.trains.get n).headsIn x with
  | some n => fixAtMark n m x offset s
  | none =>
    match (ids 6).find? fun n => (s.trains.get n).moving && s.liesAhead n x with
    | some n => fixAtMark n m x offset (fixHead n x s)
    | none => if (ids 6).any fun n => s.expects n x then s else s.raise (.strayMark m)

/-! ## Occupancy transitions (R123) -/

/-- The crossing is told of a transition of section x: its own section, or a change of its unit's record
since state `old` (R123). -/
def State.crossingTold (s old : State) (x : Section) (k : CrossingId) : Bool :=
  match s.cfg.crossings.get k with
  | none => false
  | some d =>
    d.sec == x ||
      match s.cfg.unitKey d.sec with
      | none => false
      | some u => s.units.get u != old.units.get u

/-- The traffic controller handles an occupancy transition of a section: freeing, releases and grants,
the stray test, the position fixes, and last the crossings (R123). It takes no notice of an undefined
section (R91). -/
def occupancyNotice (x : Section) (s : State) : State :=
  if s.cfg.defined x then
    let old := s
    let s :=
      if s.occupied x then
        positionFix x (if s.stray x then s.raise (.stray x) else s)
      else grantOnClear x (freeOnClear x s)
    ((ids 2).filter (s.crossingTold old x)).foldl crossingAct s
  else s

/-! ## Trains out of service (R144, R145, R146) -/

/-- A train becomes LOST (R144). -/
def loseTrain (n : Train) (s : State) : State :=
  let s := s.modTrain n fun t =>
    { t with state := .lost, speed := 0, target := 0, duty := 0, cause := none }
  (withdraw n (restPowered n s)).raise (.lost n)

/-- A train becomes FAULTED (R145). Duty 0 goes to its held sections in each channel's applied polarity, since
R145 names none (DESIGN CHOICE, log 53). -/
def faultTrain (s : State) (n : Train) : State :=
  let s := s.modTrain n fun t =>
    { t with
      state := .faulted, speed := 0, target := 0, duty := 0, pending := none, cause := none
      reason := none, dwell := 0
      served := t.served || decide (t.state = .dwelling) }
  withdraw n ((s.heldSections n).foldl restSection s)

/-- A CUT notice for a section's channel (R145). -/
def sectionCutNotice (x : Section) (s : State) : State :=
  ((ids 6).filter fun n => (s.trains.get n).placed && s.holds n x).foldl faultTrain s

/-- A train is taken to HALTED (R146). -/
def haltTrain (t : TrainRun) : TrainRun :=
  match t.state with
  | .waiting | .running | .stopping =>
    { t with state := .halted, speed := 0, target := 0, duty := 0, cause := none, reason := none }
  | .unplaced | .parked | .dwelling | .halted | .lost | .faulted => t

/-- The halt notice: every train first, then the turnabouts that were pending (R146; log 30). -/
def haltTrains (s : State) : State :=
  let s := s.withTrains (s.trains.map haltTrain)
  let turns := fun n : Train =>
    decide ((s.trains.get n).state = .halted) && (s.trains.get n).pending.isSome
  ((ids 6).filter turns).foldl (fun s n => turnabout n s) s

/-- The train wants to move when it comes back from HALTED or FAULTED (R145, R146). -/
def TrainRun.resumes (t : TrainRun) : Bool :=
  match t.mode with
  | .route => t.route.isSome
  | .cab => decide (0 < t.cabStep)

/-- A train back from HALTED or FAULTED becomes WAITING or PARKED (R145, R146). -/
def comeBack (s : State) (n : Train) : State :=
  if (s.trains.get n).resumes then enterWaiting n s else park n s

/-- The resume notice (R146). -/
def resumeTrains (s : State) : State :=
  ((ids 6).filter fun n => decide ((s.trains.get n).state = .halted)).foldl comeBack s

/-! ## The tests of a ramp tick (R137, R138, R139, R140) -/

/-- A WAITING train departs at a target, unless departures are held (R137). -/
def depart (target : Nat) (n : Train) (s : State) : State :=
  if s.account.departureHold then stayWaiting .budget n s
  else s.modTrain n fun t => { t with state := .running, target := target, reason := none }

/-- The departure test of a WAITING train (R137). -/
def departureTest (n : Train) (a : Authority) (s : State) : State :=
  let d := s.trainDef n
  let w := s.wanted n
  if w = 0 then park n s
  else if (s.trains.get n).deadlock then stayWaiting .deadlock n s
  else if (testDistance d (16 * w) : Int) < a.dist then depart w n s
  else if a.atStop ∧ (Config.brakeMargin : Int) < a.dist then depart (min w d.creep) n s
  else if (s.trains.get n).mode = .route ∧ (s.headStop n).isSome then serveStop n s
  else stayWaiting .authority n s

/-- The braking test of a RUNNING train (R138). -/
def brakingTest (n : Train) (a : Authority) (s : State) : State :=
  if (testDistance (s.trainDef n) (s.trains.get n).speed : Int) < a.dist then s
  else startStopping (if a.atStop then .stop else .authority) n s

/-- The creep test of a RUNNING train (R140). -/
def creepTest (n : Train) (a : Authority) (s : State) : State :=
  let d := s.trainDef n
  let t := s.trains.get n
  if d.creep < t.target ∧
      a.dist ≤ (stoppingDistance d t.speed : Int) - stoppingDistance d (16 * d.creep)
        + speedOf d t.speed + Config.brakeMargin then
    s.modTrain n fun t => { t with target := d.creep }
  else s

/-- A RUNNING train takes its target, and then the creep test where the walk stopped at a stop with a stop
mark, the braking test elsewhere (R135, R138, R140). -/
def runningTest (n : Train) (a : Authority) (s : State) : State :=
  let w := s.wanted n
  if w = 0 then startStopping .command n s
  else
    let creep := (s.trainDef n).creep
    let s := s.modTrain n fun t =>
      { t with target := if a.atStop && decide (t.target ≤ creep) then min w t.target else w }
    if a.atStop ∧ (s.nextStopMark n).isSome then creepTest n a s else brakingTest n a s

/-- A STOPPING train returns to RUNNING at the wanted step. -/
def returnToRunning (n : Train) (s : State) : State :=
  s.modTrain n fun t => { t with state := .running, target := s.wanted n, cause := none }

/-- The train stops by a command that a later CAB line with a step above 0 took back, a pending orientation
kept or not (R156; log 20). -/
def TrainRun.commandGone (t : TrainRun) : Bool :=
  match t.mode with
  | .route => false
  | .cab => decide (0 < t.cabStep) && t.cabSince

/-- A STOPPING train's test: the return test with cause AUTHORITY (R138); with cause COMMAND, the braking
test where a CAB line gave it a step again (R156). -/
def stoppingTest (n : Train) (a : Authority) (s : State) : State :=
  let t := s.trains.get n
  match t.cause with
  | some .authority =>
    if (testDistance (s.trainDef n) t.speed : Int) < a.dist then returnToRunning n s else s
  | some .command => if t.commandGone then brakingTest n a (returnToRunning n s) else s
  | some .stop => s
  | none => s

/-- Step 3 of a ramp tick (R135). -/
def stateTest (n : Train) (s : State) : State :=
  match (s.trains.get n).authority with
  | none => s
  | some a =>
    match (s.trains.get n).state with
    | .waiting => departureTest n a s
    | .running => runningTest n a s
    | .stopping => stoppingTest n a s
    | .unplaced | .parked | .dwelling | .halted | .lost | .faulted => s

/-- The actual speed moves toward sixteen times the target (R136). -/
def rampSpeed (d : TrainDef) (a target : Nat) : Nat :=
  if a < 16 * target then min (a + d.accel) (16 * target)
  else max (a - d.decel) (16 * target)

/-- Step 4: the motion of a moving train (R136). -/
def moveTrain (n : Train) (s : State) : State :=
  let d := s.trainDef n
  if (s.trains.get n).moving then
    s.modTrain n fun t =>
      let a := rampSpeed d t.speed t.target
      { t with speed := a, duty := dutyOf d a, headPos := t.headPos + speedOf d a }
  else s

/-- The head position past which a train is lost (R144). -/
def lostLimit (mm : Nat) : Nat := 10 * mm + max 2000 (5 * mm)

/-- The entry-relative position of the stop mark whose stop section the head section is (R140). -/
def State.headMarkPos (s : State) (n : Train) : Option Nat :=
  match (s.trains.get n).head, s.headStop n with
  | some h, some (some m) =>
    (s.cfg.marks.get m).map fun d => entryRelative s.cfg h.sec h.entry d.offset
  | _, _ => none

/-- A STOPPING train at rest by a command (R139). -/
def restByCommand (n : Train) (s : State) : State :=
  let t := s.trains.get n
  if t.pending.isSome ∧ t.pending ≠ some t.orientation then
    let s := turnabout n s
    if s.wanted n = 0 ∨ (t.mode = .route ∧ t.route = none) then park n s else enterWaiting n s
  else park n s

/-- A STOPPING train comes to rest (R139). -/
def comeToRest (n : Train) (s : State) : State :=
  match (s.trains.get n).cause with
  | some .stop =>
    if (s.trains.get n).mode = .route ∧ (s.headStop n).isSome then serveStop n s
    else enterWaitingFor (some .authority) n s
  | some .authority => enterWaitingFor (some .authority) n s
  | some .command => restByCommand n s
  | none => enterWaitingFor (some .authority) n s

/-- The mark overshoot check (R140). -/
def overshootCheck (n : Train) (s : State) : State :=
  match s.headMarkPos n with
  | none => s
  | some p =>
    if p + Config.overshoot < (s.trains.get n).headPos then
      stopAtMark n (s.raise (.markMiss n))
    else s

/-- Step 5: LOST, overshoot and coming to rest, each while the train still moves (R135). -/
def checkTrain (n : Train) (s : State) : State :=
  match (s.trains.get n).head with
  | none => s
  | some h =>
    let lost := fun s : State =>
      if lostLimit (s.cfg.lengthOf h.sec) < (s.trains.get n).headPos then loseTrain n s else s
    let whileMoving := fun (f : State → State) (s : State) =>
      if (s.trains.get n).moving then f s else s
    let rest := fun s : State =>
      if (s.trains.get n).state = .stopping ∧ (s.trains.get n).speed = 0 then comeToRest n s else s
    rest (whileMoving (overshootCheck n) (whileMoving lost s))

/-! ## The look-ahead (R153) -/

/-- The train's state lets the look-ahead run (section 8.2). -/
def TrainRun.looksAhead (t : TrainRun) : Bool :=
  match t.state with
  | .waiting => true
  | .running => true
  | .stopping => true
  | .unplaced | .parked | .dwelling | .halted | .lost | .faulted => false

/-- The held distance below which the next unit is asked for (R153). -/
def lookaheadDistance (d : TrainDef) (w : Nat) : Nat :=
  stoppingDistance d (16 * w) + Config.lookahead + 30 * (d.step w).2

/-- The look-ahead (R153). -/
def lookAhead (n : Train) (s : State) : State :=
  let t := s.trains.get n
  if t.looksAhead ∧ t.request = none ∧ t.deadlock = false then
    let w := s.walk n false
    match w.rest with
    | [] => s
    | p :: _ =>
      if w.atStop ∨ (lookaheadDistance (s.trainDef n) (s.wanted n) : Int) ≤ w.dist then s
      else
        match s.cfg.unitKey p.sec with
        | none => s
        | some u => requestUnit n u s
  else s

/-! ## The ramp tick (R135) -/

/-- Step 1: a train refused by the deadlock check may ask again (R116). -/
def retryStep (n : Train) (s : State) : State :=
  let t := s.trains.get n
  if t.deadlock && t.retry then
    askAllThrows n (s.modTrain n fun t => { t with deadlock := false, retry := false })
  else s

/-- A ramp tick (R135). -/
def rampTick (n : Train) (s : State) : State :=
  if (s.trains.get n).placed then
    lookAhead n (sendPower n (checkTrain n (moveTrain n (stateTest n
      (refreshAuthority n (retryStep n s))))))
  else s

def execRampTick (n : Train) (s : State) : Host.Outcome State Fault Refusal := event (rampTick n) s

end Sys2Proof.Machine
end

