-- ==== Sys2Proof/Machine/Service.lean ====
section
/-! DEFINITION. Train service (chapter 8, sections 8.10 to 8.14): placing and lifting, routes, route
starts, the timetable, CAB mode, train definitions, and the commands TRAIN, ROUTE and TIMETABLE. -/

namespace Sys2Proof.Machine

/-! ## Lines about one train (R156, R158) -/

/-- Each taken `TRAIN n` line restarts the supervision timer of a train in CAB mode (R156). -/
def restartCabTimer (n : Train) (s : State) : State :=
  match (s.trains.get n).mode with
  | .route => s
  | .cab => s.modTrain n fun t => { t with cabTimer := some (s.trainDef n).cabTime }

/-- A `TRAIN n` line: the train number is tested first, and a taken line restarts the timer. -/
def trainLine (n : Nat) (f : Train → State → Ans) (s : State) : Ans :=
  match asId 6 n with
  | none => refuse .range s
  | some n =>
    match f n s with
    | (s', .no r) => (s', .no r)
    | (s', r) => (restartCabTimer n s', r)

/-! ## Placing and lifting (R147, R148) -/

/-- The head position of a train placed in a section (R147). -/
def placedHead (c : Scene) (d : TrainDef) (x : Section) : Nat := 10 * min d.length (c.lengthOf x)

/-- The run-time fields of a train just placed (R147): its span is the section, entered by the end
opposite the one it faces. -/
def TrainRun.placedIn (x : Section) (facing : End) (headPos : Nat) : TrainRun :=
  { TrainRun.reset with
    state := .parked, span := [⟨x, other facing⟩], headPos := headPos }

/-- The act of placing (R147): the unit is granted directly. -/
def placeTrain (n : Train) (x : Section) (facing : End) (u : Section) (s : State) : State :=
  grant false n u
    (s.modTrain n fun _ => TrainRun.placedIn x facing (placedHead s.cfg (s.trainDef n) x))

/-- `TRAIN n PLACE s A|B` (R147). -/
def placeAct (sec : Nat) (e : End) (n : Train) (s : State) : Ans :=
  match asId 20 sec with
  | none => refuse .range s
  | some x =>
    match s.cfg.unitKey x with
    | none => refuse .unknown s
    | some u =>
      if (s.trains.get n).placed ∨ s.occupied x = false then refuse .state s
      else if (s.units.get u).holder.isSome then refuse .conflict s
      else taken (placeTrain n x e u s)

def takeTrainPlace (n sec : Nat) (e : End) (s : State) : Ans := trainLine n (placeAct sec e) s

/-- The act of lifting (R148). What the releases leave of the powered set, span sections of units that the
train does not hold (log 48), leaves it with the span and is sent duty 0 (R129). -/
def liftTrain (n : Train) (s : State) : State :=
  let s := withdraw n s
  let s := (s.trains.get n).holdings.foldl (release false n) s
  (restPowered n s).modTrain n fun _ => TrainRun.reset

/-- A train that `LIFT` takes: PARKED or LOST (R148). -/
def TrainRun.liftable (t : TrainRun) : Bool := t.state == .parked || t.state == .lost

/-- `TRAIN n LIFT` (R148). -/
def liftAct (n : Train) (s : State) : Ans :=
  if (s.trains.get n).liftable then taken (liftTrain n s) else refuse .state s

def takeTrainLift (n : Nat) (s : State) : Ans := trainLine n liftAct s

/-- The fields `FIND` sets (R148; log 21). -/
def TrainRun.foundIn (x : Section) (facing : End) (headPos : Nat) (t : TrainRun) : TrainRun :=
  { t with
    state := .parked, mode := .route, orientation := .fwd, pending := none, headPos := headPos
    route := none, span := [⟨x, other facing⟩], cause := none, reason := none, cabTimer := none }

/-- The act of finding (R148): a free unit is granted, and every other unit released. -/
def findTrain (n : Train) (x : Section) (facing : End) (u : Section) (s : State) : State :=
  let s := s.modTrain n (TrainRun.foundIn x facing (placedHead s.cfg (s.trainDef n) x))
  let s := if (s.units.get u).holder = some n then s else grant false n u s
  let s := ((s.trains.get n).holdings.filter fun v => v != u).foldl (release false n) s
  refreshAuthority n s

/-- `TRAIN n FIND s A|B` (R148). -/
def findAct (sec : Nat) (e : End) (n : Train) (s : State) : Ans :=
  match asId 20 sec with
  | none => refuse .range s
  | some x =>
    match s.cfg.unitKey x with
    | none => refuse .unknown s
    | some u =>
      if (s.trains.get n).state ≠ .lost ∨ s.occupied x = false then refuse .state s
      else if (s.units.get u).holder ≠ none ∧ (s.units.get u).holder ≠ some n then
        refuse .conflict s
      else taken (findTrain n x e u s)

def takeTrainFind (n sec : Nat) (e : End) (s : State) : Ans := trainLine n (findAct sec e) s

/-- `TRAIN n RESUME` (R145). -/
def resumeAct (n : Train) (s : State) : Ans :=
  if (s.trains.get n).state ≠ .faulted then refuse .state s
  else if (s.heldSections n).any s.sectionCut then refuse .cut s
  else taken (comeBack s n)

def takeTrainResume (n : Nat) (s : State) : Ans := trainLine n resumeAct s

def execTrainPlace (n sec : Nat) (e : End) (s : State) : Host.Outcome State Fault Refusal :=
  command (takeTrainPlace n sec e) s
def execTrainLift (n : Nat) (s : State) : Host.Outcome State Fault Refusal :=
  command (takeTrainLift n) s
def execTrainFind (n sec : Nat) (e : End) (s : State) : Host.Outcome State Fault Refusal :=
  command (takeTrainFind n sec e) s
def execTrainResume (n : Nat) (s : State) : Host.Outcome State Fault Refusal :=
  command (takeTrainResume n) s

/-! ## Route definitions (R149, R150) -/

/-- A position entered by an end, without a stop. -/
def positionAt (p : SecEnd) : RoutePos := ⟨p.sec, p.e, none⟩

/-- A stop put at the last position of a list, and no other (R149). -/
def stopAtLast (st : Stop) : List RoutePos → List RoutePos
  | [] => []
  | [p] => [{ p with stop := some st }]
  | p :: ps => p :: stopAtLast st ps

/-- The positions of a new route: leaving position 0 by end B before end A (R149). -/
def buildRoute (c : Scene) : List Section → Option (List RoutePos)
  | [] => none
  | x :: xs =>
    [End.b, End.a].findSome? fun e =>
      (c.chooseWays x e xs).map fun ps => ⟨x, other e, none⟩ :: ps.map positionAt

/-- A placed train follows a route (R150). -/
def State.routeInUse (s : State) (r : RouteId) : Bool :=
  s.trains.data.any fun t => t.placed && (t.route.map Prod.fst == some r)

def setRoute (r : RouteId) (d : Option RouteDef) (s : State) : State :=
  s.withCfg { s.cfg with routes := s.cfg.routes.set r d }

/-- `ROUTE r s s …` (R149). -/
def takeRouteDefine (r : Nat) (secs : List Nat) (s : State) : Ans :=
  match asId 12 r, asIds 20 secs with
  | some r, some xs =>
    if xs.length < 2 ∨ 32 < xs.length then refuse .range s
    else unlessBusy s fun s =>
      if xs.any fun x => !s.cfg.defined x then refuse .unknown s
      else if s.routeInUse r then refuse .state s
      else
        match buildRoute s.cfg xs with
        | none => refuse .path s
        | some ps => taken (setRoute r (some ⟨stopAtLast ⟨0, none⟩ ps, false⟩) s)
  | _, _ => refuse .range s

/-- The last position of a route meets its position 0 as the loop flag needs: left by the end opposite its
entry end, and entering position 0 by its entry end (R149). -/
def closesLoop (c : Scene) (ps : List RoutePos) : Bool :=
  match ps.head?, ps.getLast? with
  | some p0, some p => c.leadsTo p p0
  | _, _ => false

/-- The last position's stop moves to the new last position (R149): with the stop mark it had no longer
in its section, the line is in conflict (log 17). -/
def appendPositions (c : Scene) (d : RouteDef) (xs : List Section) : Option (List RoutePos) :=
  match d.positions.getLast? with
  | none => none
  | some p =>
    (c.chooseWays p.sec (other p.entry) xs).map fun ps =>
      d.positions.dropLast ++ stopAtLast (p.stop.getD ⟨0, none⟩)
        ({ p with stop := none } :: ps.map positionAt)

/-- `ROUTE r ADD s s …` (R149). -/
def takeRouteAdd (r : Nat) (secs : List Nat) (s : State) : Ans :=
  match asId 12 r, asIds 20 secs with
  | some r, some xs =>
    let old := s.cfg.routes.get r
    if 32 < (old.map fun d => d.positions.length).getD 0 + xs.length then refuse .range s
    else unlessBusy s fun s =>
      match old with
      | none => refuse .unknown s
      | some d =>
        if xs.any fun x => !s.cfg.defined x then refuse .unknown s
        else if s.routeInUse r then refuse .state s
        else
          match appendPositions s.cfg d xs with
          | none => refuse .path s
          | some ps =>
            if d.loop ∧ closesLoop s.cfg ps = false then refuse .path s
            else if s.cfg.stopsHold ⟨ps, d.loop⟩ = false then refuse .conflict s
            else taken (setRoute r (some ⟨ps, d.loop⟩) s)
  | _, _ => refuse .range s

/-- A stop put at, or removed from, a position. -/
def RouteDef.setStop (d : RouteDef) (i : Nat) (st : Option Stop) : RouteDef :=
  { d with positions := d.positions.modify i fun p => { p with stop := st } }

/-- The position lies beyond a defined route (R150). -/
def beyondRoute (d : Option RouteDef) (i : Nat) : Bool :=
  match d with
  | none => false
  | some d => decide (d.positions.length ≤ i)

/-- `ROUTE r STOP i dwell [MARK m]` (R150). -/
def takeRouteStop (r i dwell : Nat) (mark : Option Nat) (s : State) : Ans :=
  match asId 12 r, (match mark with
      | none => some none
      | some m => (asId 16 m).map some) with
  | some r, some mk =>
    if 3600 < dwell ∨ beyondRoute (s.cfg.routes.get r) i then refuse .range s
    else unlessBusy s fun s =>
      match s.cfg.routes.get r with
      | none => refuse .unknown s
      | some d =>
        if s.routeInUse r then refuse .state s
        else
          let d' := d.setStop i (some ⟨dwell, mk⟩)
          if s.cfg.stopsHold d' then taken (setRoute r (some d') s) else refuse .conflict s
  | _, _ => refuse .range s

/-- `ROUTE r STOP i NONE` (R150). -/
def takeRouteStopNone (r i : Nat) (s : State) : Ans :=
  match asId 12 r with
  | none => refuse .range s
  | some r =>
    if beyondRoute (s.cfg.routes.get r) i then refuse .range s
    else unlessBusy s fun s =>
      match s.cfg.routes.get r with
      | none => refuse .unknown s
      | some d =>
        if s.routeInUse r then refuse .state s
        else if d.atEnd i then refuse .conflict s
        else taken (setRoute r (some (d.setStop i none)) s)

/-- `ROUTE r LOOP ON|OFF` (R150). -/
def takeRouteLoop (r : Nat) (on : Bool) (s : State) : Ans :=
  match asId 12 r with
  | none => refuse .range s
  | some r =>
    unlessBusy s fun s =>
      match s.cfg.routes.get r with
      | none => refuse .unknown s
      | some d =>
        if s.routeInUse r then refuse .state s
        else if on ∧ closesLoop s.cfg d.positions = false then refuse .path s
        else taken (setRoute r (some { d with loop := on }) s)

/-- `ROUTE r DROP` (R150). -/
def takeRouteDrop (r : Nat) (s : State) : Ans :=
  match asId 12 r with
  | none => refuse .range s
  | some r =>
    unlessBusy s fun s =>
      if s.routeInUse r then refuse .state s else taken (setRoute r none s)

/-- A position as a query writes it (R150). -/
def positionToks (p : RoutePos) : List Tok :=
  [idTok p.sec, endTok p.entry] ++
    match p.stop with
    | none => []
    | some st => [.word .stop, .num st.dwell, optTok idTok st.mark]

/-- `ROUTE r` (R150). -/
def takeRouteQuery (r : Nat) (s : State) : Ans :=
  match asId 12 r with
  | none => refuse .range s
  | some r =>
    match s.cfg.routes.get r with
    | none => answered [.word .none] s
    | some d => answered ([.word .loop, onOff d.loop] ++ d.positions.flatMap positionToks) s

def execRouteDefine (r : Nat) (secs : List Nat) (s : State) : Host.Outcome State Fault Refusal :=
  command (takeRouteDefine r secs) s
def execRouteAdd (r : Nat) (secs : List Nat) (s : State) : Host.Outcome State Fault Refusal :=
  command (takeRouteAdd r secs) s
def execRouteStop (r i dwell : Nat) (mark : Option Nat) (s : State) :
    Host.Outcome State Fault Refusal := command (takeRouteStop r i dwell mark) s
def execRouteStopNone (r i : Nat) (s : State) : Host.Outcome State Fault Refusal :=
  command (takeRouteStopNone r i) s
def execRouteLoop (r : Nat) (on : Bool) (s : State) : Host.Outcome State Fault Refusal :=
  command (takeRouteLoop r on) s
def execRouteDrop (r : Nat) (s : State) : Host.Outcome State Fault Refusal :=
  command (takeRouteDrop r) s
def execRouteQuery (r : Nat) (s : State) : Host.Outcome State Fault Refusal :=
  command (takeRouteQuery r) s

/-! ## Route starts (R151, R152) -/

/-- The train stands at rest at a place a route may start from (R151). -/
def TrainRun.startable (t : TrainRun) : Bool := t.state == .parked || t.state == .dwelling

/-- What a route start would find: none where it would not be taken, and otherwise whether the train turns
about first (R151). -/
def startPath (t : TrainRun) (d : RouteDef) : Option Bool :=
  match t.head, d.positions.head? with
  | some h, some p =>
    if h.sec ≠ p.sec then none
    else if h.entry = p.entry then some false
    else if t.span.length = 1 then some true
    else none
  | _, _ => none

/-- A route start (R151). -/
def startRoute (n : Train) (r : RouteId) (turn : Bool) (s : State) : State :=
  let s := if turn then turnabout n s else s
  let s := withdraw n s
  let s := s.modTrain n fun t =>
    { t with mode := .route, route := some (r, 0), served := true, dwell := 0, cabTimer := none }
  enterWaiting n (refreshAuthority n (askAllThrows n s))

/-- `TRAIN n GO r` (R151). -/
def goAct (r : Nat) (n : Train) (s : State) : Ans :=
  match asId 12 r with
  | none => refuse .range s
  | some r =>
    match s.cfg.routes.get r with
    | none => refuse .unknown s
    | some d =>
      if (s.trains.get n).startable = false then refuse .state s
      else
        match startPath (s.trains.get n) d with
        | none => refuse .path s
        | some turn => taken (startRoute n r turn s)

def takeTrainGo (n r : Nat) (s : State) : Ans := trainLine n (goAct r) s

/-! ## CAB mode (R156) -/

/-- The train becomes a CAB train: a route is given up and its outstanding request withdrawn (R156). A train
in CAB mode already keeps its request (DESIGN CHOICE, log 35). The served flag, of which R156 says nothing,
goes with the route (DESIGN CHOICE, log 50). A DWELLING or PARKED train becomes WAITING. -/
def enterCab (n : Train) (step : Nat) (s : State) : State :=
  let t := s.trains.get n
  let s := if t.mode = .route then withdraw n s else s
  let s := s.modTrain n fun t =>
    { t with mode := .cab, cabStep := step, route := none, served := false, dwell := 0, cabSince := true }
  if t.startable then enterWaiting n s else s

/-- The orientation token differs from the present orientation (R156): at rest the train turns about, and
moving it stops to turn. -/
def cabTurn (n : Train) (o : Orientation) (s : State) : State :=
  if (s.trains.get n).speed = 0 then turnabout n s
  else
    startStopping .command n (withdraw n (s.modTrain n fun t => { t with pending := some o }))

/-- A cab step of 0 (R156), as `PARK` on a CAB train has it too (R152). A train that was in CAB mode already
has no route to give up, and R156 does not say whether it withdraws an outstanding request: the request stands
(DESIGN CHOICE, log 35). -/
def cabZero (n : Train) (s : State) : State :=
  if (s.trains.get n).moving then startStopping .command n s else park n s

/-- A taken CAB line (R156). -/
def driveCab (n : Train) (step : Nat) (o : Option Orientation) (s : State) : State :=
  let s := enterCab n step s
  let s :=
    match o with
    | none => s
    | some o => if o = (s.trains.get n).orientation then s else cabTurn n o s
  if step = 0 then cabZero n s else s

/-- The states in which a CAB line is taken (R156). -/
def TrainRun.drivable (t : TrainRun) : Bool :=
  match t.state with
  | .parked | .waiting | .running | .stopping | .dwelling => true
  | .unplaced | .halted | .lost | .faulted => false

/-- `TRAIN n CAB step [FWD|REV]` (R156). -/
def cabAct (step : Nat) (o : Option Orientation) (n : Train) (s : State) : Ans :=
  if (s.trains.get n).drivable then
    takenClamped (decide (31 < step)) (driveCab n (min step 31) o s)
  else refuse .state s

def takeTrainCab (n step : Nat) (o : Option Orientation) (s : State) : Ans :=
  trainLine n (cabAct step o) s

/-- A train in ROUTE mode gives up its route and comes to rest (R152). R152 names the route and the route index;
the model clears the served flag with them (DESIGN CHOICE, log 50). -/
def parkRoute (n : Train) (s : State) : State :=
  let s := (withdraw n s).modTrain n fun t => { t with route := none, served := false }
  if (s.trains.get n).moving then startStopping .command n s else park n s

/-- `TRAIN n PARK` (R152). -/
def parkAct (n : Train) (s : State) : Ans :=
  let t := s.trains.get n
  if t.drivable = false then refuse .state s
  else
    match t.mode with
    | .cab => taken (driveCab n 0 none s)
    | .route => if t.state = .parked then taken s else taken (parkRoute n s)

def takeTrainPark (n : Nat) (s : State) : Ans := trainLine n parkAct s

/-- The supervision timer expires (R156). -/
def cabExpiry (n : Train) (s : State) : State :=
  match (s.trains.get n).cabTimer with
  | none => s
  | some _ =>
    let s := s.modTrain n fun t => { t with cabTimer := none }
    if (s.trains.get n).cabStep = 0 then s
    else
      let s := s.modTrain n fun t => { t with cabStep := 0 }
      let s :=
        if (s.trains.get n).moving then startStopping .command n s
        else if (s.trains.get n).state = .waiting then park n s
        else s
      s.raise (.cab n)

def execTrainGo (n r : Nat) (s : State) : Host.Outcome State Fault Refusal :=
  command (takeTrainGo n r) s
def execTrainPark (n : Nat) (s : State) : Host.Outcome State Fault Refusal :=
  command (takeTrainPark n) s
def execTrainCab (n step : Nat) (o : Option Orientation) (s : State) :
    Host.Outcome State Fault Refusal := command (takeTrainCab n step o) s
def execCabSupervisionTimer (n : Train) (s : State) : Host.Outcome State Fault Refusal :=
  event (cabExpiry n) s

/-! ## The timetable (R154, R155) -/

/-- An entry comes before another: by time, then by train (R154). -/
def TimeEntry.before (a b : TimeEntry) : Bool :=
  decide (a.time < b.time) || (decide (a.time = b.time) && decide (a.train.val < b.train.val))

/-- An entry put in its place (R154). -/
def insertEntry (e : TimeEntry) : List TimeEntry → List TimeEntry
  | [] => [e]
  | x :: xs => if e.before x then e :: x :: xs else x :: insertEntry e xs

/-- An entry's time and train. -/
def TimeEntry.isAt (e : TimeEntry) (t : Nat) (n : Train) : Bool := e.time == t && e.train == n

def setTimetable (es : List TimeEntry) (s : State) : State :=
  s.withCfg { s.cfg with timetable := es }

/-- `TIMETABLE hh:mm[:ss] n r` (R154). -/
def takeTimetableAdd (t : TimeTok) (n r : Nat) (s : State) : Ans :=
  match timeValue t, asId 6 n, asId 12 r with
  | some t, some n, some r =>
    unlessBusy s fun s =>
      if s.cfg.timetable.any fun e => e.isAt t n then refuse .conflict s
      else if Config.maxTimetable ≤ s.cfg.timetable.length then refuse .full s
      else taken (setTimetable (insertEntry ⟨t, n, r⟩ s.cfg.timetable) s)
  | _, _, _ => refuse .range s

/-- `TIMETABLE DROP hh:mm[:ss] n` (R154). -/
def takeTimetableDrop (t : TimeTok) (n : Nat) (s : State) : Ans :=
  match timeValue t, asId 6 n with
  | some t, some n =>
    unlessBusy s fun s =>
      if s.cfg.timetable.any fun e => e.isAt t n then
        taken (setTimetable (s.cfg.timetable.filter fun e => !e.isAt t n) s)
      else refuse .unknown s
  | _, _ => refuse .range s

/-- `TIMETABLE AUTORUN ON|OFF` (R154). -/
def takeTimetableAutorun (on : Bool) (s : State) : Ans :=
  unlessBusy s fun s => taken (s.withCfg { s.cfg with autorun := on })

/-- `TIMETABLE` (R154). -/
def takeTimetableQuery (s : State) : Ans :=
  answered [.num s.cfg.timetable.length, .word .autorun, onOff s.cfg.autorun] s

/-- `TIMETABLE LIST i` (R154). -/
def takeTimetableList (i : Nat) (s : State) : Ans :=
  let es := (s.cfg.timetable.drop i).take 8
  answered (.num es.length :: es.flatMap fun e => [.time e.time, idTok e.train, idTok e.route]) s

/-- An entry fires (R155). -/
def fireEntry (s : State) (e : TimeEntry) : State :=
  let missed := s.raise (.missed e.train e.route)
  match s.cfg.routes.get e.route with
  | none => missed
  | some d =>
    if (s.trains.get e.train).startable then
      match startPath (s.trains.get e.train) d with
      | none => missed
      | some turn => startRoute e.train e.route turn s
    else missed

/-- The entries a step passes, in the order it passes their times (R155). -/
def passedEntries (t0 t1 : Nat) (es : List TimeEntry) : List TimeEntry :=
  let ps := es.filter fun e => passes t0 t1 e.time
  (ps.filter fun e => decide (t0 < e.time)) ++ ps.filter fun e => decide (e.time ≤ t0)

/-- The traffic controller at a step notice: the entries fire first, then the dwells count down (R141,
R155), in ascending train order, which R141 leaves open (DESIGN CHOICE, log 7). -/
def trafficStep (t0 t1 d : Nat) (s : State) : State :=
  let fired :=
    if s.cfg.autorun && s.sys.ready then (passedEntries t0 t1 s.cfg.timetable).foldl fireEntry s
    else s
  (ids 6).foldl (takeDwell d) fired

/-- The traffic controller at a jump notice: it reports the entries in the jumped interval once the part
is ready (R155). -/
def trafficJump (old new : Nat) (s : State) : State :=
  s.raise (.skipped (s.cfg.timetable.countP fun e => passes old new e.time))

def execTimetableAdd (t : TimeTok) (n r : Nat) (s : State) : Host.Outcome State Fault Refusal :=
  command (takeTimetableAdd t n r) s
def execTimetableDrop (t : TimeTok) (n : Nat) (s : State) : Host.Outcome State Fault Refusal :=
  command (takeTimetableDrop t n) s
def execTimetableAutorun (on : Bool) (s : State) : Host.Outcome State Fault Refusal :=
  command (takeTimetableAutorun on) s
def execTimetableQuery (s : State) : Host.Outcome State Fault Refusal := command takeTimetableQuery s
def execTimetableList (i : Nat) (s : State) : Host.Outcome State Fault Refusal :=
  command (takeTimetableList i) s

/-! ## Train definitions (R158) -/

def setTrainDef (n : Train) (f : TrainDef → TrainDef) (s : State) : State :=
  s.withCfg { s.cfg with trains := s.cfg.trains.modify n f }

/-- A definition form of a train: refused while a SAVE is in flight (R158). -/
def defineTrain (n : Train) (f : TrainDef → TrainDef) (s : State) : Ans :=
  unlessBusy s fun s => taken (setTrainDef n f s)

def isLetterOrDigit (c : Char) : Bool := c.isUpper || c.isLower || c.isDigit

/-- `TRAIN n NAME x` (R131, R158; log 16). A name that is a run of more than 9 digits is too long a name and too
long a number (R184): it is answered as the name it stands for, `NO RANGE` (DESIGN CHOICE, log 54). -/
def nameAct (name : List Char) (n : Train) (s : State) : Ans :=
  if 8 < name.length then refuse .range s
  else defineTrain n (fun d => { d with name := name.map Char.toUpper }) s

/-- `TRAIN n LENGTH mm` (R158). -/
def lengthAct (mm : Nat) (n : Train) (s : State) : Ans :=
  if mm < 100 ∨ 3000 < mm then refuse .range s else defineTrain n (fun d => { d with length := mm }) s

/-- Consecutive speed table entries set from step `st` on (R158). -/
def putEntries (st : Nat) : List (Nat × Nat) → Table (Nat × Nat) 32 → Table (Nat × Nat) 32
  | [], t => t
  | p :: ps, t =>
    putEntries (st + 1) ps
      (match asId 32 st with
        | none => t
        | some i => t.set i p)

/-- `TRAIN n TABLE s d v [d v …]` (R158). -/
def tableAct (st : Nat) (pairs : List (Nat × Nat)) (n : Train) (s : State) : Ans :=
  if st < 1 ∨ 31 < st ∨ 32 < st + pairs.length ∨
      pairs.any fun p => decide (255 < p.1) || decide (999 < p.2) then refuse .range s
  else defineTrain n (fun d => { d with table := putEntries st pairs d.table }) s

/-- `TRAIN n TABLE s` (R158). -/
def tableQueryAct (st : Nat) (n : Train) (s : State) : Ans :=
  match asId 32 st with
  | none => refuse .range s
  | some i =>
    let p := (s.trainDef n).table.get i
    answered [.num p.1, .num p.2] s

/-- `TRAIN n RAMP accel decel` (R158). -/
def rampAct (accel decel : Nat) (n : Train) (s : State) : Ans :=
  if accel < 1 ∨ 64 < accel ∨ decel < 1 ∨ 64 < decel then refuse .range s
  else defineTrain n (fun d => { d with accel := accel, decel := decel }) s

/-- `TRAIN n CREEP c` (R158). -/
def creepAct (c : Nat) (n : Train) (s : State) : Ans :=
  if c < 1 ∨ 8 < c then refuse .range s else defineTrain n (fun d => { d with creep := c }) s

/-- `TRAIN n HOME s A|B` (R158). R131 and R158 give the section's range alone, and R91 does not say whether a
home names a section as part of something else: an undefined section is taken (DESIGN CHOICE, log 46). -/
def homeAct (sec : Nat) (e : End) (n : Train) (s : State) : Ans :=
  match asId 20 sec with
  | none => refuse .range s
  | some x => defineTrain n (fun d => { d with home := some ⟨x, e⟩ }) s

/-- `TRAIN n HOME NONE` (R158). -/
def homeNoneAct (n : Train) (s : State) : Ans := defineTrain n (fun d => { d with home := none }) s

/-- `TRAIN n CABTIME s` (R158). -/
def cabtimeAct (secs : Nat) (n : Train) (s : State) : Ans :=
  if secs < 1 ∨ 30 < secs then refuse .range s
  else defineTrain n (fun d => { d with cabTime := secs }) s

/-- `TRAIN n SERVICE s` (R158): a live value. -/
def serviceAct (st : Nat) (n : Train) (s : State) : Ans :=
  unlessBusy s fun s =>
    takenClamped (decide (31 < st)) (setTrainDef n (fun d => { d with service := min st 31 }) s)

/-- A token that is no name is refused before the train number is looked at (R150, R158). -/
def takeTrainName (n : Nat) (name : List Char) (s : State) : Ans :=
  if name = [] ∨ ¬ name.all isLetterOrDigit then refuse .syntaxErr s else trainLine n (nameAct name) s
def takeTrainLength (n mm : Nat) (s : State) : Ans := trainLine n (lengthAct mm) s
/-- A setting line without a pair is refused before the train number is looked at (R150, R158). -/
def takeTrainTable (n st : Nat) (pairs : List (Nat × Nat)) (s : State) : Ans :=
  if pairs = [] then refuse .syntaxErr s else trainLine n (tableAct st pairs) s
def takeTrainTableQuery (n st : Nat) (s : State) : Ans := trainLine n (tableQueryAct st) s
def takeTrainRamp (n accel decel : Nat) (s : State) : Ans := trainLine n (rampAct accel decel) s
def takeTrainCreep (n c : Nat) (s : State) : Ans := trainLine n (creepAct c) s
def takeTrainHome (n sec : Nat) (e : End) (s : State) : Ans := trainLine n (homeAct sec e) s
def takeTrainHomeNone (n : Nat) (s : State) : Ans := trainLine n homeNoneAct s
def takeTrainCabtime (n secs : Nat) (s : State) : Ans := trainLine n (cabtimeAct secs) s
def takeTrainService (n st : Nat) (s : State) : Ans := trainLine n (serviceAct st) s

def execTrainName (n : Nat) (name : List Char) (s : State) : Host.Outcome State Fault Refusal :=
  command (takeTrainName n name) s
def execTrainLength (n mm : Nat) (s : State) : Host.Outcome State Fault Refusal :=
  command (takeTrainLength n mm) s
def execTrainTable (n st : Nat) (pairs : List (Nat × Nat)) (s : State) :
    Host.Outcome State Fault Refusal := command (takeTrainTable n st pairs) s
def execTrainTableQuery (n st : Nat) (s : State) : Host.Outcome State Fault Refusal :=
  command (takeTrainTableQuery n st) s
def execTrainRamp (n accel decel : Nat) (s : State) : Host.Outcome State Fault Refusal :=
  command (takeTrainRamp n accel decel) s
def execTrainCreep (n c : Nat) (s : State) : Host.Outcome State Fault Refusal :=
  command (takeTrainCreep n c) s
def execTrainHome (n sec : Nat) (e : End) (s : State) : Host.Outcome State Fault Refusal :=
  command (takeTrainHome n sec e) s
def execTrainHomeNone (n : Nat) (s : State) : Host.Outcome State Fault Refusal :=
  command (takeTrainHomeNone n) s
def execTrainCabtime (n secs : Nat) (s : State) : Host.Outcome State Fault Refusal :=
  command (takeTrainCabtime n secs) s
def execTrainService (n st : Nat) (s : State) : Host.Outcome State Fault Refusal :=
  command (takeTrainService n st) s

/-! ## TRAIN n (R158) -/

/-- The route index; a train with no route has none, and what is written there is a free value
(R158; log 23). -/
def indexTok (s : State) (t : TrainRun) : Tok :=
  match t.route with
  | none => optTok .num (Config.indexWithoutRoute s.freeDraws)
  | some (_, i) => .num i

/-- The head section; an UNPLACED train has none, and what is written there is a free value (R158;
log 23). -/
def headTok (s : State) (t : TrainRun) : Tok :=
  match t.head with
  | none => optTok .num (Config.headOfUnplaced s.freeDraws)
  | some h => idTok h.sec

/-- A reply that writes a free value uses one up (log 23). -/
def drawnFor (t : TrainRun) (s : State) : State :=
  if t.route = none ∨ t.head = none then s.withFreeDraws (s.freeDraws + 1) else s

/-- `TRAIN n` (R158). -/
def queryAct (n : Train) (s : State) : Ans :=
  let t := s.trains.get n
  answered ([.name (s.trainDef n).name, trainStateTok t.state, modeTok t.mode, .word .reason,
    optTok reasonTok t.reason, .word .route, optTok (fun p => idTok p.1) t.route, .word .index,
    indexTok s t, .word .head, headTok s t, .num t.headPos, .word .target, .num t.target, .word .a,
    .num t.speed, .word .duty, .num t.duty, .word .auth,
    optTok (fun a : Authority => .int a.dist) t.authority, .word .hold, .num t.holdings.length]
    ++ t.holdings.map idTok) (drawnFor t s)

def takeTrainQuery (n : Nat) (s : State) : Ans := trainLine n queryAct s

def execTrainQuery (n : Nat) (s : State) : Host.Outcome State Fault Refusal :=
  command (takeTrainQuery n) s

end Sys2Proof.Machine
end

