-- ==== Sys2Proof/Machine/Clock.lean ====
section
/-! DEFINITION. The scene clock (chapter 1): the clock step, step and jump notices, and the command
CLOCK. -/

namespace Sys2Proof.Machine

/-! ## Notices (R3, R9) -/

/-- A step notice reaches the sky engine, the traffic controller, the axis controller and the crossings
(R3; log 7). -/
def stepNotice (t0 t1 d : Nat) (s : State) : State :=
  setQuietFrom t1 (setProgramValues t1 (trafficStep t0 t1 d (skyStep t0 t1 s)))

/-- A jump notice reaches the same four blocks (R9, R10; log 7). -/
def jumpNotice (old new : Nat) (s : State) : State :=
  setQuietFrom new (setProgramValues new (trafficJump old new (skyJump new s)))

/-! ## The clock step (R2) -/

/-- The advance of a step from an accumulator at a rate (R2). -/
def advanceOf (acc rate : Nat) : Nat := (acc + rate) / 16

/-- A clock step in RUNNING (R2, R3). -/
def runStep (s : State) : State :=
  let t0 := s.clock.time
  let d := advanceOf s.clock.acc s.cfg.clockRate
  let acc := (s.clock.acc + s.cfg.clockRate) % 16
  if d = 0 then s.withClock { s.clock with acc := acc }
  else
    let t1 := (t0 + d) % Config.daySeconds
    stepNotice t0 t1 d (s.withClock { s.clock with time := t1, acc := acc, noticed := t1 })

/-- A clock step (R2). -/
def clockStep (s : State) : State := if s.clock.running then runStep s else s

def execClockStep (s : State) : Host.Outcome State Fault Refusal := event clockStep s

/-! ## CLOCK (R5 to R9) -/

/-- `CLOCK` (R5). -/
def takeClockQuery (s : State) : Ans :=
  answered [.time s.clock.time, .word (if s.clock.running then .running else .held),
    .num s.cfg.clockRate] s

/-- `CLOCK START` (R5). -/
def takeClockStartQuery (s : State) : Ans := answered [.time s.cfg.startTime] s

/-- `CLOCK RUN` (R6). -/
def takeClockRun (s : State) : Ans := taken (s.withClock { s.clock with running := true })

/-- `CLOCK HOLD` (R6). -/
def takeClockHold (s : State) : Ans := taken (s.withClock { s.clock with running := false })

/-- `CLOCK RATE n` (R7). -/
def takeClockRate (n : Nat) (s : State) : Ans :=
  unlessBusy s fun s =>
    takenClamped (decide (clampNat 1 1440 n ≠ n))
      (s.withCfg { s.cfg with clockRate := clampNat 1 1440 n })

/-- A start time is set: it is part of the configuration, and the next device reset starts the clock at it
(R8; log 43). -/
def setStartTime (v : Nat) (s : State) : State :=
  (s.withCfg { s.cfg with startTime := v }).withNextStart (some v)

/-- `CLOCK START hh:mm[:ss]` (R8). -/
def takeClockStart (t : TimeTok) (s : State) : Ans :=
  match timeValue t with
  | none => refuse .range s
  | some v => unlessBusy s fun s => taken (setStartTime v s)

/-- `CLOCK SET hh:mm[:ss]` (R9). -/
def takeClockSet (t : TimeTok) (s : State) : Ans :=
  match timeValue t with
  | none => refuse .range s
  | some v =>
    answered [.time v]
      (jumpNotice s.clock.time v (s.withClock { s.clock with time := v, acc := 0, noticed := v }))

def execClockQuery (s : State) : Host.Outcome State Fault Refusal := command takeClockQuery s
def execClockStartQuery (s : State) : Host.Outcome State Fault Refusal := command takeClockStartQuery s
def execClockRun (s : State) : Host.Outcome State Fault Refusal := command takeClockRun s
def execClockHold (s : State) : Host.Outcome State Fault Refusal := command takeClockHold s
def execClockRate (n : Nat) (s : State) : Host.Outcome State Fault Refusal :=
  command (takeClockRate n) s
def execClockStart (t : TimeTok) (s : State) : Host.Outcome State Fault Refusal :=
  command (takeClockStart t) s
def execClockSet (t : TimeTok) (s : State) : Host.Outcome State Fault Refusal :=
  command (takeClockSet t) s

end Sys2Proof.Machine
end

