-- ==== Sys2Proof/Machine/Fixtures.lean ====
section
/-! DEFINITION. The fixture map and STATUS (chapter 11, sections 11.6 and 11.7): the commands MAP, SET,
FREE, GET and STATUS. -/

namespace Sys2Proof.Machine

/-! ## Windows (R189) -/

/-- Window 0, which no command changes (R189). -/
def windowZero : Window := ⟨0, 192, .lamp, 0⟩

/-- Window w of the map, none where it is undefined. -/
def Scene.window (c : Scene) : Nat → Option Window
  | 0 => some windowZero
  | w + 1 =>
    match asId 7 w with
    | none => none
    | some i => c.windows.get i

/-- The number of elements of a kind (R189). -/
def kindCount : FixtureKind → Nat
  | .lamp => 192
  | .flood => 6
  | .axis => 4

/-- Two windows overlap in fixture numbers (R189). -/
def Window.overlaps (a b : Window) : Bool :=
  decide (a.base < b.base + b.count) && decide (b.base < a.base + a.count)

/-- Some other defined window overlaps window w's new definition (R189). -/
def Scene.windowClash (c : Scene) (w : Nat) (d : Window) : Bool :=
  (List.range 8).any fun v =>
    v != w &&
      match c.window v with
      | none => false
      | some x => d.overlaps x

/-- The index of a window that commands may set, 1..7 (R189). -/
def settableWindow : Nat → Option (Fin 7)
  | 0 => none
  | w + 1 => asId 7 w

/-- The fields of a window lie within their ranges (R189). -/
def Window.inRange (d : Window) : Bool :=
  decide (d.base ≤ 1023) && decide (1 ≤ d.count) && decide (d.count ≤ 192)
    && decide (d.base + d.count ≤ 1024) && decide (d.first + d.count ≤ kindCount d.kind)

def setWindow (i : Fin 7) (d : Option Window) (s : State) : State :=
  s.withCfg { s.cfg with windows := s.cfg.windows.set i d }

/-- `MAP w base count kind first` (R189). -/
def takeMapDefine (w base count : Nat) (kind : FixtureKind) (first : Nat) (s : State) : Ans :=
  match settableWindow w with
  | none => refuse .range s
  | some i =>
    let d : Window := ⟨base, count, kind, first⟩
    if d.inRange = false then refuse .range s
    else unlessBusy s fun s =>
      if s.cfg.windowClash w d then refuse .conflict s else taken (setWindow i (some d) s)

/-- `MAP w NONE` (R189). -/
def takeMapNone (w : Nat) (s : State) : Ans :=
  match settableWindow w with
  | none => refuse .range s
  | some i => unlessBusy s fun s => taken (setWindow i none s)

/-- `MAP w` (R189). -/
def takeMapQuery (w : Nat) (s : State) : Ans :=
  if 7 < w then refuse .range s
  else
    match s.cfg.window w with
    | none => answered [.word .none] s
    | some d => answered [.num d.base, .num d.count, fixtureTok d.kind, .num d.first] s

/-- `MAP` (R189). -/
def takeMapList (s : State) : Ans :=
  let ws := (List.range 8).filter fun w => (s.cfg.window w).isSome
  answered (.num ws.length :: ws.map .num) s

def execMapDefine (w base count : Nat) (kind : FixtureKind) (first : Nat) (s : State) :
    Host.Outcome State Fault Refusal := command (takeMapDefine w base count kind first) s
def execMapNone (w : Nat) (s : State) : Host.Outcome State Fault Refusal := command (takeMapNone w) s
def execMapQuery (w : Nat) (s : State) : Host.Outcome State Fault Refusal :=
  command (takeMapQuery w) s
def execMapList (s : State) : Host.Outcome State Fault Refusal := command takeMapList s

/-! ## Fixtures (R190) -/

/-- The element a fixture number reaches. -/
inductive Element where
  | lamp (i : LampId)
  | flood (f : FloodId)
  | axis (n : Axis)
deriving DecidableEq, Repr

/-- Element k of a kind. -/
def elementOf (kind : FixtureKind) (k : Nat) : Option Element :=
  match kind with
  | .lamp => (asId 192 k).map .lamp
  | .flood => (asId 6 k).map .flood
  | .axis => (asId 4 k).map .axis

/-- The element that fixture f reaches through a window, if it lies in it (R189). -/
def Window.reach (d : Window) (f : Nat) : Option Element :=
  if d.base ≤ f ∧ f < d.base + d.count then elementOf d.kind (d.first + (f - d.base)) else none

/-- The element a fixture number reaches through the windows as they stand (R190). -/
def Scene.fixture (c : Scene) (f : Nat) : Option Element :=
  (List.range 8).findSome? fun w => (c.window w).bind fun d => d.reach f

/-- A flood's override set or removed; the page is composed afresh (R32, R190). -/
def setFloodOverride (f : FloodId) (o : Option Override) (s : State) : State :=
  requestRecompose (s.withSky { s.sky with floods := s.sky.floods.set f o })

/-- A flood's override removed; without one nothing changes (R190), and no recompose is requested, although
R35 lists every taken `FREE` on a flood as a source (DESIGN CHOICE, log 56). -/
def freeFlood (f : FloodId) (s : State) : State :=
  if (s.sky.floods.get f).isNone then s else setFloodOverride f none s

/-- `SET f v [UNTIL t]` (R190). An expiry out of range is answered `NO RANGE` on an unmapped fixture too,
before `OK NOMAP`: R190 does not say which of the two is given (DESIGN CHOICE, log 15). -/
def takeSet (f v : Nat) (u : Option TimeTok) (s : State) : Ans :=
  if 1023 < f then refuse .range s
  else
    match s.cfg.fixture f, expiryValue u with
    | some (.axis n), _ =>
      if u.isSome then refuse .syntaxErr s
      else takenClamped (decide (600 < v)) (setAxisOverride n (some (min v 600)) s)
    | _, none => refuse .range s
    | none, some _ => (s, .nomap)
    | some (.lamp i), some e =>
      takenClamped (decide (255 < v)) (setLampOverride i (some ⟨min v 255, e⟩) s)
    | some (.flood i), some e =>
      takenClamped (decide (255 < v)) (setFloodOverride i (some ⟨min v 255, e⟩) s)

/-- `FREE f` (R190). -/
def takeFree (f : Nat) (s : State) : Ans :=
  if 1023 < f then refuse .range s
  else
    match s.cfg.fixture f with
    | none => (s, .nomap)
    | some (.lamp i) => taken (freeLamp i s)
    | some (.flood i) => taken (freeFlood i s)
    | some (.axis n) => taken (setAxisOverride n none s)

/-- The value `GET` answers for an element: its level in the shown page, or its measured speed (R190). -/
def elementValue (s : State) : Element → Nat
  | .lamp i => s.matrix.shown.lamps.get i
  | .flood f => s.matrix.shown.floods.get f
  | .axis n => (s.axes.get n).measured

/-- `GET f` (R190). -/
def takeGet (f : Nat) (s : State) : Ans :=
  if 1023 < f then refuse .range s
  else answered [.num f, optTok (fun e => .num (elementValue s e)) (s.cfg.fixture f)] s

def execSet (f v : Nat) (u : Option TimeTok) (s : State) : Host.Outcome State Fault Refusal :=
  command (takeSet f v u) s
def execFree (f : Nat) (s : State) : Host.Outcome State Fault Refusal := command (takeFree f) s
def execGet (f : Nat) (s : State) : Host.Outcome State Fault Refusal := command (takeGet f) s

/-! ## STATUS (R191) -/

/-- The halt as `STATUS` writes it (R191). -/
def haltTok (x : StopControl) : Tok :=
  .word (if x.line then .line else if x.latch then .latch else .off)

/-- `STATUS` (R191): taken at all times, before `#READY` too. -/
def takeStatus (s : State) : Ans :=
  answered ([.word .sw2460, .word (if s.sys.ready then .ready else .start), .word .time,
    .time s.clock.time, .word (if s.clock.running then .running else .held), .word .level,
    .word s.account.level.kw, .word .halt, haltTok s.stopc, .word .store, storeTok s.store.state,
    .word .trains] ++ s.trains.data.map fun t => trainStateTok t.state) s

def execStatus (s : State) : Host.Outcome State Fault Refusal := lineCommand takeStatus s

end Sys2Proof.Machine
end

