-- ==== Sys2Proof/Machine/Matrix.lean ====
section
/-! DEFINITION. The lamp matrix and the flood outputs (chapter 3): the exchange of pages at a frame
end, the frame settings, the flood periods, and the commands MATRIX and FLOOD. -/

namespace Sys2Proof.Machine

/-! ## Frame end (R41, R42, R46, R52) -/

/-- The exchange of pages (R46) and the staging of the new flood levels (R52). -/
def exchangePages (s : State) : State :=
  (s.withMatrix { s.matrix with
      shown := s.matrix.composing, composing := s.matrix.shown, ready := false }).withFloods
    (s.floods.mapIdx fun n f => { f with staged := some (s.matrix.composing.floods.get n) })

/-- The next frame takes the settings as they stand (R41, R42). -/
def nextFrame (s : State) : State :=
  s.withMatrix { s.matrix with
    frameDivider := s.cfg.divider, frameRows := s.cfg.rows, frameCols := s.cfg.cols }

/-- A frame ends (R46): with a page ready the pages are exchanged, and a pending request starts the next
compose; in IDLE and COMPOSING nothing is exchanged. -/
def frameEnd (s : State) : State :=
  let s1 :=
    if s.matrix.ready then
      let s2 := exchangePages s
      if s2.matrix.pending then startCompose (s2.withMatrix { s2.matrix with pending := false })
      else s2
    else s
  nextFrame s1

def execFrameEnd (s : State) : Host.Outcome State Fault Refusal := event frameEnd s

/-! ## Flood periods (R51) -/

/-- A staged duty becomes the applied duty (R51). -/
def floodPeriod (f : FloodRun) : FloodRun :=
  match f.staged with
  | none => f
  | some d => ⟨none, d⟩

def execFloodPeriodEnd (n : FloodId) (s : State) : Host.Outcome State Fault Refusal :=
  event (fun s => s.withFloods (s.floods.modify n floodPeriod)) s

/-! ## MATRIX (R43) -/

/-- The frame rate of a divider, in Hz (R41). -/
def frameRate (d : Nat) : Nat := 400 / (d + 1)

/-- `MATRIX DIVIDER d` (R43). -/
def takeMatrixDivider (d : Nat) (s : State) : Ans :=
  if d > 15 then refuse .range s
  else unlessBusy s fun s => taken (s.withCfg { s.cfg with divider := d })

/-- `MATRIX ROWS m` (R43). -/
def takeMatrixRows (m : Mirror) (s : State) : Ans :=
  unlessBusy s fun s => taken (s.withCfg { s.cfg with rows := m })

/-- `MATRIX COLS m` (R43). -/
def takeMatrixCols (m : Mirror) (s : State) : Ans :=
  unlessBusy s fun s => taken (s.withCfg { s.cfg with cols := m })

/-- `MATRIX` (R43): the settings as set, also before they take effect. -/
def takeMatrixQuery (s : State) : Ans :=
  answered [.word .divider, .num s.cfg.divider, .word .rate, .num (frameRate s.cfg.divider),
    .word .rows, mirrorTok s.cfg.rows, .word .cols, mirrorTok s.cfg.cols] s

def execMatrixDivider (d : Nat) (s : State) : Host.Outcome State Fault Refusal :=
  command (takeMatrixDivider d) s
def execMatrixRows (m : Mirror) (s : State) : Host.Outcome State Fault Refusal :=
  command (takeMatrixRows m) s
def execMatrixCols (m : Mirror) (s : State) : Host.Outcome State Fault Refusal :=
  command (takeMatrixCols m) s
def execMatrixQuery (s : State) : Host.Outcome State Fault Refusal := command takeMatrixQuery s

/-! ## FLOOD (R53) -/

/-- `FLOOD n SOURCE src` (R53): an equal source requests no recompose. -/
def takeFloodSource (n : Nat) (src : FloodSource) (s : State) : Ans :=
  match asId 6 n with
  | none => refuse .range s
  | some i =>
    unlessBusy s fun s =>
      if s.cfg.floodSources.get i = src then taken s
      else taken (requestRecompose
        (s.withCfg { s.cfg with floodSources := s.cfg.floodSources.set i src }))

/-- `FLOOD n` (R53). -/
def takeFloodQuery (n : Nat) (s : State) : Ans :=
  match asId 6 n with
  | none => refuse .range s
  | some i =>
    answered ([.word .source, sourceTok (s.cfg.floodSources.get i), .word .override]
      ++ overrideToks (s.sky.floods.get i)
      ++ [.word .level, .num (s.matrix.shown.floods.get i),
        .word .duty, .num (s.floods.get i).applied]) s

def execFloodSource (n : Nat) (src : FloodSource) (s : State) : Host.Outcome State Fault Refusal :=
  command (takeFloodSource n src) s
def execFloodQuery (n : Nat) (s : State) : Host.Outcome State Fault Refusal :=
  command (takeFloodQuery n) s

end Sys2Proof.Machine
end

