-- ==== Sys2Proof/Machine/Parse.lean ====
section
/-! DEFINITION. From the characters of a line to a command (chapter 11, R184): tokens, numbers, scene
times, and the forms of every verb. A line whose verb is not known, whose form selector is not known or
whose tokens fit no form is refused with the reason its chapter gives (log 14). -/

namespace Sys2Proof.Machine

/-! ## Tokens (R184) -/

def isBlank (c : Char) : Bool := c == ' ' || c == '\t'

/-- A line split at its spaces and tabs; `cur` holds the token in progress. -/
def splitTokens (cur : List Char) : List Char → List (List Char)
  | [] => if cur.isEmpty then [] else [cur]
  | c :: cs =>
    if isBlank c then (if cur.isEmpty then splitTokens [] cs else cur :: splitTokens [] cs)
    else splitTokens (cur ++ [c]) cs

/-- The value of a run of decimal digits. -/
def digitsValue (cs : List Char) : Nat := cs.foldl (fun v c => 10 * v + (c.toNat - 48)) 0

/-- A number token: 1 to 9 decimal digits (R184). -/
def numberOf (cs : List Char) : Option Nat :=
  if 1 ≤ cs.length ∧ cs.length ≤ 9 ∧ cs.all Char.isDigit then some (digitsValue cs) else none

/-- A token split at its colons. -/
def splitColons (cur : List Char) : List Char → List (List Char)
  | [] => [cur]
  | c :: cs => if c == ':' then cur :: splitColons [] cs else splitColons (cur ++ [c]) cs

/-- A field of a scene time with a number of digits in `lo..2`. -/
def timeField (lo : Nat) (cs : List Char) : Option Nat :=
  if lo ≤ cs.length ∧ cs.length ≤ 2 then numberOf cs else none

/-- A scene time token, hh:mm or hh:mm:ss (section 1.4). -/
def timeOf (cs : List Char) : Option TimeTok :=
  match splitColons [] cs with
  | [h, m] =>
    match timeField 1 h, timeField 2 m with
    | some h, some m => some ⟨h, m, 0⟩
    | _, _ => none
  | [h, m, x] =>
    match timeField 1 h, timeField 2 m, timeField 2 x with
    | some h, some m, some x => some ⟨h, m, x⟩
    | _, _, _ => none
  | _ => none

/-- A token as the verbs read it. -/
inductive Word where
  | kw (k : Kw)
  | num (n : Nat)
  | time (t : TimeTok)
  | other (cs : List Char)
deriving DecidableEq, Repr

/-- A token read, its letters without regard to case (R184). -/
def wordOf (cs : List Char) : Word :=
  match Kw.ofChars cs, numberOf cs, timeOf cs with
  | some k, _, _ => .kw k
  | none, some n, _ => .num n
  | none, none, some t => .time t
  | none, none, none => .other cs

/-- The tokens of a line in capitals. -/
def lineTokens (cs : List Char) : List (List Char) := splitTokens [] (cs.map Char.toUpper)

/-! ## Forms -/

/-- A line read: a command, the reason it is refused for, or a line in the form of a command but for a
keyword that is not known there, which is refused as `UNKNOWN` unless an earlier reason applies. -/
inductive Parsed where
  | line (i : Instr)
  | refused (r : Reason)
  | unknownIn (i : Instr)
deriving DecidableEq, Repr

/-- Missing, extra or malformed tokens. -/
def Parsed.malformed : Parsed := .refused .syntaxErr

/-- A token that reads as a keyword, known or not: a word that begins with a letter. A number, a time, a
sign and a run of more than 9 digits do not (R184; log 14). -/
def Word.isKeyword : Word → Bool
  | .kw k => k != .plus && k != .minus
  | .other (c :: _) => c.isAlpha
  | .other [] | .num _ | .time _ => false

/-- A run of more than 9 digits, the only run of digits that is no number: R184 calls it malformed. -/
def Word.isLongRun : Word → Bool
  | .other cs => cs.all Char.isDigit
  | .kw _ | .num _ | .time _ => false

/-- The form of command `i`, with the words that stand where it needs keywords and whether each is one it
can be, in a chapter that leaves other words to R185: a keyword that is not known there is `UNKNOWN`, and any
other token is of the wrong kind (log 14). -/
def keywords (ws : List (Word × Bool)) (i : Instr) : Parsed :=
  if ws.all Prod.snd then .line i
  else if ws.all fun p => p.2 || p.1.isKeyword then .unknownIn i
  else .malformed

/-- A form with one keyword; `d` stands in for the value of a keyword that is not known. -/
def keyword {α : Type} (w : Word) (o : Option α) (d : α) (f : α → Instr) : Parsed :=
  keywords [(w, o.isSome)] (f (o.getD d))

/-- A token that selects no form of the object that query `i` asks of (R185; log 14). No form says what the tokens
after it must be: `parseLine` finds a run of more than 9 digits among them, and else they are not tested (DESIGN
CHOICE, log 55). -/
def unknownWord (w : Word) (i : Instr) : Parsed := keywords [(w, false)] i

/-- A word where a form needs keyword `k`. -/
def Word.isKw (k : Kw) (w : Word) : Word × Bool := (w, w == .kw k)

/-- A word where a form needs one of several keywords, read as `o`. -/
def Word.hasSome {α : Type} (o : Option α) (w : Word) : Word × Bool := (w, o.isSome)

/-- `ON` or `OFF`. -/
def switchOf : Word → Option Bool
  | .kw .on => some true
  | .kw .off => some false
  | _ => none

/-- `A` or `B`. -/
def endOf : Word → Option End
  | .kw .a => some .a
  | .kw .b => some .b
  | _ => none

def mirrorOf : Word → Option Mirror
  | .kw .normal => some .normal
  | .kw .reversed => some .reversed
  | _ => none

def branchOf : Word → Option Branch
  | .kw .normal => some .normal
  | .kw .reverse => some .reverse
  | _ => none

def polarityOf : Word → Option Polarity
  | .kw .plus => some .plus
  | .kw .minus => some .minus
  | _ => none

def orientationOf : Word → Option Orientation
  | .kw .fwd => some .fwd
  | .kw .rev => some .rev
  | _ => none

def transitionOf : Word → Option Transition
  | .kw .linear => some .linear
  | .kw .step => some .step
  | _ => none

def curveOf : Word → Option Curve
  | .kw .linear => some .linear
  | .kw .soft => some .soft
  | .kw .hard => some .hard
  | _ => none

def scanOf : Word → Option ScanMode
  | .kw .normal => some .normal
  | .kw .allOn => some .allOn
  | .kw .allOff => some .allOff
  | .kw .walk => some .walk
  | _ => none

def sourceOf : Word → Option FloodSource
  | .kw .skyRed => some .skyRed
  | .kw .skyGreen => some .skyGreen
  | .kw .skyBlue => some .skyBlue
  | .kw .ambient => some .ambient
  | .kw .none => some .none
  | _ => none

def markKindOf : Word → Option MarkKind
  | .kw .position => some .position
  | .kw .stop => some .stop
  | _ => none

def fixtureKindOf : Word → Option FixtureKind
  | .kw .lamp => some .lamp
  | .kw .flood => some .flood
  | .kw .axis => some .axis
  | _ => none

/-- A group number or `NONE`. -/
def groupOf : Word → Option (Option Nat)
  | .num g => some (some g)
  | .kw .none => some none
  | _ => none

/-- A word the form needs, in a chapter that answers any other with `SYNTAX`, and the form it makes. -/
def needing {α : Type} (o : Option α) (f : α → Instr) : Parsed :=
  match o with
  | none => .malformed
  | some a => .line (f a)

/-- A list of numbers. -/
def numbersOf : List Word → Option (List Nat)
  | [] => some []
  | .num n :: ws => (numbersOf ws).map fun ns => n :: ns
  | _ :: _ => none

/-- A list of pairs of numbers. -/
def pairsOf : List Word → Option (List (Nat × Nat))
  | [] => some []
  | .num a :: .num b :: ws => (pairsOf ws).map fun ps => (a, b) :: ps
  | _ => none

/-- The group pairs of a KEY line, each `G g v` (R14). -/
def groupPairsOf : List Word → Option (List (Nat × Nat))
  | [] => some []
  | .kw .g :: .num g :: .num v :: ws => (groupPairsOf ws).map fun ps => (g, v) :: ps
  | _ => none

/-- A section end: a number and `A` or `B`. -/
def endTokOf (n : Nat) (w : Word) : Option EndTok := (endOf w).map fun e => ⟨n, e⟩

/-! ## The verbs (R191) -/

/-- `CLOCK` (R5 to R9). -/
def parseClock : List Word → Parsed
  | [] => .line .clockQuery
  | [.kw .start] => .line .clockStartQuery
  | [.kw .start, .time t] => .line (.clockStart t)
  | [.kw .run] => .line .clockRun
  | [.kw .hold] => .line .clockHold
  | [.kw .rate, .num n] => .line (.clockRate n)
  | [.kw .set, .time t] => .line (.clockSet t)
  | .kw .start :: _ | .kw .run :: _ | .kw .hold :: _ | .kw .rate :: _ | .kw .set :: _ => .malformed
  | _ => .refused .unknown

/-- `KEY` (R14 to R16). -/
def parseKey : List Word → Parsed
  | [.kw .list] => .line .keyList
  | [.kw .drop, .time t] => .line (.keyDrop t)
  | [.time t] => .line (.keyQuery t)
  | [.time t, .kw .g, .num g, .num v] => .line (.keyG t g v)
  | [.time t, .kw .g, .num g, .kw .none] => .line (.keyGNone t g)
  | .time t :: w :: .num r :: .num g :: .num b :: .num a :: ws =>
    match transitionOf w, groupPairsOf ws with
    | some tr, some ps => .line (.key t tr r g b a ps)
    | _, _ => .malformed
  | _ => .malformed

/-- `GROUP` (R20). -/
def parseGroup : List Word → Parsed
  | [.num g] => .line (.groupQuery g)
  | [.num g, .kw .dimmed, w] => keyword w (curveOf w) .linear fun c => .groupDimmed g c
  | [.num g, .kw .switched, .num th, .num hy, .num on, .num wu] =>
    .line (.groupSwitched g th hy on wu)
  | .num _ :: .kw .dimmed :: _ | .num _ :: .kw .switched :: _ => .malformed
  | .num g :: w :: _ => unknownWord w (.groupQuery g)
  | _ => .malformed

/-- `LAMP` (R27, R28). -/
def parseLamp : List Word → Parsed
  | [.num n] => .line (.lampQuery n)
  | [.num n, .kw .group, w] => keyword w (groupOf w) none fun g => .lampGroup n g
  | [.num n, .kw .group, w, k, .num st] =>
    keywords [w.hasSome (groupOf w), k.isKw .stagger] (.lampGroupStagger n ((groupOf w).getD none) st)
  | [.num n, .kw .stagger, .num st] => .line (.lampStagger n st)
  | [.num n, .kw .to, .num m, k, w, l, .num st, .num inc] =>
    keywords [k.isKw .group, w.hasSome (groupOf w), l.isKw .stagger]
      (.lampRange n m ((groupOf w).getD none) st inc)
  | [.num n, .kw .level, .num v] => .line (.lampLevel n v none)
  | [.num n, .kw .level, .num v, w, .time t] => keywords [w.isKw .until] (.lampLevel n v (some t))
  | [.num n, .kw .free] => .line (.lampFree n)
  | .num _ :: .kw .group :: _ | .num _ :: .kw .stagger :: _ | .num _ :: .kw .to :: _
  | .num _ :: .kw .level :: _ | .num _ :: .kw .free :: _ => .malformed
  | .num n :: w :: _ => unknownWord w (.lampQuery n)
  | _ => .malformed

/-- `BRIGHT` (R33). -/
def parseBright : List Word → Parsed
  | [] => .line .brightQuery
  | [.num n] => .line (.bright n)
  | _ => .malformed

/-- `SCAN` (R34). -/
def parseScan : List Word → Parsed
  | [] => .line .scanQuery
  | [w] => keyword w (scanOf w) .normal fun m => .scan m
  | _ => .malformed

/-- `MATRIX` (R43). -/
def parseMatrix : List Word → Parsed
  | [] => .line .matrixQuery
  | [.kw .divider, .num d] => .line (.matrixDivider d)
  | [.kw .rows, w] => needing (mirrorOf w) fun m => .matrixRows m
  | [.kw .cols, w] => needing (mirrorOf w) fun m => .matrixCols m
  | .kw .divider :: _ | .kw .rows :: _ | .kw .cols :: _ => .malformed
  | _ => .refused .unknown

/-- `FLOOD` (R53): a missing `SOURCE` is a missing token, and a source word not among the five is answered
`SYNTAX`. -/
def parseFlood : List Word → Parsed
  | [.num n] => .line (.floodQuery n)
  | [.num n, .kw .source, w] => needing (sourceOf w) fun x => .floodSource n x
  | .num _ :: .kw .source :: _ => .malformed
  | .num n :: w :: _ => if (sourceOf w).isSome then .malformed else unknownWord w (.floodQuery n)
  | _ => .malformed

/-- `BRIDGE` (R64). -/
def parseBridge : List Word → Parsed
  | [.num n] => .line (.bridgeQuery n)
  | [.num n, .kw .pwm, .num res, .num p] => .line (.bridgePwm n res p)
  | [.num n, .kw .sense, w] => needing (switchOf w) fun on => .bridgeSense n on
  | [.num n, .kw .trip, .num mA] => .line (.bridgeTrip n mA)
  | .num _ :: .kw .pwm :: _ | .num _ :: .kw .sense :: _ | .num _ :: .kw .trip :: _ => .malformed
  | .num n :: _ :: _ => .unknownIn (.bridgeQuery n)
  | _ => .malformed

/-- `SENSE` (R84). -/
def parseSense : List Word → Parsed
  | [] => .line .senseQuery
  | [.num n] => .line (.senseSectionQuery n)
  | [.num n, .kw .threshold, .num mA] => .line (.senseThreshold n mA)
  | .num _ :: .kw .threshold :: _ => .malformed
  | .num n :: _ :: _ => .unknownIn (.senseSectionQuery n)
  | _ => .malformed

/-- `INPUT` (R90). -/
def parseInput : List Word → Parsed
  | [.kw .mark, .num m] => .line (.inputMarkQuery m)
  | [.kw .mark, .num m, .kw .filter, .num f] => .line (.inputMarkFilter m f)
  | [.kw .index, .num n] => .line (.inputIndexQuery n)
  | [.kw .index, .num n, .kw .filter, .num f] => .line (.inputIndexFilter n f)
  | .kw .mark :: .num _ :: .kw .filter :: _ | .kw .index :: .num _ :: .kw .filter :: _ => .malformed
  | .kw .mark :: .num m :: _ :: _ => .unknownIn (.inputMarkQuery m)
  | .kw .index :: .num n :: _ :: _ => .unknownIn (.inputIndexQuery n)
  | .kw .mark :: _ | .kw .index :: _ | [] => .malformed
  | ws => if ws.any Word.isLongRun then .malformed else .refused .unknown

/-- `SECTION` (R92, R93). -/
def parseSection : List Word → Parsed
  | [.num n] => .line (.sectionQuery n)
  | [.num n, .kw .length, .num mm] => .line (.sectionLength n mm)
  | [.num n, .kw .drop] => .line (.sectionDrop n)
  | [.num n, .kw .a, w] => keywords [w.isKw .buffer] (.sectionBuffer n .a)
  | [.num n, .kw .b, w] => keywords [w.isKw .buffer] (.sectionBuffer n .b)
  | [.num n, .kw .a, .num x, w] => keyword w (endTokOf x w) ⟨x, .a⟩ fun u => .sectionJoin n .a u
  | [.num n, .kw .b, .num x, w] => keyword w (endTokOf x w) ⟨x, .a⟩ fun u => .sectionJoin n .b u
  | .num _ :: .kw .length :: _ | .num _ :: .kw .drop :: _ | .num _ :: .kw .a :: _
  | .num _ :: .kw .b :: _ => .malformed
  | .num n :: w :: _ => unknownWord w (.sectionQuery n)
  | _ => .malformed

/-- `TURNOUT` (R95, R104). -/
def parseTurnout : List Word → Parsed
  | [.num t] => .line (.turnoutQuery t)
  | [.num t, .kw .legs, .num x, p, .num y, q, .num z, r] =>
    keywords [p.hasSome (endOf p), q.hasSome (endOf q), r.hasSome (endOf r)]
      (.turnoutLegs t ⟨x, (endOf p).getD .a⟩ ⟨y, (endOf q).getD .a⟩ ⟨z, (endOf r).getD .a⟩)
  | [.num t, .kw .drop] => .line (.turnoutDrop t)
  | [.num t, .kw .throw, w] => keyword w (branchOf w) .normal fun b => .turnoutThrow t b
  | [.num t, .kw .pulse, .num ms] => .line (.turnoutPulse t ms)
  | .num _ :: .kw .legs :: _ | .num _ :: .kw .drop :: _ | .num _ :: .kw .throw :: _
  | .num _ :: .kw .pulse :: _ => .malformed
  | .num t :: w :: _ => unknownWord w (.turnoutQuery t)
  | _ => .malformed

/-- `RUN` (R96). -/
def parseRun : List Word → Parsed
  | [.num r] => .line (.runQuery r)
  | [.num r, .kw .drop] => .line (.runDrop r)
  | .num _ :: .kw .drop :: _ => .malformed
  | .num r :: w :: ws =>
    match numbersOf (w :: ws) with
    | some xs => .line (.runDefine r xs)
    | none => unknownWord w (.runQuery r)
  | _ => .malformed

/-- `MARK` (R98). -/
def parseMark : List Word → Parsed
  | [.num m] => .line (.markQuery m)
  | [.num m, .kw .drop] => .line (.markDrop m)
  | [.num m, .num x, .num mm, w] =>
    keyword w (markKindOf w) .position fun k => .markDefine m x mm k
  | .num _ :: .kw .drop :: _ => .malformed
  | .num m :: w :: _ => unknownWord w (.markQuery m)
  | _ => .malformed

/-- `CROSSING` (R105). -/
def parseCrossing : List Word → Parsed
  | [.num c] => .line (.crossingQuery c)
  | [.num c, .kw .drop] => .line (.crossingDrop c)
  | [.num c, .num x, j, .num a, .num b, k, .num v, l, .num n, m, w] =>
    keywords [j.isKw .lamps, k.isKw .flash, l.isKw .lead, m.isKw .bell, w.hasSome (switchOf w)]
      (.crossingDefine c x a b v n ((switchOf w).getD false))
  | .num _ :: .kw .drop :: _ => .malformed
  | .num c :: w :: _ => unknownWord w (.crossingQuery c)
  | _ => .malformed

/-- `BELL` (R111). -/
def parseBell : List Word → Parsed
  | [] => .line .bellQuery
  | [.kw .tone, .num hz] => .line (.bellTone hz)
  | [.kw .quiet, .time f, .time t] => .line (.bellQuiet f t)
  | [.kw .quiet, w] => keywords [w.isKw .none] .bellQuietNone
  | .kw .tone :: _ | .kw .quiet :: _ => .malformed
  | w :: _ => unknownWord w .bellQuery

/-- `UNIT` (R130). -/
def parseUnit : List Word → Parsed
  | [] => .line .unitList
  | [.num x] => .line (.unitQuery x)
  | _ => .malformed

/-- `TRAIN` (R145, R147, R148, R151, R152, R156, R158). `raw` holds the tokens as characters, for a
name. -/
def parseTrain (raw : List (List Char)) : List Word → Parsed
  | [.num n] => .line (.trainQuery n)
  | [.num n, .kw .resume] => .line (.trainResume n)
  | [.num n, .kw .place, .num x, w] => needing (endOf w) fun e => .trainPlace n x e
  | [.num n, .kw .lift] => .line (.trainLift n)
  | [.num n, .kw .find, .num x, w] => needing (endOf w) fun e => .trainFind n x e
  | [.num n, .kw .go, .num r] => .line (.trainGo n r)
  | [.num n, .kw .park] => .line (.trainPark n)
  | [.num n, .kw .cab, .num st] => .line (.trainCab n st none)
  | [.num n, .kw .cab, .num st, w] => needing (orientationOf w) fun o => .trainCab n st (some o)
  | [.num n, .kw .name, _] =>
    match raw with
    | [_, _, _, cs] => .line (.trainName n cs)
    | _ => .malformed
  | [.num n, .kw .length, .num mm] => .line (.trainLength n mm)
  | [.num n, .kw .table, .num st] => .line (.trainTableQuery n st)
  | .num n :: .kw .table :: .num st :: ws => needing (pairsOf ws) fun ps => .trainTable n st ps
  | [.num n, .kw .ramp, .num a, .num d] => .line (.trainRamp n a d)
  | [.num n, .kw .creep, .num c] => .line (.trainCreep n c)
  | [.num n, .kw .home, .kw .none] => .line (.trainHomeNone n)
  | [.num n, .kw .home, .num x, w] => needing (endOf w) fun e => .trainHome n x e
  | [.num n, .kw .cabtime, .num x] => .line (.trainCabtime n x)
  | [.num n, .kw .service, .num st] => .line (.trainService n st)
  | .num _ :: .kw .resume :: _ | .num _ :: .kw .place :: _ | .num _ :: .kw .lift :: _
  | .num _ :: .kw .find :: _ | .num _ :: .kw .go :: _ | .num _ :: .kw .park :: _
  | .num _ :: .kw .cab :: _ | .num _ :: .kw .name :: _ | .num _ :: .kw .length :: _
  | .num _ :: .kw .table :: _ | .num _ :: .kw .ramp :: _ | .num _ :: .kw .creep :: _
  | .num _ :: .kw .home :: _ | .num _ :: .kw .cabtime :: _ | .num _ :: .kw .service :: _ => .malformed
  | .num n :: _ :: _ => .unknownIn (.trainQuery n)
  | _ => .malformed

/-- `ROUTE` (R149, R150). -/
def parseRoute : List Word → Parsed
  | [.num r] => .line (.routeQuery r)
  | [.num r, .kw .drop] => .line (.routeDrop r)
  | [.num r, .kw .loop, w] => keyword w (switchOf w) false fun on => .routeLoop r on
  | [.num r, .kw .stop, .num i, .num d] => .line (.routeStop r i d none)
  | [.num r, .kw .stop, .num i, w] => keywords [w.isKw .none] (.routeStopNone r i)
  | [.num r, .kw .stop, .num i, .num d, w, .num m] =>
    keywords [w.isKw .mark] (.routeStop r i d (some m))
  | .num r :: .kw .add :: w :: ws => needing (numbersOf (w :: ws)) fun xs => .routeAdd r xs
  | .num _ :: .kw .add :: _ | .num _ :: .kw .stop :: _ | .num _ :: .kw .loop :: _
  | .num _ :: .kw .drop :: _ => .malformed
  | .num r :: w :: ws =>
    match numbersOf (w :: ws) with
    | some xs => .line (.routeDefine r xs)
    | none => unknownWord w (.routeQuery r)
  | _ => .malformed

/-- `TIMETABLE` (R154): what stands for a time before two numbers and is none is answered `SYNTAX`. -/
def parseTimetable : List Word → Parsed
  | [] => .line .timetableQuery
  | [.time t, .num n, .num r] => .line (.timetableAdd t n r)
  | [.kw .drop, .time t, .num n] => .line (.timetableDrop t n)
  | [.kw .autorun, w] => keyword w (switchOf w) false fun on => .timetableAutorun on
  | [.kw .list, .num i] => .line (.timetableList i)
  | .kw .drop :: _ | .kw .autorun :: _ | .kw .list :: _ | [_, .num _, .num _] => .malformed
  | w :: _ => unknownWord w .timetableQuery

/-- `AXIS` (R160, R161, R166, R169). -/
def parseAxis : List Word → Parsed
  | [.num n] => .line (.axisQuery n)
  | [.num n, .kw .program] => .line (.axisProgramQuery n)
  | [.num n, .kw .program, .time t, .num v] => .line (.axisProgram n t v)
  | [.num n, .kw .program, .kw .drop, .time t] => .line (.axisProgramDrop n t)
  | [.num n, .kw .program, .kw .none] => .line (.axisProgramNone n)
  | [.num n, .kw .speed, .num v] => .line (.axisSpeed n v)
  | [.num n, .kw .free] => .line (.axisFree n)
  | [.num n, .kw .clear] => .line (.axisClear n)
  | [.num n, .kw .direction, w] => needing (polarityOf w) fun p => .axisDirection n p
  | [.num n, .kw .gain, .num v] => .line (.axisGain n v)
  | [.num n, .kw .kick, .num v] => .line (.axisKick n v)
  | [.num n, .kw .maxduty, .num v] => .line (.axisMaxduty n v)
  | [.num n, .kw .stall, .num v] => .line (.axisStall n v)
  | [.num n, .kw .slew, .num v] => .line (.axisSlew n v)
  | .num _ :: .kw .program :: _ | .num _ :: .kw .speed :: _ | .num _ :: .kw .free :: _
  | .num _ :: .kw .clear :: _ | .num _ :: .kw .direction :: _ | .num _ :: .kw .gain :: _
  | .num _ :: .kw .kick :: _ | .num _ :: .kw .maxduty :: _ | .num _ :: .kw .stall :: _
  | .num _ :: .kw .slew :: _ => .malformed
  | .num n :: _ :: _ => .unknownIn (.axisQuery n)
  | _ => .malformed

/-- `BUDGET` (R177 to R179). -/
def parseBudget : List Word → Parsed
  | [] => .line .budgetQuery
  | [.kw .ceiling, .num n] => .line (.budgetCeiling n)
  | [.kw .lamp, .num mA] => .line (.budgetLamp mA)
  | [.kw .flood, .num mA] => .line (.budgetFlood mA)
  | .kw .ceiling :: _ | .kw .lamp :: _ | .kw .flood :: _ => .malformed
  | _ => .refused .unknown

/-- `MAP` (R189). -/
def parseMap : List Word → Parsed
  | [] => .line .mapList
  | [.num w] => .line (.mapQuery w)
  | [.num w, .kw .none] => .line (.mapNone w)
  | [.num w, .num base, .num count, k, .num first] =>
    needing (fixtureKindOf k) fun kind => .mapDefine w base count kind first
  | .num _ :: .kw .none :: _ => .malformed
  | .num w :: k :: _ => unknownWord k (.mapQuery w)
  | _ => .malformed

/-- `SET` (R190). -/
def parseSet : List Word → Parsed
  | [.num f, .num v] => .line (.set f v none)
  | [.num f, .num v, w, .time t] => keywords [w.isKw .until] (.set f v (some t))
  | _ => .malformed

/-- A verb with one number and nothing else. -/
def parseNumber (f : Nat → Instr) : List Word → Parsed
  | [.num n] => .line (f n)
  | _ => .malformed

/-- A verb with nothing after it. -/
def parseAlone (i : Instr) : List Word → Parsed
  | [] => .line i
  | _ :: _ => .malformed

/-- The verb `v` with the words after it; a word that is no verb of the index of 11.7 is not known
(R184). -/
def parseVerb (raw : List (List Char)) (v : Kw) (ws : List Word) : Parsed :=
  match v with
  | .clock => parseClock ws
  | .key => parseKey ws
  | .group => parseGroup ws
  | .lamp => parseLamp ws
  | .bright => parseBright ws
  | .scan => parseScan ws
  | .matrix => parseMatrix ws
  | .flood => parseFlood ws
  | .bridge => parseBridge ws
  | .restore => parseNumber .restore ws
  | .stop => parseAlone .stop ws
  | .resume => parseAlone .resume ws
  | .sense => parseSense ws
  | .input => parseInput ws
  | .sectionW => parseSection ws
  | .turnout => parseTurnout ws
  | .run => parseRun ws
  | .mark => parseMark ws
  | .crossing => parseCrossing ws
  | .bell => parseBell ws
  | .unit => parseUnit ws
  | .train => parseTrain raw ws
  | .route => parseRoute ws
  | .timetable => parseTimetable ws
  | .axis => parseAxis ws
  | .budget => parseBudget ws
  | .map => parseMap ws
  | .set => parseSet ws
  | .free => parseNumber .free ws
  | .get => parseNumber .get ws
  | .status => parseAlone .status ws
  | .save => parseAlone .save ws
  | .erase => parseAlone .erase ws
  | .reset => parseAlone .reset ws
  | _ => .refused .unknown

/-- A line with a keyword that is not known, among the words `ws` after its verb: `SYNTAX`, which comes first,
where one of them is malformed in itself (R99, R150, R169; DESIGN CHOICE where a chapter states no order,
log 55). -/
def Parsed.afterRuns (ws : List Word) : Parsed → Parsed
  | .unknownIn i => if ws.any Word.isLongRun then .malformed else .unknownIn i
  | .line i => .line i
  | .refused r => .refused r

/-- A line's characters read as a command (R184). -/
def parseLine (cs : List Char) : Parsed :=
  let raw := lineTokens cs
  match raw.map wordOf with
  | .kw v :: ws => (parseVerb raw v ws).afterRuns ws
  | _ => .refused .unknown

end Sys2Proof.Machine
end

