-- ==== Sys2Proof/Machine/Halt.lean ====
section
/-! DEFINITION. Stop control (chapter 4, section 4.8), the delivery of a sample with all it sets off
(chapter 5, sections 5.2 and 5.3), and the mark and index inputs (section 5.5). -/

namespace Sys2Proof.Machine

/-! ## The halt (R65, R66) -/

/-- Every channel that is not CUT goes OFF at once (R66). -/
def releaseAll (s : State) : State :=
  ((ids 24).filter fun c => (s.channels.get c).state != .cut).foldl
    (fun s c => releaseChannel .off c s) s

/-- The halt comes into force: channels, trains, axes, and then the report (R66; log 30). -/
def enterHalt (r : Report) (s : State) : State := (haltAxes (haltTrains (releaseAll s))).raise r

/-- The latch is set, and a halt that was not in force comes into force (R65, R68). -/
def setLatch (line : Bool) (r : Report) (s : State) : State :=
  let s' := s.withStopc { s.stopc with line := line, run := 0, latch := true }
  if s.halt then s' else enterHalt r s'

/-- The level at the STOP pin, which a device reset reads as it stands (R65): the pin has it while RST holds
the part too. -/
def withStopPin (asserted : Bool) (s : State) : State :=
  s.withSys { s.sys with pins := { s.sys.pins with stop := asserted } }

/-- An assertion of the STOP line is accepted (R65). -/
def acceptAssert (s : State) : State := if s.stopc.line then s else setLatch true .haltLine s

/-- A release of the STOP line is accepted: the halt stays in force (R65). -/
def acceptRelease (s : State) : State :=
  if s.stopc.line then
    (s.withStopc { s.stopc with line := false, run := 0 }).raise .stopReleased
  else s

/-- The STOP input is sampled: a new level is accepted after three samples in a row (R65). -/
def stopSample (asserted : Bool) (s : State) : State :=
  if asserted = s.stopc.line then s.withStopc { s.stopc with run := 0 }
  else if s.stopc.run + 1 < Config.acceptSamples then
    s.withStopc { s.stopc with run := s.stopc.run + 1 }
  else if asserted then acceptAssert s
  else acceptRelease s

def execStopLineAssert (s : State) : Host.Outcome State Fault Refusal :=
  event acceptAssert (withStopPin true s)
def execStopLineRelease (s : State) : Host.Outcome State Fault Refusal :=
  event acceptRelease (withStopPin false s)
def execStopLineSample (asserted : Bool) (s : State) : Host.Outcome State Fault Refusal :=
  event (stopSample asserted) (withStopPin asserted s)

/-- `STOP` (R68): the run of samples at a new level goes on. -/
def takeStop (s : State) : Ans :=
  let s' := s.withStopc { s.stopc with latch := true }
  taken (if s.halt then s' else enterHalt .haltCommand s')

/-- `RESUME` (R69). -/
def takeResume (s : State) : Ans :=
  if s.stopc.line then refuse .stopped s
  else if s.stopc.latch then
    taken (resumeAxes (resumeTrains (s.withStopc { s.stopc with latch := false })))
  else taken s

def execStop (s : State) : Host.Outcome State Fault Refusal := command takeStop s
def execResume (s : State) : Host.Outcome State Fault Refusal := command takeResume s

/-! ## Delivery of a sample (R78, R80) -/

/-- The CUT notice reaches the channel's owner (R62). -/
def cutNotice (c : Channel) (s : State) : State :=
  match channelSection c, channelAxis c with
  | some x, _ => sectionCutNotice x s
  | none, some n => axisCutNotice n s
  | none, none => s

/-- Step 2: a sample at or above the trip limit cuts the channel (R62, R80). -/
def tripTest (c : Channel) (mA : Nat) (s : State) : State :=
  if mA < (s.cfg.bridge.get c).trip ∨ (s.channels.get c).state = .cut then s
  else (cutNotice c (releaseChannel .cut c s)).raise (.trip c mA)

/-- Step 3: a section's sample reaches its filter, and a transition the traffic controller (R78, R82). -/
def occupancyStep (c : Channel) (mA : Nat) (s : State) : State :=
  match channelSection c with
  | none => s
  | some x =>
    let f := s.sense.filters.get x
    let f' := filterSample (s.cfg.thresholds.get x) mA f
    let s := s.withSense { s.sense with filters := s.sense.filters.set x f' }
    if f'.occupied = f.occupied then s else occupancyNotice x s

/-- A kept sample is delivered (R78). -/
def deliver (c : Channel) (mA : Nat) (s : State) : State :=
  occupancyStep c mA (tripTest c mA (writeSlot c mA s))

/-- A conversion completes: a discarded sample is thrown away, and the next conversion starts (R76,
R78). With no conversion in flight there is nothing to complete, and nothing changes: R76 has no such event
(DESIGN CHOICE, log 5). -/
def conversionEnd (s : State) : State :=
  match s.sense.inflight with
  | none => s
  | some v =>
    let s := if v.req.discard then s else deliver v.req.ch (sampleOf v.value) s
    s.withSense (startConversion s.sense)

def execConversionComplete (s : State) : Host.Outcome State Fault Refusal := event conversionEnd s

/-! ## Mark and index inputs (R85 to R88) -/

/-- The mark a mark input reads. -/
def inputMark (i : InputId) : Option MarkId := asId 16 i.val

/-- The axis an index input reads. -/
def inputAxis (i : InputId) : Option Axis := if i.val < 16 then none else asId 4 (i.val - 16)

/-- The event of an accepted edge to ACTIVE (R87): a mark event where the mark is defined, an index event
for an index input. -/
def edgeEvent (i : InputId) (stamp : Nat) (s : State) : State :=
  match inputMark i, inputAxis i with
  | some m, _ =>
    match s.cfg.marks.get m with
    | none => s
    | some d => markEvent m d.sec (10 * d.offset) s
  | none, some n => indexEvent n stamp s
  | none, none => s

/-- An edge to ACTIVE is accepted with its stamp (R87, R88). -/
def acceptActive (i : InputId) (stamp : Nat) (s : State) : State :=
  let was := (s.inputs.get i).stuck
  let s := s.modInput i fun f =>
    { f with sampled := true, active := true, run := 0, last := some stamp, stuckTimer := true }
  if was then s else edgeEvent i stamp s

/-- An edge to INACTIVE is accepted: it clears stuck and stops the stuck timer (R88). -/
def acceptInactive (i : InputId) (s : State) : State :=
  let was := (s.inputs.get i).stuck
  let s := s.modInput i fun f =>
    { f with sampled := true, active := false, run := 0, stuck := false, stuckTimer := false }
  if was then s.raise (.released i) else s

/-- An input reads a level at a sample (R86); the first sample after a device reset is taken as accepted
without an edge (R85; log 24). -/
def sampleInput (i : InputId) (level : Bool) (s : State) : State :=
  let f := s.inputs.get i
  if f.sampled = false then
    s.modInput i fun f => { f with sampled := true, active := level, run := 0, stuckTimer := level }
  else if level = f.active then s.modInput i fun f => { f with run := 0 }
  else
    let start := if f.run = 0 then s.sys.ms else f.runStart
    let s := s.modInput i fun f => { f with run := f.run + 1, runStart := start }
    if f.run + 1 < s.cfg.filters.get i then s
    else if level then acceptActive i start s
    else acceptInactive i s

/-- All twenty inputs are sampled; bit i is set where input i reads ACTIVE (R86; log 25). -/
def inputSample (levels : BitVec 20) (s : State) : State :=
  (ids 20).foldl (fun s i => sampleInput i (levels.getLsbD i.val) s) s

/-- An edge to ACTIVE accepted as an event of its own: its stamp is the run start of the run in progress,
or the present millisecond (R86; log 24). -/
def edgeActive (i : InputId) (s : State) : State :=
  let f := s.inputs.get i
  if f.active then s else acceptActive i (if f.run = 0 then s.sys.ms else f.runStart) s

def edgeInactive (i : InputId) (s : State) : State :=
  if (s.inputs.get i).active then acceptInactive i s else s

/-- The stuck timer expires (R88). -/
def stuckExpiry (i : InputId) (s : State) : State :=
  if (s.inputs.get i).stuckTimer then
    (s.modInput i fun f => { f with stuck := true, stuckTimer := false }).raise (.stuck i)
  else s

/-- The real millisecond count adds 1 and wraps (R85). -/
def countMillisecond (s : State) : State :=
  s.withSys { s.sys with ms := (s.sys.ms + 1) % Config.msModulus }

def execAcceptedEdgeActive (i : InputId) (s : State) : Host.Outcome State Fault Refusal :=
  event (edgeActive i) s
def execAcceptedEdgeInactive (i : InputId) (s : State) : Host.Outcome State Fault Refusal :=
  event (edgeInactive i) s
def execStuckTimer (i : InputId) (s : State) : Host.Outcome State Fault Refusal :=
  event (stuckExpiry i) s
def execInputSample (levels : BitVec 20) (s : State) : Host.Outcome State Fault Refusal :=
  event (inputSample levels) s
def execRealMillisecondCount (s : State) : Host.Outcome State Fault Refusal :=
  event countMillisecond s

/-! ## INPUT (R90) -/

/-- The input of mark input m. -/
def markInput (m : Nat) : Option InputId := (asId 16 m).map fun m => ⟨m.val, by omega⟩

/-- The input of index input n. -/
def indexInput (n : Nat) : Option InputId := (asId 4 n).map fun n => ⟨16 + n.val, by omega⟩

/-- A filter length set (R90). -/
def setFilter (i : Option InputId) (f : Nat) (s : State) : Ans :=
  match i with
  | none => refuse .range s
  | some i =>
    if f < 2 ∨ 8 < f then refuse .range s
    else unlessBusy s fun s => taken (s.withCfg { s.cfg with filters := s.cfg.filters.set i f })

def takeInputMarkFilter (m f : Nat) (s : State) : Ans := setFilter (markInput m) f s
def takeInputIndexFilter (n f : Nat) (s : State) : Ans := setFilter (indexInput n) f s

/-- The fields of an input that both queries write (R90). -/
def inputToks (s : State) (i : InputId) : List Tok :=
  let f := s.inputs.get i
  [.word (if f.active then .active else .inactive), .word (if f.stuck then .stuck else .normal),
   .word .filter, .num (s.cfg.filters.get i), .word .last, optTok .num f.last]

/-- A mark definition as `INPUT MARK m` writes it (R90). -/
def markDefToks : Option MarkDef → List Tok
  | none => [.word .none]
  | some d => [idTok d.sec, .num d.offset, markKindTok d.kind]

/-- `INPUT MARK m` (R90). -/
def takeInputMarkQuery (m : Nat) (s : State) : Ans :=
  match markInput m, asId 16 m with
  | some i, some k => answered (inputToks s i ++ .word .defW :: markDefToks (s.cfg.marks.get k)) s
  | _, _ => refuse .range s

/-- `INPUT INDEX n` (R90). -/
def takeInputIndexQuery (n : Nat) (s : State) : Ans :=
  match indexInput n with
  | none => refuse .range s
  | some i => answered (inputToks s i) s

def execInputMarkFilter (m f : Nat) (s : State) : Host.Outcome State Fault Refusal :=
  command (takeInputMarkFilter m f) s
def execInputIndexFilter (n f : Nat) (s : State) : Host.Outcome State Fault Refusal :=
  command (takeInputIndexFilter n f) s
def execInputMarkQuery (m : Nat) (s : State) : Host.Outcome State Fault Refusal :=
  command (takeInputMarkQuery m) s
def execInputIndexQuery (n : Nat) (s : State) : Host.Outcome State Fault Refusal :=
  command (takeInputIndexQuery n) s

end Sys2Proof.Machine
end

