-- ==== Sys2Proof/Machine/Start.lean ====
section
/-! DEFINITION. The store and start-up (chapter 12): SAVE and ERASE, the device reset and its three
sources, and the settling timer. -/

namespace Sys2Proof.Machine

/-! ## SAVE and ERASE (R194, R195) -/

/-- The store takes `SAVE` and `ERASE` in VALID and INVALID (R194, R195). -/
def Store.free (x : Store) : Bool :=
  match x.state with
  | .valid | .invalid => true
  | .saving | .erasing => false

/-- `SAVE` (R194): the image is the configuration at this moment. -/
def takeSave (s : State) : Ans :=
  if s.store.free then taken (s.withStore ⟨s.cfg, .saving⟩) else refuse .busy s

/-- The write completes (R194). -/
def saveEnd (s : State) : State :=
  if s.store.state = .saving then (s.withStore { s.store with state := .valid }).raise .saved else s

/-- `ERASE` (R195). -/
def takeErase (s : State) : Ans :=
  if s.store.free then taken (s.withStore { s.store with state := .erasing }) else refuse .busy s

/-- The erase completes: the image is cleared (R195; log 31). -/
def eraseEnd (s : State) : State :=
  if s.store.state = .erasing then (s.withStore ⟨Scene.empty, .invalid⟩).raise .erased else s

def execSave (s : State) : Host.Outcome State Fault Refusal := command takeSave s
def execSaveComplete (s : State) : Host.Outcome State Fault Refusal := event saveEnd s
def execErase (s : State) : Host.Outcome State Fault Refusal := command takeErase s
def execEraseComplete (s : State) : Host.Outcome State Fault Refusal := event eraseEnd s

/-! ## The device reset (R196) -/

/-- The configuration a device reset loads: the image when the marker is set, the empty configuration
otherwise (R196). -/
def Store.loaded (x : Store) : Scene :=
  match x.state with
  | .valid => x.image
  | .invalid | .saving | .erasing => Scene.empty

/-- The store after a device reset: a write or an erase in flight is abandoned with the marker clear
(R193 to R195). -/
def Store.afterReset (x : Store) : Store :=
  match x.state with
  | .valid => x
  | .invalid | .saving | .erasing => { x with state := .invalid }

/-- The sky engine set up by a device reset at scene time `t`, before the switched groups are settled (R19,
R26, R38). -/
def Sky.start (c : Scene) (t : Nat) : Sky where
  groups := Table.replicate 16 ⟨.light, t, true⟩
  lamps := Table.replicate 192 LampRun.reset
  floods := Table.replicate 6 none
  walkPos := 0
  walkTimer := c.scan == .walk
  compose := none
  sums := Sums.zero

/-- The scene time a device reset sets the clock to (R12): the loaded start time, or one that a
`CLOCK START` has set since the device reset before, which takes effect at this one whether or not it has
been saved (R8). R12 and R196 do not say that the clock takes an unsaved start time, R8 does; the stored
field itself is loaded as they say (DESIGN CHOICE, log 43). -/
def State.resetTime (s : State) : Nat := s.nextStart.getD s.store.loaded.startTime

/-- The state a device reset sets, before the first compose starts (R196): every stored field as loaded,
and the blocks that depend on scene time at the scene time it sets (R12). The run of RST samples starts
afresh (DESIGN CHOICE, log 44). -/
def resetState (pins : ResetPins) (s : State) : State :=
  let c := s.store.loaded
  let t := s.resetTime
  { cfg := c
    store := s.store.afterReset
    clock := ⟨t, 0, c.autorun, t⟩
    sky := settleAll c t (Sky.start c t)
    matrix := ⟨Page.dark, Page.dark, false, false, c.divider, c.rows, c.cols⟩
    floods := Table.replicate 6 ⟨none, 0⟩
    channels := c.bridge.map ChannelRun.reset
    stopc := ⟨pins.stop, 0, pins.stop⟩
    sense := Sense.reset
    inputs := Table.replicate 20 InputRun.reset
    driver := Driver.reset
    crossings := Table.replicate 2 CrossingRun.reset
    bell := ⟨inQuietWindow c.quietWindow t, false, false, none⟩
    units := Table.replicate 20 UnitRec.free
    trains := Table.replicate 6 TrainRun.reset
    axes := c.axes.map fun d => AxisRun.reset (programValue d.program t) pins.stop
    account := Account.reset
    line := CommandLine.reset (Baud.ofStraps pins.baud1 pins.baud0)
    sys := ⟨false, true, false, 0, 0, pins⟩
    nextStart := none
    freeDraws := s.freeDraws
    pending := s.pending }

/-- A device reset with the levels read at the STOP and strap pins (R196). The first compose starts with
it (R38). -/
def deviceReset (pins : ResetPins) (s : State) : State := startCompose (resetState pins s)

/-- Power-on (R196). -/
def execPowerOn (pins : ResetPins) (s : State) : Host.Outcome State Fault Refusal :=
  .next (deviceReset pins s)

/-- An accepted assertion of the RST line: the part is held (R196). -/
def holdPart (s : State) : State := s.withSys { s.sys with rstHeld := true, rstRun := 0 }

def execRstAssert (s : State) : Host.Outcome State Fault Refusal := .next (holdPart s)

/-- The first sample that reads RST released after an accepted assertion (R196). -/
def execRstRelease (pins : ResetPins) (s : State) : Host.Outcome State Fault Refusal :=
  .next (if s.sys.rstHeld then deviceReset pins s else s)

/-- A device reset by a command that gives no pin levels: the STOP line has the level last given, and the
straps, which no command sets, have free levels (R65, R181, R192; log 26). -/
def freeReset (s : State) : State :=
  let straps := Config.strapLevels s.freeDraws
  deviceReset ⟨s.sys.pins.stop, straps.1, straps.2⟩ (s.withFreeDraws (s.freeDraws + 1))

/-- The RST input is sampled (R196). -/
def rstSample (asserted : Bool) (s : State) : State :=
  if s.sys.rstHeld then (if asserted then s else freeReset s)
  else if asserted then
    if s.sys.rstRun + 1 < Config.acceptSamples then
      s.withSys { s.sys with rstRun := s.sys.rstRun + 1 }
    else holdPart s
  else s.withSys { s.sys with rstRun := 0 }

def execRstSample (asserted : Bool) (s : State) : Host.Outcome State Fault Refusal :=
  .next (rstSample asserted s)

/-- `RESET` (R196): no further line is taken; the device reset follows its `OK` (LINE_WRITTEN). -/
def takeReset (s : State) : Ans := (s.withLine { s.line with closed := true }, .resetOk)

def execReset (s : State) : Host.Outcome State Fault Refusal := command takeReset s

/-! ## Ready (R197) -/

/-- Home placement of a train by the act of placing (R147, R197). -/
def placeHome (s : State) (n : Train) : State :=
  match (s.trainDef n).home with
  | none => s
  | some x => (placeAct x.sec.val x.e n s).1

/-- The settling timer expires: home placement, `#READY`, and the strays (R197). -/
def settlingExpiry (s : State) : State :=
  if s.sys.settling then
    let s := (ids 6).foldl placeHome s
    let s := (s.withSys { s.sys with ready := true, settling := false }).raise .ready
    reportStrays s.strays s
  else s

def execSettlingTimer (s : State) : Host.Outcome State Fault Refusal := event settlingExpiry s

end Sys2Proof.Machine
end

