-- ==== Sys2Proof/Machine/Line.lean ====
section
/-! DEFINITION. The command line block (chapter 11, sections 11.1 to 11.4): characters, lines, the two
slots and the overrun markers, the taking of a line, and the end of a written line. -/

namespace Sys2Proof.Machine

/-! ## Taking a line (R184) -/

/-- The block that owns a line command takes it and forms the answer. An event is no line. -/
def takeCommand (i : Instr) (s : State) : Ans :=
  match i with
  | .clockQuery => takeClockQuery s
  | .clockStartQuery => takeClockStartQuery s
  | .clockRun => takeClockRun s
  | .clockHold => takeClockHold s
  | .clockRate n => takeClockRate n s
  | .clockStart t => takeClockStart t s
  | .clockSet t => takeClockSet t s
  | .key t tr r g b a pairs => takeKey t tr r g b a pairs s
  | .keyG t g v => takeKeyG t g v s
  | .keyGNone t g => takeKeyGNone t g s
  | .keyDrop t => takeKeyDrop t s
  | .keyList => takeKeyList s
  | .keyQuery t => takeKeyQuery t s
  | .groupDimmed g c => takeGroupDimmed g c s
  | .groupSwitched g th hy on wu => takeGroupSwitched g th hy on wu s
  | .groupQuery g => takeGroupQuery g s
  | .lampGroup n g => takeLampGroup n g s
  | .lampStagger n st => takeLampStagger n st s
  | .lampGroupStagger n g st => takeLampGroupStagger n g st s
  | .lampRange n m g st k => takeLampRange n m g st k s
  | .lampLevel n v u => takeLampLevel n v u s
  | .lampFree n => takeLampFree n s
  | .lampQuery n => takeLampQuery n s
  | .bright n => takeBright n s
  | .brightQuery => takeBrightQuery s
  | .scan m => takeScan m s
  | .scanQuery => takeScanQuery s
  | .matrixDivider d => takeMatrixDivider d s
  | .matrixRows m => takeMatrixRows m s
  | .matrixCols m => takeMatrixCols m s
  | .matrixQuery => takeMatrixQuery s
  | .floodSource n src => takeFloodSource n src s
  | .floodQuery n => takeFloodQuery n s
  | .restore n => takeRestore n s
  | .bridgePwm n res p => takeBridgePwm n res p s
  | .bridgeSense n on => takeBridgeSense n on s
  | .bridgeTrip n mA => takeBridgeTrip n mA s
  | .bridgeQuery n => takeBridgeQuery n s
  | .stop => takeStop s
  | .resume => takeResume s
  | .senseThreshold n mA => takeSenseThreshold n mA s
  | .senseSectionQuery n => takeSenseSectionQuery n s
  | .senseQuery => takeSenseQuery s
  | .inputMarkFilter m f => takeInputMarkFilter m f s
  | .inputIndexFilter n f => takeInputIndexFilter n f s
  | .inputMarkQuery m => takeInputMarkQuery m s
  | .inputIndexQuery n => takeInputIndexQuery n s
  | .sectionLength n mm => takeSectionLength n mm s
  | .sectionDrop n => takeSectionDrop n s
  | .sectionJoin n e u => takeSectionJoin n e u s
  | .sectionBuffer n e => takeSectionBuffer n e s
  | .sectionQuery n => takeSectionQuery n s
  | .turnoutLegs t trunk normal reverse => takeTurnoutLegs t trunk normal reverse s
  | .turnoutDrop t => takeTurnoutDrop t s
  | .runDefine r secs => takeRunDefine r secs s
  | .runDrop r => takeRunDrop r s
  | .runQuery r => takeRunQuery r s
  | .markDefine m sec mm kind => takeMarkDefine m sec mm kind s
  | .markDrop m => takeMarkDrop m s
  | .markQuery m => takeMarkQuery m s
  | .turnoutThrow t pos => takeTurnoutThrow t pos s
  | .turnoutPulse t ms => takeTurnoutPulse t ms s
  | .turnoutQuery t => takeTurnoutQuery t s
  | .crossingDefine c sec a b v lead bell => takeCrossingDefine c sec a b v lead bell s
  | .crossingDrop c => takeCrossingDrop c s
  | .crossingQuery c => takeCrossingQuery c s
  | .bellTone hz => takeBellTone hz s
  | .bellQuiet f t => takeBellQuiet f t s
  | .bellQuietNone => takeBellQuietNone s
  | .bellQuery => takeBellQuery s
  | .unitQuery sec => takeUnitQuery sec s
  | .unitList => takeUnitList s
  | .trainResume n => takeTrainResume n s
  | .trainPlace n sec e => takeTrainPlace n sec e s
  | .trainLift n => takeTrainLift n s
  | .trainFind n sec e => takeTrainFind n sec e s
  | .routeDefine r secs => takeRouteDefine r secs s
  | .routeAdd r secs => takeRouteAdd r secs s
  | .routeStop r i dwell mark => takeRouteStop r i dwell mark s
  | .routeStopNone r i => takeRouteStopNone r i s
  | .routeLoop r on => takeRouteLoop r on s
  | .routeDrop r => takeRouteDrop r s
  | .routeQuery r => takeRouteQuery r s
  | .trainGo n r => takeTrainGo n r s
  | .trainPark n => takeTrainPark n s
  | .timetableAdd t n r => takeTimetableAdd t n r s
  | .timetableDrop t n => takeTimetableDrop t n s
  | .timetableAutorun on => takeTimetableAutorun on s
  | .timetableQuery => takeTimetableQuery s
  | .timetableList i => takeTimetableList i s
  | .trainCab n step o => takeTrainCab n step o s
  | .trainName n name => takeTrainName n name s
  | .trainLength n mm => takeTrainLength n mm s
  | .trainTable n st pairs => takeTrainTable n st pairs s
  | .trainTableQuery n st => takeTrainTableQuery n st s
  | .trainRamp n accel decel => takeTrainRamp n accel decel s
  | .trainCreep n c => takeTrainCreep n c s
  | .trainHome n sec e => takeTrainHome n sec e s
  | .trainHomeNone n => takeTrainHomeNone n s
  | .trainCabtime n secs => takeTrainCabtime n secs s
  | .trainService n st => takeTrainService n st s
  | .trainQuery n => takeTrainQuery n s
  | .axisProgram n t v => takeAxisProgram n t v s
  | .axisProgramDrop n t => takeAxisProgramDrop n t s
  | .axisProgramNone n => takeAxisProgramNone n s
  | .axisProgramQuery n => takeAxisProgramQuery n s
  | .axisSpeed n v => takeAxisSpeed n v s
  | .axisFree n => takeAxisFree n s
  | .axisClear n => takeAxisClear n s
  | .axisDirection n p => takeAxisDirection n p s
  | .axisGain n g => takeAxisGain n g s
  | .axisKick n d => takeAxisKick n d s
  | .axisMaxduty n d => takeAxisMaxduty n d s
  | .axisStall n ms => takeAxisStall n ms s
  | .axisSlew n w => takeAxisSlew n w s
  | .axisQuery n => takeAxisQuery n s
  | .budgetCeiling n => takeBudgetCeiling n s
  | .budgetLamp mA => takeBudgetLamp mA s
  | .budgetFlood mA => takeBudgetFlood mA s
  | .budgetQuery => takeBudgetQuery s
  | .mapDefine w base count kind first => takeMapDefine w base count kind first s
  | .mapNone w => takeMapNone w s
  | .mapQuery w => takeMapQuery w s
  | .mapList => takeMapList s
  | .set f v u => takeSet f v u s
  | .free f => takeFree f s
  | .get f => takeGet f s
  | .status => takeStatus s
  | .save => takeSave s
  | .erase => takeErase s
  | .reset => takeReset s
  | .clockStep | .dwellEnd _ | .walkTimer | .composeComplete | .frameEnd | .floodPeriodEnd _
  | .periodEnd _ | .senseTimer _ | .conversionRequest _ _ | .stopLineAssert | .stopLineRelease
  | .conversionComplete | .acceptedEdgeActive _ | .acceptedEdgeInactive _ | .stuckTimer _
  | .pulseComplete | .recoveryEnd | .leadTimer _ | .flashTimer _ | .bellHalfPeriod | .rampTick _
  | .cabSupervisionTimer _ | .updateTick _ | .stallTimer _ | .stopTimer _ | .budgetEvaluation
  | .receiveCharacter _ _ | .lineWritten | .saveComplete | .eraseComplete | .powerOn _ | .rstAssert
  | .rstRelease _ | .settlingTimer | .inputSample _ | .stopLineSample _ | .rstSample _
  | .realMillisecondCount => refuse .syntaxErr s

/-- The verb of a line is `STATUS`, the one taken before `#READY` (R184). -/
def verbIsStatus (cs : List Char) : Bool :=
  match lineTokens cs with
  | [] => false
  | v :: _ => v == Kw.status.text

/-- A reason that comes before `UNKNOWN` for a line that is not malformed (R99, R150, R169; log 15). -/
def Reason.beforeUnknown : Reason → Bool
  | .range | .busy | .layout => true
  | .syntaxErr | .unknown | .full | .conflict | .path | .state | .motion | .stopped | .cut | .long
  | .overrun | .start => false

/-- A line in the form of command `i` with a keyword that is not known there (R185): the command's `RANGE`,
`BUSY` or `LAYOUT` where that applies, else `UNKNOWN` (log 14, log 15). -/
def unknownKeyword (i : Instr) (s : State) : Ans :=
  match (takeCommand i s).2 with
  | .no r => refuse (if r.beforeUnknown then r else .unknown) s
  | .ok | .clamped | .nomap | .resetOk | .data _ => refuse .unknown s

/-- A complete line is taken or refused (R184): `LONG`, then a bad line's `SYNTAX`, then `START`, then
what its verb and its block say. -/
def takeLine (l : Line) (s : State) : Ans :=
  if l.long then refuse .long s
  else if l.bad then refuse .syntaxErr s
  else if s.sys.ready = false ∧ verbIsStatus l.chars = false then refuse .start s
  else
    match parseLine l.chars with
    | .refused r => refuse r s
    | .unknownIn i => unknownKeyword i s
    | .line i => takeCommand i s

/-! ## Lines received (R181 to R183) -/

/-- A line of no characters. -/
def Line.none : Line := ⟨[], false, false, true⟩

/-- The printable characters and the tab are accepted in a line (R182). -/
def isPrintable (c : BitVec 8) : Bool :=
  c == 9 || (decide (32 ≤ c.toNat) && decide (c.toNat ≤ 126))

/-- A space or a tab. -/
def isSpace (c : BitVec 8) : Bool := c == 32 || c == 9

/-- A character joins a line: the first 96 are kept, and a framing error or a character that is not
accepted makes the line bad (R181, R182; log 13). -/
def Line.add (c : BitVec 8) (framingError : Bool) (l : Line) : Line where
  chars := if l.chars.length < Config.maxLine then l.chars ++ [Char.ofNat c.toNat] else l.chars
  long := l.long || decide (Config.maxLine ≤ l.chars.length)
  bad := l.bad || framingError || !isPrintable c
  blank := l.blank && !framingError && isSpace c

/-- The slot the first character of a line takes, if one is EMPTY (R183; log 11). -/
def CommandLine.freeSlot (l : CommandLine) : Option Bool :=
  match l.slotA, l.slotB with
  | .empty, _ => some false
  | _, .empty => some true
  | _, _ => none

/-- The line being received in a slot. -/
def Slot.line : Slot → Line
  | .empty => Line.none
  | .receiving l => l
  | .held l _ => l

/-- A character of a line that is no terminator (R183). -/
def CommandLine.addChar (c : BitVec 8) (fe : Bool) (l : CommandLine) : CommandLine :=
  match l.rx with
  | .slot b => l.setSlot b (.receiving ((l.slot b).line.add c fe))
  | .overrun blank => { l with rx := .overrun (blank && !fe && isSpace c) }
  | .idle =>
    match l.freeSlot with
    | some b =>
      { (l.setSlot b (.receiving (Line.none.add c fe))) with
        rx := .slot b, order := l.order ++ [.slot b] }
    | none => { l with rx := .overrun (!fe && isSpace c) }

/-- An overrun line is counted in the marker at the tail, or in a new one (R183). -/
def countOverrun (order : List Entry) : List Entry :=
  match order.getLast? with
  | some (.overrun k) =>
    if k < Config.maxOverrun then order.dropLast ++ [.overrun (k + 1)] else order ++ [.overrun 1]
  | _ => order ++ [.overrun 1]

/-- The line in a slot is complete: it is taken and answered at once, unless a `RESET` was taken (R183,
R196; log 41). -/
def holdLine (b : Bool) (l : Line) (s : State) : State :=
  if s.line.closed then s.withLine (s.line.setSlot b (.held l none))
  else
    let r := takeLine l s
    r.1.withLine (r.1.line.setSlot b (.held l (some r.2)))

/-- The terminator of a line arrives (R182, R183). -/
def endLine (s : State) : State :=
  let l := s.line
  let done := s.withLine { l with rx := .idle }
  match l.rx with
  | .idle => s
  | .overrun true => done
  | .overrun false => done.withLine { done.line with order := countOverrun l.order }
  | .slot b =>
    let x := (l.slot b).line
    if x.blank then
      done.withLine { (done.line.setSlot b .empty) with order := l.order.erase (.slot b) }
    else holdLine b x done

/-- A character is received (R182). An LF right after a CR is part of one terminator with it. -/
def receiveChar (c : BitVec 8) (fe : Bool) (s : State) : State :=
  let after := s.line.afterCr
  let s := s.withLine { s.line with afterCr := decide (c = 13) && !fe }
  if fe then s.withLine (s.line.addChar c fe)
  else if c = 13 then endLine s
  else if c = 10 then (if after then s else endLine s)
  else s.withLine (s.line.addChar c fe)

def execReceiveCharacter (c : BitVec 8) (framingError : Bool) (s : State) :
    Host.Outcome State Fault Refusal := event (receiveChar c framingError) s

/-! ## Lines written (R183, R187) -/

/-- The head of the reply order has been written (R183, R187). -/
def CommandLine.replyDone (l : CommandLine) : CommandLine :=
  match l.order with
  | [] => l
  | .slot b :: es => { (l.setSlot b .empty) with order := es }
  | .direct _ :: es => { l with order := es }
  | .overrun k :: es => { l with order := if k ≤ 1 then es else .overrun (k - 1) :: es }

/-- The LF of the line being written has been written (R187): DE is released, for one character time
where another line follows (R181). The `OK` of a `RESET` is followed by the device reset (R196). -/
def lineDone (s : State) : State :=
  match s.line.writing with
  | none => s
  | some (.report _) =>
    s.withLine { s.line with writing := none, lastReport := some true, gap := true }
  | some (.reply .resetOk) => freeReset s
  | some (.reply _) =>
    s.withLine { s.line.replyDone with writing := none, lastReport := some false, gap := true }

def execLineWritten (s : State) : Host.Outcome State Fault Refusal := event lineDone s

end Sys2Proof.Machine
end

