-- ==== Sys2Proof/Machine/Dispatch.lean ====
section
/-! DEFINITION. The meaning of every command: one arm for each row of the opcode table. -/

namespace Sys2Proof.Machine

def exec (i : Instr) (s : State) : Host.Outcome State Fault Refusal :=
  match i with
  | .clockStep => Sys2Proof.Machine.execClockStep s
  | .dwellEnd n => Sys2Proof.Machine.execDwellEnd n s
  | .clockQuery => Sys2Proof.Machine.execClockQuery s
  | .clockStartQuery => Sys2Proof.Machine.execClockStartQuery s
  | .clockRun => Sys2Proof.Machine.execClockRun s
  | .clockHold => Sys2Proof.Machine.execClockHold s
  | .clockRate n => Sys2Proof.Machine.execClockRate n s
  | .clockStart t => Sys2Proof.Machine.execClockStart t s
  | .clockSet t => Sys2Proof.Machine.execClockSet t s
  | .key t tr r g b a pairs => Sys2Proof.Machine.execKey t tr r g b a pairs s
  | .keyG t g v => Sys2Proof.Machine.execKeyG t g v s
  | .keyGNone t g => Sys2Proof.Machine.execKeyGNone t g s
  | .keyDrop t => Sys2Proof.Machine.execKeyDrop t s
  | .keyList => Sys2Proof.Machine.execKeyList s
  | .keyQuery t => Sys2Proof.Machine.execKeyQuery t s
  | .groupDimmed g c => Sys2Proof.Machine.execGroupDimmed g c s
  | .groupSwitched g th hy on wu => Sys2Proof.Machine.execGroupSwitched g th hy on wu s
  | .groupQuery g => Sys2Proof.Machine.execGroupQuery g s
  | .lampGroup n g => Sys2Proof.Machine.execLampGroup n g s
  | .lampStagger n st => Sys2Proof.Machine.execLampStagger n st s
  | .lampGroupStagger n g st => Sys2Proof.Machine.execLampGroupStagger n g st s
  | .lampRange n m g st k => Sys2Proof.Machine.execLampRange n m g st k s
  | .lampLevel n v u => Sys2Proof.Machine.execLampLevel n v u s
  | .lampFree n => Sys2Proof.Machine.execLampFree n s
  | .lampQuery n => Sys2Proof.Machine.execLampQuery n s
  | .bright n => Sys2Proof.Machine.execBright n s
  | .brightQuery => Sys2Proof.Machine.execBrightQuery s
  | .scan m => Sys2Proof.Machine.execScan m s
  | .scanQuery => Sys2Proof.Machine.execScanQuery s
  | .walkTimer => Sys2Proof.Machine.execWalkTimer s
  | .composeComplete => Sys2Proof.Machine.execComposeComplete s
  | .matrixDivider d => Sys2Proof.Machine.execMatrixDivider d s
  | .matrixRows m => Sys2Proof.Machine.execMatrixRows m s
  | .matrixCols m => Sys2Proof.Machine.execMatrixCols m s
  | .matrixQuery => Sys2Proof.Machine.execMatrixQuery s
  | .frameEnd => Sys2Proof.Machine.execFrameEnd s
  | .floodPeriodEnd n => Sys2Proof.Machine.execFloodPeriodEnd n s
  | .floodSource n src => Sys2Proof.Machine.execFloodSource n src s
  | .floodQuery n => Sys2Proof.Machine.execFloodQuery n s
  | .periodEnd ch => Sys2Proof.Machine.execPeriodEnd ch s
  | .senseTimer ch => Sys2Proof.Machine.execSenseTimer ch s
  | .conversionRequest ch mA => Sys2Proof.Machine.execConversionRequest ch mA s
  | .restore n => Sys2Proof.Machine.execRestore n s
  | .bridgePwm n res p => Sys2Proof.Machine.execBridgePwm n res p s
  | .bridgeSense n on => Sys2Proof.Machine.execBridgeSense n on s
  | .bridgeTrip n mA => Sys2Proof.Machine.execBridgeTrip n mA s
  | .bridgeQuery n => Sys2Proof.Machine.execBridgeQuery n s
  | .stopLineAssert => Sys2Proof.Machine.execStopLineAssert s
  | .stopLineRelease => Sys2Proof.Machine.execStopLineRelease s
  | .stop => Sys2Proof.Machine.execStop s
  | .resume => Sys2Proof.Machine.execResume s
  | .conversionComplete => Sys2Proof.Machine.execConversionComplete s
  | .senseThreshold n mA => Sys2Proof.Machine.execSenseThreshold n mA s
  | .senseSectionQuery n => Sys2Proof.Machine.execSenseSectionQuery n s
  | .senseQuery => Sys2Proof.Machine.execSenseQuery s
  | .acceptedEdgeActive k => Sys2Proof.Machine.execAcceptedEdgeActive k s
  | .acceptedEdgeInactive k => Sys2Proof.Machine.execAcceptedEdgeInactive k s
  | .stuckTimer k => Sys2Proof.Machine.execStuckTimer k s
  | .inputMarkFilter m f => Sys2Proof.Machine.execInputMarkFilter m f s
  | .inputIndexFilter n f => Sys2Proof.Machine.execInputIndexFilter n f s
  | .inputMarkQuery m => Sys2Proof.Machine.execInputMarkQuery m s
  | .inputIndexQuery n => Sys2Proof.Machine.execInputIndexQuery n s
  | .sectionLength n mm => Sys2Proof.Machine.execSectionLength n mm s
  | .sectionDrop n => Sys2Proof.Machine.execSectionDrop n s
  | .sectionJoin n e u => Sys2Proof.Machine.execSectionJoin n e u s
  | .sectionBuffer n e => Sys2Proof.Machine.execSectionBuffer n e s
  | .sectionQuery n => Sys2Proof.Machine.execSectionQuery n s
  | .turnoutLegs t trunk normal reverse => Sys2Proof.Machine.execTurnoutLegs t trunk normal reverse s
  | .turnoutDrop t => Sys2Proof.Machine.execTurnoutDrop t s
  | .runDefine r secs => Sys2Proof.Machine.execRunDefine r secs s
  | .runDrop r => Sys2Proof.Machine.execRunDrop r s
  | .runQuery r => Sys2Proof.Machine.execRunQuery r s
  | .markDefine m sec mm kind => Sys2Proof.Machine.execMarkDefine m sec mm kind s
  | .markDrop m => Sys2Proof.Machine.execMarkDrop m s
  | .markQuery m => Sys2Proof.Machine.execMarkQuery m s
  | .pulseComplete => Sys2Proof.Machine.execPulseComplete s
  | .recoveryEnd => Sys2Proof.Machine.execRecoveryEnd s
  | .turnoutThrow t pos => Sys2Proof.Machine.execTurnoutThrow t pos s
  | .turnoutPulse t ms => Sys2Proof.Machine.execTurnoutPulse t ms s
  | .turnoutQuery t => Sys2Proof.Machine.execTurnoutQuery t s
  | .crossingDefine c sec a b v lead bell => Sys2Proof.Machine.execCrossingDefine c sec a b v lead bell s
  | .crossingDrop c => Sys2Proof.Machine.execCrossingDrop c s
  | .crossingQuery c => Sys2Proof.Machine.execCrossingQuery c s
  | .leadTimer c => Sys2Proof.Machine.execLeadTimer c s
  | .flashTimer c => Sys2Proof.Machine.execFlashTimer c s
  | .bellHalfPeriod => Sys2Proof.Machine.execBellHalfPeriod s
  | .bellTone hz => Sys2Proof.Machine.execBellTone hz s
  | .bellQuiet f t => Sys2Proof.Machine.execBellQuiet f t s
  | .bellQuietNone => Sys2Proof.Machine.execBellQuietNone s
  | .bellQuery => Sys2Proof.Machine.execBellQuery s
  | .unitQuery sec => Sys2Proof.Machine.execUnitQuery sec s
  | .unitList => Sys2Proof.Machine.execUnitList s
  | .rampTick n => Sys2Proof.Machine.execRampTick n s
  | .trainResume n => Sys2Proof.Machine.execTrainResume n s
  | .trainPlace n sec e => Sys2Proof.Machine.execTrainPlace n sec e s
  | .trainLift n => Sys2Proof.Machine.execTrainLift n s
  | .trainFind n sec e => Sys2Proof.Machine.execTrainFind n sec e s
  | .routeDefine r secs => Sys2Proof.Machine.execRouteDefine r secs s
  | .routeAdd r secs => Sys2Proof.Machine.execRouteAdd r secs s
  | .routeStop r k dwell mark => Sys2Proof.Machine.execRouteStop r k dwell mark s
  | .routeStopNone r k => Sys2Proof.Machine.execRouteStopNone r k s
  | .routeLoop r on => Sys2Proof.Machine.execRouteLoop r on s
  | .routeDrop r => Sys2Proof.Machine.execRouteDrop r s
  | .routeQuery r => Sys2Proof.Machine.execRouteQuery r s
  | .trainGo n r => Sys2Proof.Machine.execTrainGo n r s
  | .trainPark n => Sys2Proof.Machine.execTrainPark n s
  | .timetableAdd t n r => Sys2Proof.Machine.execTimetableAdd t n r s
  | .timetableDrop t n => Sys2Proof.Machine.execTimetableDrop t n s
  | .timetableAutorun on => Sys2Proof.Machine.execTimetableAutorun on s
  | .timetableQuery => Sys2Proof.Machine.execTimetableQuery s
  | .timetableList k => Sys2Proof.Machine.execTimetableList k s
  | .trainCab n step o => Sys2Proof.Machine.execTrainCab n step o s
  | .cabSupervisionTimer n => Sys2Proof.Machine.execCabSupervisionTimer n s
  | .trainName n name => Sys2Proof.Machine.execTrainName n name s
  | .trainLength n mm => Sys2Proof.Machine.execTrainLength n mm s
  | .trainTable n st pairs => Sys2Proof.Machine.execTrainTable n st pairs s
  | .trainTableQuery n st => Sys2Proof.Machine.execTrainTableQuery n st s
  | .trainRamp n accel decel => Sys2Proof.Machine.execTrainRamp n accel decel s
  | .trainCreep n c => Sys2Proof.Machine.execTrainCreep n c s
  | .trainHome n sec e => Sys2Proof.Machine.execTrainHome n sec e s
  | .trainHomeNone n => Sys2Proof.Machine.execTrainHomeNone n s
  | .trainCabtime n secs => Sys2Proof.Machine.execTrainCabtime n secs s
  | .trainService n st => Sys2Proof.Machine.execTrainService n st s
  | .trainQuery n => Sys2Proof.Machine.execTrainQuery n s
  | .axisProgram n t v => Sys2Proof.Machine.execAxisProgram n t v s
  | .axisProgramDrop n t => Sys2Proof.Machine.execAxisProgramDrop n t s
  | .axisProgramNone n => Sys2Proof.Machine.execAxisProgramNone n s
  | .axisProgramQuery n => Sys2Proof.Machine.execAxisProgramQuery n s
  | .axisSpeed n v => Sys2Proof.Machine.execAxisSpeed n v s
  | .axisFree n => Sys2Proof.Machine.execAxisFree n s
  | .updateTick n => Sys2Proof.Machine.execUpdateTick n s
  | .stallTimer n => Sys2Proof.Machine.execStallTimer n s
  | .stopTimer n => Sys2Proof.Machine.execStopTimer n s
  | .axisClear n => Sys2Proof.Machine.execAxisClear n s
  | .axisDirection n p => Sys2Proof.Machine.execAxisDirection n p s
  | .axisGain n g => Sys2Proof.Machine.execAxisGain n g s
  | .axisKick n d => Sys2Proof.Machine.execAxisKick n d s
  | .axisMaxduty n d => Sys2Proof.Machine.execAxisMaxduty n d s
  | .axisStall n ms => Sys2Proof.Machine.execAxisStall n ms s
  | .axisSlew n w => Sys2Proof.Machine.execAxisSlew n w s
  | .axisQuery n => Sys2Proof.Machine.execAxisQuery n s
  | .budgetEvaluation => Sys2Proof.Machine.execBudgetEvaluation s
  | .budgetCeiling n => Sys2Proof.Machine.execBudgetCeiling n s
  | .budgetLamp mA => Sys2Proof.Machine.execBudgetLamp mA s
  | .budgetFlood mA => Sys2Proof.Machine.execBudgetFlood mA s
  | .budgetQuery => Sys2Proof.Machine.execBudgetQuery s
  | .receiveCharacter c framingError => Sys2Proof.Machine.execReceiveCharacter c framingError s
  | .lineWritten => Sys2Proof.Machine.execLineWritten s
  | .mapDefine w base count kind first => Sys2Proof.Machine.execMapDefine w base count kind first s
  | .mapNone w => Sys2Proof.Machine.execMapNone w s
  | .mapQuery w => Sys2Proof.Machine.execMapQuery w s
  | .mapList => Sys2Proof.Machine.execMapList s
  | .set f v u => Sys2Proof.Machine.execSet f v u s
  | .free f => Sys2Proof.Machine.execFree f s
  | .get f => Sys2Proof.Machine.execGet f s
  | .status => Sys2Proof.Machine.execStatus s
  | .save => Sys2Proof.Machine.execSave s
  | .saveComplete => Sys2Proof.Machine.execSaveComplete s
  | .erase => Sys2Proof.Machine.execErase s
  | .eraseComplete => Sys2Proof.Machine.execEraseComplete s
  | .reset => Sys2Proof.Machine.execReset s
  | .powerOn pins => Sys2Proof.Machine.execPowerOn pins s
  | .rstAssert => Sys2Proof.Machine.execRstAssert s
  | .rstRelease pins => Sys2Proof.Machine.execRstRelease pins s
  | .settlingTimer => Sys2Proof.Machine.execSettlingTimer s
  | .inputSample levels => Sys2Proof.Machine.execInputSample levels s
  | .stopLineSample asserted => Sys2Proof.Machine.execStopLineSample asserted s
  | .rstSample asserted => Sys2Proof.Machine.execRstSample asserted s
  | .realMillisecondCount => Sys2Proof.Machine.execRealMillisecondCount s

end Sys2Proof.Machine
end

