-- ==== Sys2Proof/Machine/Outputs.lean ====
section
/-! DEFINITION. What the pins show of a state (00_scope, Signal summary): the lamp matrix, the floods,
the bridges, the coils, the bell and the serial line. While RST holds the part every output is off
(R196). These are functions of the state; the steps within a row slot and a PWM period are not steps of
the model (log 33). -/

namespace Sys2Proof.Machine

/-- A physical line of the matrix as a mirror turns it (R39). -/
def mirrored (m : Mirror) (last k : Nat) : Nat :=
  match m with
  | .normal => k
  | .reversed => last - k

/-- The lamp that physical row p and column q show in the frame in progress (R39). -/
def shownLamp (x : Matrix) (p : Fin 8) (q : Fin 24) : Nat :=
  24 * mirrored x.frameRows 7 p.val + mirrored x.frameCols 23 q.val

/-- The level, in 255ths of its row's slot, for which physical column q is driven in physical row p
(R40). -/
def columnLevel (s : State) (p : Fin 8) (q : Fin 24) : Nat :=
  if s.sys.rstHeld then 0
  else
    match asId 192 (shownLamp s.matrix p q) with
    | none => 0
    | some i => s.matrix.shown.lamps.get i

/-- Physical column q is driven on in step k, 0..254, of the 255 equal steps of physical row p's slot: from
the slot's start for level/255 of its length, and off for the rest (R40). -/
def columnOn (s : State) (p : Fin 8) (q : Fin 24) (k : Nat) : Bool := decide (k < columnLevel s p q)

/-- Physical row p is driven in row slot `slot` of a frame, and no other (R40). -/
def rowDriven (s : State) (slot p : Fin 8) : Bool := !s.sys.rstHeld && slot == p

/-- The frame in progress lasts this many µs (R41). -/
def frameMicros (s : State) : Nat := (s.matrix.frameDivider + 1) * 2500

/-- Flood output n is on in step k of its period, 0..255 (R50). -/
def floodOn (s : State) (n : FloodId) (k : Nat) : Bool :=
  let d := (s.floods.get n).applied
  !s.sys.rstHeld && (d == 255 || decide (k < d))

/-- What a bridge puts on its load in a step (R57). -/
inductive BridgeOut where
  | released
  | low
  | drive (p : Polarity)
deriving DecidableEq, Repr

/-- The bridge of channel c in step k of its period (R57). -/
def bridgeOut (s : State) (c : Channel) (k : Nat) : BridgeOut :=
  let ch := s.channels.get c
  if s.sys.rstHeld then .released
  else
    match ch.state with
    | .off => .released
    | .cut => .released
    | .dead => .low
    | .driving => if k < ch.onTime then .drive ch.applied.pol else .low

/-- The coil of turnout t for position b is driven (R102): COILN for NORMAL, COILR for REVERSE. -/
def coilOn (s : State) (t : TurnoutId) (b : Branch) : Bool :=
  !s.sys.rstHeld &&
    match s.driver.pulse with
    | none => false
    | some p => p.entry.t == t && p.entry.wanted == b

/-- The BELL output (R111). -/
def bellOut (s : State) : Bool := !s.sys.rstHeld && s.bell.output

/-- The text of a line the transmitter writes, with its CR LF (R181, R185, R188). -/
def Writing.text : Writing → List Char
  | .reply r => r.text ++ ['\r', '\n']
  | .report r => r.text ++ ['\r', '\n']

/-- What the transmitter is writing on TXD (R181). -/
def txdText (s : State) : List Char :=
  if s.sys.rstHeld then []
  else
    match s.line.writing with
    | none => []
    | some w => w.text

/-- The DE output in character time k of the line being written: asserted from the start bit of its first
character to the stop bit of its LF, and released for the one character time before it where it follows
another line back to back (R181). -/
def deOut (s : State) (k : Nat) : Bool :=
  let first := if s.line.gap then 1 else 0
  decide (first ≤ k) && decide (k < first + (txdText s).length)

end Sys2Proof.Machine
end

