-- ==== Sys2Proof/Machine/Spell.lean ====
section
/-! DEFINITION. How the show controller writes each line command (chapter 11): the text of a line whose
tokens are separated by single spaces. Events have no text. -/

namespace Sys2Proof.Machine

def spellEnd : End → List Char
  | .a => Kw.text .a
  | .b => Kw.text .b

def spellSwitch (on : Bool) : List Char := Kw.text (if on then .on else .off)

def spellMirror : Mirror → List Char
  | .normal => Kw.text .normal
  | .reversed => Kw.text .reversed

def spellPolarity : Polarity → List Char
  | .plus => Kw.text .plus
  | .minus => Kw.text .minus

def spellOrientation : Orientation → List Char
  | .fwd => Kw.text .fwd
  | .rev => Kw.text .rev

def spellTransition : Transition → List Char
  | .linear => Kw.text .linear
  | .step => Kw.text .step

def spellCurve : Curve → List Char
  | .linear => Kw.text .linear
  | .soft => Kw.text .soft
  | .hard => Kw.text .hard

def spellScan : ScanMode → List Char
  | .normal => Kw.text .normal
  | .allOn => Kw.text .allOn
  | .allOff => Kw.text .allOff
  | .walk => Kw.text .walk

def spellSource : FloodSource → List Char
  | .skyRed => Kw.text .skyRed
  | .skyGreen => Kw.text .skyGreen
  | .skyBlue => Kw.text .skyBlue
  | .ambient => Kw.text .ambient
  | .none => Kw.text .none

def spellMarkKind : MarkKind → List Char
  | .position => Kw.text .position
  | .stop => Kw.text .stop

def spellFixture : FixtureKind → List Char
  | .lamp => Kw.text .lamp
  | .flood => Kw.text .flood
  | .axis => Kw.text .axis

/-- A scene time written hh:mm:ss. -/
def spellTime (t : TimeTok) : List Char :=
  twoDigits t.h ++ ':' :: twoDigits t.m ++ ':' :: twoDigits t.s

def spellGroup : Option Nat → List Char
  | none => Kw.text .none
  | some g => digits g

def spellEndTok (e : EndTok) : List (List Char) := [digits e.sec, spellEnd e.e]

def spellPairs (ps : List (Nat × Nat)) : List (List Char) :=
  ps.flatMap fun p => [digits p.1, digits p.2]

def spellGroupPairs (ps : List (Nat × Nat)) : List (List Char) :=
  ps.flatMap fun p => [Kw.text .g, digits p.1, digits p.2]

def spellUntil : Option TimeTok → List (List Char)
  | none => []
  | some t => [Kw.text .until, spellTime t]

/-- The tokens of a line command; none for an event. -/
def spellTokens : Instr → Option (List (List Char))
  | .clockQuery => some [Kw.text .clock]
  | .clockStartQuery => some [Kw.text .clock, Kw.text .start]
  | .clockRun => some [Kw.text .clock, Kw.text .run]
  | .clockHold => some [Kw.text .clock, Kw.text .hold]
  | .clockRate n => some [Kw.text .clock, Kw.text .rate, digits n]
  | .clockStart t => some [Kw.text .clock, Kw.text .start, spellTime t]
  | .clockSet t => some [Kw.text .clock, Kw.text .set, spellTime t]
  | .key t tr r g b a ps =>
    some ([Kw.text .key, spellTime t, spellTransition tr, digits r, digits g, digits b, digits a]
      ++ spellGroupPairs ps)
  | .keyG t g v => some [Kw.text .key, spellTime t, Kw.text .g, digits g, digits v]
  | .keyGNone t g => some [Kw.text .key, spellTime t, Kw.text .g, digits g, Kw.text .none]
  | .keyDrop t => some [Kw.text .key, Kw.text .drop, spellTime t]
  | .keyList => some [Kw.text .key, Kw.text .list]
  | .keyQuery t => some [Kw.text .key, spellTime t]
  | .groupDimmed g c => some [Kw.text .group, digits g, Kw.text .dimmed, spellCurve c]
  | .groupSwitched g th hy on wu =>
    some [Kw.text .group, digits g, Kw.text .switched, digits th, digits hy, digits on, digits wu]
  | .groupQuery g => some [Kw.text .group, digits g]
  | .lampGroup n g => some [Kw.text .lamp, digits n, Kw.text .group, spellGroup g]
  | .lampStagger n st => some [Kw.text .lamp, digits n, Kw.text .stagger, digits st]
  | .lampGroupStagger n g st =>
    some [Kw.text .lamp, digits n, Kw.text .group, spellGroup g, Kw.text .stagger, digits st]
  | .lampRange n m g st k =>
    some [Kw.text .lamp, digits n, Kw.text .to, digits m, Kw.text .group, spellGroup g,
      Kw.text .stagger, digits st, digits k]
  | .lampLevel n v u =>
    some ([Kw.text .lamp, digits n, Kw.text .level, digits v] ++ spellUntil u)
  | .lampFree n => some [Kw.text .lamp, digits n, Kw.text .free]
  | .lampQuery n => some [Kw.text .lamp, digits n]
  | .bright n => some [Kw.text .bright, digits n]
  | .brightQuery => some [Kw.text .bright]
  | .scan m => some [Kw.text .scan, spellScan m]
  | .scanQuery => some [Kw.text .scan]
  | .matrixDivider d => some [Kw.text .matrix, Kw.text .divider, digits d]
  | .matrixRows m => some [Kw.text .matrix, Kw.text .rows, spellMirror m]
  | .matrixCols m => some [Kw.text .matrix, Kw.text .cols, spellMirror m]
  | .matrixQuery => some [Kw.text .matrix]
  | .floodSource n x => some [Kw.text .flood, digits n, Kw.text .source, spellSource x]
  | .floodQuery n => some [Kw.text .flood, digits n]
  | .restore n => some [Kw.text .restore, digits n]
  | .bridgePwm n res p => some [Kw.text .bridge, digits n, Kw.text .pwm, digits res, digits p]
  | .bridgeSense n on => some [Kw.text .bridge, digits n, Kw.text .sense, spellSwitch on]
  | .bridgeTrip n mA => some [Kw.text .bridge, digits n, Kw.text .trip, digits mA]
  | .bridgeQuery n => some [Kw.text .bridge, digits n]
  | .stop => some [Kw.text .stop]
  | .resume => some [Kw.text .resume]
  | .senseThreshold n mA => some [Kw.text .sense, digits n, Kw.text .threshold, digits mA]
  | .senseSectionQuery n => some [Kw.text .sense, digits n]
  | .senseQuery => some [Kw.text .sense]
  | .inputMarkFilter m f =>
    some [Kw.text .input, Kw.text .mark, digits m, Kw.text .filter, digits f]
  | .inputIndexFilter n f =>
    some [Kw.text .input, Kw.text .index, digits n, Kw.text .filter, digits f]
  | .inputMarkQuery m => some [Kw.text .input, Kw.text .mark, digits m]
  | .inputIndexQuery n => some [Kw.text .input, Kw.text .index, digits n]
  | .sectionLength n mm => some [Kw.text .sectionW, digits n, Kw.text .length, digits mm]
  | .sectionDrop n => some [Kw.text .sectionW, digits n, Kw.text .drop]
  | .sectionJoin n e u => some ([Kw.text .sectionW, digits n, spellEnd e] ++ spellEndTok u)
  | .sectionBuffer n e => some [Kw.text .sectionW, digits n, spellEnd e, Kw.text .buffer]
  | .sectionQuery n => some [Kw.text .sectionW, digits n]
  | .turnoutLegs t p q r =>
    some ([Kw.text .turnout, digits t, Kw.text .legs] ++ spellEndTok p ++ spellEndTok q
      ++ spellEndTok r)
  | .turnoutDrop t => some [Kw.text .turnout, digits t, Kw.text .drop]
  | .runDefine r xs => some ([Kw.text .run, digits r] ++ xs.map digits)
  | .runDrop r => some [Kw.text .run, digits r, Kw.text .drop]
  | .runQuery r => some [Kw.text .run, digits r]
  | .markDefine m x mm k => some [Kw.text .mark, digits m, digits x, digits mm, spellMarkKind k]
  | .markDrop m => some [Kw.text .mark, digits m, Kw.text .drop]
  | .markQuery m => some [Kw.text .mark, digits m]
  | .turnoutThrow t b => some [Kw.text .turnout, digits t, Kw.text .throw, Kw.text (branchKw b)]
  | .turnoutPulse t ms => some [Kw.text .turnout, digits t, Kw.text .pulse, digits ms]
  | .turnoutQuery t => some [Kw.text .turnout, digits t]
  | .crossingDefine c x a b v lead bell =>
    some [Kw.text .crossing, digits c, digits x, Kw.text .lamps, digits a, digits b, Kw.text .flash,
      digits v, Kw.text .lead, digits lead, Kw.text .bell, spellSwitch bell]
  | .crossingDrop c => some [Kw.text .crossing, digits c, Kw.text .drop]
  | .crossingQuery c => some [Kw.text .crossing, digits c]
  | .bellTone hz => some [Kw.text .bell, Kw.text .tone, digits hz]
  | .bellQuiet f t => some [Kw.text .bell, Kw.text .quiet, spellTime f, spellTime t]
  | .bellQuietNone => some [Kw.text .bell, Kw.text .quiet, Kw.text .none]
  | .bellQuery => some [Kw.text .bell]
  | .unitQuery x => some [Kw.text .unit, digits x]
  | .unitList => some [Kw.text .unit]
  | .trainResume n => some [Kw.text .train, digits n, Kw.text .resume]
  | .trainPlace n x e => some [Kw.text .train, digits n, Kw.text .place, digits x, spellEnd e]
  | .trainLift n => some [Kw.text .train, digits n, Kw.text .lift]
  | .trainFind n x e => some [Kw.text .train, digits n, Kw.text .find, digits x, spellEnd e]
  | .routeDefine r xs => some ([Kw.text .route, digits r] ++ xs.map digits)
  | .routeAdd r xs => some ([Kw.text .route, digits r, Kw.text .add] ++ xs.map digits)
  | .routeStop r i d none => some [Kw.text .route, digits r, Kw.text .stop, digits i, digits d]
  | .routeStop r i d (some m) =>
    some [Kw.text .route, digits r, Kw.text .stop, digits i, digits d, Kw.text .mark, digits m]
  | .routeStopNone r i => some [Kw.text .route, digits r, Kw.text .stop, digits i, Kw.text .none]
  | .routeLoop r on => some [Kw.text .route, digits r, Kw.text .loop, spellSwitch on]
  | .routeDrop r => some [Kw.text .route, digits r, Kw.text .drop]
  | .routeQuery r => some [Kw.text .route, digits r]
  | .trainGo n r => some [Kw.text .train, digits n, Kw.text .go, digits r]
  | .trainPark n => some [Kw.text .train, digits n, Kw.text .park]
  | .timetableAdd t n r => some [Kw.text .timetable, spellTime t, digits n, digits r]
  | .timetableDrop t n => some [Kw.text .timetable, Kw.text .drop, spellTime t, digits n]
  | .timetableAutorun on => some [Kw.text .timetable, Kw.text .autorun, spellSwitch on]
  | .timetableQuery => some [Kw.text .timetable]
  | .timetableList i => some [Kw.text .timetable, Kw.text .list, digits i]
  | .trainCab n st none => some [Kw.text .train, digits n, Kw.text .cab, digits st]
  | .trainCab n st (some o) =>
    some [Kw.text .train, digits n, Kw.text .cab, digits st, spellOrientation o]
  | .trainName n name => some [Kw.text .train, digits n, Kw.text .name, name]
  | .trainLength n mm => some [Kw.text .train, digits n, Kw.text .length, digits mm]
  | .trainTable n st ps =>
    some ([Kw.text .train, digits n, Kw.text .table, digits st] ++ spellPairs ps)
  | .trainTableQuery n st => some [Kw.text .train, digits n, Kw.text .table, digits st]
  | .trainRamp n a d => some [Kw.text .train, digits n, Kw.text .ramp, digits a, digits d]
  | .trainCreep n c => some [Kw.text .train, digits n, Kw.text .creep, digits c]
  | .trainHome n x e => some [Kw.text .train, digits n, Kw.text .home, digits x, spellEnd e]
  | .trainHomeNone n => some [Kw.text .train, digits n, Kw.text .home, Kw.text .none]
  | .trainCabtime n x => some [Kw.text .train, digits n, Kw.text .cabtime, digits x]
  | .trainService n st => some [Kw.text .train, digits n, Kw.text .service, digits st]
  | .trainQuery n => some [Kw.text .train, digits n]
  | .axisProgram n t v => some [Kw.text .axis, digits n, Kw.text .program, spellTime t, digits v]
  | .axisProgramDrop n t =>
    some [Kw.text .axis, digits n, Kw.text .program, Kw.text .drop, spellTime t]
  | .axisProgramNone n => some [Kw.text .axis, digits n, Kw.text .program, Kw.text .none]
  | .axisProgramQuery n => some [Kw.text .axis, digits n, Kw.text .program]
  | .axisSpeed n v => some [Kw.text .axis, digits n, Kw.text .speed, digits v]
  | .axisFree n => some [Kw.text .axis, digits n, Kw.text .free]
  | .axisClear n => some [Kw.text .axis, digits n, Kw.text .clear]
  | .axisDirection n p => some [Kw.text .axis, digits n, Kw.text .direction, spellPolarity p]
  | .axisGain n v => some [Kw.text .axis, digits n, Kw.text .gain, digits v]
  | .axisKick n v => some [Kw.text .axis, digits n, Kw.text .kick, digits v]
  | .axisMaxduty n v => some [Kw.text .axis, digits n, Kw.text .maxduty, digits v]
  | .axisStall n v => some [Kw.text .axis, digits n, Kw.text .stall, digits v]
  | .axisSlew n v => some [Kw.text .axis, digits n, Kw.text .slew, digits v]
  | .axisQuery n => some [Kw.text .axis, digits n]
  | .budgetCeiling n => some [Kw.text .budget, Kw.text .ceiling, digits n]
  | .budgetLamp mA => some [Kw.text .budget, Kw.text .lamp, digits mA]
  | .budgetFlood mA => some [Kw.text .budget, Kw.text .flood, digits mA]
  | .budgetQuery => some [Kw.text .budget]
  | .mapDefine w base count kind first =>
    some [Kw.text .map, digits w, digits base, digits count, spellFixture kind, digits first]
  | .mapNone w => some [Kw.text .map, digits w, Kw.text .none]
  | .mapQuery w => some [Kw.text .map, digits w]
  | .mapList => some [Kw.text .map]
  | .set f v u => some ([Kw.text .set, digits f, digits v] ++ spellUntil u)
  | .free f => some [Kw.text .free, digits f]
  | .get f => some [Kw.text .get, digits f]
  | .status => some [Kw.text .status]
  | .save => some [Kw.text .save]
  | .erase => some [Kw.text .erase]
  | .reset => some [Kw.text .reset]
  | .clockStep | .dwellEnd _ | .walkTimer | .composeComplete | .frameEnd | .floodPeriodEnd _
  | .periodEnd _ | .senseTimer _ | .conversionRequest _ _ | .stopLineAssert | .stopLineRelease
  | .conversionComplete | .acceptedEdgeActive _ | .acceptedEdgeInactive _ | .stuckTimer _
  | .pulseComplete | .recoveryEnd | .leadTimer _ | .flashTimer _ | .bellHalfPeriod | .rampTick _
  | .cabSupervisionTimer _ | .updateTick _ | .stallTimer _ | .stopTimer _ | .budgetEvaluation
  | .receiveCharacter _ _ | .lineWritten | .saveComplete | .eraseComplete | .powerOn _ | .rstAssert
  | .rstRelease _ | .settlingTimer | .inputSample _ | .stopLineSample _ | .rstSample _
  | .realMillisecondCount => none

/-- The text of a line command. -/
def spellLine (i : Instr) : Option (List Char) := (spellTokens i).map joinToks

end Sys2Proof.Machine
end

