-- ==== Sys2Proof/Safety.lean ====
section
/-! DEFINITION. What the statements speak of: the outcome of a line and of an event, the commands that
are lines, and the invariants of the part. -/

namespace Sys2Proof.Safety

open Sys2Proof.Machine

/-! ## Outcomes -/

/-- A line's block left state `t` and formed answer `r`, which joins the reply order (R184, R185). -/
def replies (t : State) (r : Reply) : Host.Outcome State Fault Refusal := .next ((t.answer r).offer)

/-- The outputs drive nothing (R196): no column and no row of the matrix, no flood, no bridge, no coil, no
bell, and nothing on the serial line. -/
def OutputsOff (s : State) : Prop :=
  (∀ p q k, columnOn s p q k = false) ∧ (∀ slot p, rowDriven s slot p = false) ∧
  (∀ n k, floodOn s n k = false) ∧ (∀ c k, bridgeOut s c k = .released) ∧
  (∀ t b, coilOn s t b = false) ∧ bellOut s = false ∧ txdText s = [] ∧ ∀ k, deOut s k = false

/-- An event left state `t`. -/
def acts (t : State) : Host.Outcome State Fault Refusal := .next t.offer

/-- The answer to a line that may have clamped a live value (R186). -/
def okOr (clamped : Bool) : Reply := if clamped then .clamped else .ok

/-- A line command: one that a line of text can spell. -/
def isLine (i : Instr) : Prop := spellTokens i ≠ none

/-- The part takes lines: READY, not held by RST, no `RESET` taken. -/
def takes (s : State) : Prop := s.sys.ready = true ∧ s.sys.rstHeld = false ∧ s.line.closed = false

/-- The part takes setting forms: no `SAVE` is in flight either (R194). -/
def settable (s : State) : Prop := takes s ∧ s.busy = false

/-- The part takes layout commands: every train is UNPLACED too (R99). -/
def layable (s : State) : Prop := settable s ∧ s.anyPlaced = false

/-- The blocks run: RST does not hold the part (R196). -/
def runs (s : State) : Prop := s.sys.rstHeld = false

/-- A SAVE is in flight while the part takes lines (R194). -/
def savingNow (s : State) : Prop := takes s ∧ s.busy = true

/-! ## Operands -/

/-- A scene time on the line has its fields in range (section 1.4). -/
def timeOk (t : TimeTok) : Prop := t.h ≤ 23 ∧ t.m ≤ 59 ∧ t.s ≤ 59

/-- The scene second a scene time on the line names. -/
def secs (t : TimeTok) : Nat := t.h * 3600 + t.m * 60 + t.s

/-! ## Changes of one block -/

/-- State `u` is `s` but for the lamp records: lamp j has definition `f j`, and its frozen level is 0
where its group changed (R27). -/
def LampsBecome (s u : State) (f : LampId → LampDef) : Prop :=
  u = { s with
    cfg := { s.cfg with lamps := u.cfg.lamps }, sky := { s.sky with lamps := u.sky.lamps } } ∧
  ∀ j, u.cfg.lamps.get j = f j ∧
    u.sky.lamps.get j =
      if (f j).group = (s.cfg.lamps.get j).group then s.sky.lamps.get j
      else { s.sky.lamps.get j with frozen := 0 }

/-- The configuration a setting leaves: `f` of the present one, all else as it was. -/
def setting (s : State) (f : Scene → Scene) : State := s.withCfg (f s.cfg)

/-- A recompose request reached the sky engine between `s` and `u` (R36): a compose has started where none
was in flight and no page was ready, and the pending flag is set elsewhere. -/
def RecomposeAsked (s u : State) : Prop :=
  (s.sky.compose = none → s.matrix.ready = false → u.sky.compose ≠ none) ∧
  (s.sky.compose ≠ none ∨ s.matrix.ready = true → u.matrix.pending = true)

/-- The program values and the quiet flag follow scene time `t` (R110, R160), and the bell its condition. -/
def FollowsTime (s u : State) (t : Nat) : Prop :=
  (∀ n, u.axes.get n =
    { s.axes.get n with program := programValue (s.cfg.axes.get n).program t }) ∧
  (u.bell.quiet = true ↔ ∃ f e, s.cfg.quietWindow = some (f, e) ∧
    if f < e then f ≤ t ∧ t < e else f ≤ t ∨ t < e) ∧
  u.bell.sounding = u.bellDue

/-! ## Routes over the layout -/

/-- A train that entered a section by end `p` leaves it by the other end, which meets end `q` of another
section: end to end, or through a turnout between its trunk and a branch (R94). -/
def Leads (c : Scene) (p q : SecEnd) : Prop :=
  c.link ⟨p.sec, other p.e⟩ = .join q.sec q.e ∨
  ∃ t d, c.turnouts.get t = some d ∧
    ((c.link ⟨p.sec, other p.e⟩ = .leg t .trunk ∧ (q = d.normal ∨ q = d.reverse)) ∨
      (∃ b, c.link ⟨p.sec, other p.e⟩ = .leg t (.branch b) ∧ q = d.trunk))

/-- Sections entered by these ends can be passed one after another (R149). -/
def Passable (c : Scene) (ps : List SecEnd) : Prop :=
  ∀ i p q, ps[i]? = some p → ps[i + 1]? = some q → Leads c p q

/-- End `q` of a section is met from end `y` of another by way of `v`, the turnout and branch passed or none
(R94). -/
def Passes (c : Scene) (y q : SecEnd) (v : Option (TurnoutId × Branch)) : Prop :=
  (∀ z f, c.link y = .join z f → v = none) ∧
  (∀ t d, c.link y = .leg t .trunk → c.turnouts.get t = some d →
    (q = d.normal → v = some (t, .normal)) ∧ (q = d.reverse → q ≠ d.normal → v = some (t, .reverse))) ∧
  ∀ t d b, c.link y = .leg t (.branch b) → c.turnouts.get t = some d → q = d.trunk → v = some (t, b)

/-- End `y` of a section leads into another by end `q` as the layout lies, through a turnout only on the branch
that it holds (R124). -/
def LeadsAsLain (s : State) (y q : SecEnd) (v : Option (TurnoutId × Branch)) : Prop :=
  (s.cfg.link y = .join q.sec q.e ∧ v = none) ∨
  ∃ t d b, s.cfg.turnouts.get t = some d ∧ s.driver.points.get t = some b ∧ v = some (t, b) ∧
    ((s.cfg.link y = .leg t .trunk ∧ q = match b with | .normal => d.normal | .reverse => d.reverse) ∨
      (s.cfg.link y = .leg t (.branch b) ∧ q = d.trunk))

/-- From position `k` on the ends are the first choice among the passable ones that agree with them before
it: the first position is left by end B before end A, and the normal leg of a turnout comes before the
reverse leg (R149; log 17). -/
def FirstWays (c : Scene) (k : Nat) (ps : List SecEnd) : Prop :=
  ∀ (qs : List SecEnd) (i : Nat) (p q : SecEnd), qs.map SecEnd.sec = ps.map SecEnd.sec → Passable c qs →
    k ≤ i → qs.take i = ps.take i → ps[i]? = some p → qs[i]? = some q → p ≠ q →
    (i = 0 → p.e = .a) ∧
    ∀ o, 0 < i → ps[i - 1]? = some o → ∃ t d, c.link ⟨o.sec, other o.e⟩ = .leg t .trunk ∧
      c.turnouts.get t = some d ∧ p = d.normal ∧ q = d.reverse

/-- The entry ends of a route's positions. -/
def entries (ps : List RoutePos) : List SecEnd := ps.map fun p => ⟨p.sec, p.entry⟩

/-- Every stop mark of the positions is defined in its position's section, of kind STOP (R99, R150). -/
def StopsFit (c : Scene) (ps : List RoutePos) : Prop :=
  ∀ p ∈ ps, ∀ st m, p.stop = some st → st.mark = some m →
    ∃ d, c.marks.get m = some d ∧ d.sec = p.sec ∧ d.kind = .stop

/-- A CR, or an LF that follows no CR, ends a line (R182). -/
def ends (s : State) (c : BitVec 8) : Prop := c = 13 ∨ (c = 10 ∧ s.line.afterCr = false)

/-- The state after characters were received one by one, none with a framing error (R182). -/
def feed : List Char → State → State
  | [], s => s
  | c :: cs, s =>
    match exec (.receiveCharacter (BitVec.ofNat 8 c.toNat) false) s with
    | .next t => feed cs t
    | .fault _ => s
    | .refused _ => s

/-! ## The tokens of a line (R184, R185) -/

/-- The characters `cs` are the tokens `ts`, with one or more spaces or tabs between two of them, and any number
before the first and after the last (R184). -/
inductive SpacedOut : List Char → List (List Char) → Prop
  | blanks (bs : List Char) : (∀ c ∈ bs, c = ' ' ∨ c = '\t') → SpacedOut bs []
  | token (bs t cs : List Char) (ts : List (List Char)) : (∀ c ∈ bs, c = ' ' ∨ c = '\t') → t ≠ [] →
      (∀ c ∈ t, c ≠ ' ' ∧ c ≠ '\t') → (∀ c r, cs = c :: r → c = ' ' ∨ c = '\t') → SpacedOut cs ts →
      SpacedOut (bs ++ t ++ cs) (t :: ts)

/-- A number token: 1 to 9 decimal digits (R184). -/
def NumberToken (t : List Char) : Prop := 1 ≤ t.length ∧ t.length ≤ 9 ∧ ∀ c ∈ t, c.isDigit = true

/-- A run of more than 9 digits, which R184 calls malformed. -/
def LongRun (t : List Char) : Prop := 9 < t.length ∧ ∀ c ∈ t, c.isDigit = true

/-- A token that begins with a letter: a keyword, known or not (log 14). -/
def Wordlike (t : List Char) : Prop := ∃ c r, t = c :: r ∧ c.isAlpha = true

/-- Token `t` says what token `u` of a spelled command says: it is `u`, or the number of `u` with zeros before it
and 9 digits at most, or the scene time of `u` with an hours field of one or two digits and, where the seconds
are 0, with or without them (R184, section 1.4). -/
def StandsFor (t u : List Char) : Prop :=
  t = u ∨
  (∃ n k, u = digits n ∧ t = List.replicate k '0' ++ u ∧ t.length ≤ 9) ∨
  ∃ (x : TimeTok) (h : List Char), u = spellTime x ∧ (h = digits x.h ∨ h = twoDigits x.h) ∧
    (t = h ++ ':' :: twoDigits x.m ++ ':' :: twoDigits x.s ∨ (x.s = 0 ∧ t = h ++ ':' :: twoDigits x.m))

/-- The tokens `ts`, in capitals, are a line of command `i`. The token of a `TRAIN n NAME` line that gives the
name is one whatever its characters (log 16, log 54). -/
def IsLineOf (ts : List (List Char)) (i : Instr) : Prop :=
  (i.wf = true ∧ (∀ n name, i ≠ .trainName n name) ∧
    ∃ us, spellTokens i = some us ∧ List.Forall₂ StandsFor ts us) ∨
  ∃ n t name, i = .trainName n name ∧ n ≤ 999999999 ∧ StandsFor t (digits n) ∧
    ts = ["TRAIN".toList, t, "NAME".toList, name]

/-- The verbs of the index of section 11.7. -/
def verbs : List (List Char) :=
  ["CLOCK", "KEY", "GROUP", "LAMP", "BRIGHT", "SCAN", "MATRIX", "FLOOD", "BRIDGE", "RESTORE", "STOP", "RESUME",
    "SENSE", "INPUT", "SECTION", "RUN", "MARK", "CROSSING", "TURNOUT", "BELL", "UNIT", "TRAIN", "ROUTE",
    "TIMETABLE", "AXIS", "BUDGET", "MAP", "SET", "GET", "FREE", "STATUS", "SAVE", "ERASE", "RESET"].map
    String.toList

/-- Token `t` is one of these words. -/
def OneOf (ws : List String) (t : List Char) : Prop := t ∈ ws.map String.toList

/-- A line of verb `v` and tokens `ws` whose verb is not known (R184), or whose second token is none of those the
chapter lists, which is answered `NO UNKNOWN` (R5, R43, R90, R177; on an `INPUT` line a run of more than 9 digits
comes first, log 55). -/
def NotKnown (v : List Char) (ws : List (List Char)) : Prop :=
  v ∉ verbs ∨
  ∃ w rest, ws = w :: rest ∧
    ((v = "CLOCK".toList ∧ ¬ OneOf ["SET", "RUN", "HOLD", "RATE", "START"] w) ∨
      (v = "MATRIX".toList ∧ ¬ OneOf ["DIVIDER", "ROWS", "COLS"] w) ∨
      (v = "BUDGET".toList ∧ ¬ OneOf ["CEILING", "LAMP", "FLOOD"] w) ∨
      (v = "INPUT".toList ∧ ¬ OneOf ["MARK", "INDEX"] w ∧ ∀ t ∈ ws, ¬ LongRun t))

/-- The first `k` tokens of a line of command `i` select its form, and its chapter leaves a word after them that
is none of the keywords it can be to R185, which calls it unknown (log 14). -/
inductive LeavesKeywords : Instr → Nat → Prop
  | groupDimmed (g c) : LeavesKeywords (.groupDimmed g c) 3
  | lampGroup (n g) : LeavesKeywords (.lampGroup n g) 3
  | lampGroupStagger (n g st) : LeavesKeywords (.lampGroupStagger n g st) 3
  | lampRange (n m g st k) : LeavesKeywords (.lampRange n m g st k) 3
  | lampLevel (n v u) : LeavesKeywords (.lampLevel n v u) 3
  | scan (m) : LeavesKeywords (.scan m) 1
  | sectionBuffer (n e) : LeavesKeywords (.sectionBuffer n e) 3
  | sectionJoin (n e u) : LeavesKeywords (.sectionJoin n e u) 3
  | turnoutLegs (t p q r) : LeavesKeywords (.turnoutLegs t p q r) 3
  | turnoutThrow (t b) : LeavesKeywords (.turnoutThrow t b) 3
  | markDefine (m x mm k) : LeavesKeywords (.markDefine m x mm k) 3
  | crossingDefine (c x a b v l on) : LeavesKeywords (.crossingDefine c x a b v l on) 3
  | bellQuietNone : LeavesKeywords .bellQuietNone 2
  | routeStop (r i d m) : LeavesKeywords (.routeStop r i d m) 3
  | routeStopNone (r i) : LeavesKeywords (.routeStopNone r i) 3
  | routeLoop (r on) : LeavesKeywords (.routeLoop r on) 3
  | timetableAutorun (on) : LeavesKeywords (.timetableAutorun on) 2
  | set (f v u) : LeavesKeywords (.set f v u) 3

/-- The tokens `ts` have the form of command `i` but for words that stand where it has keywords, after those that
select the form (R185; log 14). -/
def StandsNear (ts : List (List Char)) (i : Instr) : Prop :=
  i.wf = true ∧ ∃ k us, LeavesKeywords i k ∧ spellTokens i = some us ∧ ts.length = us.length ∧
    ∀ j t u, ts[j]? = some t → us[j]? = some u →
      StandsFor t u ∨ (k ≤ j ∧ Wordlike t ∧ Wordlike u)

/-- After the tokens of query `q` one of the words `ws` selects a form. Any other token there is one that is not
known where the chapter says so (`any`; R64, R84, R90, R158, R169), and else any other token that begins with a
letter (R185; log 14). A `FLOOD` line without its `SOURCE` lacks a token (R53). -/
inductive Selects : Instr → List String → Bool → Prop
  | group (g) : Selects (.groupQuery g) ["DIMMED", "SWITCHED"] false
  | lamp (n) : Selects (.lampQuery n) ["GROUP", "STAGGER", "TO", "LEVEL", "FREE"] false
  | flood (n) :
      Selects (.floodQuery n) ["SOURCE", "SKY_RED", "SKY_GREEN", "SKY_BLUE", "AMBIENT", "NONE"] false
  | bridge (n) : Selects (.bridgeQuery n) ["PWM", "SENSE", "TRIP"] true
  | sense (n) : Selects (.senseSectionQuery n) ["THRESHOLD"] true
  | inputMark (m) : Selects (.inputMarkQuery m) ["FILTER"] true
  | inputIndex (n) : Selects (.inputIndexQuery n) ["FILTER"] true
  | sectionW (n) : Selects (.sectionQuery n) ["LENGTH", "DROP", "A", "B"] false
  | turnout (t) : Selects (.turnoutQuery t) ["LEGS", "DROP", "THROW", "PULSE"] false
  | run (r) : Selects (.runQuery r) ["DROP"] false
  | mark (m) : Selects (.markQuery m) ["DROP"] false
  | crossing (c) : Selects (.crossingQuery c) ["DROP"] false
  | bell : Selects .bellQuery ["TONE", "QUIET"] false
  | train (n) : Selects (.trainQuery n)
      ["RESUME", "PLACE", "LIFT", "FIND", "GO", "PARK", "CAB", "NAME", "LENGTH", "TABLE", "RAMP", "CREEP", "HOME",
        "CABTIME", "SERVICE"] true
  | route (r) : Selects (.routeQuery r) ["ADD", "STOP", "LOOP", "DROP"] false
  | timetable : Selects .timetableQuery ["DROP", "AUTORUN", "LIST"] false
  | axis (n) : Selects (.axisQuery n)
      ["PROGRAM", "SPEED", "FREE", "CLEAR", "DIRECTION", "GAIN", "KICK", "MAXDUTY", "STALL", "SLEW"] true
  | map (w) : Selects (.mapQuery w) ["NONE"] false

/-- The tokens `ts` are those of query `q` and then one that selects no form, with no run of more than 9 digits
after it (log 55). What stands for the time of a `TIMETABLE` entry, before two numbers, is no word (R154). -/
def SelectsNone (ts : List (List Char)) (q : Instr) : Prop :=
  q.wf = true ∧ ∃ ws any us as t rest, Selects q ws any ∧ spellTokens q = some us ∧ ts = as ++ t :: rest ∧
    List.Forall₂ StandsFor as us ∧ ¬ OneOf ws t ∧ (any = true ∨ Wordlike t) ∧ ¬ LongRun t ∧
    (∀ x ∈ rest, ¬ LongRun x) ∧
    ∀ x y, q = .timetableQuery → rest = [x, y] → ¬ (NumberToken x ∧ NumberToken y)

/-! ## Throws asked for a train -/

/-- Place `i` of the path ahead is the first at which the path passes turnout `t`, on branch `b`, and unit `u`
governs that turnout (R95, R122). -/
def FirstUse (c : Scene) (ahead : List PathElt) (u : Section) (i : Nat) (t : TurnoutId) (b : Branch) : Prop :=
  (∃ p, ahead[i]? = some p ∧ p.via = some (t, b)) ∧
  (∃ d, c.turnouts.get t = some d ∧ c.unitKey d.trunk.sec = some u) ∧
  ∀ j p o, j < i → ahead[j]? = some p → p.via ≠ some (t, o)

/-- State `t` is `s` after the throws of unit `u` have been asked for train `n` (R122): in ROUTE mode one for the
first use of each turnout of its path that `u` governs, in path order, each with the train as its origin, and in
CAB mode none. -/
def AsksThrows (n : Train) (u : Section) (s t : State) : Prop :=
  ((s.trains.get n).mode = .cab → t = s) ∧
  ((s.trains.get n).mode = .route → ∃ uses : List (Nat × Throw),
    t = uses.foldl (fun v p => requestThrow p.2 v) s ∧ (uses.Pairwise fun p q => p.1 < q.1) ∧
    ∀ (i : Nat) (e : Throw), (i, e) ∈ uses ↔
      e.origin = .train n ∧ FirstUse s.cfg (s.path n).tail u i e.t e.wanted)

/-- The throws of several units asked for train `n`, one unit after another. -/
def AsksInTurn (n : Train) : List Section → State → State → Prop
  | [], s, t => t = s
  | u :: us, s, t => ∃ v, AsksThrows n u s v ∧ AsksInTurn n us v t

/-- State `t` is `s` after train `n` has asked for the throws of every unit that it holds (R122), in holdings
order (the model's choice, log 40). -/
def AsksForHeld (n : Train) (s t : State) : Prop := AsksInTurn n (s.trains.get n).holdings s t

/-! ## Invariants -/

/-- Keyframes stand in strict time order, at most 16, each with its pairs in strict group order; the
timetable in strict order of time and train, at most 48; each axis program in strict time order, at most 8
points (R13, R154, R160). -/
def ordered (c : Scene) : Prop :=
  (c.keyframes.Pairwise fun x y => x.time < y.time) ∧ c.keyframes.length ≤ 16 ∧
  (∀ k ∈ c.keyframes, k.pairs.Pairwise fun x y => x.1 < y.1) ∧
  (c.timetable.Pairwise fun x y => x.time < y.time ∨ (x.time = y.time ∧ x.train < y.train)) ∧
  c.timetable.length ≤ 48 ∧
  ∀ n, ((c.axes.get n).program.Pairwise fun x y => x.1 < y.1) ∧ (c.axes.get n).program.length ≤ 8

/-- The lists of the running and of the stored configuration are in order. -/
def ListsOrdered (s : State) : Prop := ordered s.cfg ∧ ordered s.store.image

/-- While the halt is in force every bridge channel is OFF or CUT, no train is WAITING or moving, and
every axis is HALTED or STALLED (R66, R146, R167). -/
def HaltHolds (s : State) : Prop :=
  s.halt = true →
    (∀ c, (s.channels.get c).state = .off ∨ (s.channels.get c).state = .cut) ∧
    (∀ n, (s.trains.get n).state ≠ .waiting ∧ (s.trains.get n).moving = false) ∧
    (∀ n, (s.axes.get n).state = .halted ∨ (s.axes.get n).state = .stalled)

/-- The applied duty is 0 in every state but DRIVING (R55). -/
def DutyOnlyDriving (s : State) : Prop :=
  ∀ c, (s.channels.get c).state ≠ .driving → (s.channels.get c).applied.duty = 0

/-- Holders and holdings agree; waiting lists and outstanding requests agree, a train stands in a list
at most once and never in that of a unit it holds; a free unit with waiters is blocked; an UNPLACED
train holds, asks for and stands on nothing (R112, R113, R115, R120, R147). -/
def ReservationsAgree (s : State) : Prop :=
  (∀ n u, u ∈ (s.trains.get n).holdings ↔ (s.units.get u).holder = some n) ∧
  (∀ n, (s.trains.get n).holdings.Nodup) ∧
  (∀ n u, n ∈ (s.units.get u).waiting ↔ (s.trains.get n).request = some u) ∧
  (∀ u, (s.units.get u).waiting.Nodup) ∧
  (∀ n u, n ∈ (s.units.get u).waiting → (s.units.get u).holder ≠ some n) ∧
  (∀ u, (s.units.get u).holder = none → (s.units.get u).waiting ≠ [] → s.blocked u = true) ∧
  (∀ n, (s.trains.get n).placed = false →
    (s.trains.get n).holdings = [] ∧ (s.trains.get n).span = [] ∧ (s.trains.get n).request = none)

/-- The train that train n waits on, followed through k + 1 links of outstanding requests (R116). -/
def waitsOn (s : State) (n : Train) : Nat → Option Train
  | 0 => s.nextInChain n
  | k + 1 => (waitsOn s n k).bind s.nextInChain

/-- No train waits, through any number of links, for a unit that it holds itself, and a LOST train has no
outstanding request (R116, R144). -/
def NoWaitCycle (s : State) : Prop :=
  (∀ n k, waitsOn s n k ≠ some n) ∧
  ∀ n, (s.trains.get n).state = .lost → (s.trains.get n).request = none

/-- A crossing warns whenever a train holds or waits for its crossing section's unit, and an undefined
crossing is IDLE (R106, R107). -/
def CrossingsGuard (s : State) : Prop :=
  ∀ k, match s.cfg.crossings.get k with
    | none => (s.crossings.get k).state = .idle
    | some d => s.called d = true → (s.crossings.get k).state ≠ .idle

/-- The lead timer of a crossing runs only in WARNING, and only where the crossing is defined (R107). -/
def LeadTimersRun (s : State) : Prop :=
  ∀ k, (s.crossings.get k).leadTimer ≠ none →
    (s.crossings.get k).state = .warning ∧ s.cfg.crossings.get k ≠ none

/-- The bell sounds exactly while its condition holds; silent, its output is low and its timer stopped
(R110, R111). -/
def BellFollows (s : State) : Prop :=
  s.bell.sounding = s.bellDue ∧ s.bell.halfPeriod.isSome = s.bell.sounding ∧
  (s.bell.sounding = false → s.bell.output = false)

/-- A train at rest has actual speed 0, a stop cause is present exactly in STOPPING, and a waiting reason
only in WAITING (R132, R135). -/
def TrainsAtRest (s : State) : Prop :=
  ∀ n, ((s.trains.get n).moving = false → (s.trains.get n).speed = 0) ∧
    ((s.trains.get n).cause.isSome = true ↔ (s.trains.get n).state = .stopping) ∧
    ((s.trains.get n).reason.isSome = true → (s.trains.get n).state = .waiting)

/-- The stall timer runs exactly in STARTING and RUNNING, the stop timer exactly in STOPPING, a stall
cause is present exactly in STALLED, and only a STARTING or RUNNING axis asks for a duty (R159, R165,
R169). -/
def AxesAgree (s : State) : Prop :=
  ∀ n, ((s.axes.get n).stallTimer.isSome = true ↔
      (s.axes.get n).state = .starting ∨ (s.axes.get n).state = .running) ∧
    ((s.axes.get n).stopTimer = true ↔ (s.axes.get n).state = .stopping) ∧
    ((s.axes.get n).cause.isSome = true ↔ (s.axes.get n).state = .stalled) ∧
    ((s.axes.get n).duty ≠ 0 → (s.axes.get n).state = .starting ∨ (s.axes.get n).state = .running)

/-- The report queue holds at most 32 reports and the dropped count stays in its range; before `#READY`
both are empty (R188). -/
def ReportsBounded (s : State) : Prop :=
  s.line.reports.length ≤ 32 ∧ s.line.dropped ≤ 4294967295 ∧
  (s.sys.ready = false → s.line.reports = [] ∧ s.line.dropped = 0)

/-- While a SAVE is in flight the running configuration equals the image being written (R194). -/
def SavedAsRun (s : State) : Prop := s.store.state = .saving → s.store.image = s.cfg

/-- The budget scale and the target scale stay within 64..256 (R171). -/
def ScaleInRange (s : State) : Prop :=
  64 ≤ s.account.scale ∧ s.account.scale ≤ 256 ∧ 64 ≤ s.account.target ∧ s.account.target ≤ 256

/-- A configuration's clock rate is 1..1440 and its start time a scene time (R1). -/
def sceneClockOk (c : Scene) : Prop := 1 ≤ c.clockRate ∧ c.clockRate ≤ 1440 ∧ c.startTime < 86400

/-- Scene time and the accumulator stay in their ranges (R1, R2), with the rate and the start time of the
running and of the stored configuration, and the start time the next device reset takes (R8). -/
def ClockInRange (s : State) : Prop :=
  s.clock.time < 86400 ∧ s.clock.acc < 16 ∧ sceneClockOk s.cfg ∧ sceneClockOk s.store.image ∧
  ∀ v, s.nextStart = some v → v < 86400

/-- Every group's threshold is 0..255, in the running and in the stored configuration (R19, R20). -/
def ThresholdsInRange (s : State) : Prop :=
  ∀ g, (s.cfg.groups.get g).threshold ≤ 255 ∧ (s.store.image.groups.get g).threshold ≤ 255

/-- A compose and a ready page cannot exist together, and pending is never set in IDLE (R45). -/
def ExchangeLegal (s : State) : Prop :=
  (s.sky.compose.isSome = true → s.matrix.ready = false) ∧
  (s.matrix.pending = true → s.sky.compose.isSome = true ∨ s.matrix.ready = true)

/-- At most one request a channel waits in the converter's queue, a held value is present exactly for a
waiting request, and an idle converter's queue is empty (R72, R73, R74, R76). -/
def ConverterLegal (s : State) : Prop :=
  (s.sense.queue.map Request.ch).Nodup ∧
  (∀ c, (s.sense.held.get c).isSome = true ↔ c ∈ s.sense.queue.map Request.ch) ∧
  (s.sense.inflight = none → s.sense.queue = [])

/-- The throw queue holds at most one entry a turnout, an idle driver's queue is empty, no recovery runs
during a pulse, and the points under a pulse read UNKNOWN (R100, R102). -/
def DriverLegal (s : State) : Prop :=
  (s.driver.queue.map Throw.t).Nodup ∧
  (s.driver.idle = true → s.driver.queue = []) ∧
  (∀ p, s.driver.pulse = some p →
    s.driver.recovery = false ∧ s.driver.points.get p.entry.t = none)

/-! ## The turnabout -/

/-- Train n, `x` in state `s`, has turned about as `y` (R157): its span turned, the head in the old tail
section at its length less the tail position, the orientation changed, no turnabout pending and no request
left, and of its units those kept that contain a section of the span. -/
def TurnedAbout (s : State) (n : Train) (x y : TrainRun) : Prop :=
  y.span = x.span.reverse.map (fun e => ⟨e.sec, other e.entry⟩) ∧
  y.orientation = turned x.orientation ∧ y.pending = none ∧ y.request = none ∧ y.deadlock = false ∧
  (∀ (e : SpanElt) (len tail : Nat), x.span.head? = some e → len = 10 * s.cfg.lengthOf e.sec →
    tail = min len ((x.span.dropLast.map fun e => 10 * s.cfg.lengthOf e.sec).sum + x.headPos
      - 10 * (s.cfg.trains.get n).length) →
    y.headPos = len - tail) ∧
  (ReservationsAgree s → y.holdings =
    x.holdings.filter fun u => decide (∃ e ∈ x.span, s.cfg.unitKey e.sec = some u))

end Sys2Proof.Safety
end

