-- ==== Sys2Proof/Certificates/Slice0/Obligations.lean ====
section
/-! DEFINITION. The statements for the provers, each a proposition over the model. Their docstrings name
the rule or the section each formalises, and say where one rests on a choice of the model. -/

open Sys2Proof Sys2Proof.Machine Sys2Proof.Safety

/-! ## The machine as a whole -/

/-- The part takes the command at the front of its queue, and idles on an empty queue (log 2, log 4: the
queue is the model's own). -/
def Obligations.StepTakesFront : Prop :=
  (∀ (c : Instr) (rest : List Instr) (s : State),
    step (s.withPending (c :: rest)) = exec c (s.withPending rest)) ∧
  ∀ s : State, s.pending = [] → step s = .next s

/-- While RST holds the part every output is off, the STOP pin alone takes the level it is given, and no
other command but a reset's own has any effect (R65, R196; log 27); before `#READY` every line but `STATUS` is
answered `NO START` and changes nothing (R184). A refused line changes nothing (section 11.2), and while a
SAVE is in flight no line changes the configuration (section 12.2). -/
def Obligations.LinesWaitOrFail : Prop :=
  (∀ s : State, s.sys.rstHeld = true → OutputsOff s ∧
    (∀ c : Instr, (∀ p, c ≠ .powerOn p) → (∀ p, c ≠ .rstRelease p) → (∀ b, c ≠ .rstSample b) →
      c ≠ .rstAssert → c ≠ .stopLineAssert → c ≠ .stopLineRelease → (∀ b, c ≠ .stopLineSample b) →
      exec c s = .next s) ∧
    ∀ (b : Bool) (c : Instr), c = .stopLineSample b ∨ c = (if b then .stopLineAssert else .stopLineRelease) →
      exec c s = .next (s.withSys { s.sys with pins := { s.sys.pins with stop := b } })) ∧
  (∀ (c : Instr) (s : State),
    (isLine c → c ≠ .status → s.sys.ready = false → s.sys.rstHeld = false → s.line.closed = false →
      exec c s = replies s (.no .start))) ∧
  (∀ (c : Instr) (s : State) (r : Reason),
    (takeCommand c s).2 = .no r → (takeCommand c s).1 = s) ∧
  ∀ (c : Instr) (s t : State), isLine c → s.busy = true → exec c s = .next t → t.cfg = s.cfg

/-- The line that spells a command is read back as that command, with every operand at every value it can
have (sections 11.2 and 11.7, the lines of every chapter). -/
def Obligations.LinesRoundTrip : Prop :=
  ∀ (c : Instr) (cs : List Char), c.wf = true → spellLine c = some cs → parseLine cs = .line c

/-! ## Scene time (chapter 1) -/

/-- A step notice from t0 that advances by d passes exactly the d scene times that follow t0, counted
round midnight, and never t0 itself (R4). -/
def Obligations.NoticesPassTheirAdvance : Prop :=
  ∀ t0 d : Nat, t0 < 86400 → d ≤ 90 →
    (∀ t, t < 86400 → (passes t0 ((t0 + d) % 86400) t = true ↔
      ∃ k, 1 ≤ k ∧ k ≤ d ∧ t = (t0 + k) % 86400)) ∧
    ((List.range 86400).filter (passes t0 ((t0 + d) % 86400))).length = d ∧
    passes t0 ((t0 + d) % 86400) t0 = false

/-- What a clock step does (R2, R3): nothing in HELD; in RUNNING it adds the rate to the accumulator, and an
advance of 1 or more moves scene time and sends the step notice. `CLOCK SET` (R9) moves the clock, clears the
accumulator and sends the jump notice. `CLOCK RUN`, `HOLD`, `RATE` and `START` (R6 to R8): the rate is live and
clamps to 1..1440, a start time is kept for the next device reset (log 43), one out of range is refused, with a
SAVE in flight too (log 15), and both wait while a SAVE is in flight. A step notice (R3; log 7) removes the
overrides whose expiry it passes (R29) and asks for a recompose; the timetable entries it passes fire, in the
order it passes their times, while autorun is ON and the part is READY, each as a `GO` or as `#MISSED` (R155);
then the dwells count down and end (R141), in ascending train order (log 7); the program values (R160) and the
quiet flag (R110) follow the new time. A jump notice removes every override that has an expiry, settles every
SWITCHED group at the new time (R25), fires nothing and reports the entries of the jumped interval (R155). The
groups' settling at a jump is stated for thresholds as R20 bounds them. -/
def Obligations.ClockCommands : Prop :=
  (∀ s : State,
    (runs s → s.clock.running = false → exec .clockStep s = acts s) ∧
    (runs s → s.clock.running = true → s.clock.acc + s.cfg.clockRate < 16 →
      exec .clockStep s =
        acts (s.withClock { s.clock with acc := s.clock.acc + s.cfg.clockRate })) ∧
    (∀ d r t1, runs s → s.clock.running = true → s.clock.acc + s.cfg.clockRate = 16 * d + r →
      r < 16 → 1 ≤ d → t1 = (s.clock.time + d) % 86400 →
      ∃ t, exec .clockStep s = acts t ∧ t.clock = ⟨t1, r, true, t1⟩ ∧ t.cfg = s.cfg ∧
        t = stepNotice s.clock.time t1 d (s.withClock ⟨t1, r, true, t1⟩)) ∧
    (∀ t, takes s → timeOk t →
      exec (.clockSet t) s =
        replies (jumpNotice s.clock.time (secs t) (s.withClock ⟨secs t, 0, s.clock.running, secs t⟩))
          (.data [.time (secs t)])) ∧
    (∀ t, takes s → ¬ timeOk t → exec (.clockSet t) s = replies s (.no .range)) ∧
    (takes s →
      exec .clockRun s = replies (s.withClock { s.clock with running := true }) .ok ∧
      exec .clockHold s = replies (s.withClock { s.clock with running := false }) .ok) ∧
    (∀ n, settable s →
      exec (.clockRate n) s =
        replies (setting s fun c => { c with clockRate := max 1 (min 1440 n) })
          (okOr (decide (n < 1 ∨ 1440 < n)))) ∧
    (∀ t, settable s → timeOk t →
      exec (.clockStart t) s =
        replies ((setting s fun c => { c with startTime := secs t }).withNextStart (some (secs t))) .ok) ∧
    (∀ t, takes s → ¬ timeOk t → exec (.clockStart t) s = replies s (.no .range)) ∧
    (∀ n t, savingNow s → timeOk t →
      exec (.clockRate n) s = replies s (.no .busy) ∧
      exec (.clockStart t) s = replies s (.no .busy))) ∧
  (∀ (s u : State) (t0 t1 d : Nat), u = stepNotice t0 t1 d s →
    RecomposeAsked s u ∧ FollowsTime s u t1 ∧ u.cfg = s.cfg ∧ u.clock = s.clock ∧
    (∀ i, (u.sky.lamps.get i).override =
      (s.sky.lamps.get i).override.filter fun v => !v.expiry.any (passes t0 t1)) ∧
    (∀ i, u.sky.floods.get i =
      (s.sky.floods.get i).filter fun v => !v.expiry.any (passes t0 t1)) ∧
    ∃ es : List TimeEntry,
      u = setQuietFrom t1 (setProgramValues t1
        ((ids 6).foldl (takeDwell d) (es.foldl fireEntry (skyStep t0 t1 s)))) ∧
      (∀ e, e ∈ es ↔ e ∈ s.cfg.timetable ∧ passes t0 t1 e.time = true ∧ s.cfg.autorun = true ∧
        s.sys.ready = true) ∧
      (ordered s.cfg → t0 < 86400 → (∀ e ∈ s.cfg.timetable, e.time < 86400) →
        es.Pairwise fun a b => (a.time + 86400 - t0) % 86400 < (b.time + 86400 - t0) % 86400 ∨
          (a.time = b.time ∧ a.train < b.train))) ∧
  (∀ (s : State) (e : TimeEntry) (x : TrainRun) (starts : Prop), x = s.trains.get e.train →
    (starts ↔ ∃ d p h, s.cfg.routes.get e.route = some d ∧ (x.state = .parked ∨ x.state = .dwelling) ∧
      d.positions.head? = some p ∧ x.span.getLast? = some h ∧ h.sec = p.sec ∧
      (h.entry = p.entry ∨ x.span.length = 1)) →
    (¬ starts → fireEntry s e = s.raise (.missed e.train e.route)) ∧
    (starts → takes s →
      exec (.trainGo e.train.val e.route.val) s = replies (fireEntry s e) .ok)) ∧
  (∀ (s u : State) (n : Train) (x : TrainRun) (d : Nat), x = s.trains.get n → u = takeDwell d s n →
    (x.state ≠ .dwelling → u = s) ∧
    (x.state = .dwelling → d < x.dwell →
      u = s.modTrain n fun y => { y with dwell := x.dwell - d }) ∧
    (x.state = .dwelling → x.dwell ≤ d →
      (u.trains.get n).state = (if s.halt then .halted else .waiting) ∧
      (u.trains.get n).dwell = 0 ∧ (u.trains.get n).route = x.route ∧
      (runs s → exec (.dwellEnd n) s = acts u))) ∧
  ∀ (s u : State) (old new : Nat), u = jumpNotice old new s →
    RecomposeAsked s u ∧ FollowsTime s u new ∧ u.cfg = s.cfg ∧ u.clock = s.clock ∧
    u.trains = s.trains ∧ u.units = s.units ∧ u.driver = s.driver ∧
    u.line = (s.raise (.skipped (s.cfg.timetable.filter fun e => passes old new e.time).length)).line ∧
    (∀ i, (u.sky.lamps.get i).override =
      (s.sky.lamps.get i).override.filter fun v => v.expiry.isNone) ∧
    (∀ i, u.sky.floods.get i = (s.sky.floods.get i).filter fun v => v.expiry.isNone) ∧
    (s.clock.noticed = new → ThresholdsInRange s → ∀ (g : GroupId) (d : GroupDef) (dir : Direction),
      d = s.cfg.groups.get g → dir = (if skyValue s.cfg .ambient new < d.threshold then .dark else .light) →
      (d.kind = .dimmed → u.sky.groups.get g = s.sky.groups.get g) ∧
      (d.kind = .switched → u.sky.groups.get g = ⟨dir, new, true⟩ ∧
        ∀ i, (s.cfg.lamps.get i).group = some g →
          (u.sky.lamps.get i).frozen = if dir = .dark then d.onLevel else 0))

/-! ## The sky (chapter 2) -/

/-- Interpolation (R17, R18): with keyframes A and B chosen from a channel's sequence, the span is at least 1
and the elapsed time below it; the value lies between theirs, a LINEAR one by the rounded mean, a STEP one at
A's value; it equals A's at A's own time, and at B's own time B is the new A. The sum stays within 32 bits. A
channel's sequence (R13, R17) is the whole keyframe list for red, green, blue and ambient, and for group g the
keyframes that carry a pair for g; an empty sequence gives 0, ambient 255, a single keyframe its own value;
else A is the last keyframe not after t, or the last of all where every one lies after t, and B the one that
follows A, or the first. -/
def Obligations.InterpolationLiesBetween : Prop :=
  (∀ (ks : List Keyframe) (g : GroupId),
    keySequence ks .red = ks.map (fun k => ⟨k.time, k.red, k.tr⟩) ∧
    keySequence ks .green = ks.map (fun k => ⟨k.time, k.green, k.tr⟩) ∧
    keySequence ks .blue = ks.map (fun k => ⟨k.time, k.blue, k.tr⟩) ∧
    keySequence ks .ambient = ks.map (fun k => ⟨k.time, k.ambient, k.tr⟩) ∧
    keySequence ks (.group g) =
      ks.filterMap fun k => (k.pairs.find? fun p => p.1 = g).map fun p => ⟨k.time, p.2, k.tr⟩) ∧
  (∀ (c : Scene) (ch : SkyChannel) (t : Nat) (seq : List KeyPoint), seq = keySequence c.keyframes ch →
    (c.keyframes.Pairwise fun x y => x.time < y.time) →
    (seq = [] → skyValue c ch t = if ch = .ambient then 255 else 0) ∧
    (∀ a, seq = [a] → skyValue c ch t = a.value) ∧
    ∀ i a b, seq[i]? = some a → seq[(i + 1) % seq.length]? = some b → 2 ≤ seq.length →
      (a.time ≤ t ∧ (∀ k ∈ seq, k.time ≤ t → k.time ≤ a.time)) ∨
        ((∀ k ∈ seq, t < k.time) ∧ i + 1 = seq.length) →
      keyPair seq t = some (a, some b) ∧ skyValue c ch t = between a b t) ∧
  ∀ (seq : List KeyPoint) (t : Nat) (a b : KeyPoint) (span elapsed : Nat),
    (seq.Pairwise fun x y => x.time < y.time) → (∀ k ∈ seq, k.time < 86400) → t < 86400 →
    keyPair seq t = some (a, some b) →
    span = (b.time + 86400 - a.time) % 86400 → elapsed = (t + 86400 - a.time) % 86400 →
    a ∈ seq ∧ b ∈ seq ∧ 1 ≤ span ∧ elapsed < span ∧
    min a.value b.value ≤ between a b t ∧ between a b t ≤ max a.value b.value ∧
    (elapsed = 0 → between a b t = a.value) ∧
    (a.tr = .step → between a b t = a.value) ∧
    (a.tr = .linear → between a b t =
      (a.value * (span - elapsed) + b.value * elapsed + span / 2) / span) ∧
    (a.value ≤ 255 → b.value ≤ 255 →
      a.value * (span - elapsed) + b.value * elapsed + span / 2 ≤ 255 * 86399 + 43199) ∧
    ∃ c, keyPair seq b.time = some (b, some c)

/-- The keyframe lines (R14 to R16), on a list in time order: a taken KEY leaves the list in order with the
new keyframe in place of any at its time; KEY G sets one pair's level, G NONE removes it, DROP removes the
keyframe; each asks for a recompose. G NONE on a keyframe with no such pair changes nothing; that it asks for
no recompose is the model's choice (log 56). -/
def Obligations.KeyLinesEditTheList : Prop :=
  ∀ s : State, settable s → ListsOrdered s →
    (∀ t tr r g b a pairs, timeOk t → r ≤ 255 → g ≤ 255 → b ≤ 255 → a ≤ 255 →
      (∀ p ∈ pairs, p.1 < 16 ∧ p.2 ≤ 255) → (pairs.map Prod.fst).Nodup →
      ((∃ k ∈ s.cfg.keyframes, k.time = secs t) ∨ s.cfg.keyframes.length < 16) →
      ∃ ks ps, exec (.key t tr r g b a pairs) s =
          replies (requestRecompose (setting s fun c => { c with keyframes := ks })) .ok ∧
        (ks.Pairwise fun x y => x.time < y.time) ∧
        (∀ k, k ∈ ks ↔
          (k ∈ s.cfg.keyframes ∧ k.time ≠ secs t) ∨ k = ⟨secs t, tr, r, g, b, a, ps⟩) ∧
        (ps.Pairwise fun x y => x.1 < y.1) ∧
        (∀ (i : GroupId) v, (i, v) ∈ ps ↔ (i.val, v) ∈ pairs)) ∧
    (∀ t tr r g b a, timeOk t → r ≤ 255 → g ≤ 255 → b ≤ 255 → a ≤ 255 →
      (∀ k ∈ s.cfg.keyframes, k.time ≠ secs t) → s.cfg.keyframes.length = 16 →
      exec (.key t tr r g b a []) s = replies s (.no .full)) ∧
    (∀ t (g : GroupId) v k, timeOk t → v ≤ 255 → k ∈ s.cfg.keyframes → k.time = secs t →
      ∃ ps, exec (.keyG t g.val v) s =
          replies (requestRecompose (setting s fun c => { c with
            keyframes := c.keyframes.map fun x =>
              if x.time = secs t then { x with pairs := ps } else x })) .ok ∧
        (ps.Pairwise fun x y => x.1 < y.1) ∧
        ∀ h w, (h, w) ∈ ps ↔ (h = g ∧ w = v) ∨ (h ≠ g ∧ (h, w) ∈ k.pairs)) ∧
    (∀ t (g : GroupId) k v, timeOk t → k ∈ s.cfg.keyframes → k.time = secs t → (g, v) ∈ k.pairs →
      exec (.keyGNone t g.val) s =
        replies (requestRecompose (setting s fun c => { c with
          keyframes := c.keyframes.map fun x =>
            if x.time = secs t then { x with pairs := x.pairs.filter fun p => p.1 != g } else x })) .ok) ∧
    (∀ t (g : GroupId) k, timeOk t → k ∈ s.cfg.keyframes → k.time = secs t → (∀ v, (g, v) ∉ k.pairs) →
      exec (.keyGNone t g.val) s = replies s .ok) ∧
    (∀ t k, timeOk t → k ∈ s.cfg.keyframes → k.time = secs t →
      exec (.keyDrop t) s =
        replies (requestRecompose (setting s fun c => { c with
          keyframes := c.keyframes.filter fun x => x.time != secs t })) .ok) ∧
    (∀ t (g : GroupId) v, timeOk t → v ≤ 255 → (∀ k ∈ s.cfg.keyframes, k.time ≠ secs t) →
      exec (.keyG t g.val v) s = replies s (.no .unknown) ∧
      exec (.keyGNone t g.val) s = replies s (.no .unknown) ∧
      exec (.keyDrop t) s = replies s (.no .unknown))

/-- `GROUP` (R20) and what settling leaves (R25): a form that names one kind leaves the other kind's fields; a
SWITCHED group is settled at the present scene time, DARK exactly when the ambient is below its threshold,
with every member frozen at the steady level. A field out of range is refused, with a SAVE in flight too (log
15). -/
def Obligations.GroupLinesAndSettling : Prop :=
  (∀ (s : State) (g : GroupId) (c : Curve), settable s →
    exec (.groupDimmed g.val c) s =
      replies (requestRecompose (setting s fun x => { x with
        groups := x.groups.modify g fun d => { d with kind := .dimmed, curve := c } })) .ok) ∧
  (∀ (s : State) (g : GroupId) (th hy on wu : Nat) (c : Scene), settable s →
    th ≤ 255 → hy ≤ 64 → on ≤ 255 → wu ≤ 600 →
    c = { s.cfg with groups := s.cfg.groups.modify g fun d =>
      { d with kind := .switched, threshold := th, hysteresis := hy, onLevel := on, warmUp := wu } } →
    exec (.groupSwitched g.val th hy on wu) s =
      replies (requestRecompose ((s.withCfg c).withSky (settleGroup c s.clock.time s.sky g))) .ok) ∧
  (∀ (s : State) (g : GroupId) (th hy on wu : Nat), takes s →
    255 < th ∨ 64 < hy ∨ 255 < on ∨ 600 < wu →
    exec (.groupSwitched g.val th hy on wu) s = replies s (.no .range)) ∧
  (∀ (c : Scene) (t : Nat) (y : Sky) (g : GroupId) (dark : Bool),
    (c.groups.get g).kind = .switched →
    (dark = true ↔ skyValue c .ambient t < (c.groups.get g).threshold) →
    (settleGroup c t y g).groups =
      y.groups.set g ⟨if dark then .dark else .light, t, true⟩ ∧
    (∀ i, (settleGroup c t y g).lamps.get i =
      if (c.lamps.get i).group = some g then
        { y.lamps.get i with frozen := if dark then (c.groups.get g).onLevel else 0 }
      else y.lamps.get i) ∧
    (settleGroup c t y g).floods = y.floods ∧ (settleGroup c t y g).compose = y.compose)

/-- The lamp record lines (R27): each named lamp takes its group and stagger, a lamp whose group changes is
frozen at 0, every other lamp keeps its record, and a recompose is asked for. A refused range form changes no
lamp. Lamp overrides (R28): a level above 255 is clamped, a new override replaces the old one whole, an expiry
out of range is refused, and freeing a lamp without an override changes nothing; that it asks for no recompose
is the model's choice (log 56). -/
def Obligations.LampLines : Prop :=
  (∀ s : State, settable s →
    (∀ (i : LampId) (g : Option GroupId), ∃ u,
      exec (.lampGroup i.val (g.map Fin.val)) s = replies (requestRecompose u) .ok ∧
      LampsBecome s u fun j => if j = i then { s.cfg.lamps.get j with group := g } else s.cfg.lamps.get j) ∧
    (∀ (i : LampId) st, st ≤ 1800 → ∃ u,
      exec (.lampStagger i.val st) s = replies (requestRecompose u) .ok ∧
      LampsBecome s u fun j => if j = i then { s.cfg.lamps.get j with stagger := st } else s.cfg.lamps.get j) ∧
    (∀ (i : LampId) (g : Option GroupId) st, st ≤ 1800 → ∃ u,
      exec (.lampGroupStagger i.val (g.map Fin.val) st) s = replies (requestRecompose u) .ok ∧
      LampsBecome s u fun j => if j = i then ⟨g, st⟩ else s.cfg.lamps.get j) ∧
    (∀ (n m : LampId) (g : Option GroupId) st k, n ≤ m → st + (m.val - n.val) * k ≤ 1800 → ∃ u,
      exec (.lampRange n.val m.val (g.map Fin.val) st k) s = replies (requestRecompose u) .ok ∧
      LampsBecome s u fun j =>
        if n ≤ j ∧ j ≤ m then ⟨g, st + (j.val - n.val) * k⟩ else s.cfg.lamps.get j) ∧
    (∀ (n m : LampId) (g : Option GroupId) st k,
      m < n ∨ 1800 < st + (m.val - n.val) * k →
      exec (.lampRange n.val m.val (g.map Fin.val) st k) s = replies s (.no .range))) ∧
  ∀ (s : State) (i : LampId), takes s →
    (∀ v, exec (.lampLevel i.val v none) s =
      replies (requestRecompose (s.withSky { s.sky with
        lamps := s.sky.lamps.modify i fun l => { l with override := some ⟨min v 255, none⟩ } }))
        (okOr (decide (255 < v)))) ∧
    (∀ v t, timeOk t → exec (.lampLevel i.val v (some t)) s =
      replies (requestRecompose (s.withSky { s.sky with
        lamps := s.sky.lamps.modify i fun l => { l with override := some ⟨min v 255, some (secs t)⟩ } }))
        (okOr (decide (255 < v)))) ∧
    (∀ v t, ¬ timeOk t → exec (.lampLevel i.val v (some t)) s = replies s (.no .range)) ∧
    ((s.sky.lamps.get i).override ≠ none → exec (.lampFree i.val) s =
      replies (requestRecompose (s.withSky { s.sky with
        lamps := s.sky.lamps.modify i fun l => { l with override := none } })) .ok) ∧
    ((s.sky.lamps.get i).override = none → exec (.lampFree i.val) s = replies s .ok)

/-- The settings of the light as a whole (R33, R34, R43, R53): brightness clamps, `SCAN WALK` starts the
walk at lamp 0, an equal flood source asks for no recompose, and the frame settings ask for none. -/
def Obligations.LightSettings : Prop :=
  ∀ s : State, settable s →
    (∀ n, exec (.bright n) s =
      replies (requestRecompose (setting s fun c => { c with brightness := max 1 (min 16 n) }))
        (okOr (decide (n < 1 ∨ 16 < n)))) ∧
    (exec (.scan .walk) s =
      replies (requestRecompose ((setting s fun c => { c with scan := .walk }).withSky
        { s.sky with walkPos := 0, walkTimer := true })) .ok) ∧
    (∀ m, m ≠ .walk → exec (.scan m) s =
      replies (requestRecompose ((setting s fun c => { c with scan := m }).withSky
        { s.sky with walkTimer := false })) .ok) ∧
    (∀ d, d ≤ 15 →
      exec (.matrixDivider d) s = replies (setting s fun c => { c with divider := d }) .ok) ∧
    (∀ d, 15 < d → exec (.matrixDivider d) s = replies s (.no .range)) ∧
    (∀ m, exec (.matrixRows m) s = replies (setting s fun c => { c with rows := m }) .ok ∧
      exec (.matrixCols m) s = replies (setting s fun c => { c with cols := m }) .ok) ∧
    (∀ (n : FloodId) src, s.cfg.floodSources.get n ≠ src → exec (.floodSource n.val src) s =
      replies (requestRecompose (setting s fun c => { c with
        floodSources := c.floodSources.set n src })) .ok) ∧
    (∀ (n : FloodId), exec (.floodSource n.val (s.cfg.floodSources.get n)) s = replies s .ok)

/-- Recompose requests, compose completion, frame ends, flood periods and the walk timer (R34, R36, R37,
R46, R51, R52): the pages are exchanged at a frame end that finds one ready, with the flood levels staged,
and no other command but a device reset changes the shown page. What the pins show of it (R39, R40, R41, R50;
log 33): a column is on from the start of its row's slot for its lamp's level in 255ths, one row is driven a
slot, and a flood is on for its duty in 256ths, 255 being all. Log 5: a walk timer that is not running changes
nothing. -/
def Obligations.PageExchange : Prop :=
  (∀ (c : Instr) (s t : State), exec c s = .next t → c ≠ .frameEnd →
    t.matrix.shown = s.matrix.shown ∨ ∃ p u, t = deviceReset p u) ∧
  ∀ s : State,
    (requestRecompose s =
      if s.sky.compose = none ∧ s.matrix.ready = false then startCompose s
      else s.withMatrix { s.matrix with pending := true }) ∧
    (∀ c, runs s → s.sky.compose = some c → exec .composeComplete s =
      acts ((s.withSky { s.sky with compose := none, sums := c.sums }).withMatrix
        { s.matrix with composing := c.page, ready := true })) ∧
    (runs s → s.matrix.ready = false → exec .frameEnd s =
      acts (s.withMatrix { s.matrix with
        frameDivider := s.cfg.divider, frameRows := s.cfg.rows, frameCols := s.cfg.cols })) ∧
    (∀ u, runs s → s.matrix.ready = true →
      u = (s.withMatrix { s.matrix with
          shown := s.matrix.composing, composing := s.matrix.shown, ready := false, pending := false,
          frameDivider := s.cfg.divider, frameRows := s.cfg.rows, frameCols := s.cfg.cols }).withFloods
        (s.floods.mapIdx fun n f => { f with staged := some (s.matrix.composing.floods.get n) }) →
      exec .frameEnd s = acts (if s.matrix.pending then startCompose u else u)) ∧
    (∀ n d, runs s → (s.floods.get n).staged = some d → exec (.floodPeriodEnd n) s =
      acts (s.withFloods (s.floods.set n ⟨none, d⟩))) ∧
    (∀ n, runs s → (s.floods.get n).staged = none → exec (.floodPeriodEnd n) s = acts s) ∧
    (runs s → s.sky.walkTimer = true → ∃ k : LampId,
      k.val = (s.sky.walkPos.val + 1) % 192 ∧
      exec .walkTimer s = acts (requestRecompose (s.withSky { s.sky with walkPos := k }))) ∧
    (runs s → s.sky.walkTimer = false → exec .walkTimer s = acts s) ∧
    (runs s →
      (∀ (p : Fin 8) (q : Fin 24) (i : LampId) (k : Nat),
        i.val = 24 * (match s.matrix.frameRows with | .normal => p.val | .reversed => 7 - p.val) +
          (match s.matrix.frameCols with | .normal => q.val | .reversed => 23 - q.val) →
        (columnOn s p q k = true ↔ k < s.matrix.shown.lamps.get i)) ∧
      (∀ slot p, rowDriven s slot p = true ↔ slot = p) ∧
      (∀ n k, k < 256 → (floodOn s n k = true ↔
        (s.floods.get n).applied = 255 ∨ k < (s.floods.get n).applied))) ∧
    frameMicros s = (s.matrix.frameDivider + 1) * 2500

/-- A compose first passes over the groups at its scene time (R22, R24): a SWITCHED group turns to DARK
below its threshold and to LIGHT above its threshold and hysteresis, each member frozen at the level it had;
a group that does not turn is settled once its largest stagger and its warm-up have run. Then every level of
the page rests on the state after that pass (R36): a lamp's base is that of its group (R21, R23), its
override, the scan mode and the brightness follow (R31), an unclaimed lamp's final level is the scaled one
and not above its pre-budget level, a claimed lamp's that of its crossing's phase (R30), a flood's comes from
its source by the same stages (R32), and the three sums are those of R37. -/
def Obligations.ComposeLevels : Prop :=
  (∀ (s : State) (c : Compose), s.account.scale ≤ 256 →
    (startCompose s).sky.compose = some c →
    ∃ (u : State) (pre : LampId → Nat) (flood : FloodId → Nat),
      u = s.withSky (groupPass s.cfg s.clock.noticed s.sky) ∧
      startCompose s = u.withSky { u.sky with compose := some c } ∧
      (∀ i, pre i = lampPre u s.clock.noticed (curveLevels s.cfg s.clock.noticed) i) ∧
      (∀ f, flood f = floodPre u s.clock.noticed f) ∧
      (∀ i,
        ((u.sky.lamps.get i).claim = none →
          c.page.lamps.get i = (pre i * s.account.scale + 128) / 256 ∧ c.page.lamps.get i ≤ pre i) ∧
        (∀ x d, (u.sky.lamps.get i).claim = some x → s.cfg.crossings.get x = some d →
          d.lampA ≠ d.lampB →
          (i = d.lampA → c.page.lamps.get i = if (s.crossings.get x).phase then 0 else d.flash) ∧
          (i = d.lampB → c.page.lamps.get i = if (s.crossings.get x).phase then d.flash else 0))) ∧
      (∀ f, c.page.floods.get f = (flood f * s.account.scale + 128) / 256) ∧
      c.sums.lamp = ((ids 192).map fun i => if (u.sky.lamps.get i).claim = none then pre i else 0).sum ∧
      c.sums.flood = ((ids 6).map flood).sum ∧
      c.sums.claimed = ((ids 192).map fun i =>
        if (u.sky.lamps.get i).claim = none then 0 else c.page.lamps.get i).sum) ∧
  (∀ (c : Scene) (t : Nat) (y z : Sky) (g : GroupId) (d : GroupDef) (r : GroupRun) (a e : Nat)
      (dark light : Prop), z = groupPass c t y →
    d = c.groups.get g → r = y.groups.get g → a = skyValue c .ambient t →
    e = (t + 86400 - r.crossTime) % 86400 →
    (dark ↔ d.kind = .switched ∧ r.dir = .light ∧ a < d.threshold) →
    (light ↔ d.kind = .switched ∧ r.dir = .dark ∧ min 255 (d.threshold + d.hysteresis) < a) →
    (dark → z.groups.get g = ⟨.dark, t, false⟩) ∧
    (light → z.groups.get g = ⟨.light, t, false⟩) ∧
    (¬ dark → ¬ light → d.kind = .switched → z.groups.get g = { r with
      settled := r.settled || decide (d.warmUp ≤ e ∧ ∀ i, (c.lamps.get i).group = some g →
        (c.lamps.get i).stagger + d.warmUp ≤ e) }) ∧
    (d.kind = .dimmed → z.groups.get g = r) ∧
    (∀ i, (c.lamps.get i).group = some g →
      (dark ∨ light → z.lamps.get i = { y.lamps.get i with
        frozen := switchedLevel d r t (c.lamps.get i).stagger (y.lamps.get i).frozen }) ∧
      (¬ dark → ¬ light → z.lamps.get i = y.lamps.get i)) ∧
    (∀ i, (c.lamps.get i).group = none → z.lamps.get i = y.lamps.get i) ∧ z.floods = y.floods) ∧
  (∀ (d : GroupDef) (r : GroupRun) (t st frozen e : Nat), e = (t + 86400 - r.crossTime) % 86400 →
    switchedLevel d r t st frozen =
      match r.settled, r.dir with
      | true, .dark => d.onLevel
      | true, .light => 0
      | false, .dark =>
        if e < st then 0 else if e < st + d.warmUp then d.onLevel * (e - st) / d.warmUp else d.onLevel
      | false, .light => if e < st then frozen else 0) ∧
  (∀ k : Curve, curveLevel k 0 = 0 ∧ curveLevel k 255 = 255 ∧
    ∀ g h, g ≤ h → curveLevel k g ≤ curveLevel k h) ∧
  (∀ (u : State) (t : Nat) (i : LampId) (base level : Nat),
    base = (match (u.cfg.lamps.get i).group with
      | none => 0
      | some g =>
        match (u.cfg.groups.get g).kind, (u.cfg.groups.get g).curve, skyValue u.cfg (.group g) t with
        | .dimmed, .linear, v => v
        | .dimmed, .soft, v => (v * v + 127) / 255
        | .dimmed, .hard, v => (v * v * v + 32512) / 65025
        | .switched, _, _ => switchedLevel (u.cfg.groups.get g) (u.sky.groups.get g) t
            (u.cfg.lamps.get i).stagger (u.sky.lamps.get i).frozen) →
    level = ((u.sky.lamps.get i).override.map Override.level).getD base →
    lampPre u t (curveLevels u.cfg t) i =
      ((match u.cfg.scan with
        | .normal => level
        | .allOn => 255
        | .allOff => 0
        | .walk => if i = u.sky.walkPos then 255 else 0) * u.cfg.brightness + 8) / 16) ∧
  ∀ (u : State) (t : Nat) (f : FloodId) (base level : Nat),
    base = (match u.cfg.floodSources.get f with
      | .skyRed => skyValue u.cfg .red t
      | .skyGreen => skyValue u.cfg .green t
      | .skyBlue => skyValue u.cfg .blue t
      | .ambient => skyValue u.cfg .ambient t
      | .none => 0) →
    level = ((u.sky.floods.get f).map Override.level).getD base →
    floodPre u t f =
      ((match u.cfg.scan with
        | .normal => level
        | .allOn => 255
        | .allOff => 0
        | .walk => 0) * u.cfg.brightness + 8) / 16

/-! ## Bridge channels and stop control (chapter 4) -/

/-- A duty request becomes the staged pair, whole, in OFF, DRIVING and DEAD outside the halt; in CUT, and
in every state under the halt, it is ignored (R58). -/
def Obligations.DutyRequestsAreStaged : Prop :=
  ∀ (s : State) (c : Channel) (p : Drive) (t : State), t = dutyRequest c p s →
    (s.halt = false → (s.channels.get c).state ≠ .cut →
      t.channels.get c = { s.channels.get c with staged := some p }) ∧
    (s.halt = true ∨ (s.channels.get c).state = .cut → t = s) ∧
    (∀ e, e ≠ c → t.channels.get e = s.channels.get e) ∧
    t = s.withChannels t.channels

/-- What a channel does at a period end, by its state, and the on-time of the period that follows (R57,
R59); that a sense timer arms its channel in every state (R61); and what the bridge puts on the load in a step
of the period, by the state (R57; log 33). -/
def Obligations.PeriodEnds : Prop :=
  ∀ (s : State) (c : Channel) (ch : ChannelRun) (d : ChannelDef), runs s →
    ch = s.channels.get c → d = s.cfg.bridge.get c →
    (∀ k, (ch.state = .off ∨ ch.state = .cut → bridgeOut s c k = .released) ∧
      (ch.state = .dead → bridgeOut s c k = .low) ∧
      (ch.state = .driving → bridgeOut s c k =
        if k < ch.onTime then .drive ch.applied.pol else .low)) ∧
    exec (.senseTimer c) s = acts (s.withChannels (s.channels.set c { ch with armed := true })) ∧
    ∃ r : ChannelRun, exec (.periodEnd c) s = acts (s.withChannels (s.channels.set c r)) ∧
      r.periodRes = d.res ∧ r.periodPrescale = d.prescale ∧
      (ch.state = .cut → r.state = .cut ∧ r.applied = ch.applied ∧ r.staged = ch.staged) ∧
      (ch.state = .off → s.halt = true →
        r.state = .off ∧ r.applied = ch.applied ∧ r.staged = ch.staged) ∧
      (∀ p, ch.state = .off → s.halt = false → p = ch.staged.getD ch.applied →
        d.sense = true ∨ 1 ≤ p.duty * d.res / 256 →
        r.state = .driving ∧ r.applied = p ∧ r.staged = none ∧ r.discard = true ∧ r.armed = false) ∧
      (∀ p, ch.state = .off → s.halt = false → p = ch.staged.getD ch.applied →
        d.sense = false → p.duty * d.res / 256 = 0 →
        r.state = .off ∧ r.applied = ⟨0, p.pol⟩ ∧ r.staged = none) ∧
      (ch.state = .driving → ch.staged = none → r.state = .driving ∧ r.applied = ch.applied) ∧
      (∀ p, ch.state = .driving → ch.staged = some p → p.pol = ch.applied.pol ∨ ch.applied.duty = 0 →
        r.state = .driving ∧ r.applied = p ∧ r.staged = none) ∧
      (∀ p, ch.state = .driving → ch.staged = some p → p.pol ≠ ch.applied.pol → ch.applied.duty ≠ 0 →
        r.state = .dead ∧ r.applied = ⟨0, ch.applied.pol⟩ ∧ r.staged = some p) ∧
      (∀ p, ch.state = .dead → ch.staged = some p →
        r.state = .driving ∧ r.applied = p ∧ r.staged = none) ∧
      (r.state ≠ .driving → r.onTime = 0) ∧
      (r.state = .driving → d.sense = false → r.onTime = r.applied.duty * d.res / 256) ∧
      (r.state = .driving → d.sense = true →
        r.onTime = max (r.applied.duty * d.res / 256) (max 1 (2 * d.res / 256)))

/-- The settings of a channel, of a section's threshold and of an input's filter (R64, R84, R90), each
refused outside its range, with a SAVE in flight too (log 15), and `RESTORE` (R63), taken in CUT alone. -/
def Obligations.TrackSettings : Prop :=
  ∀ s : State,
    (∀ (c : Channel) res p, settable s → res = 256 ∨ res = 64 ∨ res = 32 ∨ res = 16 →
      1 ≤ p → p ≤ 128 → exec (.bridgePwm c.val res p) s =
        replies (setting s fun x => { x with
          bridge := x.bridge.modify c fun d => { d with res := res, prescale := p } }) .ok) ∧
    (∀ (c : Channel) res p, takes s →
      (res ≠ 256 ∧ res ≠ 64 ∧ res ≠ 32 ∧ res ≠ 16) ∨ p = 0 ∨ 128 < p →
      exec (.bridgePwm c.val res p) s = replies s (.no .range)) ∧
    (∀ (c : Channel) on, settable s → exec (.bridgeSense c.val on) s =
      replies (setting s fun x => { x with
        bridge := x.bridge.modify c fun d => { d with sense := on } }) .ok) ∧
    (∀ (c : Channel) mA, settable s → 500 ≤ mA → mA ≤ 3000 → exec (.bridgeTrip c.val mA) s =
      replies (setting s fun x => { x with
        bridge := x.bridge.modify c fun d => { d with trip := mA } }) .ok) ∧
    (∀ (c : Channel) mA, takes s → mA < 500 ∨ 3000 < mA →
      exec (.bridgeTrip c.val mA) s = replies s (.no .range)) ∧
    (∀ (x : Section) mA, settable s → 1 ≤ mA → mA ≤ 100 → exec (.senseThreshold x.val mA) s =
      replies (setting s fun c => { c with thresholds := c.thresholds.set x mA }) .ok) ∧
    (∀ (x : Section) mA, takes s → mA < 1 ∨ 100 < mA →
      exec (.senseThreshold x.val mA) s = replies s (.no .range)) ∧
    (∀ (m : MarkId) f, takes s → f < 2 ∨ 8 < f →
      exec (.inputMarkFilter m.val f) s = replies s (.no .range)) ∧
    (∀ (n : Axis) f, takes s → f < 2 ∨ 8 < f →
      exec (.inputIndexFilter n.val f) s = replies s (.no .range)) ∧
    (∀ k v, takes s → 24 ≤ k → exec (.bridgeTrip k v) s = replies s (.no .range) ∧
      exec (.restore k) s = replies s (.no .range) ∧ exec (.senseThreshold k v) s = replies s (.no .range) ∧
      exec (.inputMarkFilter k v) s = replies s (.no .range) ∧
      exec (.inputIndexFilter k v) s = replies s (.no .range)) ∧
    (∀ (m : MarkId) (i : InputId) f, settable s → i.val = m.val → 2 ≤ f → f ≤ 8 →
      exec (.inputMarkFilter m.val f) s =
        replies (setting s fun c => { c with filters := c.filters.set i f }) .ok) ∧
    (∀ (n : Axis) (i : InputId) f, settable s → i.val = 16 + n.val → 2 ≤ f → f ≤ 8 →
      exec (.inputIndexFilter n.val f) s =
        replies (setting s fun c => { c with filters := c.filters.set i f }) .ok) ∧
    (∀ c : Channel, takes s → (s.channels.get c).state = .cut → exec (.restore c.val) s =
      replies (s.modChannel c fun ch =>
        { ch with state := .off, applied := ⟨0, ch.applied.pol⟩, staged := none }) .ok) ∧
    (∀ c : Channel, takes s → (s.channels.get c).state ≠ .cut →
      exec (.restore c.val) s = replies s (.no .state))

/-- The halt comes into force by an accepted assertion or by `STOP` (R65, R66, R68, R146, R167): every channel
not CUT goes OFF at once with duty 0 and no staged pair, every WAITING or moving train is HALTED at speed 0,
every axis but a STALLED one is HALTED, and the cause is reported, last of all (log 30). Of the converter
(R75, R79) the waiting request of each channel that goes OFF is removed, the others keeping their order, its
held value is discarded and its slot set to 0 where it holds a sample; the conversion in flight and the
filters stay. A train that it takes to HALTED keeps its request, holdings, route and mode, and a pending
turnabout is carried out at once (R146, R157), in ascending train order after every train is HALTED (the
model's choice, log 30). Nothing else changes. Already in force, it sets the latch and changes nothing more.
-/
def Obligations.HaltComesIntoForce : Prop :=
  ∀ s : State,
    (∀ (c : Instr) (line : Bool) (r : Report), s.halt = false → runs s →
      (c = .stopLineAssert ∧ line = true ∧ r = .haltLine) ∨
        (c = .stop ∧ line = false ∧ r = .haltCommand ∧ takes s) →
      ∃ u : State, exec c s = (if line then acts (u.raise r) else replies (u.raise r) .ok) ∧
        u.stopc.line = line ∧ u.stopc.latch = true ∧
        (∀ k, (u.channels.get k).state =
            (if (s.channels.get k).state = .cut then .cut else .off) ∧
          (u.channels.get k).applied.pol = (s.channels.get k).applied.pol ∧
          ((s.channels.get k).state ≠ .cut →
            (u.channels.get k).applied.duty = 0 ∧ (u.channels.get k).staged = none ∧
            (u.channels.get k).armed = false)) ∧
        (∀ n, (s.trains.get n).state = .waiting ∨ (s.trains.get n).moving = true →
          (u.trains.get n).state = .halted ∧ (u.trains.get n).speed = 0 ∧
          (u.trains.get n).target = 0 ∧ (u.trains.get n).duty = 0 ∧
          (u.trains.get n).mode = (s.trains.get n).mode ∧
          (u.trains.get n).route = (s.trains.get n).route) ∧
        (∀ n, (s.trains.get n).state ≠ .waiting → (s.trains.get n).moving = false →
          (u.trains.get n).state = (s.trains.get n).state) ∧
        (∀ n, (u.axes.get n).state =
            (if (s.axes.get n).state = .stalled then .stalled else .halted)) ∧
        u.floods = s.floods ∧ u.cfg = s.cfg ∧
        u.sense.inflight = s.sense.inflight ∧ u.sense.filters = s.sense.filters ∧
        u.sense.queue = (s.sense.queue.filter fun q => decide ((s.channels.get q.ch).state = .cut)) ∧
        (∀ k, (s.channels.get k).state = .cut →
          u.channels.get k = s.channels.get k ∧ u.sense.held.get k = s.sense.held.get k ∧
          u.sense.slots.get k = s.sense.slots.get k) ∧
        (∀ k, (s.channels.get k).state ≠ .cut → u.sense.held.get k = none ∧
          u.sense.slots.get k = (s.sense.slots.get k).map fun _ => 0) ∧
        (∀ n x, x = s.trains.get n → x.state = .waiting ∨ x.moving = true →
          (x.pending = none → (u.trains.get n).span = x.span ∧ (u.trains.get n).headPos = x.headPos ∧
            (u.trains.get n).orientation = x.orientation) ∧
          (x.pending ≠ none → (∀ m, m ≠ n → (s.trains.get m).pending = none) →
            TurnedAbout s n x (u.trains.get n))) ∧
        ∃ v w : State,
          v = ((((s.withSys v.sys).withStopc u.stopc).withChannels u.channels).withSense u.sense).withTrains
            v.trains ∧
          v.sys = (if line then { s.sys with pins := { s.sys.pins with stop := true } } else s.sys) ∧
          (∀ n x, x = s.trains.get n → v.trains.get n =
            if x.state = .waiting ∨ x.moving = true then { x with
              state := .halted, speed := 0, target := 0, duty := 0, cause := none, reason := none }
            else x) ∧
          w = ((List.finRange 6).filter fun n =>
              decide ((v.trains.get n).state = .halted ∧ (v.trains.get n).pending ≠ none)).foldl
            (fun a n => turnabout n a) v ∧
          u = w.withAxes u.axes) ∧
    (s.halt = true → takes s →
      exec .stop s = replies (s.withStopc { s.stopc with latch := true }) .ok) ∧
    (∀ u : State, s.halt = true → runs s → s.stopc.line = false →
      u = (s.withSys { s.sys with pins := { s.sys.pins with stop := true } }).withStopc ⟨true, 0, true⟩ →
      exec .stopLineAssert s = acts u)

/-- The release of the STOP line leaves the halt in force, `RESUME` is refused before it and ends the halt after
it, and its trains and axes come back (R65, R69, R146, R167); but for a device reset no other command clears the
latch (a `RESUME` may come in characters too). A new level at the STOP input is accepted after three samples in
a row (R65). The halt is in force exactly while the line is asserted or the latch is set (R65). -/
def Obligations.HaltEnds : Prop :=
  (∀ s : State, s.halt = true ↔ s.stopc.line = true ∨ s.stopc.latch = true) ∧
  (∀ (c : Instr) (s t : State), exec c s = .next t → s.stopc.latch = true → t.stopc.latch = false →
    c = .resume ∨ (∃ ch fe, c = .receiveCharacter ch fe) ∨ ∃ p u, t = deviceReset p u) ∧
  ∀ s : State,
    (∀ u : State, runs s → s.stopc.line = true →
      u = (s.withSys { s.sys with pins := { s.sys.pins with stop := false } }).withStopc
        { s.stopc with line := false, run := 0 } →
      exec .stopLineRelease s = acts (u.raise .stopReleased) ∧ (s.stopc.latch = true → u.halt = true)) ∧
    (takes s → s.stopc.line = true → exec .resume s = replies s (.no .stopped)) ∧
    (takes s → s.stopc.line = false → s.stopc.latch = false → exec .resume s = replies s .ok) ∧
    (takes s → s.stopc.line = false → s.stopc.latch = true →
      ∃ t, exec .resume s = replies t .ok ∧ t.halt = false ∧ t.channels = s.channels ∧ t.cfg = s.cfg ∧
        (∀ n, (s.trains.get n).state = .halted → (t.trains.get n).state =
          if ((s.trains.get n).mode = .route ∧ (s.trains.get n).route ≠ none) ∨
             ((s.trains.get n).mode = .cab ∧ 0 < (s.trains.get n).cabStep)
          then .waiting else .parked) ∧
        (∀ n, (s.trains.get n).state ≠ .halted → t.trains.get n = s.trains.get n) ∧
        (∀ n, t.axes.get n = { s.axes.get n with
          state := if (s.axes.get n).state = .halted then .stopped else (s.axes.get n).state })) ∧
    (∀ (b : Bool) (u : State), runs s → u = s.withSys { s.sys with pins := { s.sys.pins with stop := b } } →
      (b = s.stopc.line →
        exec (.stopLineSample b) s = acts (u.withStopc { s.stopc with run := 0 })) ∧
      (b ≠ s.stopc.line → s.stopc.run < 2 →
        exec (.stopLineSample b) s = acts (u.withStopc { s.stopc with run := s.stopc.run + 1 })) ∧
      (b ≠ s.stopc.line → 2 ≤ s.stopc.run →
        exec (.stopLineSample b) s = exec (if b then .stopLineAssert else .stopLineRelease) s))

/-! ## Sensing and inputs (chapter 5) -/

/-- A channel that is armed, DRIVING and has an on-time raises one request with its discard flag; it
starts at an idle converter, joins the tail behind a conversion, or merges with the channel's queued one
(R61, R73, R74, R76). Any other channel raises none. -/
def Obligations.ConversionRequests : Prop :=
  ∀ (s u : State) (c : Channel) (mA : Nat) (ch : ChannelRun), runs s → ch = s.channels.get c →
    u = s.withChannels (s.channels.set c { ch with armed := false, discard := false }) →
    (ch.armed = false ∨ ch.state ≠ .driving ∨ ch.onTime = 0 →
      exec (.conversionRequest c mA) s = acts s) ∧
    (ch.armed = true → ch.state = .driving → 1 ≤ ch.onTime →
      (s.sense.inflight = none → s.sense.queue = [] →
        exec (.conversionRequest c mA) s = acts (u.withSense { s.sense with
          inflight := some ⟨⟨c, ch.discard⟩, mA⟩, held := s.sense.held.set c none })) ∧
      (s.sense.inflight ≠ none → (∀ r ∈ s.sense.queue, r.ch ≠ c) →
        exec (.conversionRequest c mA) s = acts (u.withSense { s.sense with
          queue := s.sense.queue ++ [⟨c, ch.discard⟩], held := s.sense.held.set c (some mA) })) ∧
      (s.sense.inflight ≠ none → (∃ r ∈ s.sense.queue, r.ch = c) →
        exec (.conversionRequest c mA) s = acts (u.withSense { s.sense with
          queue := s.sense.queue.map fun r =>
            if r.ch = c then { r with discard := r.discard || ch.discard } else r
          held := s.sense.held.set c (some mA) })))

/-- A completed conversion (R75, R76, R78 to R82): a discarded sample reaches nothing; a kept one goes to the
slot of a DRIVING or DEAD channel, cuts a channel whose trip limit it reaches, with its slot at 0 and its
waiting request removed, and then the CUT notice reaches the section's trains (R62, R145) or makes the axis
STALLED with cause CUT at duty and measured speed 0, its timers stopped (R166), and after it `#TRIP` is
reported; and it moves the section's counts, OCCUPIED at three above the threshold and CLEAR at eight at or
below it. Then the conversion at the head of the queue starts with its channel's held value and empties the
hold stage, or the converter is idle. -/
def Obligations.SamplesAreDelivered : Prop :=
  ∀ (s : State) (v : Conversion) (c : Channel) (mA : Nat) (trips : Prop) (waiting : List Request)
      (starts : Sense → Prop), runs s → s.sense.inflight = some v →
    c = v.req.ch → mA = 3 * min (v.value / 3) 1023 →
    (trips ↔ v.req.discard = false ∧ (s.cfg.bridge.get c).trip ≤ mA ∧ (s.channels.get c).state ≠ .cut) →
    (trips → waiting = s.sense.queue.filter fun r => r.ch ≠ c) → (¬ trips → waiting = s.sense.queue) →
    (∀ q, starts q ↔ (waiting = [] → q.queue = [] ∧ q.inflight = none) ∧
      ∀ r rs, waiting = r :: rs → q.queue = rs ∧ q.held.get r.ch = none ∧
        (∀ x, s.sense.held.get r.ch = some x → q.inflight = some ⟨r, x⟩) ∧
        ∀ e, e ≠ r.ch → (trips → e ≠ c) → q.held.get e = s.sense.held.get e) →
    (v.req.discard = true → ∃ q : Sense,
      exec .conversionComplete s = acts (s.withSense q) ∧ starts q ∧
      q.slots = s.sense.slots ∧ q.filters = s.sense.filters) ∧
    (trips → ∃ cut u w : State,
      cut = (s.withChannels (s.channels.set c { s.channels.get c with
        state := .cut, applied := ⟨0, (s.channels.get c).applied.pol⟩, staged := none, armed := false
        onTime := 0 })).withSense { s.sense with
          queue := waiting, held := s.sense.held.set c none
          slots := s.sense.slots.set c (if (s.channels.get c).state = .off
            then (s.sense.slots.get c).map fun _ => 0 else some 0) } ∧
      (∀ x : Section, x.val = c.val → u = sectionCutNotice x cut) ∧
      (∀ n : Axis, 20 + n.val = c.val → u = cut.withAxes (s.axes.set n { s.axes.get n with
        state := .stalled, cause := some .cut, duty := 0, measured := 0, stallTimer := none
        stopTimer := false })) ∧
      w = occupancyStep c mA (u.raise (.trip c mA)) ∧
      exec .conversionComplete s = acts (w.withSense (startConversion w.sense))) ∧
    (v.req.discard = false → ∃ t, exec .conversionComplete s = acts t ∧ starts t.sense ∧
      (¬ trips → (s.channels.get c).state = .off ∨ (s.channels.get c).state = .cut →
        t.sense.slots.get c = s.sense.slots.get c) ∧
      (trips → t.sense.slots.get c =
        if (s.channels.get c).state = .off then (s.sense.slots.get c).map fun _ => 0 else some 0) ∧
      (mA < (s.cfg.bridge.get c).trip →
        (s.channels.get c).state = .driving ∨ (s.channels.get c).state = .dead →
        t.sense.slots.get c = some mA ∧ (t.channels.get c).state = (s.channels.get c).state) ∧
      (∀ e, e ≠ c → t.sense.slots.get e = s.sense.slots.get e ∧
        (t.channels.get e).state = (s.channels.get e).state) ∧
      ((s.cfg.bridge.get c).trip ≤ mA → (s.channels.get c).state ≠ .cut →
        (t.channels.get c).state = .cut ∧ (t.channels.get c).applied.duty = 0 ∧
        (t.channels.get c).staged = none ∧ ∀ r ∈ t.sense.queue, r.ch ≠ c) ∧
      (∀ x : Section, x.val = c.val → ∀ f g : Occupancy, f = s.sense.filters.get x →
        g = t.sense.filters.get x →
        (s.cfg.thresholds.get x < mA → g.above = min (f.above + 1) 3 ∧ g.below = 0) ∧
        (mA ≤ s.cfg.thresholds.get x → g.above = 0 ∧ g.below = min (f.below + 1) 8) ∧
        g.occupied =
          ((f.occupied && decide (g.below ≠ 8)) || (!f.occupied && decide (g.above = 3)))) ∧
      (∀ x : Section, x.val ≠ c.val → t.sense.filters.get x = s.sense.filters.get x))

/-- Edges, stuck timers, samples and the millisecond count (R85 to R88): an edge to ACTIVE records its stamp
and sends a mark event for a defined mark or an index event, an edge to INACTIVE sends none and ends stuck
with a report, and the stuck timer of an input makes it stuck with a report. The first sample after a reset is
taken as it stands; one at the accepted level ends a run; one at the other level lengthens it, and the level
is accepted when the run reaches the filter length, with the event or the report of the edge (R87, R88); the
inputs are taken in ascending order (log 25). Log 5: an edge to the accepted level and the expiry of a stuck
timer that is not running change nothing. Log 24: which stamp an edge given as a whole has. -/
def Obligations.InputEdgesAndSamples : Prop :=
  (∀ (s : State) (i : InputId) (f : InputRun), runs s → f = s.inputs.get i →
    (f.active = true → exec (.acceptedEdgeActive i) s = acts s) ∧
    (∀ stamp u, f.active = false → f.stuck = false →
      stamp = (if f.run = 0 then s.sys.ms else f.runStart) →
      u = s.withInputs (s.inputs.set i { f with
        sampled := true, active := true, run := 0, last := some stamp, stuckTimer := true }) →
      (∀ m : MarkId, m.val = i.val → s.cfg.marks.get m = none →
        exec (.acceptedEdgeActive i) s = acts u) ∧
      (∀ (m : MarkId) d, m.val = i.val → s.cfg.marks.get m = some d →
        exec (.acceptedEdgeActive i) s = acts (markEvent m d.sec (10 * d.offset) u)) ∧
      (∀ n : Axis, 16 + n.val = i.val →
        exec (.acceptedEdgeActive i) s = acts (indexEvent n stamp u))) ∧
    (f.active = false → exec (.acceptedEdgeInactive i) s = acts s) ∧
    (∀ u, f.active = true → u = s.withInputs (s.inputs.set i { f with
        sampled := true, active := false, run := 0, stuck := false, stuckTimer := false }) →
      exec (.acceptedEdgeInactive i) s = acts (if f.stuck then u.raise (.released i) else u)) ∧
    (f.stuckTimer = true → exec (.stuckTimer i) s =
      acts ((s.withInputs (s.inputs.set i { f with stuck := true, stuckTimer := false })).raise
        (.stuck i))) ∧
    (f.stuckTimer = false → exec (.stuckTimer i) s = acts s) ∧
    exec .realMillisecondCount s =
      acts (s.withSys { s.sys with ms := (s.sys.ms + 1) % 4294967296 })) ∧
  (∀ (s : State) (levels : BitVec 20), runs s → exec (.inputSample levels) s =
    acts ((List.finRange 20).foldl (fun v i => sampleInput i (levels.getLsbD i.val) v) s)) ∧
  (∀ (s : State) (i : InputId) (f : InputRun) (start : Nat) (put : InputRun → State), f = s.inputs.get i →
    start = (if f.run = 0 then s.sys.ms else f.runStart) → (∀ g, put g = s.withInputs (s.inputs.set i g)) →
    (∀ b, f.sampled = false →
      sampleInput i b s = put { f with sampled := true, active := b, run := 0, stuckTimer := b }) ∧
    (f.sampled = true → sampleInput i f.active s = put { f with run := 0 }) ∧
    (∀ b, f.sampled = true → b ≠ f.active → f.run + 1 < s.cfg.filters.get i →
      sampleInput i b s = put { f with run := f.run + 1, runStart := start }) ∧
    (∀ u, f.sampled = true → f.active = false → s.cfg.filters.get i ≤ f.run + 1 →
      u = put { f with
        active := true, run := 0, runStart := start, last := some start, stuckTimer := true } →
      (f.stuck = true → sampleInput i true s = u) ∧
      (f.stuck = false →
        (∀ m : MarkId, m.val = i.val → s.cfg.marks.get m = none → sampleInput i true s = u) ∧
        (∀ (m : MarkId) d, m.val = i.val → s.cfg.marks.get m = some d →
          sampleInput i true s = markEvent m d.sec (10 * d.offset) u) ∧
        (∀ n : Axis, 16 + n.val = i.val → sampleInput i true s = indexEvent n start u))) ∧
    (∀ u, f.sampled = true → f.active = true → s.cfg.filters.get i ≤ f.run + 1 →
      u = put { f with active := false, run := 0, runStart := start, stuck := false, stuckTimer := false } →
      sampleInput i false s = if f.stuck then u.raise (.released i) else u)) ∧
  ∀ (s : State) (levels : BitVec 20), runs s →
    ∃ t, exec (.inputSample levels) s = acts t ∧ t.cfg = s.cfg ∧ t.sys = s.sys ∧
      ∀ (i : InputId) (f g : InputRun) (b : Bool), f = s.inputs.get i → g = t.inputs.get i →
        b = levels.getLsbD i.val →
        (f.sampled = false → g = { f with sampled := true, active := b, run := 0, stuckTimer := b }) ∧
        (f.sampled = true → b = f.active → g = { f with run := 0 }) ∧
        (f.sampled = true → b ≠ f.active → f.run + 1 < s.cfg.filters.get i →
          g = { f with
            run := f.run + 1, runStart := if f.run = 0 then s.sys.ms else f.runStart }) ∧
        (f.sampled = true → b ≠ f.active → s.cfg.filters.get i ≤ f.run + 1 →
          g.active = b ∧ g.run = 0 ∧ g.stuckTimer = b ∧
          (b = true → g.last = some (if f.run = 0 then s.sys.ms else f.runStart)) ∧
          (b = false → g.last = f.last ∧ g.stuck = false))


/-! ## Layout, turnouts, crossings and the bell (chapter 6) -/

/-- The unit a section lies in (R97): none for an undefined section; a defined section in no run is a unit by
itself, named by itself; the members of a run are one unit, named by the lowest-numbered of them. The `SECTION`
lines with every train UNPLACED (R92, R93, R97): a new section has both ends BUFFER and the units are rebuilt
free; a changed length keeps the ends; a section that is joined or a leg, a member of a run, that a mark or a
crossing names, or that a route lists is not dropped; a join is recorded at both ends and parted at both. A
rebuild reports the section that it makes defined while its filter holds OCCUPIED as a stray, and none that was
defined before (R114). What a section's record gives (its length, its ends, its run), what setting one end
changes, and that the routes agree exactly where each can be passed in order, its stops fit and a loop closes
(R92, R97, R99, R149), are stated with it. -/
def Obligations.SectionLines : Prop :=
  (∀ (c : Scene) (x : Section), (c.defined x = true ↔ c.sections.get x ≠ none) ∧
    (∀ d, c.sections.get x = some d → c.lengthOf x = d.length ∧ c.link ⟨x, .a⟩ = d.endA ∧
      c.link ⟨x, .b⟩ = d.endB) ∧
    (c.sections.get x = none → ∀ e, c.link ⟨x, e⟩ = .buffer) ∧
    (∀ r, c.runOf x = some r → ∃ xs, c.runs.get r = some xs ∧ x ∈ xs) ∧
    (c.runOf x = none → ∀ r xs, c.runs.get r = some xs → x ∉ xs) ∧
    ∀ (p : SecEnd) (l : EndLink) (d : Scene), d = c.setLink p l → d = { c with sections := d.sections } ∧
      d.defined x = c.defined x ∧ d.lengthOf x = c.lengthOf x ∧
      ∀ e, d.link ⟨x, e⟩ = if p = ⟨x, e⟩ ∧ c.defined x = true then l else c.link ⟨x, e⟩) ∧
  (∀ c : Scene, c.routesAgree = true ↔ ∀ (r : RouteId) d, c.routes.get r = some d →
    Passable c (entries d.positions) ∧ StopsFit c d.positions ∧
    (d.loop = true → ∀ a z, (entries d.positions).head? = some a → (entries d.positions).getLast? = some z →
      Leads c z a)) ∧
  (∀ (c : Scene) (x : Section),
    (c.sections.get x = none → c.unitKey x = none) ∧
    (c.sections.get x ≠ none → (∀ r xs, c.runs.get r = some xs → x ∉ xs) → c.unitKey x = some x) ∧
    ∀ r xs, c.sections.get x ≠ none → c.runs.get r = some xs → x ∈ xs →
      (∀ j ys, c.runs.get j = some ys → x ∈ ys → j = r) →
      ∃ k ∈ xs, c.unitKey x = some k ∧ ∀ y ∈ xs, k ≤ y) ∧
  ∀ (s : State) (x : Section), layable s →
    (∀ c, (rebuildUnits c s).cfg = c ∧ ∀ u, (rebuildUnits c s).units.get u = ⟨none, []⟩) ∧
    (∀ c v, v = (s.withCfg c).withUnits (Table.replicate 20 ⟨none, []⟩) →
      (∀ u, (s.units.get u).holder = none) →
      (∀ z, z ≠ x → c.sections.get z ≠ none → s.cfg.sections.get z ≠ none ∨ s.occupied z = false) →
      rebuildUnits c s =
        if s.cfg.sections.get x = none ∧ c.sections.get x ≠ none ∧ s.occupied x = true
        then v.raise (.stray x) else v) ∧
    (∀ mm c, 100 ≤ mm → mm ≤ 9999 → s.cfg.sections.get x = none →
      (∀ m d, s.cfg.marks.get m = some d → d.sec = x → d.offset ≤ mm) →
      c = { s.cfg with sections := s.cfg.sections.set x (some ⟨mm, .buffer, .buffer⟩) } →
      c.routesAgree = true →
      exec (.sectionLength x.val mm) s = replies (rebuildUnits c s) .ok) ∧
    (∀ mm d c, 100 ≤ mm → mm ≤ 9999 → s.cfg.sections.get x = some d →
      (∀ m k, s.cfg.marks.get m = some k → k.sec = x → k.offset ≤ mm) →
      c = { s.cfg with sections := s.cfg.sections.set x (some { d with length := mm }) } →
      c.routesAgree = true →
      exec (.sectionLength x.val mm) s = replies (s.withCfg c) .ok) ∧
    (∀ mm m k, 100 ≤ mm → mm ≤ 9999 → s.cfg.marks.get m = some k → k.sec = x → mm < k.offset →
      exec (.sectionLength x.val mm) s = replies s (.no .conflict)) ∧
    (∀ mm, mm < 100 ∨ 9999 < mm → exec (.sectionLength x.val mm) s = replies s (.no .range)) ∧
    (s.cfg.sections.get x = none → exec (.sectionDrop x.val) s = replies s .ok) ∧
    (∀ c, s.cfg.sections.get x ≠ none → s.cfg.link ⟨x, .a⟩ = .buffer → s.cfg.link ⟨x, .b⟩ = .buffer →
      s.cfg.runOf x = none → (∀ m k, s.cfg.marks.get m = some k → k.sec ≠ x) →
      (∀ k d, s.cfg.crossings.get k = some d → d.sec ≠ x) →
      (∀ r d, s.cfg.routes.get r = some d → ∀ p ∈ d.positions, p.sec ≠ x) →
      c = { s.cfg with sections := s.cfg.sections.set x none } → c.routesAgree = true →
      exec (.sectionDrop x.val) s = replies (rebuildUnits c s) .ok) ∧
    (s.cfg.sections.get x ≠ none →
      s.cfg.link ⟨x, .a⟩ ≠ .buffer ∨ s.cfg.link ⟨x, .b⟩ ≠ .buffer ∨ (∃ r xs, s.cfg.runs.get r = some xs ∧ x ∈ xs) ∨
        (∃ m k, s.cfg.marks.get m = some k ∧ k.sec = x) ∨
        (∃ k d, s.cfg.crossings.get k = some d ∧ d.sec = x) ∨
        (∃ r d, s.cfg.routes.get r = some d ∧ ∃ p ∈ d.positions, p.sec = x) →
      exec (.sectionDrop x.val) s = replies s (.no .conflict)) ∧
    (∀ e y f c, x ≠ y → s.cfg.sections.get x ≠ none → s.cfg.sections.get y ≠ none →
      s.cfg.link ⟨x, e⟩ = .buffer → s.cfg.link ⟨y, f⟩ = .buffer →
      c = (s.cfg.setLink ⟨x, e⟩ (.join y f)).setLink ⟨y, f⟩ (.join x e) → c.routesAgree = true →
      exec (.sectionJoin x.val e ⟨y.val, f⟩) s = replies (s.withCfg c) .ok ∧
      c.link ⟨x, e⟩ = .join y f ∧ c.link ⟨y, f⟩ = .join x e ∧
      ∀ z, z ≠ ⟨x, e⟩ → z ≠ ⟨y, f⟩ → c.link z = s.cfg.link z) ∧
    (∀ e f, s.cfg.sections.get x ≠ none →
      exec (.sectionJoin x.val e ⟨x.val, f⟩) s = replies s (.no .conflict)) ∧
    (∀ e y f c, s.cfg.sections.get x ≠ none → s.cfg.link ⟨x, e⟩ = .join y f →
      c = (s.cfg.setLink ⟨x, e⟩ .buffer).setLink ⟨y, f⟩ .buffer → c.routesAgree = true →
      exec (.sectionBuffer x.val e) s = replies (s.withCfg c) .ok) ∧
    (∀ e, s.cfg.sections.get x ≠ none → s.cfg.link ⟨x, e⟩ = .buffer →
      exec (.sectionBuffer x.val e) s = replies s .ok) ∧
    (∀ e t l, s.cfg.sections.get x ≠ none → s.cfg.link ⟨x, e⟩ = .leg t l →
      exec (.sectionBuffer x.val e) s = replies s (.no .conflict))

/-- The lines of turnout legs, runs, marks and crossings with every train UNPLACED (R95, R96, R98, R105), where
the routes still agree; and that every layout line is answered `NO LAYOUT` while a train is placed (R99). Giving
the legs of a turnout back makes their ends BUFFER and changes no other end; a turnout is concerned by the
driver while its pulse is in flight or its entry queued; a train is placed when it is not UNPLACED. -/
def Obligations.LayoutObjects : Prop :=
  (∀ (c d : Scene) (t : TurnoutId), d = c.releaseLegs t → d = { c with sections := d.sections } ∧
    (c.turnouts.get t = none → d = c) ∧
    (∀ x, d.defined x = c.defined x ∧ d.lengthOf x = c.lengthOf x) ∧
    ∀ k, c.turnouts.get t = some k → ∀ z,
      d.link z = if z = k.trunk ∨ z = k.normal ∨ z = k.reverse then .buffer else c.link z) ∧
  (∀ (d : Driver) (t : TurnoutId), d.concerns t = true ↔
    (∃ p, d.pulse = some p ∧ p.entry.t = t) ∨ ∃ e ∈ d.queue, e.t = t) ∧
  ∀ s : State, (s.anyPlaced = true ↔ ∃ n, (s.trains.get n).state ≠ .unplaced) ∧
    (∀ (t : TurnoutId) (p q r : SecEnd) c, layable s →
      s.cfg.defined p.sec = true → s.cfg.defined q.sec = true → s.cfg.defined r.sec = true →
      s.driver.concerns t = false → p ≠ q → p ≠ r → q ≠ r → p.sec ≠ q.sec → p.sec ≠ r.sec →
      (s.cfg.releaseLegs t).link p = .buffer → (s.cfg.releaseLegs t).link q = .buffer →
      (s.cfg.releaseLegs t).link r = .buffer →
      c = (s.cfg.releaseLegs t).attachLegs t ⟨p, q, r⟩ → c.routesAgree = true →
      exec (.turnoutLegs t.val ⟨p.sec.val, p.e⟩ ⟨q.sec.val, q.e⟩ ⟨r.sec.val, r.e⟩) s =
        replies (s.withCfg c) .ok ∧
      c.turnouts.get t = some ⟨p, q, r⟩ ∧ c.link p = .leg t .trunk ∧
      c.link q = .leg t (.branch .normal) ∧ c.link r = .leg t (.branch .reverse) ∧
      ∀ z, z ≠ p → z ≠ q → z ≠ r → c.link z = (s.cfg.releaseLegs t).link z) ∧
    (∀ (t : TurnoutId) d c, layable s → s.cfg.turnouts.get t = some d →
      s.driver.concerns t = false →
      c = { s.cfg.releaseLegs t with turnouts := (s.cfg.releaseLegs t).turnouts.set t none } →
      c.routesAgree = true →
      exec (.turnoutDrop t.val) s = replies ((s.withCfg c).withDriver
        { s.driver with points := s.driver.points.set t none }) .ok) ∧
    (∀ (t : TurnoutId) d, layable s → s.cfg.turnouts.get t = some d → s.driver.concerns t = true →
      exec (.turnoutDrop t.val) s = replies s (.no .state)) ∧
    (∀ (r : RunId) (xs : List Section) c, layable s → 2 ≤ xs.length → xs.length ≤ 8 → xs.Nodup →
      (∀ x ∈ xs, s.cfg.defined x = true ∧ ∀ k, s.cfg.runOf x = some k → k = r) →
      c = { s.cfg with runs := s.cfg.runs.set r (some xs) } → c.routesAgree = true →
      exec (.runDefine r.val (xs.map Fin.val)) s = replies (rebuildUnits c s) .ok) ∧
    (∀ (r : RunId) (xs : List Section), takes s → xs.length < 2 ∨ 8 < xs.length →
      exec (.runDefine r.val (xs.map Fin.val)) s = replies s (.no .range)) ∧
    (∀ (r : RunId) c, layable s → s.cfg.runs.get r ≠ none →
      c = { s.cfg with runs := s.cfg.runs.set r none } → c.routesAgree = true →
      exec (.runDrop r.val) s = replies (rebuildUnits c s) .ok) ∧
    (∀ (m : MarkId) (x : Section) d mm k c, layable s → s.cfg.sections.get x = some d →
      mm ≤ d.length → c = { s.cfg with marks := s.cfg.marks.set m (some ⟨x, mm, k⟩) } →
      c.routesAgree = true →
      exec (.markDefine m.val x.val mm k) s = replies (s.withCfg c) .ok) ∧
    (∀ (m : MarkId) c, layable s → c = { s.cfg with marks := s.cfg.marks.set m none } →
      (c.routesAgree = true → exec (.markDrop m.val) s = replies (s.withCfg c) .ok) ∧
      (c.routesAgree = false → exec (.markDrop m.val) s = replies s (.no .conflict))) ∧
    (∀ (k : CrossingId) (d : CrossingDef), layable s → s.cfg.defined d.sec = true →
      d.flash ≤ 255 → 1 ≤ d.lead → d.lead ≤ 10 → (s.crossings.get k).state = .idle →
      d.lampA ≠ d.lampB →
      (∀ j o, j ≠ k → s.cfg.crossings.get j = some o →
        d.lampA ≠ o.lampA ∧ d.lampA ≠ o.lampB ∧ d.lampB ≠ o.lampA ∧ d.lampB ≠ o.lampB ∧
        d.sec ≠ o.sec) →
      exec (.crossingDefine k.val d.sec.val d.lampA.val d.lampB.val d.flash d.lead d.bell) s =
        replies (bellUpdate (setting s fun c => { c with
          crossings := c.crossings.set k (some d) })) .ok) ∧
    (∀ k : CrossingId, layable s → (s.crossings.get k).state = .idle →
      exec (.crossingDrop k.val) s =
        replies (bellUpdate (setting s fun c => { c with crossings := c.crossings.set k none })) .ok) ∧
    (∀ k : CrossingId, layable s → (s.crossings.get k).state ≠ .idle →
      exec (.crossingDrop k.val) s = replies s (.no .state)) ∧
    (settable s → s.anyPlaced = true →
      (∀ (x : Section) mm, 100 ≤ mm → mm ≤ 9999 →
        exec (.sectionLength x.val mm) s = replies s (.no .layout)) ∧
      (∀ (x y : Section) e f, exec (.sectionDrop x.val) s = replies s (.no .layout) ∧
        exec (.sectionJoin x.val e ⟨y.val, f⟩) s = replies s (.no .layout) ∧
        exec (.sectionBuffer x.val e) s = replies s (.no .layout)) ∧
      (∀ (t : TurnoutId) (p q r : SecEnd),
        exec (.turnoutLegs t.val ⟨p.sec.val, p.e⟩ ⟨q.sec.val, q.e⟩ ⟨r.sec.val, r.e⟩) s =
          replies s (.no .layout) ∧
        exec (.turnoutDrop t.val) s = replies s (.no .layout)) ∧
      (∀ (r : RunId) (xs : List Section), 2 ≤ xs.length → xs.length ≤ 8 →
        exec (.runDefine r.val (xs.map Fin.val)) s = replies s (.no .layout)) ∧
      (∀ r : RunId, exec (.runDrop r.val) s = replies s (.no .layout)) ∧
      (∀ (m : MarkId) (x : Section) mm k, (∀ d, s.cfg.sections.get x = some d → mm ≤ d.length) →
        exec (.markDefine m.val x.val mm k) s = replies s (.no .layout)) ∧
      (∀ m : MarkId, exec (.markDrop m.val) s = replies s (.no .layout)) ∧
      (∀ (k : CrossingId) (x : Section) (a b : LampId) v lead bell, v ≤ 255 → 1 ≤ lead → lead ≤ 10 →
        exec (.crossingDefine k.val x.val a.val b.val v lead bell) s = replies s (.no .layout)) ∧
      ∀ k : CrossingId, exec (.crossingDrop k.val) s = replies s (.no .layout))

/-- A throw request (R101): ignored for an undefined turnout or a train that does not hold the governing unit; a
queued turnout's entry is replaced in its place; a turnout in position needs no pulse; else the entry joins the
tail, and an idle driver with no other entry starts its pulse at once, the position UNKNOWN. A line throw of a
turnout in position is reported at once by `#TURNOUT`, and no other request is reported when it is made.
`TURNOUT t THROW` asks with origin LINE while the governing unit has no holder (R104). A train governs a turnout
when it holds the unit of the trunk section (R101). -/
def Obligations.ThrowRequests : Prop :=
  (∀ (s : State) (t : TurnoutId) (n : Train), s.governor t = some n ↔ ∃ d v, s.cfg.turnouts.get t = some d ∧
    s.cfg.unitKey d.trunk.sec = some v ∧ (s.units.get v).holder = some n) ∧
  ∀ (s u : State) (e : Throw), u = requestThrow e s →
    (s.cfg.turnouts.get e.t = none → u = s) ∧
    (∀ n, e.origin = .train n → s.governor e.t ≠ some n → u = s) ∧
    (s.cfg.turnouts.get e.t ≠ none →
      e.origin = .line ∨ (∃ n, e.origin = .train n ∧ s.governor e.t = some n) →
      ((∃ x ∈ s.driver.queue, x.t = e.t) → u = s.withDriver { s.driver with
        queue := s.driver.queue.map fun x => if x.t = e.t then e else x }) ∧
      ((∀ x ∈ s.driver.queue, x.t ≠ e.t) →
        (s.driver.points.get e.t = some e.wanted → u = if e.origin = .line
          then (turnoutNotice e.t s s).raise (.turnout e.t e.wanted) else turnoutNotice e.t s s) ∧
        (s.driver.points.get e.t ≠ some e.wanted →
          s.driver.pulse ≠ none ∨ s.driver.recovery = true →
          u = s.withDriver { s.driver with queue := s.driver.queue ++ [e] }) ∧
        (s.driver.points.get e.t ≠ some e.wanted → s.driver.pulse = none →
          s.driver.recovery = false → s.driver.queue = [] →
          u = turnoutNotice e.t s (s.withDriver { s.driver with
            pulse := some ⟨e, s.cfg.pulses.get e.t⟩, points := s.driver.points.set e.t none })))) ∧
    (∀ (t : TurnoutId) pos, takes s →
      (s.cfg.turnouts.get t ≠ none → s.governor t = none →
        exec (.turnoutThrow t.val pos) s = replies (requestThrow ⟨t, pos, .line⟩ s) .ok) ∧
      (s.cfg.turnouts.get t ≠ none → s.governor t ≠ none →
        exec (.turnoutThrow t.val pos) s = replies s (.no .state)) ∧
      (s.cfg.turnouts.get t = none → exec (.turnoutThrow t.val pos) s = replies s (.no .unknown)))

/-- The ends of a pulse and of recovery (R102): the points take the wanted position, a line throw is reported,
recovery runs; at its end the head entry is taken: dropped where its train no longer holds the governing unit,
completed without a pulse and a recovery where the points are in position, with no report (log 28), the next
entry taken at once after either, and started as a pulse elsewhere. At each position and completion notice the
authority of every placed train whose path passes the turnout, as far as its walk reaches, before the change
or after it, is worked out afresh (R122; log 29). The pulse length is a definition (R104), refused out of
range with a SAVE in flight too (log 15), and taken for every turnout number, defined or not (the model's
choice, log 47). The coil of the wanted position is driven while the pulse is in flight, and no other coil
(R102). Log 5: the end of a pulse or of a recovery that is not in progress changes nothing. -/
def Obligations.PulsesAndRecovery : Prop :=
  ∀ s : State,
    (∀ (t : TurnoutId) (u : State), turnoutNotice t u s = ((List.finRange 6).filter fun n =>
      u.passesTurnout t n || s.passesTurnout t n).foldl (fun v n => refreshAuthority n v) s) ∧
    (∀ (t : TurnoutId) (n : Train) (w : Walk), w = s.walk n true →
      (s.passesTurnout t n = true ↔ (s.trains.get n).state ≠ .unplaced ∧
        ∃ p b, (p ∈ w.within ∨ (w.atStop = false ∧ w.rest.head? = some p)) ∧ p.via = some (t, b))) ∧
    (∀ p u, runs s → s.driver.pulse = some p →
      u = turnoutNotice p.entry.t s (s.withDriver { s.driver with
        pulse := none, recovery := true
        points := s.driver.points.set p.entry.t (some p.entry.wanted) }) →
      exec .pulseComplete s =
        acts (if p.entry.origin = .line then u.raise (.turnout p.entry.t p.entry.wanted) else u)) ∧
    (runs s → s.driver.pulse = none → exec .pulseComplete s = acts s) ∧
    (runs s → s.driver.recovery = false → exec .recoveryEnd s = acts s) ∧
    (runs s → s.driver.recovery = true → s.driver.queue = [] →
      exec .recoveryEnd s = acts (s.withDriver { s.driver with recovery := false })) ∧
    (∀ e es, runs s → s.driver.recovery = true → s.driver.queue = e :: es →
      e.origin = .line ∨ (∃ n, e.origin = .train n ∧ s.governor e.t = some n) →
      (s.driver.points.get e.t ≠ some e.wanted → exec .recoveryEnd s = acts (turnoutNotice e.t s
        (s.withDriver { s.driver with
          queue := es, recovery := false, pulse := some ⟨e, s.cfg.pulses.get e.t⟩
          points := s.driver.points.set e.t none }))) ∧
      (s.driver.points.get e.t = some e.wanted → exec .recoveryEnd s =
        exec .recoveryEnd (turnoutNotice e.t s (s.withDriver { s.driver with queue := es })))) ∧
    (∀ e es n, runs s → s.driver.recovery = true → s.driver.queue = e :: es → e.origin = .train n →
      s.governor e.t ≠ some n →
      exec .recoveryEnd s = exec .recoveryEnd (s.withDriver { s.driver with queue := es })) ∧
    (∀ (t : TurnoutId) ms, settable s → 50 ≤ ms → ms ≤ 500 → exec (.turnoutPulse t.val ms) s =
      replies (setting s fun c => { c with pulses := c.pulses.set t ms }) .ok) ∧
    (∀ (t : TurnoutId) ms, takes s → ms < 50 ∨ 500 < ms →
      exec (.turnoutPulse t.val ms) s = replies s (.no .range)) ∧
    (runs s → ∀ t b, coilOn s t b = true ↔
      ∃ p, s.driver.pulse = some p ∧ p.entry.t = t ∧ p.entry.wanted = b)

/-- A crossing at a notice and at its timers (R106 to R108): an IDLE crossing that is called warns with its lead
timer started and both its lamps claimed, where no other claim stands, and two claims recorded ask for two
recomposes (R30; log 10); a warning one without demand goes IDLE and gives its claims up; it is PROTECTED at the
expiry of its lead timer and by no other command; each flash expiry turns the phase and asks for a recompose. At
each change of state the state notice follows, after the bell's condition (R110) has been tested: the traffic
controller works out afresh the authority end of the train that holds the crossing's unit, and of no other
(R123, R127). Log 5: the expiry of a lead or flash timer that is not running changes nothing. A crossing is
called while its unit has a holder or a waiter (R106). -/
def Obligations.CrossingsWarn : Prop :=
  (∀ (s : State) (d : CrossingDef), s.called d = true ↔ ∃ v, s.cfg.unitKey d.sec = some v ∧
    ((s.units.get v).holder ≠ none ∨ (s.units.get v).waiting ≠ [])) ∧
  (∀ (c : Instr) (s t : State) (k : CrossingId), exec c s = .next t → c ≠ .leadTimer k →
    (t.crossings.get k).state = .protectedBy → (s.crossings.get k).state = .protectedBy) ∧
  ∀ (s : State) (k : CrossingId) (d : CrossingDef) (r : CrossingRun),
    s.cfg.crossings.get k = some d → r = s.crossings.get k →
    (r.state = .idle → s.called d = true →
      (crossingAct s k).crossings.get k = ⟨.warning, false, some d.lead, true⟩ ∧
      ((crossingAct s k).sky.lamps.get d.lampA).claim =
        some ((s.sky.lamps.get d.lampA).claim.getD k) ∧
      ((crossingAct s k).sky.lamps.get d.lampB).claim =
        some ((s.sky.lamps.get d.lampB).claim.getD k) ∧
      (∀ i, i ≠ d.lampA → i ≠ d.lampB →
        ((crossingAct s k).sky.lamps.get i).claim = (s.sky.lamps.get i).claim) ∧
      (d.lampA ≠ d.lampB → (s.sky.lamps.get d.lampA).claim = none →
        (s.sky.lamps.get d.lampB).claim = none →
        (crossingAct s k).matrix.pending = true ∧
        (s.sky.compose = none → s.matrix.ready = false → (crossingAct s k).sky.compose ≠ none))) ∧
    (r.state = .idle → s.called d = false → crossingAct s k = s) ∧
    (r.state ≠ .idle → s.called d = true ∨ s.occupied d.sec = true → crossingAct s k = s) ∧
    (r.state ≠ .idle → s.called d = false → s.occupied d.sec = false →
      (crossingAct s k).crossings.get k = ⟨.idle, false, none, false⟩ ∧
      ((crossingAct s k).sky.lamps.get d.lampA).claim ≠ some k ∧
      ((crossingAct s k).sky.lamps.get d.lampB).claim ≠ some k) ∧
    (runs s → r.leadTimer ≠ none → ∃ u : State, exec (.leadTimer k) s = acts u ∧
      u.crossings = s.crossings.set k { r with state := .protectedBy, leadTimer := none } ∧
      u.cfg = s.cfg ∧ u.sky = s.sky ∧
      u = crossingNotice k (bellUpdate (s.withCrossings (s.crossings.set k
        { r with state := .protectedBy, leadTimer := none }))) ∧
      ∀ n, (∀ v, s.cfg.unitKey d.sec = some v → (s.units.get v).holder ≠ some n) →
        u.trains.get n = s.trains.get n) ∧
    ((r.state = .idle ∧ s.called d = true) ∨
        (r.state ≠ .idle ∧ s.called d = false ∧ s.occupied d.sec = false) →
      ∃ v : State, crossingAct s k = crossingNotice k (bellUpdate v) ∧ v.bell = s.bell ∧
        v.trains = s.trains ∧ v.units = s.units ∧ v.driver = s.driver ∧ v.channels = s.channels ∧
        v.cfg = s.cfg ∧ (crossingAct s k).crossings = v.crossings) ∧
    (∀ v, s.cfg.unitKey d.sec = some v →
      ((s.units.get v).holder = none → crossingNotice k s = s) ∧
      ∀ n, (s.units.get v).holder = some n → crossingNotice k s = refreshAuthority n s) ∧
    (s.cfg.unitKey d.sec = none → crossingNotice k s = s) ∧
    (runs s → r.leadTimer = none → exec (.leadTimer k) s = acts s) ∧
    (runs s → r.flashTimer = true → exec (.flashTimer k) s =
      acts (requestRecompose (s.withCrossings (s.crossings.set k { r with phase := !r.phase })))) ∧
    (runs s → r.flashTimer = false → exec (.flashTimer k) s = acts s)

/-- The bell (R110, R111): the pin shows its output, which starts high and stops low; its half-period follows
the tone as it stands at each expiry, the tone is a definition, and a change of the quiet window sets the flag
from the present scene time, the window half open and carried over midnight. A tone out of range and a window of
no length are refused with a SAVE in flight too (log 15). Log 5: the expiry of a half-period timer that is not
running changes nothing. The bell is due while the quiet flag is off and a crossing that is not IDLE has its
bell on (R110). -/
def Obligations.BellSettings : Prop :=
  ∀ s : State,
    (s.bellDue = true ↔ s.bell.quiet = false ∧ ∃ k d, s.cfg.crossings.get k = some d ∧ d.bell = true ∧
      (s.crossings.get k).state ≠ .idle) ∧
    (runs s → s.bell.halfPeriod ≠ none → exec .bellHalfPeriod s = acts (s.withBell { s.bell with
      output := !s.bell.output, halfPeriod := some (500000 / s.cfg.bellTone) })) ∧
    (runs s → s.bell.halfPeriod = none → exec .bellHalfPeriod s = acts s) ∧
    (∀ hz, settable s → 200 ≤ hz → hz ≤ 4000 → exec (.bellTone hz) s =
      replies (setting s fun c => { c with bellTone := hz }) .ok) ∧
    (∀ hz, takes s → hz < 200 ∨ 4000 < hz → exec (.bellTone hz) s = replies s (.no .range)) ∧
    (∀ f t q u, settable s → timeOk f → timeOk t → secs f ≠ secs t →
      (q = true ↔ if secs f < secs t then secs f ≤ s.clock.time ∧ s.clock.time < secs t
        else secs f ≤ s.clock.time ∨ s.clock.time < secs t) →
      u = (setting s fun c => { c with quietWindow := some (secs f, secs t) }).withBell
        { s.bell with quiet := q } →
      exec (.bellQuiet f t) s = replies (bellUpdate u) .ok) ∧
    (∀ f t, takes s → timeOk f → timeOk t → secs f = secs t →
      exec (.bellQuiet f t) s = replies s (.no .range)) ∧
    (settable s → exec .bellQuietNone s =
      replies (bellUpdate ((setting s fun c => { c with quietWindow := none }).withBell
        { s.bell with quiet := false })) .ok) ∧
    (runs s → bellOut s = s.bell.output ∧
      (s.bellDue = true → s.bell.sounding = false → bellOut (bellUpdate s) = true ∧
        (bellUpdate s).bell.halfPeriod = some (500000 / s.cfg.bellTone)) ∧
      (s.bellDue = true → s.bell.sounding = true → bellUpdate s = s) ∧
      (s.bellDue = false → bellOut (bellUpdate s) = false ∧ (bellUpdate s).bell.halfPeriod = none))

/-! ## Reservations and authority (chapter 7) -/

/-- What becomes of a request (R115, R116): a held unit changes nothing; a free, open unit with no waiters is
granted; a request whose chain of holders reaches its own train within six links is refused, marked, shown as
the reason of a WAITING train and reported; any other joins the tail, and then the unit notice is sent. What a
grant does (R117), in this order: the train is the holder, leaves the unit's waiting list, and has the unit at
the end of its holdings; the retry flag of every train with a deadlock mark is set; the unit notice is sent,
unless the handling of an occupancy transition sends it last (R123); the throws of the unit are asked for the
train (R122), in ROUTE mode for the first use of each turnout on its path that the unit governs, in path order,
with the train as origin, and in CAB mode none; and its authority end is worked out afresh. A unit notice
reaches each crossing whose crossing section lies in the unit, in ascending order (log 36), and nothing else. A
section is OCCUPIED as its filter says, and a unit blocked while it has no holder and a section of it is
OCCUPIED (R112). -/
def Obligations.RequestsResolve : Prop :=
  (∀ (s : State) (x : Section), s.occupied x = (s.sense.filters.get x).occupied ∧
    (s.blocked x = true ↔ (s.units.get x).holder = none ∧
      ∃ y, s.cfg.unitKey y = some x ∧ s.occupied y = true)) ∧
  (∀ (s t : State) (n : Train) (u : Section) (quiet : Bool), t = grant quiet n u s → ∃ v a : State,
    v = (s.withUnits (s.units.set u ⟨some n, (s.units.get u).waiting.erase n⟩)).withTrains v.trains ∧
    (∀ m x, x = s.trains.get m → v.trains.get m = { x with
      retry := x.retry || x.deadlock
      holdings := if m = n then x.holdings ++ [u] else x.holdings
      request := if m = n ∧ x.request = some u then none else x.request }) ∧
    AsksThrows n u (if quiet then v else unitNotice u v) a ∧ t = refreshAuthority n a) ∧
  (∀ (s : State) (u : Section), ∃ (a : State) (told : CrossingId → Prop),
    (∀ k, told k ↔ ∃ d, s.cfg.crossings.get k = some d ∧ s.cfg.unitKey d.sec = some u) ∧
    (told 0 → a = crossingAct s 0) ∧ (¬ told 0 → a = s) ∧
    (told 1 → unitNotice u s = crossingAct a 1) ∧ (¬ told 1 → unitNotice u s = a)) ∧
  (∀ (s : State) (n h : Train), s.chainReaches n 6 (some h) = true ↔
    h = n ∨ ∃ k, k < 6 ∧ waitsOn s h k = some n) ∧
  (∀ (s : State) (n : Train), (s.trains.get n).request = none → s.nextInChain n = none) ∧
  (∀ (s : State) (n : Train) (u : Section), (s.trains.get n).request = some u →
    s.nextInChain n = (s.units.get u).holder) ∧
  ∀ (s : State) (n : Train) (u : Section) (r : UnitRec) (t : State),
    r = s.units.get u → t = requestUnit n u s →
    (r.holder = some n → t = s) ∧
    (r.holder = none → s.blocked u = false → r.waiting = [] → t = grant false n u s ∧
      t.units.get u = ⟨some n, []⟩ ∧ (t.trains.get n).holdings = (s.trains.get n).holdings ++ [u]) ∧
    (r.holder ≠ some n → (r.holder = none → s.blocked u = true ∨ r.waiting ≠ []) →
      (∀ h, r.holder = some h → s.chainReaches n 6 (some h) = false) →
      t = unitNotice u ((s.withUnits (s.units.set u ⟨r.holder, r.waiting ++ [n]⟩)).modTrain n
        fun x => { x with request := some u })) ∧
    (∀ h, r.holder = some h → h ≠ n → s.chainReaches n 6 (some h) = true →
      t = (s.modTrain n fun x => { x with
        deadlock := true, retry := false
        reason := if x.state = .waiting then some .deadlock else x.reason }).raise (.deadlock n u h)) ∧
    (r.holder = none → s.blocked u = true ∨ r.waiting ≠ [] →
      t.units.get u = ⟨none, r.waiting ++ [n]⟩ ∧ (t.trains.get n).request = some u) ∧
    (∀ h, r.holder = some h → h ≠ n → s.chainReaches n 6 (some h) = false →
      t.units.get u = ⟨some h, r.waiting ++ [n]⟩ ∧ (t.trains.get n).request = some u ∧
      (t.trains.get n).holdings = (s.trains.get n).holdings)

/-- What a release leaves (R119): the unit goes to its first waiter at once where it is open, and stays free
with its waiters in place where it is blocked or has none, its OCCUPIED sections reported as strays (in
ascending order: log 37) and each of its sections sent duty 0; no other unit changes, and the holder's
holdings lose it. Another train than the holder releases nothing (log 42). A CLEAR frees its section for the
train that has it in its span behind the head (R118; the lowest-numbered one, the model's choice, log 49): the
section leaves the span, duty 0 is sent, and its unit is released where no section of it is left in the span.
The CLEAR that unblocks a free unit grants its first waiter (R119). The order of an occupancy notice (R114,
R123): a CLEAR frees and then grants; an OCCUPIED section of a unit without a holder is reported stray, and
then the heads are fixed; last, the crossings are told, in ascending order (log 36), those of the section and
those whose unit's record has changed. An undefined section's notice changes nothing (R91). A release and a
CLEAR that hand a unit on do so by the grant of `RequestsResolve` (R117); a release that hands nothing on
sends the unit notice, unless the handling of an occupancy transition sends it last (R123). A withdrawal
(R120) takes the train out of the waiting list and its request, deadlock mark and retry flag from it, with a
reason DEADLOCK (logs 32, 34), and sends the unit notice; without a request it clears the marks alone. -/
def Obligations.ReleasesHandOn : Prop :=
  (∀ (s t : State) (x : Section), t = occupancyNotice x s →
    (s.cfg.sections.get x = none → t = s) ∧
    (s.cfg.sections.get x ≠ none → ∃ (u a : State) (told : CrossingId → Prop),
      (s.occupied x = false → u = grantOnClear x (freeOnClear x s)) ∧
      (s.occupied x = true →
        ((∀ k, s.cfg.unitKey x = some k → (s.units.get k).holder = none) →
          u = positionFix x (s.raise (.stray x))) ∧
        (∀ k, s.cfg.unitKey x = some k → (s.units.get k).holder ≠ none → u = positionFix x s)) ∧
      (∀ k, told k ↔ ∃ d, s.cfg.crossings.get k = some d ∧
        (d.sec = x ∨ ∃ v, s.cfg.unitKey d.sec = some v ∧ u.units.get v ≠ s.units.get v)) ∧
      (told 0 → a = crossingAct u 0) ∧ (¬ told 0 → a = u) ∧
      (told 1 → t = crossingAct a 1) ∧ (¬ told 1 → t = a))) ∧
  (∀ (s : State) (x : Section),
    ((∀ n, (s.trains.get n).state = .unplaced ∨ ∀ e ∈ (s.trains.get n).span.dropLast, e.sec ≠ x) →
      freeOnClear x s = s) ∧
    ∀ (n : Train) (y : TrainRun) (left : List SpanElt), y = s.trains.get n → y.state ≠ .unplaced →
      (∃ e ∈ y.span.dropLast, e.sec = x) →
      (∀ m, m < n → (s.trains.get m).state = .unplaced ∨
        ∀ e ∈ (s.trains.get m).span.dropLast, e.sec ≠ x) →
      left = (y.span.dropLast.filter fun e => e.sec ≠ x) ++ y.span.getLast?.toList →
      ∃ u v : State, freeOnClear x s = refreshAuthority n v ∧ u.units = s.units ∧ u.line = s.line ∧
        u.trains.get n = { y with span := left, powered := (u.trains.get n).powered } ∧
        (∀ m, m ≠ n → u.trains.get m = s.trains.get m) ∧
        (∀ e ∈ (u.trains.get n).powered, e.sec ≠ x) ∧
        (s.halt = false → (s.channels.get (sectionChannel x)).state ≠ .cut →
          (u.channels.get (sectionChannel x)).staged =
            some ⟨0, (s.channels.get (sectionChannel x)).applied.pol⟩) ∧
        (s.cfg.unitKey x = none → v = u) ∧
        ∀ k, s.cfg.unitKey x = some k →
          ((∃ e ∈ left, s.cfg.unitKey e.sec = some k) → v = u) ∧
          ((∀ e ∈ left, s.cfg.unitKey e.sec ≠ some k) → v = release true n u k)) ∧
  (∀ (s t : State) (x : Section), t = grantOnClear x s →
    (s.cfg.unitKey x = none → t = s) ∧
    ∀ (u : Section) (r : UnitRec), s.cfg.unitKey x = some u → r = s.units.get u →
      (r.holder ≠ none ∨ r.waiting = [] ∨ (∃ z, s.cfg.unitKey z = some u ∧ s.occupied z = true) → t = s) ∧
      ∀ w ws, r.holder = none → r.waiting = w :: ws →
        (∀ z, s.cfg.unitKey z = some u → s.occupied z = false) →
        t = grant true w u s ∧ t.units = s.units.set u ⟨some w, ws⟩ ∧
        (t.trains.get w).holdings = (s.trains.get w).holdings ++ [u] ∧
        ((s.trains.get w).request = some u → (t.trains.get w).request = none)) ∧
  (∀ (s : State) (n : Train) (u : Section) (quiet : Bool), (s.units.get u).holder ≠ some n →
    release quiet n s u = s) ∧
  (∀ (s t : State) (n : Train) (u : Section) (quiet : Bool), (s.units.get u).holder = some n →
    t = release quiet n s u → ∃ v w : State,
    v = ((s.withUnits (s.units.set u ⟨none, (s.units.get u).waiting⟩)).withTrains v.trains).withChannels
      v.channels ∧
    (∀ m x, x = s.trains.get m → v.trains.get m = { x with
      retry := x.retry || x.deadlock
      holdings := if m = n then x.holdings.erase u else x.holdings
      powered := if m = n then x.powered.filter fun e => s.cfg.unitKey e.sec ≠ some u else x.powered }) ∧
    (∀ (c : Channel) (g : ChannelRun), g = s.channels.get c → v.channels.get c =
      if s.halt = false ∧ g.state ≠ .cut ∧ ∃ x, sectionChannel x = c ∧ s.cfg.unitKey x = some u
      then { g with staged := some ⟨0, g.applied.pol⟩ } else g) ∧
    w = ((List.finRange 20).filter fun x => s.cfg.unitKey x = some u ∧ s.occupied x = true).foldl
      (fun v x => v.raise (.stray x)) v ∧
    ((s.units.get u).waiting = [] ∨ (∃ x, s.cfg.unitKey x = some u ∧ s.occupied x = true) →
      t = if quiet then w else unitNotice u w) ∧
    ∀ h hs, (s.units.get u).waiting = h :: hs → (∀ x, s.cfg.unitKey x = some u → s.occupied x = false) →
      t = grant quiet h u v) ∧
  (∀ (s t : State) (n : Train) (x : TrainRun) (clear : TrainRun → TrainRun), x = s.trains.get n →
    (∀ y, clear y = { y with
      request := none, deadlock := false, retry := false
      reason := if y.reason = some .deadlock then none else y.reason }) →
    t = withdraw n s →
    (x.request = none → t = s.modTrain n clear) ∧
    ∀ u, x.request = some u → t = unitNotice u ((s.withUnits (s.units.set u
      { s.units.get u with waiting := (s.units.get u).waiting.erase n })).modTrain n clear)) ∧
  ∀ (s : State) (n : Train) (u : Section) (r : UnitRec) (quiet : Bool) (t : State),
    ReservationsAgree s → r = s.units.get u → r.holder = some n → t = release quiet n s u →
    (r.waiting = [] ∨ (∃ x, s.cfg.unitKey x = some u ∧ s.occupied x = true) →
      t.line = (((List.finRange 20).filter fun x => s.cfg.unitKey x = some u ∧ s.occupied x = true).foldl
        (fun v x => v.raise (.stray x)) s).line ∧
      (s.halt = false → ∀ x, s.cfg.unitKey x = some u →
        (s.channels.get (sectionChannel x)).state ≠ .cut →
        (t.channels.get (sectionChannel x)).staged =
          some ⟨0, (s.channels.get (sectionChannel x)).applied.pol⟩)) ∧
    (∀ m, (s.trains.get m).deadlock = true → (t.trains.get m).deadlock = true →
      (t.trains.get m).retry = true) ∧
    (∀ v, v ≠ u → t.units.get v = s.units.get v) ∧
    u ∉ (t.trains.get n).holdings ∧
    (r.waiting = [] ∨ (∃ x, s.cfg.unitKey x = some u ∧ s.occupied x = true) →
      t.units.get u = ⟨none, r.waiting⟩) ∧
    (∀ w ws, r.waiting = w :: ws → (∀ x, s.cfg.unitKey x = some u → s.occupied x = false) →
      t.units.get u = ⟨some w, ws⟩ ∧ (t.trains.get w).request = none ∧
      (t.trains.get w).holdings = (s.trains.get w).holdings ++ [u])

/-- The path of a train (R124). In ROUTE mode it is the route's sections from the route index on, a loop route
running on from position 0, up to and including the first stop that is not served; without a route the head
section alone (log 18). In CAB mode it follows the layout as it lies, over joins and over turnouts on the branch
they hold, at most 20 sections and none twice; a buffer stop makes its last section the stop section, without a
mark. The turnout and branch by which an element is reached stand with it. Every section that a walk of the
authority adds to is held by the train, lies outside its span, is reached over points that hold the branch used,
and is no crossing section of a crossing that is not PROTECTED (R125). The walk of a path takes the sections
from the head on up to the stop section, or up to the first section that one of those tests refuses; its
distance is the sum of their lengths, less the head position, with the stop point in place of the stop section's
length. The look-ahead's walk is the same without the tests of turnouts and crossings (R153). The authority end
worked out afresh is the walk's; the powered set is the span and the sections within, in their travel
polarities; a section that joins it is sent the train's duty and one that leaves it duty 0; a train that is not
placed has none (R127 to R129; log 48: a span section is powered whether or not its unit is held). A train holds
a section when the section's unit stands in its holdings. -/
def Obligations.AuthorityStaysWithin : Prop :=
  (∀ (s : State) (n : Train) (x : Section), s.holds n x = true ↔
    ∃ u, s.cfg.unitKey x = some u ∧ u ∈ (s.trains.get n).holdings) ∧
  (∀ (s : State) (n : Train) (x : TrainRun), x = s.trains.get n →
    (x.span = [] → s.path n = []) ∧
    ∀ h, x.span.getLast? = some h →
      (x.mode = .route → x.route = none → s.path n = [⟨h.sec, h.entry, none, none⟩]) ∧
      (∀ r i d ahead, x.mode = .route → x.route = some (r, i) → s.cfg.routes.get r = some d →
        ahead = (d.positions.drop (i + 1) ++ if d.loop then d.positions.take (i + 1) else []) →
        (∀ p st, x.served = false → d.positions[i]? = some p → p.stop = some st →
          s.path n = [⟨h.sec, h.entry, none, some st.mark⟩]) ∧
        (x.served = true ∨ (∀ p, d.positions[i]? = some p → p.stop = none) → ∃ ps : List PathElt,
          s.path n = ⟨h.sec, h.entry, none, none⟩ :: ps ∧
          ps.map (fun q => (q.sec, q.entry, q.stop)) =
            (ahead.take ps.length).map (fun a => (a.sec, a.entry, a.stop.map fun st => st.mark)) ∧
          (∀ q ∈ ps.dropLast, q.stop = none) ∧
          ((∃ q, ps.getLast? = some q ∧ q.stop ≠ none) ∨ ps.length = ahead.length) ∧
          ∀ (k : Nat) (p q : PathElt), (s.path n)[k]? = some p → (s.path n)[k + 1]? = some q →
            Passes s.cfg ⟨p.sec, other p.entry⟩ ⟨q.sec, q.entry⟩ q.via)) ∧
      (x.mode = .cab →
        (s.path n).length ≤ 20 ∧ ((s.path n).map PathElt.sec).Nodup ∧
        (∃ m, (s.path n).head? = some ⟨h.sec, h.entry, none, m⟩) ∧
        (∀ (k : Nat) (p q : PathElt), (s.path n)[k]? = some p → (s.path n)[k + 1]? = some q → p.stop = none ∧
          LeadsAsLain s ⟨p.sec, other p.entry⟩ ⟨q.sec, q.entry⟩ q.via) ∧
        ∀ p, (s.path n).getLast? = some p →
          (s.cfg.link ⟨p.sec, other p.entry⟩ = .buffer → p.stop = some none) ∧
          (s.cfg.link ⟨p.sec, other p.entry⟩ ≠ .buffer → p.stop = none ∧
            ∀ q v, LeadsAsLain s ⟨p.sec, other p.entry⟩ q v → ∃ e ∈ s.path n, e.sec = q.sec))) ∧
  (∀ (s : State) (n : Train) (full : Bool) (w : Walk) (p : PathElt) (ps : List PathElt) (pos : Int)
      (len : PathElt → Int), w = s.walk n full → s.path n = p :: ps → pos = (s.trains.get n).headPos →
    (∀ q, len q = 10 * s.cfg.lengthOf q.sec) →
    s.path n = w.within ++ w.rest ∧
    (∀ m, p.stop = some m → w.within = [p] ∧ w.atStop = true ∧
      w.dist = max 0 (stopPoint s.cfg p.sec p.entry m - pos)) ∧
    (p.stop = none → ∃ qs, w.within = p :: qs ∧
      (w.atStop = true → ∃ q m rs, qs = rs ++ [q] ∧ q.stop = some m ∧ (∀ r ∈ rs, r.stop = none) ∧
        w.dist = len p - pos + (rs.map len).sum + stopPoint s.cfg q.sec q.entry m) ∧
      (w.atStop = false → (∀ r ∈ qs, r.stop = none) ∧ w.dist = len p - pos + (qs.map len).sum ∧
        ∀ q rs, w.rest = q :: rs →
          (∃ e ∈ (s.trains.get n).span, e.sec = q.sec) ∨ (∃ e ∈ w.within, e.sec = q.sec) ∨
          (full = true ∧ ∃ t b, q.via = some (t, b) ∧ s.driver.points.get t ≠ some b) ∨
          s.holds n q.sec = false ∨
          (full = true ∧ ∃ k d, s.cfg.crossings.get k = some d ∧ d.sec = q.sec ∧
            (s.crossings.get k).state ≠ .protectedBy)))) ∧
  (∀ (s : State) (n : Train) (w : Walk) (p : PathElt), w = s.walk n false → p ∈ w.within.tail →
    s.holds n p.sec = true ∧ (∀ e ∈ (s.trains.get n).span, e.sec ≠ p.sec) ∧
    (w.within.map PathElt.sec).Nodup) ∧
  (∀ (s t : State) (n : Train) (x y : TrainRun) (w : Walk), t = refreshAuthority n s →
    x = s.trains.get n → y = t.trains.get n → w = s.walk n true →
    t = (s.withChannels t.channels).withTrains (s.trains.set n y) ∧
    y = { x with authority := y.authority, powered := y.powered } ∧
    (x.state = .unplaced → y.authority = none ∧ y.powered = [] ∧ t.channels = s.channels) ∧
    (x.state ≠ .unplaced → y.authority = some ⟨w.dist, w.atStop⟩ ∧
      (∀ e, e ∈ y.powered ↔ e ∈ x.span ∨
        ((∀ f ∈ x.span, f.sec ≠ e.sec) ∧ ∃ p ∈ w.within, e = ⟨p.sec, p.entry⟩)) ∧
      (s.halt = true → t.channels = s.channels) ∧
      (s.halt = false → (∀ e ∈ x.span, ∀ f ∈ x.span, e.sec = f.sec → e = f) → ∀ c : Section,
        (s.channels.get (sectionChannel c)).state ≠ .cut →
        (∀ e ∈ y.powered, e.sec = c → (∀ f ∈ x.powered, f.sec ≠ c) →
          (t.channels.get (sectionChannel c)).staged =
            some ⟨x.duty, match e.entry with | .a => .plus | .b => .minus⟩) ∧
        ((∀ e ∈ y.powered, e.sec ≠ c) → (∃ f ∈ x.powered, f.sec = c) →
          (t.channels.get (sectionChannel c)).staged =
            some ⟨0, (s.channels.get (sectionChannel c)).applied.pol⟩)) ∧
      (∀ c : Channel, (∀ e ∈ y.powered, sectionChannel e.sec = c → ∃ f ∈ x.powered, f.sec = e.sec) →
        (∀ f ∈ x.powered, sectionChannel f.sec = c → ∃ e ∈ y.powered, e.sec = f.sec) →
        t.channels.get c = s.channels.get c))) ∧
  ∀ (s : State) (n : Train) (w : Walk) (p : PathElt), w = s.walk n true → p ∈ w.within.tail →
    s.holds n p.sec = true ∧ (∀ e ∈ (s.trains.get n).span, e.sec ≠ p.sec) ∧
    (∀ t b, p.via = some (t, b) → s.driver.points.get t = some b) ∧
    (∀ k d, s.cfg.crossings.get k = some d → d.sec = p.sec →
      (s.crossings.get k).state = .protectedBy) ∧
    (w.within.map PathElt.sec).Nodup

/-- The stop point of a stop section (R126): a stop mark's offset measured from the entry end, and 50 mm short
of the far end without a mark. Position fixes (R142): an OCCUPIED transition of a section that lies ahead on a
train's path, inside a unit it holds and outside its span, moves the head there, the sections between joining
the span; the head position and the served flag are cleared and the route index moves on to the position at
which the path takes the section. Mark events (R140, R143): the head position becomes the mark's, after a
position fix where the section lies ahead; the stop mark of the next stop stops the train at once, with duty 0
over its powered set in each channel's applied polarity (the model's choice, log 53); a mark in a moving train's
span behind the head changes nothing, and a mark in no moving train's span and units is reported. The next stop
is judged by the route position (log 19). The stop at the head is that of the path's first section, and the next
stop mark that of its last. -/
def Obligations.StopPoints : Prop :=
  (∀ (s : State) (n : Train), (s.path n = [] → s.headStop n = none ∧ s.nextStopMark n = none) ∧
    (∀ p ps, s.path n = p :: ps → s.headStop n = p.stop) ∧
    ∀ p, (s.path n).getLast? = some p → s.nextStopMark n = p.stop.join) ∧
  (∀ (c : Scene) (x : Section) (k : SectionDef), c.sections.get x = some k → 100 ≤ k.length →
    (∀ e, stopPoint c x e none = 10 * (k.length - 50) ∧ 500 ≤ stopPoint c x e none) ∧
    ∀ (m : MarkId) (d : MarkDef), c.marks.get m = some d → d.sec = x → d.offset ≤ k.length →
      stopPoint c x .a (some m) = 10 * d.offset ∧
      stopPoint c x .b (some m) = 10 * (k.length - d.offset)) ∧
  (∀ (s : State) (n : Train) (x : Section), s.liesAhead n x = true ↔
    (s.trains.get n).state ≠ .unplaced ∧ s.holds n x = true ∧
    (∀ e ∈ (s.trains.get n).span, e.sec ≠ x) ∧ ∃ p ∈ (s.path n).tail, p.sec = x) ∧
  (∀ (s : State) (x : Section),
    ((∀ n, s.liesAhead n x = false) → positionFix x s = s) ∧
    ∀ n, s.liesAhead n x = true → (∀ m, m < n → s.liesAhead m x = false) →
      positionFix x s = fixHead n x s) ∧
  (∀ (s t : State) (n : Train) (x : Section) (y : TrainRun) (k : Nat) (p : PathElt),
    t = fixHead n x s → y = t.trains.get n →
    (s.path n).tail[k]? = some p → p.sec = x → (∀ q ∈ (s.path n).tail.take k, q.sec ≠ x) →
    y.span = (s.trains.get n).span ++ ((s.path n).tail.take (k + 1)).map (fun q => ⟨q.sec, q.entry⟩) ∧
    y.headPos = 0 ∧ y.served = false ∧ y.state = (s.trains.get n).state ∧
    ((s.trains.get n).route = none → y.route = none) ∧
    ∀ r i d j, (s.trains.get n).route = some (r, i) → s.cfg.routes.get r = some d →
      ((d.positions.drop (i + 1) ++ if d.loop then d.positions.take (i + 1) else [])[j]?).map RoutePos.sec
        = some x →
      (∀ q ∈ (d.positions.drop (i + 1) ++ if d.loop then d.positions.take (i + 1) else []).take j,
        q.sec ≠ x) →
      y.route = some (r, (i + 1 + j) % d.positions.length)) ∧
  (∀ (s : State) (m : MarkId) (x : Section) (off : Nat),
    (∀ n h, (s.trains.get n).moving = true → (s.trains.get n).span.getLast? = some h → h.sec = x →
      (∀ k g, k < n → (s.trains.get k).moving = true → (s.trains.get k).span.getLast? = some g → g.sec ≠ x) →
      markEvent m x off s = fixAtMark n m x off s) ∧
    ((∀ n h, (s.trains.get n).moving = true → (s.trains.get n).span.getLast? = some h → h.sec ≠ x) →
      (∀ n, (s.trains.get n).moving = true → s.liesAhead n x = true →
        (∀ k, k < n → (s.trains.get k).moving = true → s.liesAhead k x = false) →
        markEvent m x off s = fixAtMark n m x off (fixHead n x s)) ∧
      ((∀ n, (s.trains.get n).moving = true → s.liesAhead n x = false) →
        (∀ n, (s.trains.get n).moving = true →
          (∃ e ∈ (s.trains.get n).span, e.sec = x) ∨ s.holds n x = true → markEvent m x off s = s) ∧
        ((∀ n, (s.trains.get n).moving = true →
          (∀ e ∈ (s.trains.get n).span, e.sec ≠ x) ∧ s.holds n x = false) →
          markEvent m x off s = s.raise (.strayMark m))))) ∧
  (∀ (s u : State) (n : Train) (m : MarkId) (x : Section) (off : Nat) (h : SpanElt),
    (s.trains.get n).span.getLast? = some h →
    u = s.modTrain n (fun y => { y with headPos :=
      match h.entry with
      | .a => off
      | .b => 10 * s.cfg.lengthOf x - off }) →
    (s.headStop n = some (some m) → fixAtMark n m x off s = stopAtMark n u) ∧
    (s.headStop n ≠ some (some m) →
      ((fixAtMark n m x off s).trains.get n).headPos = (u.trains.get n).headPos ∧
      ((fixAtMark n m x off s).trains.get n).state = (s.trains.get n).state ∧
      ((fixAtMark n m x off s).trains.get n).span = (s.trains.get n).span)) ∧
  ∀ (s : State) (n : Train) (x : TrainRun), x = s.trains.get n → ∃ v : State,
    stopAtMark n s = serveStop n v ∧
    v.trains.get n = { x with speed := 0, duty := 0, target := 0 } ∧
    ∀ e ∈ x.powered, s.halt = false → (s.channels.get (sectionChannel e.sec)).state ≠ .cut →
      (v.channels.get (sectionChannel e.sec)).staged =
        some ⟨0, (s.channels.get (sectionChannel e.sec)).applied.pol⟩

/-! ## Train motion and service (chapter 8) -/

/-- Scale speed and duty (R133) lie between the two table entries they are taken from, and are the entries' own
at a whole step; the stopping distance (R134) is the sum of the speeds of the ramp down. The entry after the
last is taken as the last, so that speed 496 has the values of entry 31 (R133). -/
def Obligations.SpeedAndStoppingDistance : Prop :=
  (∀ (d : TrainDef) (i : Nat) (k : Fin 32), i ≤ 32 → k.val = min i 31 → d.step i = d.table.get k) ∧
  ∀ (d : TrainDef) (a : Nat), a ≤ 496 →
    (∀ i f lo hi : Nat, a = 16 * i + f → f < 16 → lo = (d.step i).2 → hi = (d.step (i + 1)).2 →
      (speedOf d a : Int) = lo + (((hi : Int) - lo) * f).tdiv 16 ∧
      min lo hi ≤ speedOf d a ∧ speedOf d a ≤ max lo hi) ∧
    (∀ i f lo hi : Nat, a = 16 * i + f → f < 16 → lo = (d.step i).1 → hi = (d.step (i + 1)).1 →
      (dutyOf d a : Int) = lo + (((hi : Int) - lo) * f + 8).tdiv 16 ∧
      min lo hi ≤ dutyOf d a ∧ dutyOf d a ≤ max lo hi) ∧
    stoppingDistance d 0 = 0 ∧
    (1 ≤ d.decel → 1 ≤ a →
      stoppingDistance d a = speedOf d (a - d.decel) + stoppingDistance d (a - d.decel)) ∧
    ((∀ i, (d.step i).2 ≤ 999) → 1 ≤ d.decel → stoppingDistance d a ≤ 495504)

/-- The ramp tick (R135, R136): an UNPLACED train's does nothing; that of a PARKED, DWELLING, HALTED, LOST or
FAULTED train changes nothing of the train but its authority, its powered set and its deadlock marks; a train
that still moves after it has moved its speed by accel or decel toward its target, taken its duty from that
speed and counted that speed onto its head position. Its steps run in order. The retry (R116, R122): with the
deadlock mark and the retry flag both set, both are cleared and the throws of every held unit are asked for, in
holdings order (log 40); elsewhere it changes nothing. The state test: a WAITING train departs freely or at
creep, waits with the reason that holds it, serves a stop in place or is parked (R137); a RUNNING train takes
its target, lowers it for a stop mark or brakes (R138, R140); a STOPPING train of cause AUTHORITY may return to
RUNNING (R138), and a CAB train that a line has given a step again since it began to stop does so under the
braking test, a pending orientation kept or not (R156; log 20). The next stop is judged by the route position
(log 19). The checks: a train past its limit is LOST (R144), one past its stop mark stops with `#MARKMISS`
(R140), one whose speed is 0 comes to rest (R139). Power (R128, R129): each section of the powered set is sent
the train's duty, 0 where it does not move, in its travel polarity, each other section of a held unit duty 0,
and no other channel a request. The look-ahead (R153): a WAITING or moving train with no request and no deadlock
mark asks for the unit of the first section beyond its walk, where the walk did not reach a stop point and the
held distance is below D(16 w) + 5000 + 30 v[w]; elsewhere it asks for nothing. The reason, the cause and the
dwell that a change of state leaves are by logs 32 and 34. A train moves while RUNNING or STOPPING, and the step
it wants is its service step in ROUTE mode and the step of its CAB line in CAB mode. -/
def Obligations.RampTicks : Prop :=
  (∀ (s : State) (n : Train) (x : TrainRun), x = s.trains.get n →
    (x.moving = true ↔ x.state = .running ∨ x.state = .stopping) ∧
    s.wanted n = match x.mode with | .route => (s.cfg.trains.get n).service | .cab => x.cabStep) ∧
  (∀ (s : State) (n : Train) (x : TrainRun) (d : TrainDef), runs s → x = s.trains.get n →
    d = s.cfg.trains.get n →
    (x.state = .unplaced → exec (.rampTick n) s = acts s) ∧
    (x.state ≠ .unplaced → exec (.rampTick n) s = acts (lookAhead n (sendPower n (checkTrain n
      (moveTrain n (stateTest n (refreshAuthority n (retryStep n s)))))))) ∧
    ∃ (t : State) (y : TrainRun), exec (.rampTick n) s = acts t ∧ y = t.trains.get n ∧
      t.cfg = s.cfg ∧ t.clock = s.clock ∧ t.sense = s.sense ∧
      (x.state ≠ .unplaced → x.state ≠ .waiting → x.moving = false →
        y = { x with
          authority := y.authority, powered := y.powered, deadlock := y.deadlock, retry := y.retry }) ∧
      (x.state = .waiting → s.wanted n = 0 → y.state = .parked ∧ y.headPos = x.headPos) ∧
      (y.moving = true →
        y.duty = dutyOf d y.speed ∧ y.headPos = x.headPos + speedOf d y.speed ∧
        y.speed = if x.speed < 16 * y.target then min (x.speed + d.accel) (16 * y.target)
          else max (x.speed - d.decel) (16 * y.target)) ∧
      (y.moving = true → s.halt = false → ∀ e ∈ y.powered,
        (s.channels.get (sectionChannel e.sec)).state ≠ .cut →
        (t.channels.get (sectionChannel e.sec)).staged ≠ none)) ∧
  (∀ (s : State) (n : Train) (x : TrainRun), x = s.trains.get n →
    (x.deadlock = true → x.retry = true →
      AsksForHeld n (s.modTrain n fun y => { y with deadlock := false, retry := false }) (retryStep n s)) ∧
    (x.deadlock = false ∨ x.retry = false → retryStep n s = s)) ∧
  (∀ (s : State) (n : Train) (x : TrainRun) (d : TrainDef) (w tgt : Nat) (a : Authority)
      (put : (TrainRun → TrainRun) → State) (room : Nat → Int) (served marked : Prop),
    x = s.trains.get n → d = s.cfg.trains.get n → w = s.wanted n → x.authority = some a →
    (∀ f, put f = s.modTrain n f) →
    (∀ v, room v = stoppingDistance d v + speedOf d v + 300) →
    (served ↔ x.mode = .route ∧ s.headStop n ≠ none) →
    (marked ↔ a.atStop = true ∧ s.nextStopMark n ≠ none) →
    tgt = (if a.atStop = true ∧ x.target ≤ d.creep then min w x.target else w) →
    (x.state = .waiting →
      (w = 0 → stateTest n s = put fun y => { y with
        state := .parked, target := 0, cause := none, reason := none, dwell := 0 }) ∧
      (w ≠ 0 → x.deadlock = true → stateTest n s = put fun y => { y with reason := some .deadlock }) ∧
      (w ≠ 0 → x.deadlock = false →
        (∀ v, (room (16 * w) < a.dist ∧ v = w) ∨
            (a.dist ≤ room (16 * w) ∧ a.atStop = true ∧ 300 < a.dist ∧ v = min w d.creep) →
          stateTest n s =
            if s.account.level = .departuresHeld then put fun y => { y with reason := some .budget }
            else put fun y => { y with state := .running, target := v, reason := none }) ∧
        (a.dist ≤ room (16 * w) → a.atStop = false ∨ a.dist ≤ 300 →
          (served → stateTest n s = serveStop n s) ∧
          (¬ served → stateTest n s = put fun y => { y with reason := some .authority })))) ∧
    (x.state = .running →
      (w = 0 → stateTest n s = put fun y => { y with
        state := .stopping, target := 0, cause := some .command, cabSince := false }) ∧
      (w ≠ 0 → marked → stateTest n s = put fun y => { y with
        target := if d.creep < tgt ∧ a.dist ≤ (stoppingDistance d x.speed : Int)
            - stoppingDistance d (16 * d.creep) + speedOf d x.speed + 300 then d.creep else tgt }) ∧
      (w ≠ 0 → ¬ marked → stateTest n s =
        if room x.speed < a.dist then put fun y => { y with target := tgt }
        else put fun y => { y with
          state := .stopping, target := 0, cabSince := false
          cause := some (if a.atStop then .stop else .authority) })) ∧
    (x.state = .stopping →
      (x.cause = some .authority → stateTest n s =
        if room x.speed < a.dist then put fun y => { y with state := .running, target := w, cause := none }
        else s) ∧
      (∀ again : Prop, (again ↔ x.mode = .cab ∧ 0 < x.cabStep ∧ x.cabSince = true) →
        (x.cause = some .stop ∨ (x.cause = some .command ∧ ¬ again) → stateTest n s = s) ∧
        (x.cause = some .command → again → stateTest n s =
          if room x.speed < a.dist then put fun y => { y with state := .running, target := w, cause := none }
          else put fun y => { y with
            state := .stopping, target := 0, cabSince := false
            cause := some (if a.atStop then .stop else .authority) }))) ∧
    (x.state ≠ .waiting → x.moving = false → stateTest n s = s)) ∧
  (∀ (s t : State) (n : Train) (x : TrainRun), x = s.trains.get n → t = sendPower n s →
    t = s.withChannels t.channels ∧ (s.halt = true → t = s) ∧
    (s.halt = false → ∀ c : Section, (s.channels.get (sectionChannel c)).state ≠ .cut →
      (∀ e ∈ x.powered, e.sec = c → (∀ f ∈ x.powered, f.sec = c → f = e) →
        (t.channels.get (sectionChannel c)).staged =
          some ⟨if x.moving then x.duty else 0, match e.entry with | .a => .plus | .b => .minus⟩) ∧
      (s.holds n c = true → (∀ e ∈ x.powered, e.sec ≠ c) →
        (t.channels.get (sectionChannel c)).staged =
          some ⟨0, (s.channels.get (sectionChannel c)).applied.pol⟩)) ∧
    ∀ c : Channel, (∀ z, sectionChannel z = c → s.holds n z = false ∧ ∀ e ∈ x.powered, e.sec ≠ z) →
      t.channels.get c = s.channels.get c) ∧
  (∀ (s : State) (n : Train) (x : TrainRun) (d : TrainDef) (w : Walk) (asks : Prop), x = s.trains.get n →
    d = s.cfg.trains.get n → w = s.walk n false →
    (asks ↔ (x.state = .waiting ∨ x.moving = true) ∧ x.request = none ∧ x.deadlock = false ∧
      w.atStop = false ∧
      w.dist < stoppingDistance d (16 * s.wanted n) + 5000 + 30 * (d.step (s.wanted n)).2) →
    (∀ p ps u, asks → w.rest = p :: ps → s.cfg.unitKey p.sec = some u → lookAhead n s = requestUnit n u s) ∧
    (¬ asks ∨ w.rest = [] ∨ (∃ p ps, w.rest = p :: ps ∧ s.cfg.unitKey p.sec = none) → lookAhead n s = s)) ∧
  ∀ (s : State) (n : Train) (x : TrainRun) (h : SpanElt) (len : Nat) (past : Prop), x = s.trains.get n →
    x.span.getLast? = some h → len = s.cfg.lengthOf h.sec →
    (past ↔ ∃ m d, s.headStop n = some (some m) ∧ s.cfg.marks.get m = some d ∧
      (match h.entry with | .a => 10 * d.offset | .b => 10 * (len - d.offset)) + 2000 < x.headPos) →
    (x.moving = false → checkTrain n s = s) ∧
    (x.moving = true → 10 * len + max 2000 (5 * len) < x.headPos → checkTrain n s = loseTrain n s) ∧
    (x.moving = true → x.headPos ≤ 10 * len + max 2000 (5 * len) →
      (past → checkTrain n s = stopAtMark n (s.raise (.markMiss n))) ∧
      (¬ past → x.state = .stopping → x.speed = 0 → checkTrain n s = comeToRest n s) ∧
      (¬ past → x.state = .running ∨ x.speed ≠ 0 → checkTrain n s = s))

/-- Placing and lifting (R147, R148): a train is placed on an OCCUPIED section of a unit with no holder, which
it is granted although it is blocked or has waiters; a lifted train holds nothing and has its reset values,
and a powered section of its span whose unit it does not hold is sent duty 0 (R129; log 48); a refused line
changes nothing. -/
def Obligations.PlacingAndLifting : Prop :=
  ∀ (s : State) (n : Train) (x : Section) (e : End), takes s → ReservationsAgree s →
    (∀ u, s.cfg.unitKey x = some u → (s.trains.get n).state = .unplaced → s.occupied x = true →
      (s.units.get u).holder = none →
      ∃ (t : State) (y : TrainRun), exec (.trainPlace n.val x.val e) s = replies t .ok ∧
        y = t.trains.get n ∧ y.state = .parked ∧ y.mode = .route ∧ y.route = none ∧
        y.orientation = .fwd ∧ y.span = [⟨x, other e⟩] ∧ y.holdings = [u] ∧ y.request = none ∧
        y.headPos = 10 * min (s.cfg.trains.get n).length (s.cfg.lengthOf x) ∧
        t.units.get u = ⟨some n, (s.units.get u).waiting⟩ ∧ t.cfg = s.cfg) ∧
    (s.cfg.unitKey x = none → exec (.trainPlace n.val x.val e) s = replies s (.no .unknown)) ∧
    (s.cfg.unitKey x ≠ none → (s.trains.get n).state ≠ .unplaced ∨ s.occupied x = false →
      exec (.trainPlace n.val x.val e) s = replies s (.no .state)) ∧
    (∀ u, s.cfg.unitKey x = some u → (s.trains.get n).state = .unplaced → s.occupied x = true →
      (s.units.get u).holder ≠ none →
      exec (.trainPlace n.val x.val e) s = replies s (.no .conflict)) ∧
    ((s.trains.get n).state = .parked ∨ (s.trains.get n).state = .lost →
      ∃ t : State, exec (.trainLift n.val) s = replies t .ok ∧
        t.trains.get n = TrainRun.reset ∧ (∀ u, (t.units.get u).holder ≠ some n) ∧
        (∀ u, n ∉ (t.units.get u).waiting) ∧ t.cfg = s.cfg ∧
        (s.halt = false → ∀ z : Section, (s.channels.get (sectionChannel z)).state ≠ .cut →
          (∃ f ∈ (s.trains.get n).powered, f.sec = z) → (∃ f ∈ (s.trains.get n).span, f.sec = z) →
          s.holds n z = false →
          (t.channels.get (sectionChannel z)).staged =
            some ⟨0, (s.channels.get (sectionChannel z)).applied.pol⟩)) ∧
    ((s.trains.get n).state ≠ .parked → (s.trains.get n).state ≠ .lost →
      exec (.trainLift n.val) s = replies s (.no .state))

/-- Finding and resuming (R145, R148): a LOST train is placed in an OCCUPIED section whose unit it holds or
nobody holds, and keeps no other unit; a FAULTED train comes back unless the channel of a held section is CUT.
What becoming LOST leaves (R144): the train at rest with its holdings, span, route and mode, its request
withdrawn, duty 0 sent over its powered set, in each channel's applied polarity (the model's choice, log 53),
and the report. What a CUT notice leaves (R145): every placed train that holds the section's unit FAULTED at
rest, with no request, no pending turnabout and no dwell, a DWELLING one served, duty 0 sent over its held
sections (log 53), and no report of its own. -/
def Obligations.FindingAndResuming : Prop :=
  (∀ (s t : State) (n : Train) (x y : TrainRun), x = s.trains.get n → t = loseTrain n s →
    y = t.trains.get n →
    y.state = .lost ∧ y.speed = 0 ∧ y.target = 0 ∧ y.duty = 0 ∧ y.cause = none ∧ y.request = none ∧
    y.deadlock = false ∧ y.holdings = x.holdings ∧ y.span = x.span ∧ y.route = x.route ∧ y.mode = x.mode ∧
    (∃ v : State, t = v.raise (.lost n) ∧ v.line = s.line) ∧ t.cfg = s.cfg ∧
    (ReservationsAgree s → ∀ u, n ∉ (t.units.get u).waiting) ∧
    (x.request = none → s.halt = false → ∀ e ∈ x.powered,
      (s.channels.get (sectionChannel e.sec)).state ≠ .cut →
      (t.channels.get (sectionChannel e.sec)).staged =
        some ⟨0, (s.channels.get (sectionChannel e.sec)).applied.pol⟩)) ∧
  (∀ (s t : State) (z : Section) (n : Train) (x y : TrainRun), t = sectionCutNotice z s →
    x = s.trains.get n → y = t.trains.get n →
    (x.state ≠ .unplaced → s.holds n z = true →
      y.state = .faulted ∧ y.speed = 0 ∧ y.target = 0 ∧ y.duty = 0 ∧ y.pending = none ∧ y.cause = none ∧
      y.reason = none ∧ y.dwell = 0 ∧ y.request = none ∧ (x.state = .dwelling → y.served = true) ∧
      y.holdings = x.holdings ∧ y.span = x.span ∧ y.route = x.route ∧ y.mode = x.mode ∧
      y.headPos = x.headPos) ∧
    (x.state = .unplaced ∨ s.holds n z = false →
      y = { x with authority := y.authority, powered := y.powered }) ∧
    t.line = s.line ∧ t.cfg = s.cfg ∧
    ((∀ m, (s.trains.get m).request = none) → s.halt = false → x.state ≠ .unplaced → s.holds n z = true →
      ∀ w, s.holds n w = true → (s.channels.get (sectionChannel w)).state ≠ .cut →
      (t.channels.get (sectionChannel w)).staged =
        some ⟨0, (s.channels.get (sectionChannel w)).applied.pol⟩)) ∧
  ∀ (s : State) (n : Train) (x : Section) (e : End), takes s → ReservationsAgree s →
    (∀ u, s.cfg.unitKey x = some u → (s.trains.get n).state = .lost → s.occupied x = true →
      (s.trains.get n).request = none →
      (s.units.get u).holder = none ∨ (s.units.get u).holder = some n →
      ∃ (t : State) (y : TrainRun), exec (.trainFind n.val x.val e) s = replies t .ok ∧
        y = t.trains.get n ∧ y.state = .parked ∧ y.mode = .route ∧ y.route = none ∧
        y.orientation = .fwd ∧ y.span = [⟨x, other e⟩] ∧ y.holdings = [u] ∧
        y.headPos = 10 * min (s.cfg.trains.get n).length (s.cfg.lengthOf x) ∧
        (t.units.get u).holder = some n ∧ ∀ v, v ≠ u → (t.units.get v).holder ≠ some n) ∧
    (s.cfg.unitKey x ≠ none → (s.trains.get n).state ≠ .lost ∨ s.occupied x = false →
      exec (.trainFind n.val x.val e) s = replies s (.no .state)) ∧
    (∀ u h, s.cfg.unitKey x = some u → (s.trains.get n).state = .lost → s.occupied x = true →
      (s.units.get u).holder = some h → h ≠ n →
      exec (.trainFind n.val x.val e) s = replies s (.no .conflict)) ∧
    ((s.trains.get n).state = .faulted →
      (∀ z, s.holds n z = true → (s.channels.get (sectionChannel z)).state ≠ .cut) →
      ∃ t : State, exec (.trainResume n.val) s = replies t .ok ∧ t.units = s.units ∧
        (t.trains.get n).state =
          if ((s.trains.get n).mode = .route ∧ (s.trains.get n).route ≠ none) ∨
             ((s.trains.get n).mode = .cab ∧ 0 < (s.trains.get n).cabStep)
          then (if s.halt then .halted else .waiting) else .parked) ∧
    ((s.trains.get n).state = .faulted →
      (∃ z, s.holds n z = true ∧ (s.channels.get (sectionChannel z)).state = .cut) →
      exec (.trainResume n.val) s = replies s (.no .cut)) ∧
    ((s.trains.get n).state ≠ .faulted → exec (.trainResume n.val) s = replies s (.no .state))

/-- Route starts, parking and the end of a dwell (R141, R146, R151, R152). What serving a stop leaves (R141):
the train at rest and served, PARKED without its route at the last position of a route that does not loop, and
elsewhere DWELLING for the stop's dwell, or WAITING where it is 0. Coming to rest (R139; the next stop is
judged by the route position, log 19): by its stop cause a train serves its stop, waits for authority, turns
about where a turnabout is pending, or is parked. Log 6: `DWELL_END` sets the dwell to 0 as given; log 5: it
changes nothing for a train that is not DWELLING. A turnabout (R157), here and where a train at rest is told
the other orientation (CAB): the span and the orientation turned, the head in the old tail section at its
length less the tail position, every held unit without a section of the span released, the request withdrawn
and the authority end worked out afresh. A route start, the end of a dwell and a stop served with dwell 0 ask
for the throws of every unit the train holds (R122, R141, R151), in holdings order (the model's choice, log
40); then a route start and a served stop work the authority end out afresh. The reason, the cause and the
dwell that a change of state leaves are by logs 32 and 34. -/
def Obligations.DispatchLines : Prop :=
  (∀ (s : State) (n : Train), TurnedAbout s n (s.trains.get n) ((turnabout n s).trains.get n) ∧
    (∃ v, turnabout n s = refreshAuthority n v) ∧ (turnabout n s).cfg = s.cfg ∧
    (ReservationsAgree s → ∀ u, ((turnabout n s).units.get u).holder = some n ↔
      (s.units.get u).holder = some n ∧ ∃ e ∈ (s.trains.get n).span, s.cfg.unitKey e.sec = some u)) ∧
  (∀ (s : State) (n : Train) (x y : TrainRun), x = s.trains.get n → y = (serveStop n s).trains.get n →
    y.served = true ∧ y.cause = none ∧ y.speed = 0 ∧ y.duty = 0 ∧ y.target = 0 ∧ y.span = x.span ∧
    y.holdings = x.holdings ∧ (y.state ≠ .waiting → y.reason = none) ∧
    ∀ r i d, x.route = some (r, i) → s.cfg.routes.get r = some d →
      (d.loop = false → d.positions.length = i + 1 → y.state = .parked ∧ y.route = none) ∧
      ∀ p st, d.loop = true ∨ d.positions.length ≠ i + 1 → d.positions[i]? = some p → p.stop = some st →
        y.route = x.route ∧
        (st.dwell ≠ 0 → y.state = .dwelling ∧ y.dwell = st.dwell) ∧
        (st.dwell = 0 → y.dwell = 0 ∧ y.state = if s.halt then .halted else .waiting)) ∧
  (∀ (s : State) (n : Train) (x : TrainRun) (r : RouteId) (i : Nat) (d : RouteDef) (p : RoutePos) (st : Stop)
      (rest : TrainRun → TrainRun), x = s.trains.get n → x.route = some (r, i) →
    s.cfg.routes.get r = some d → d.positions[i]? = some p → p.stop = some st →
    (∀ z, rest z = { z with
      served := true, cause := none, reason := none, target := 0, speed := 0, duty := 0 }) →
    (d.loop = false → d.positions.length = i + 1 → serveStop n s = refreshAuthority n (s.modTrain n fun z =>
      { rest z with state := .parked, route := none })) ∧
    (d.loop = true ∨ d.positions.length ≠ i + 1 →
      (st.dwell ≠ 0 → serveStop n s = refreshAuthority n (s.modTrain n fun z =>
        { rest z with state := .dwelling, dwell := st.dwell })) ∧
      (st.dwell = 0 → ∃ v a : State,
        v = s.modTrain n (fun z => { rest z with
          dwell := 0, state := if s.halt then .halted else .waiting
          reason := if z.deadlock = true ∧ s.halt = false then some .deadlock else none }) ∧
        AsksForHeld n v a ∧ serveStop n s = refreshAuthority n a))) ∧
  (∀ (s t : State) (n : Train) (x y : TrainRun) (served : Prop), x = s.trains.get n →
    t = comeToRest n s → y = t.trains.get n → (served ↔ x.mode = .route ∧ s.headStop n ≠ none) →
    (x.cause = some .stop → served → t = serveStop n s) ∧
    (x.cause = some .authority ∨ (x.cause = some .stop ∧ ¬ served) →
      t = s.modTrain n fun z => if s.halt then { z with state := .halted, cause := none, reason := none }
        else { z with
          state := .waiting, cause := none
          reason := if z.deadlock then some .deadlock else some .authority }) ∧
    (x.cause = some .command → x.pending = none ∨ x.pending = some x.orientation →
      t = s.modTrain n fun z => { z with
        state := .parked, target := 0, cause := none, reason := none, dwell := 0 }) ∧
    (∀ o, x.cause = some .command → x.pending = some o → o ≠ x.orientation →
      TurnedAbout s n x y ∧ y.cause = none ∧
      y.state = if s.wanted n = 0 ∨ (x.mode = .route ∧ x.route = none) then .parked
        else if s.halt then .halted else .waiting)) ∧
  ∀ (s : State) (n : Train) (x : TrainRun), x = s.trains.get n →
    (∀ (r : RouteId) d p h, takes s → s.cfg.routes.get r = some d → x.state = .parked ∨ x.state = .dwelling →
      d.positions.head? = some p → x.span.getLast? = some h → h.sec = p.sec →
      h.entry = p.entry ∨ x.span.length = 1 →
      ∃ (t : State) (y : TrainRun), exec (.trainGo n.val r.val) s = replies t .ok ∧
        y = t.trains.get n ∧ y.state = (if s.halt then .halted else .waiting) ∧ y.mode = .route ∧
        y.route = some (r, 0) ∧ y.served = true ∧ y.dwell = 0 ∧ y.request = none ∧
        y.deadlock = false ∧
        (h.entry = p.entry → y.orientation = x.orientation ∧ y.span = x.span ∧ y.headPos = x.headPos) ∧
        (h.entry ≠ p.entry → TurnedAbout s n x y) ∧
        ∃ v a : State,
          v = (withdraw n (if h.entry = p.entry then s else turnabout n s)).modTrain n (fun z => { z with
            mode := .route, route := some (r, 0), served := true, dwell := 0, cabTimer := none }) ∧
          AsksForHeld n v a ∧
          t = (refreshAuthority n a).modTrain n fun z => { z with
            state := if s.halt then .halted else .waiting, cause := none, reason := none }) ∧
    (∀ (r : RouteId) d p h, takes s → s.cfg.routes.get r = some d → x.state = .parked ∨ x.state = .dwelling →
      d.positions.head? = some p → x.span.getLast? = some h →
      h.sec ≠ p.sec ∨ (h.entry ≠ p.entry ∧ x.span.length ≠ 1) →
      exec (.trainGo n.val r.val) s = replies s (.no .path)) ∧
    (∀ r : RouteId, takes s → s.cfg.routes.get r = none →
      exec (.trainGo n.val r.val) s = replies s (.no .unknown)) ∧
    (∀ r : RouteId, takes s → s.cfg.routes.get r ≠ none → x.state ≠ .parked → x.state ≠ .dwelling →
      exec (.trainGo n.val r.val) s = replies s (.no .state)) ∧
    (takes s → x.mode = .route → x.moving = true →
      ∃ (t : State) (y : TrainRun), exec (.trainPark n.val) s = replies t .ok ∧ y = t.trains.get n ∧
        y.state = .stopping ∧ y.target = 0 ∧ y.cause = some .command ∧ y.route = none ∧
        y.request = none ∧ y.speed = x.speed) ∧
    (takes s → x.mode = .route → x.state = .waiting ∨ x.state = .dwelling →
      ∃ (t : State) (y : TrainRun), exec (.trainPark n.val) s = replies t .ok ∧ y = t.trains.get n ∧
        y.state = .parked ∧ y.route = none ∧ y.request = none) ∧
    (takes s → x.mode = .route → x.state = .parked → exec (.trainPark n.val) s = replies s .ok) ∧
    (takes s → x.state = .unplaced ∨ x.state = .halted ∨ x.state = .lost ∨ x.state = .faulted →
      exec (.trainPark n.val) s = replies s (.no .state)) ∧
    (runs s → x.state = .dwelling → ∃ (t : State) (y : TrainRun), exec (.dwellEnd n) s = acts t ∧
      y = t.trains.get n ∧ y.state = (if s.halt then .halted else .waiting) ∧ y.dwell = 0 ∧
      y.route = x.route ∧ y.holdings = x.holdings ∧
      AsksForHeld n (s.modTrain n fun z => { z with
        dwell := 0, state := if s.halt then .halted else .waiting, cause := none
        reason := if z.deadlock = true ∧ s.halt = false then some .deadlock else none }) t) ∧
    (runs s → x.state ≠ .dwelling → exec (.dwellEnd n) s = acts s)

/-- CAB lines and their supervision (R156): the step clamps to 31, the route is given up, the timer starts, a
differing orientation turns a train at rest about (R157) and stops a moving one, a step of 0 stops; an expiry
with a step above 0 stops the train and reports it. A train in CAB mode that does not turn keeps its request
(log 35). A line that keeps a train going lets one that stops by command return to RUNNING (log 20). Under the
halt a train that would become WAITING becomes HALTED (R146). `TRAIN n PARK` on a CAB train is `TRAIN n CAB 0`
(R152). Log 5: the expiry of a timer that is not running changes nothing. -/
def Obligations.CabDriving : Prop :=
  ∀ (s : State) (n : Train) (x : TrainRun), x = s.trains.get n →
    (∀ step o, takes s →
      x.state = .parked ∨ x.state = .waiting ∨ x.moving = true ∨ x.state = .dwelling →
      ∃ (t : State) (y : TrainRun),
        exec (.trainCab n.val step o) s = replies t (okOr (decide (31 < step))) ∧ y = t.trains.get n ∧
        y.mode = .cab ∧ y.route = none ∧ y.cabStep = min step 31 ∧
        y.cabTimer = some (s.cfg.trains.get n).cabTime ∧ y.speed = x.speed ∧
        (step ≠ 0 → o = none ∨ o = some x.orientation →
          y.orientation = x.orientation ∧ y.state =
            if x.state = .parked ∨ x.state = .dwelling then (if s.halt then .halted else .waiting)
            else x.state) ∧
        (step ≠ 0 → o = none ∨ o = some x.orientation → y.cabSince = true ∧ y.pending = x.pending) ∧
        (∀ q, o = some q → q ≠ x.orientation → x.speed = 0 → TurnedAbout s n x y) ∧
        (x.mode = .route → y.request = none) ∧
        (x.mode = .cab → o = none ∨ o = some x.orientation → y.request = x.request) ∧
        (∀ q, o = some q → q ≠ x.orientation → x.speed ≠ 0 → x.moving = true →
          y.orientation = x.orientation ∧ y.pending = some q ∧ y.state = .stopping ∧
          y.target = 0 ∧ y.cause = some .command ∧ y.request = none ∧ y.cabSince = false) ∧
        (step = 0 → x.moving = true → y.state = .stopping ∧ y.cause = some .command ∧
          y.cabSince = false) ∧
        (step = 0 → x.moving = false → x.speed = 0 → y.state = .parked)) ∧
    (∀ step o, takes s →
      x.state = .unplaced ∨ x.state = .halted ∨ x.state = .lost ∨ x.state = .faulted →
      exec (.trainCab n.val step o) s = replies s (.no .state)) ∧
    (x.mode = .cab → exec (.trainPark n.val) s = exec (.trainCab n.val 0 none) s) ∧
    (runs s → x.cabTimer = none → exec (.cabSupervisionTimer n) s = acts s) ∧
    (runs s → x.cabTimer ≠ none → x.cabStep = 0 →
      exec (.cabSupervisionTimer n) s = acts (s.modTrain n fun y => { y with cabTimer := none })) ∧
    (runs s → x.cabTimer ≠ none → x.cabStep ≠ 0 → x.moving = true →
      exec (.cabSupervisionTimer n) s = acts ((s.modTrain n fun y => { y with
        cabTimer := none, cabStep := 0, state := .stopping, target := 0, cabSince := false
        cause := some .command }).raise (.cab n))) ∧
    (runs s → x.cabTimer ≠ none → x.cabStep ≠ 0 → x.state = .waiting → ∃ u : State,
      exec (.cabSupervisionTimer n) s = acts (u.raise (.cab n)) ∧
      (u.trains.get n).state = .parked ∧ (u.trains.get n).cabStep = 0 ∧
      (u.trains.get n).cabTimer = none)

/-- Route definitions (R149, R150): a route is defined over defined sections that can be passed one after
another, by the first of their ways (log 17), and `NO PATH` is answered where there are none; it ends in a stop
with dwell 0 and has no other. Appended positions go on from the last one, whose stop moves to the new last
position, and with the loop flag ON the new last position must still lead into position 0. Stops and the loop
flag are edited while no placed train follows the route, and refused while one does; a stop mark must be of kind
STOP in its position's section, and the last stop is not removed. `DROP` of an undefined route is answered `OK`
(log 17). A route is in use while a placed train has it. -/
def Obligations.RouteLines : Prop :=
  (∀ (s : State) (r : RouteId), s.routeInUse r = true ↔
    ∃ n i, (s.trains.get n).state ≠ .unplaced ∧ (s.trains.get n).route = some (r, i)) ∧
  (∀ (s : State) (r : RouteId) d, settable s → s.routeInUse r = true → s.cfg.routes.get r = some d →
    exec (.routeDrop r.val) s = replies s (.no .state) ∧
    (∀ on, exec (.routeLoop r.val on) s = replies s (.no .state)) ∧
    (∀ xs : List Section, 2 ≤ xs.length → xs.length ≤ 32 → (∀ x ∈ xs, s.cfg.defined x = true) →
      exec (.routeDefine r.val (xs.map Fin.val)) s = replies s (.no .state)) ∧
    (∀ xs : List Section, d.positions.length + xs.length ≤ 32 → (∀ x ∈ xs, s.cfg.defined x = true) →
      exec (.routeAdd r.val (xs.map Fin.val)) s = replies s (.no .state)) ∧
    ∀ i dwell (mark : Option MarkId), i < d.positions.length → dwell ≤ 3600 →
      exec (.routeStop r.val i dwell (mark.map Fin.val)) s = replies s (.no .state) ∧
      exec (.routeStopNone r.val i) s = replies s (.no .state)) ∧
  (∀ (st : Stop) (ps : List RoutePos) p, stopAtLast st (ps ++ [p]) = ps ++ [{ p with stop := some st }]) ∧
  ∀ (s : State) (r : RouteId) (put : List RoutePos → Bool → State), settable s → s.routeInUse r = false →
    (∀ ps l, put ps l = setting s fun c => { c with routes := c.routes.set r (some ⟨ps, l⟩) }) →
    (∀ (xs : List Section), 2 ≤ xs.length → xs.length ≤ 32 → (∀ x ∈ xs, s.cfg.defined x = true) →
      ((∃ qs, qs.map SecEnd.sec = xs ∧ Passable s.cfg qs) → ∃ ps : List SecEnd,
        exec (.routeDefine r.val (xs.map Fin.val)) s =
          replies (put (stopAtLast ⟨0, none⟩ (ps.map fun p => ⟨p.sec, p.e, none⟩)) false) .ok ∧
        ps.map SecEnd.sec = xs ∧ Passable s.cfg ps ∧ FirstWays s.cfg 0 ps) ∧
      ((∀ qs, qs.map SecEnd.sec = xs → ¬ Passable s.cfg qs) →
        exec (.routeDefine r.val (xs.map Fin.val)) s = replies s (.no .path))) ∧
    (∀ xs : List Section, 2 ≤ xs.length → xs.length ≤ 32 → (∃ x ∈ xs, s.cfg.defined x = false) →
      exec (.routeDefine r.val (xs.map Fin.val)) s = replies s (.no .unknown)) ∧
    (∀ (xs : List Section), xs.length < 2 ∨ 32 < xs.length →
      exec (.routeDefine r.val (xs.map Fin.val)) s = replies s (.no .range)) ∧
    (∀ (d : RouteDef) (ds : List RoutePos) (p : RoutePos) (xs : List Section), s.cfg.routes.get r = some d →
      d.positions = ds ++ [p] → d.positions.length + xs.length ≤ 32 →
      (∀ x ∈ xs, s.cfg.defined x = true) →
      ((∃ qs, qs.map SecEnd.sec = xs ∧ Passable s.cfg (⟨p.sec, p.entry⟩ :: qs)) →
        ∃ (es : List SecEnd) (ps : List RoutePos), es.map SecEnd.sec = xs ∧
          Passable s.cfg (⟨p.sec, p.entry⟩ :: es) ∧ FirstWays s.cfg 1 (⟨p.sec, p.entry⟩ :: es) ∧
          ps = ds ++ stopAtLast (p.stop.getD ⟨0, none⟩)
            (⟨p.sec, p.entry, none⟩ :: es.map fun q => ⟨q.sec, q.e, none⟩) ∧
          ∀ loops : Prop, (loops ↔ ∃ a z, (entries ps).head? = some a ∧ (entries ps).getLast? = some z ∧
              Leads s.cfg z a) →
            (d.loop = true → ¬ loops →
              exec (.routeAdd r.val (xs.map Fin.val)) s = replies s (.no .path)) ∧
            (d.loop = false ∨ loops → StopsFit s.cfg ps →
              exec (.routeAdd r.val (xs.map Fin.val)) s = replies (put ps d.loop) .ok) ∧
            (d.loop = false ∨ loops → ¬ StopsFit s.cfg ps →
              exec (.routeAdd r.val (xs.map Fin.val)) s = replies s (.no .conflict))) ∧
      ((∀ qs, qs.map SecEnd.sec = xs → ¬ Passable s.cfg (⟨p.sec, p.entry⟩ :: qs)) →
        exec (.routeAdd r.val (xs.map Fin.val)) s = replies s (.no .path))) ∧
    (∀ (d : RouteDef) (xs : List Section), s.cfg.routes.get r = some d →
      32 < d.positions.length + xs.length →
      exec (.routeAdd r.val (xs.map Fin.val)) s = replies s (.no .range)) ∧
    (∀ (d : RouteDef) i dwell (mark : Option MarkId) ps, s.cfg.routes.get r = some d →
      i < d.positions.length → dwell ≤ 3600 →
      ps = d.positions.modify i (fun p => { p with stop := some ⟨dwell, mark⟩ }) →
      (StopsFit s.cfg ps → exec (.routeStop r.val i dwell (mark.map Fin.val)) s =
        replies (put ps d.loop) .ok) ∧
      (¬ StopsFit s.cfg ps → exec (.routeStop r.val i dwell (mark.map Fin.val)) s =
        replies s (.no .conflict))) ∧
    (∀ (d : RouteDef) i dwell (mark : Option MarkId), s.cfg.routes.get r = some d →
      d.positions.length ≤ i ∨ 3600 < dwell →
      exec (.routeStop r.val i dwell (mark.map Fin.val)) s = replies s (.no .range)) ∧
    (∀ (d : RouteDef) i, s.cfg.routes.get r = some d →
      (i + 1 < d.positions.length → exec (.routeStopNone r.val i) s =
        replies (put (d.positions.modify i fun p => { p with stop := none }) d.loop) .ok) ∧
      (i + 1 = d.positions.length → exec (.routeStopNone r.val i) s = replies s (.no .conflict)) ∧
      (d.positions.length ≤ i → exec (.routeStopNone r.val i) s = replies s (.no .range))) ∧
    (∀ (d : RouteDef) (loops : Prop), s.cfg.routes.get r = some d →
      (loops ↔ ∃ a z, (entries d.positions).head? = some a ∧ (entries d.positions).getLast? = some z ∧
        Leads s.cfg z a) →
      exec (.routeLoop r.val false) s = replies (put d.positions false) .ok ∧
      (loops → exec (.routeLoop r.val true) s = replies (put d.positions true) .ok) ∧
      (¬ loops → exec (.routeLoop r.val true) s = replies s (.no .path))) ∧
    exec (.routeDrop r.val) s = replies (setting s fun x => { x with
      routes := x.routes.set r none }) .ok

/-- The timetable (R154): entries are kept in order of time and train, no two with both the same, at most
48; the autorun flag is set. -/
def Obligations.TimetableLines : Prop :=
  ∀ s : State, settable s → ListsOrdered s →
    (∀ t (n : Train) (r : RouteId), timeOk t → s.cfg.timetable.length < 48 →
      (∀ e ∈ s.cfg.timetable, ¬ (e.time = secs t ∧ e.train = n)) →
      ∃ es, exec (.timetableAdd t n.val r.val) s =
          replies (setting s fun c => { c with timetable := es }) .ok ∧
        (es.Pairwise fun x y => x.time < y.time ∨ (x.time = y.time ∧ x.train < y.train)) ∧
        ∀ e, e ∈ es ↔ e ∈ s.cfg.timetable ∨ e = ⟨secs t, n, r⟩) ∧
    (∀ t (n : Train) (r : RouteId) e, timeOk t → e ∈ s.cfg.timetable → e.time = secs t → e.train = n →
      exec (.timetableAdd t n.val r.val) s = replies s (.no .conflict) ∧
      exec (.timetableDrop t n.val) s = replies (setting s fun c => { c with
        timetable := c.timetable.filter fun x => !(x.time == secs t && x.train == n) }) .ok) ∧
    (∀ t (n : Train) (r : RouteId), timeOk t → s.cfg.timetable.length = 48 →
      (∀ e ∈ s.cfg.timetable, ¬ (e.time = secs t ∧ e.train = n)) →
      exec (.timetableAdd t n.val r.val) s = replies s (.no .full) ∧
      exec (.timetableDrop t n.val) s = replies s (.no .unknown)) ∧
    (∀ on, exec (.timetableAutorun on) s =
      replies (setting s fun c => { c with autorun := on }) .ok)

/-- The definition lines of a train (R131, R158): each sets its field within its range, the service step
clamps, and every other field is refused outside its range, a name of more than 8 characters too (log 16), all
digits or not (log 54), a `TABLE` line with step 0 or past step 31 too; each taken line restarts the
supervision timer of a train in CAB mode (R156). A home is taken in every section 0..19, defined or not (the
model's choice, log 46). -/
def Obligations.TrainDefinitions : Prop :=
  ∀ (s : State) (n : Train), settable s →
    (∀ u : State, (u.trains.get n).mode = .route → restartCabTimer n u = u) ∧
    (∀ u : State, (u.trains.get n).mode = .cab → restartCabTimer n u =
      u.modTrain n fun y => { y with cabTimer := some (u.cfg.trains.get n).cabTime }) ∧
    (∀ x : List Char, 1 ≤ x.length → x.length ≤ 8 → (∀ c ∈ x, c.isUpper = true ∨ c.isDigit = true) →
      exec (.trainName n.val x) s =
        replies (restartCabTimer n (setting s fun c => { c with
          trains := c.trains.modify n fun d => { d with name := x } })) .ok) ∧
    (∀ mm, 100 ≤ mm → mm ≤ 3000 → exec (.trainLength n.val mm) s =
      replies (restartCabTimer n (setting s fun c => { c with
        trains := c.trains.modify n fun d => { d with length := mm } })) .ok) ∧
    (∀ st pairs, 1 ≤ st → pairs ≠ [] → st + pairs.length ≤ 32 →
      (∀ p ∈ pairs, p.1 ≤ 255 ∧ p.2 ≤ 999) → ∃ tb : Table (Nat × Nat) 32,
      exec (.trainTable n.val st pairs) s = replies (restartCabTimer n (setting s fun c => { c with
        trains := c.trains.modify n fun d => { d with table := tb } })) .ok ∧
      ∀ i : Fin 32, tb.get i =
        if st ≤ i.val then (pairs[i.val - st]?).getD ((s.cfg.trains.get n).table.get i)
        else (s.cfg.trains.get n).table.get i) ∧
    (∀ a d, 1 ≤ a → a ≤ 64 → 1 ≤ d → d ≤ 64 → exec (.trainRamp n.val a d) s =
      replies (restartCabTimer n (setting s fun c => { c with
        trains := c.trains.modify n fun x => { x with accel := a, decel := d } })) .ok) ∧
    (∀ k, 1 ≤ k → k ≤ 8 → exec (.trainCreep n.val k) s =
      replies (restartCabTimer n (setting s fun c => { c with
        trains := c.trains.modify n fun d => { d with creep := k } })) .ok) ∧
    (∀ (x : Section) e, exec (.trainHome n.val x.val e) s =
      replies (restartCabTimer n (setting s fun c => { c with
        trains := c.trains.modify n fun d => { d with home := some ⟨x, e⟩ } })) .ok) ∧
    (exec (.trainHomeNone n.val) s =
      replies (restartCabTimer n (setting s fun c => { c with
        trains := c.trains.modify n fun d => { d with home := none } })) .ok) ∧
    (∀ k, 1 ≤ k → k ≤ 30 → exec (.trainCabtime n.val k) s =
      replies (restartCabTimer n (setting s fun c => { c with
        trains := c.trains.modify n fun d => { d with cabTime := k } })) .ok) ∧
    (∀ st, exec (.trainService n.val st) s =
      replies (restartCabTimer n (setting s fun c => { c with
        trains := c.trains.modify n fun d => { d with service := min st 31 } }))
        (okOr (decide (31 < st)))) ∧
    (∀ mm, mm < 100 ∨ 3000 < mm → exec (.trainLength n.val mm) s = replies s (.no .range)) ∧
    (∀ k, k < 1 ∨ 8 < k → exec (.trainCreep n.val k) s = replies s (.no .range)) ∧
    (∀ k, k < 1 ∨ 30 < k → exec (.trainCabtime n.val k) s = replies s (.no .range)) ∧
    (∀ a d, a < 1 ∨ 64 < a ∨ d < 1 ∨ 64 < d → exec (.trainRamp n.val a d) s = replies s (.no .range)) ∧
    (∀ st pairs, pairs ≠ [] →
      st = 0 ∨ 31 < st ∨ 32 < st + pairs.length ∨ (∃ p ∈ pairs, 255 < p.1 ∨ 999 < p.2) →
      exec (.trainTable n.val st pairs) s = replies s (.no .range)) ∧
    (∀ x : List Char, 8 < x.length → (∀ c ∈ x, c.isUpper = true ∨ c.isDigit = true) →
      exec (.trainName n.val x) s = replies s (.no .range)) ∧
    (∀ x e, 20 ≤ x → exec (.trainHome n.val x e) s = replies s (.no .range))

/-! ## Rotating fixtures (chapter 9) -/

/-- Axis programs (R160): an edit keeps the list in time order and works the value out afresh at the
present scene time; the value is the speed of the point in force, carried over midnight. -/
def Obligations.AxisPrograms : Prop :=
  (∀ (ps : List (Nat × Nat)) (t : Nat), (ps.Pairwise fun x y => x.1 < y.1) →
    (∀ p ∈ ps, p.1 ≤ t → (∀ q ∈ ps, q.1 ≤ t → q.1 ≤ p.1) → programValue ps t = p.2) ∧
    (∀ p, ps.getLast? = some p → (∀ q ∈ ps, t < q.1) → programValue ps t = p.2) ∧
    programValue [] t = 0) ∧
  ∀ (s : State) (n : Axis) (old : List (Nat × Nat)) (put : List (Nat × Nat) → State), settable s →
    ListsOrdered s → old = (s.cfg.axes.get n).program →
    (∀ ps, put ps = (setting s fun c => { c with
        axes := c.axes.modify n fun d => { d with program := ps } }).modAxis n
      fun a => { a with program := programValue ps s.clock.noticed }) →
    (∀ t v, timeOk t → v ≤ 600 → (∃ p ∈ old, p.1 = secs t) ∨ old.length < 8 →
      ∃ ps, exec (.axisProgram n.val t v) s = replies (put ps) .ok ∧
        (ps.Pairwise fun x y => x.1 < y.1) ∧
        ∀ p, p ∈ ps ↔ (p ∈ old ∧ p.1 ≠ secs t) ∨ p = (secs t, v)) ∧
    (∀ t v, timeOk t → v ≤ 600 → (∀ p ∈ old, p.1 ≠ secs t) → old.length = 8 →
      exec (.axisProgram n.val t v) s = replies s (.no .full)) ∧
    (∀ t v, ¬ timeOk t ∨ 600 < v → exec (.axisProgram n.val t v) s = replies s (.no .range)) ∧
    (∀ t, timeOk t → (∃ p ∈ old, p.1 = secs t) → exec (.axisProgramDrop n.val t) s =
      replies (put (old.filter fun p => p.1 != secs t)) .ok) ∧
    (∀ t, timeOk t → (∀ p ∈ old, p.1 ≠ secs t) →
      exec (.axisProgramDrop n.val t) s = replies s (.no .unknown)) ∧
    exec (.axisProgramNone n.val) s = replies (put []) .ok

/-- The settings and live cues of an axis (R161, R166, R169): the speed override clamps, a stall is
cleared only with the channel returned, the direction is taken at rest, and each definition is refused
outside its range. -/
def Obligations.AxisSettings : Prop :=
  ∀ (s : State) (n : Axis) (a : AxisRun) (put : (AxisDef → AxisDef) → State), a = s.axes.get n →
    (∀ f, put f = setting s fun c => { c with axes := c.axes.modify n f }) →
    (∀ v, takes s → exec (.axisSpeed n.val v) s =
      replies (s.withAxes (s.axes.set n { a with override := some (min v 600) }))
        (okOr (decide (600 < v)))) ∧
    (takes s → exec (.axisFree n.val) s =
      replies (s.withAxes (s.axes.set n { a with override := none })) .ok) ∧
    (takes s → a.state = .stalled → (s.channels.get (axisChannel n)).state ≠ .cut →
      exec (.axisClear n.val) s = replies (s.withAxes (s.axes.set n { a with
        state := if s.halt then .halted else .stopped, cause := none, target := 0 })) .ok) ∧
    (takes s → a.state = .stalled → (s.channels.get (axisChannel n)).state = .cut →
      exec (.axisClear n.val) s = replies s (.no .cut)) ∧
    (takes s → a.state ≠ .stalled → exec (.axisClear n.val) s = replies s (.no .state)) ∧
    (∀ p, settable s → a.state = .stopped ∨ a.state = .stalled ∨ a.state = .halted →
      exec (.axisDirection n.val p) s = replies (put fun d => { d with direction := p }) .ok) ∧
    (∀ p, settable s → a.state = .starting ∨ a.state = .running ∨ a.state = .stopping →
      exec (.axisDirection n.val p) s = replies s (.no .state)) ∧
    (∀ g, settable s → 1 ≤ g → g ≤ 64 →
      exec (.axisGain n.val g) s = replies (put fun d => { d with gain := g }) .ok) ∧
    (∀ k, settable s → k ≤ 255 →
      exec (.axisKick n.val k) s = replies (put fun d => { d with kick := k }) .ok) ∧
    (∀ k, settable s → 1 ≤ k → k ≤ 255 →
      exec (.axisMaxduty n.val k) s = replies (put fun d => { d with maxDuty := k }) .ok) ∧
    (∀ ms, settable s → 500 ≤ ms → ms ≤ 30000 →
      exec (.axisStall n.val ms) s = replies (put fun d => { d with stallLimit := ms }) .ok) ∧
    (∀ w, settable s → 1 ≤ w → w ≤ 600 →
      exec (.axisSlew n.val w) s = replies (put fun d => { d with slew := w }) .ok) ∧
    (∀ v, takes s →
      (v = 0 ∨ 64 < v → exec (.axisGain n.val v) s = replies s (.no .range)) ∧
      (255 < v → exec (.axisKick n.val v) s = replies s (.no .range)) ∧
      (v = 0 ∨ 255 < v → exec (.axisMaxduty n.val v) s = replies s (.no .range)) ∧
      (v < 500 ∨ 30000 < v → exec (.axisStall n.val v) s = replies s (.no .range)) ∧
      (v = 0 ∨ 600 < v → exec (.axisSlew n.val v) s = replies s (.no .range)))

/-- An update tick (R161, R162): none before `#READY`; else the effective target slews toward the commanded
speed, which the axis limit halves, the axis starts or stops, and its duty is sent. Index events and timers
(R163 to R165): the first index runs a started figure, the next ones measure it and correct its duty, a
changed duty is sent at once; the stall timer stalls the axis with its report, the stop timer brings it to
rest. Log 5: the expiry of a stall or stop timer that is not running changes nothing. Log 22: with no last
index the speed is a free value within its range. Log 51: an index in STOPPING measures from a stamp recorded
before the start too. -/
def Obligations.AxisEvents : Prop :=
  (∀ (s : State) (n : Axis) (a b : AxisRun) (d : AxisDef) (cue cmd step goal : Nat), runs s →
    a = s.axes.get n → d = s.cfg.axes.get n → cue = a.override.getD a.program →
    cmd = (if s.account.level = .axesLimited ∨ s.account.level = .departuresHeld then cue / 2
      else cue) →
    step = max 1 (d.slew / 10) →
    goal = (if a.target < cmd then min (a.target + step) cmd else max (a.target - step) cmd) →
    (s.sys.ready = false → exec (.updateTick n) s = acts s) ∧
    (s.sys.ready = true →
      b = (match a.state with
        | .stalled | .halted => { a with target := 0 }
        | .stopped =>
          if 0 < goal then
            { a with target := goal, state := .starting, duty := d.kick, stallTimer := some d.stallLimit }
          else { a with target := 0 }
        | .starting | .running =>
          if goal = 0 then
            { a with target := 0, state := .stopping, duty := 0, stallTimer := none, stopTimer := true }
          else { a with target := goal }
        | .stopping => { a with target := goal }) →
      exec (.updateTick n) s =
        acts (dutyRequest (axisChannel n) ⟨b.duty, d.direction⟩ (s.withAxes (s.axes.set n b))))) ∧
  ∀ (s : State) (n : Axis) (a : AxisRun) (d : AxisDef), a = s.axes.get n → d = s.cfg.axes.get n →
    (∀ stamp, ∃ b : AxisRun, (indexEvent n stamp s).axes = s.axes.set n b ∧
      (indexEvent n stamp s).channels = (if b.duty = a.duty then s.channels
        else (dutyRequest (axisChannel n) ⟨b.duty, d.direction⟩ s).channels) ∧
      (a.state = .stopped ∨ a.state = .stalled ∨ a.state = .halted →
        b = { a with last := some stamp }) ∧
      (a.state = .starting → b = { a with
        state := .running, duty := min d.kick d.maxDuty, stallTimer := some d.stallLimit
        last := some stamp }) ∧
      (∀ l m, a.last = some l → m = 600000 / max 100 ((stamp + 4294967296 - l) % 4294967296) →
        (a.state = .stopping → b = { a with
          measured := m, stopTimer := true, last := some stamp }) ∧
        (a.state = .running → b = { a with
          measured := m, stallTimer := some d.stallLimit, last := some stamp
          duty := min d.maxDuty
            ((a.duty : Int) + (((a.target : Int) - (m : Int)) * (d.gain : Int)).tdiv 256).toNat })) ∧
      (a.last = none → a.state = .stopping ∨ a.state = .running →
        b.measured ≤ 6000 ∧ b.last = some stamp ∧ b.state = a.state)) ∧
    (runs s → a.stallTimer = none → exec (.stallTimer n) s = acts s) ∧
    (runs s → a.stallTimer ≠ none → exec (.stallTimer n) s =
      acts ((dutyRequest (axisChannel n) ⟨0, d.direction⟩ (s.withAxes (s.axes.set n { a with
        state := .stalled, cause := some .index, duty := 0, measured := 0
        stallTimer := none }))).raise (.stall n))) ∧
    (runs s → a.stopTimer = true → exec (.stopTimer n) s = acts (s.withAxes (s.axes.set n { a with
      state := .stopped, measured := 0, stopTimer := false }))) ∧
    (runs s → a.stopTimer = false → exec (.stopTimer n) s = acts s)


/-! ## The load budget (chapter 10) -/

/-- A budget evaluation (R172 to R175): none before `#READY`; else the terms, the scale, the total and the
pressure level as the tables give them, a recompose when the scale has changed and a report when the level
has. -/
def Obligations.BudgetEvaluations : Prop :=
  ∀ (s : State) (motion fixed demand avail target scale total : Nat), runs s →
    motion = ((ids 24).map fun c => (s.sense.slots.get c).getD 0).sum →
    fixed = s.sky.sums.claimed * s.cfg.lampRating / 255 →
    demand = (s.sky.sums.lamp * s.cfg.lampRating + s.sky.sums.flood * s.cfg.floodRating) / 255 →
    avail = s.cfg.ceiling - (motion + fixed) →
    target = (if demand ≤ avail then 256 else max 64 (avail * 256 / demand)) →
    scale = (if target < s.account.scale then target else min (s.account.scale + 16) target) →
    total = motion + fixed + demand * scale / 256 →
    (s.sys.ready = false → exec .budgetEvaluation s = acts s) ∧
    (s.sys.ready = true → ∃ (b : Account) (u : State), exec .budgetEvaluation s =
        acts (if b.level = s.account.level then u else u.raise (.budget b.level)) ∧
      u = (if scale = s.account.scale then s.withAccount b else requestRecompose (s.withAccount b)) ∧
      b.scale = scale ∧ b.target = target ∧ b.motion = motion ∧ b.fixed = fixed ∧
      b.demand = demand ∧ b.total = total ∧
      (b.level ≠ s.account.level → b.overCount = 0 ∧ b.underCount = 0) ∧
      (s.account.level = .normal → b.level = if scale < 256 then .dimming else .normal) ∧
      (s.account.level = .dimming → b.level =
        if scale = 64 ∧ s.cfg.ceiling < total then .axesLimited
        else if scale = 256 then .normal else .dimming) ∧
      (s.account.level = .axesLimited → s.cfg.ceiling < total →
        (2 ≤ s.account.overCount → b.level = .departuresHeld) ∧
        (s.account.overCount < 2 → b.level = .axesLimited ∧
          b.overCount = s.account.overCount + 1 ∧ b.underCount = 0)) ∧
      (s.account.level = .axesLimited → total ≤ s.cfg.ceiling → total * 10 ≤ s.cfg.ceiling * 9 →
        (9 ≤ s.account.underCount → b.level = .dimming) ∧
        (s.account.underCount < 9 → b.level = .axesLimited ∧
          b.underCount = s.account.underCount + 1 ∧ b.overCount = 0)) ∧
      (s.account.level = .axesLimited → total ≤ s.cfg.ceiling → s.cfg.ceiling * 9 < total * 10 →
        b.level = .axesLimited ∧ b.overCount = 0 ∧ b.underCount = 0) ∧
      (s.account.level = .departuresHeld → total * 10 ≤ s.cfg.ceiling * 9 →
        (9 ≤ s.account.underCount → b.level = .axesLimited) ∧
        (s.account.underCount < 9 → b.level = .departuresHeld ∧
          b.underCount = s.account.underCount + 1)) ∧
      (s.account.level = .departuresHeld → s.cfg.ceiling * 9 < total * 10 →
        b.level = .departuresHeld ∧ b.underCount = 0))

/-- The settings of the budget (R177, R178): the ceiling clamps and rises only at rest, a rating is refused
outside its range. The windows of the fixture map (R189): a window within its ranges that overlaps no other is
set, one that overlaps is refused, and window 0 and fields out of range are refused. Window 0 is the 192 lamps
at fixture 0, and no window above 7 is set. -/
def Obligations.BudgetAndMapLines : Prop :=
  (∀ s : State,
    (∀ n v, settable s → v = max 500 (min 20000 n) →
      (v ≤ s.cfg.ceiling ∨ ((∀ k, (s.trains.get k).speed = 0) ∧
        ∀ k, (s.axes.get k).state ≠ .starting ∧ (s.axes.get k).state ≠ .running) →
        exec (.budgetCeiling n) s =
          replies (setting s fun c => { c with ceiling := v }) (okOr (decide (v ≠ n)))) ∧
      (s.cfg.ceiling < v → (∃ k, (s.trains.get k).speed ≠ 0) ∨
        (∃ k, (s.axes.get k).state = .starting ∨ (s.axes.get k).state = .running) →
        exec (.budgetCeiling n) s = replies s (.no .motion))) ∧
    (∀ v, settable s → 1 ≤ v → v ≤ 100 →
      exec (.budgetLamp v) s = replies (setting s fun c => { c with lampRating := v }) .ok) ∧
    (∀ v, settable s → 10 ≤ v → v ≤ 3000 →
      exec (.budgetFlood v) s = replies (setting s fun c => { c with floodRating := v }) .ok) ∧
    (∀ v, takes s → (v = 0 ∨ 100 < v → exec (.budgetLamp v) s = replies s (.no .range)) ∧
      (v < 10 ∨ 3000 < v → exec (.budgetFlood v) s = replies s (.no .range)))) ∧
  (∀ c : Scene, c.window 0 = some ⟨0, 192, .lamp, 0⟩ ∧
    (∀ i : Fin 7, c.window (i.val + 1) = c.windows.get i) ∧ ∀ w, 7 < w → c.window w = none) ∧
  ∀ (s : State) (i : Fin 7),
    (∀ base count kind first, settable s → base ≤ 1023 → 1 ≤ count → count ≤ 192 →
      base + count ≤ 1024 →
      first + count ≤ (match kind with | .lamp => 192 | .flood => 6 | .axis => 4) →
      ((∀ v x, v ≠ i.val + 1 → s.cfg.window v = some x →
          base + count ≤ x.base ∨ x.base + x.count ≤ base) →
        exec (.mapDefine (i.val + 1) base count kind first) s = replies (setting s fun c => { c with
          windows := c.windows.set i (some ⟨base, count, kind, first⟩) }) .ok) ∧
      (∀ v x, v ≠ i.val + 1 → s.cfg.window v = some x → base < x.base + x.count →
        x.base < base + count →
        exec (.mapDefine (i.val + 1) base count kind first) s = replies s (.no .conflict))) ∧
    (∀ w base count kind first, takes s →
      w = 0 ∨ 7 < w ∨ 1023 < base ∨ count = 0 ∨ 192 < count ∨ 1024 < base + count ∨
        (match kind with | .lamp => 192 | .flood => 6 | .axis => 4) < first + count →
      exec (.mapDefine w base count kind first) s = replies s (.no .range)) ∧
    (settable s → exec (.mapNone (i.val + 1)) s =
      replies (setting s fun c => { c with windows := c.windows.set i none }) .ok) ∧
    (∀ w, takes s → w = 0 ∨ 7 < w → exec (.mapNone w) s = replies s (.no .range))

/-! ## The command line (chapter 11) -/


/-- Fixture commands (R189, R190): a fixture reaches the element of the window it lies in; `SET` and `FREE` act
on a lamp as its `LEVEL` and `FREE`, on an axis as its `SPEED` and `FREE`, on a flood through its override, and
on an unmapped fixture change nothing. Log 15: on an unmapped fixture too an expiry out of range is refused with
`NO RANGE`. Log 56: `FREE` on a lamp or flood without an override asks for no recompose. The element of a kind
and a number is the lamp, flood or axis of that number. -/
def Obligations.FixtureLines : Prop :=
  ((∀ i : LampId, elementOf .lamp i.val = some (.lamp i)) ∧
    (∀ i : FloodId, elementOf .flood i.val = some (.flood i)) ∧
    ∀ n : Axis, elementOf .axis n.val = some (.axis n)) ∧
  (∀ (c : Scene) (f w : Nat) (d : Window), c.window w = some d →
    d.base ≤ f → f < d.base + d.count →
    (∀ v x, v ≠ w → c.window v = some x → f < x.base ∨ x.base + x.count ≤ f) →
    c.fixture f = elementOf d.kind (d.first + (f - d.base))) ∧
  (∀ (c : Scene) (f : Nat), (∀ v x, c.window v = some x → f < x.base ∨ x.base + x.count ≤ f) →
    c.fixture f = none) ∧
  ∀ (s : State) (f v : Nat), takes s →
    (1023 < f → ∀ u, exec (.set f v u) s = replies s (.no .range) ∧
      exec (.free f) s = replies s (.no .range)) ∧
    (f ≤ 1023 →
      (∀ i : LampId, s.cfg.fixture f = some (.lamp i) →
        exec (.free f) s = exec (.lampFree i.val) s ∧
        ∀ u, exec (.set f v u) s = exec (.lampLevel i.val v u) s) ∧
      (∀ n : Axis, s.cfg.fixture f = some (.axis n) →
        exec (.set f v none) s = exec (.axisSpeed n.val v) s ∧
        exec (.free f) s = exec (.axisFree n.val) s ∧
        ∀ t, exec (.set f v (some t)) s = replies s (.no .syntaxErr)) ∧
      (∀ i : FloodId, s.cfg.fixture f = some (.flood i) →
        exec (.set f v none) s =
          replies (requestRecompose (s.withSky { s.sky with
            floods := s.sky.floods.set i (some ⟨min v 255, none⟩) })) (okOr (decide (255 < v))) ∧
        (∀ t, timeOk t → exec (.set f v (some t)) s =
          replies (requestRecompose (s.withSky { s.sky with
            floods := s.sky.floods.set i (some ⟨min v 255, some (secs t)⟩) }))
            (okOr (decide (255 < v)))) ∧
        (∀ t, ¬ timeOk t → exec (.set f v (some t)) s = replies s (.no .range)) ∧
        exec (.free f) s = (if s.sky.floods.get i = none then replies s .ok
          else replies (requestRecompose (s.withSky { s.sky with
            floods := s.sky.floods.set i none })) .ok)) ∧
      (s.cfg.fixture f = none →
        exec (.free f) s = replies s .nomap ∧ exec (.set f v none) s = replies s .nomap ∧
        (∀ t, timeOk t → exec (.set f v (some t)) s = replies s .nomap) ∧
        ∀ t, ¬ timeOk t → exec (.set f v (some t)) s = replies s (.no .range)))

/-- A command sent as the characters of its line (R182 to R184): a printable line of at most 96 characters
that is not empty, sent to an idle receiver with a free slot, A or else B, and ended by CR or LF, is held in
the slot with the answer of its block, and the block's change is made. A long line and a bad line are refused,
a line of blanks leaves no trace, and an LF right after a CR ends nothing; before `#READY` every line but
`STATUS` is answered `NO START`. With no slot EMPTY the characters of a line go nowhere, and its end counts it in
the marker at the tail of the reply order, or in a new one where there is none or its count is 65535. The model's
choices: slot A is taken when both are EMPTY (log 11), a CR or LF with a framing error ends no line (log 13), and a
line is taken at its terminator (log 41).

Which lines are refused, and why (R184, R185): spaces and tabs part a line into its tokens, read in capitals, and
the tokens decide. A line is taken as command `i` where they are those of `i`, its numbers of 1 to 9 digits with any
zeros before them, its scene times as section 1.4 writes them. It is `NO UNKNOWN` where its verb is not in the
index, or its second token none of those R5, R43, R90 and R177 list. A keyword that is not known, one in place of
those the form needs (`StandsNear`) or one that selects no form (`SelectsNone`), is answered `NO UNKNOWN`, or with
the `RANGE`, `BUSY` or `LAYOUT` of the form its line stands nearest to (logs 14, 15). Every other line is
`NO SYNTAX`, so also every line with a run of more than 9 digits after its verb, unless that run is the token of a
train's name (log 54) or the line is `NO UNKNOWN` for its verb or second token (log 55). -/
def Obligations.ReceivedLines : Prop :=
  (∀ s : State, takes s →
    (∀ (b : Bool) (e : BitVec 8) (cs : List Char) (i : Instr), s.line.rx = .idle →
      (b = false ∧ s.line.slotA = .empty) ∨
        (b = true ∧ s.line.slotA ≠ .empty ∧ s.line.slotB = .empty) →
      e = 13 ∨ e = 10 →
      (∀ c ∈ cs, 32 ≤ c.toNat ∧ c.toNat ≤ 126) → (∃ c ∈ cs, c ≠ ' ') → cs.length ≤ 96 →
      parseLine cs = .line i → ∃ t u : State, feed cs s = t ∧ t = s.withLine t.line ∧
        u = t.withLine { t.line with rx := .idle, afterCr := decide (e = 13) } ∧
        exec (.receiveCharacter e false) t = acts ((takeCommand i u).1.withLine
          ((takeCommand i u).1.line.setSlot b
            (.held ⟨cs, false, false, false⟩ (some (takeCommand i u).2))))) ∧
    (∀ (b : Bool) (e : BitVec 8) (x : Line) (u : State) (r : Reply), ends s e → s.line.rx = .slot b →
      s.line.slot b = .receiving x → x.blank = false →
      u = s.withLine { s.line with rx := .idle, afterCr := decide (e = 13) } →
      (x.long = true ∧ r = .no .long) ∨ (x.long = false ∧ x.bad = true ∧ r = .no .syntaxErr) ∨
        (∃ w, x.long = false ∧ x.bad = false ∧ parseLine x.chars = .refused w ∧ r = .no w) ∨
        (∃ i, x.long = false ∧ x.bad = false ∧ parseLine x.chars = .unknownIn i ∧
          ((∃ w, (w = .range ∨ w = .busy ∨ w = .layout) ∧ (takeCommand i u).2 = .no w ∧ r = .no w) ∨
            ((∀ w, (w = .range ∨ w = .busy ∨ w = .layout) → (takeCommand i u).2 ≠ .no w) ∧
              r = .no .unknown))) →
      exec (.receiveCharacter e false) s =
        acts (u.withLine (u.line.setSlot b (.held x (some r))))) ∧
    (∀ (b : Bool) (e : BitVec 8) (x : Line) (u : State), ends s e → s.line.rx = .slot b →
      s.line.slot b = .receiving x → x.blank = true → u = s.withLine { s.line with
        rx := .idle, afterCr := decide (e = 13), order := s.line.order.erase (.slot b) } →
      exec (.receiveCharacter e false) s = acts (u.withLine (u.line.setSlot b .empty))) ∧
    (∀ (b : Bool) (x : Line) (c : BitVec 8) (fe : Bool) (u : State), s.line.rx = .slot b →
      s.line.slot b = .receiving x → fe = true ∨ (c ≠ 13 ∧ c ≠ 10) →
      u = s.withLine { s.line with afterCr := false } →
      ∃ y : Line, exec (.receiveCharacter c fe) s =
          acts (u.withLine (u.line.setSlot b (.receiving y))) ∧
        (x.chars.length < 96 → y.chars = x.chars ++ [Char.ofNat c.toNat] ∧ y.long = x.long) ∧
        (96 ≤ x.chars.length → y.chars = x.chars ∧ y.long = true) ∧
        (y.bad = true ↔ x.bad = true ∨ fe = true ∨ (c ≠ 9 ∧ (c.toNat < 32 ∨ 126 < c.toNat))) ∧
        (y.blank = true ↔ x.blank = true ∧ fe = false ∧ (c = 32 ∨ c = 9))) ∧
    (s.line.afterCr = true → exec (.receiveCharacter 10 false) s =
      acts (s.withLine { s.line with afterCr := false }))) ∧
  (∀ (s u : State) (b : Bool) (e : BitVec 8) (x : Line) (r : Reply), runs s → s.line.closed = false →
    s.sys.ready = false → ends s e → s.line.rx = .slot b → s.line.slot b = .receiving x → x.blank = false →
    u = s.withLine { s.line with rx := .idle, afterCr := decide (e = 13) } →
    (x.long = true ∧ r = .no .long) ∨ (x.long = false ∧ x.bad = true ∧ r = .no .syntaxErr) ∨
      (∃ v ws, x.long = false ∧ x.bad = false ∧ lineTokens x.chars = v :: ws ∧
        ((v ≠ "STATUS".toList ∧ r = .no .start) ∨
          (v = "STATUS".toList ∧ ws ≠ [] ∧ r = .no .syntaxErr) ∨
          (v = "STATUS".toList ∧ ws = [] ∧ r = (takeCommand .status u).2))) →
    exec (.receiveCharacter e false) s =
      acts (u.withLine (u.line.setSlot b (.held x (some r))))) ∧
  (∀ (cs : List Char) (ts : List (List Char)), SpacedOut cs ts →
    lineTokens cs = ts.map fun t => t.map Char.toUpper) ∧
  (∀ (cs v : List Char) (ws : List (List Char)), lineTokens cs = v :: ws →
    (∀ i, parseLine cs = .line i ↔ IsLineOf (v :: ws) i) ∧
    (parseLine cs = .refused .unknown ↔ NotKnown v ws) ∧
    (∀ i, parseLine cs = .unknownIn i → StandsNear (v :: ws) i ∨ SelectsNone (v :: ws) i) ∧
    (∀ i, StandsNear (v :: ws) i → (∀ j, parseLine cs ≠ .line j) →
      ∃ j, parseLine cs = .unknownIn j ∧ StandsNear (v :: ws) j) ∧
    (∀ i, SelectsNone (v :: ws) i → parseLine cs = .unknownIn i) ∧
    (∀ w, parseLine cs = .refused w → w = .unknown ∨ w = .syntaxErr) ∧
    ((∃ t ∈ ws, LongRun t) → ¬ NotKnown v ws →
      parseLine cs = .refused .syntaxErr ∨ ∃ n name, parseLine cs = .line (.trainName n name))) ∧
  ∀ s : State, runs s →
    (∀ c : BitVec 8, s.line.rx = .idle → s.line.slotA ≠ .empty → s.line.slotB ≠ .empty →
      c ≠ 13 → c ≠ 10 → exec (.receiveCharacter c false) s = acts (s.withLine { s.line with
        afterCr := false, rx := .overrun (decide (c = 32 ∨ c = 9)) })) ∧
    (∀ (c : BitVec 8) (b : Bool), s.line.rx = .overrun b → c ≠ 13 → c ≠ 10 →
      exec (.receiveCharacter c false) s = acts (s.withLine { s.line with
        afterCr := false, rx := .overrun (b && decide (c = 32 ∨ c = 9)) })) ∧
    ∀ e : BitVec 8, ends s e →
      (∀ es k, s.line.rx = .overrun false → s.line.order = es ++ [.overrun k] → k < 65535 →
        exec (.receiveCharacter e false) s = acts (s.withLine { s.line with
          afterCr := decide (e = 13), rx := .idle, order := es ++ [.overrun (k + 1)] })) ∧
      (s.line.rx = .overrun false → (∀ es k, s.line.order = es ++ [.overrun k] → 65535 ≤ k) →
        exec (.receiveCharacter e false) s = acts (s.withLine { s.line with
          afterCr := decide (e = 13), rx := .idle, order := s.line.order ++ [.overrun 1] })) ∧
      (s.line.rx = .overrun true → exec (.receiveCharacter e false) s = acts (s.withLine { s.line with
        afterCr := decide (e = 13), rx := .idle }))


/-- The end of a written line (R183, R187): a written reply leaves the order and frees its slot, an overrun
marker loses one, a report sets which came last. Then the transmitter takes the only line ready, or the kind
it did not write last, the reply first, and DE is released for a character time before it (R181). TXD carries
the line's text and CR LF, and DE is asserted for just that many characters; the words of the replies and the
reasons are those of R185, and every other word, number, scene time and report is written as the chapters
spell it, a number in decimal digits without leading zeros. A report that leaves a queue which dropped some
sends `#DROPPED`. The `OK` of a `RESET` is followed by the device reset, at pin levels it does not give (log
26). Log 1: an answer may stand in the reply order without a slot. Log 5: the end of a line when none is being
written changes nothing. Reports (R188): before `#READY` a report is discarded; then it joins a queue of fewer
than 32, and a full queue counts it as dropped, up to 4294967295. -/
def Obligations.LinesWrittenAndReports : Prop :=
  ((∀ (s : State) (u : CommandLine), runs s → u = { s.line with writing := none } →
    (s.line.writing = none → exec .lineWritten s = acts s) ∧
    (∀ r, s.line.writing = some (.report r) →
      exec .lineWritten s = acts (s.withLine { u with lastReport := some true, gap := true })) ∧
    (s.line.writing = some (.reply .resetOk) →
      ∃ p : ResetPins, p.stop = s.sys.pins.stop ∧
        exec .lineWritten s = acts (deviceReset p (s.withFreeDraws (s.freeDraws + 1)))) ∧
    (∀ r es, r ≠ .resetOk → s.line.writing = some (.reply r) →
      (∀ b, s.line.order = .slot b :: es → exec .lineWritten s =
        acts (s.withLine ({ u with lastReport := some false, gap := true, order := es }.setSlot b .empty))) ∧
      (∀ d, s.line.order = .direct d :: es → exec .lineWritten s =
        acts (s.withLine { u with lastReport := some false, gap := true, order := es })) ∧
      (s.line.order = .overrun 1 :: es → exec .lineWritten s =
        acts (s.withLine { u with lastReport := some false, gap := true, order := es })) ∧
      (∀ k, 1 ≤ k → s.line.order = .overrun (k + 1) :: es → exec .lineWritten s =
        acts (s.withLine { u with lastReport := some false, gap := true, order := .overrun k :: es })))) ∧
  ∀ l : CommandLine,
    (l.writing ≠ none → l.offer = l) ∧
    (l.writing = none → l.headReply = none → l.reports = [] → l.offer = { l with gap := false }) ∧
    (∀ r, l.writing = none → l.headReply = some r → l.reports = [] ∨ l.lastReport ≠ some false →
      l.offer = { l with writing := some (.reply r) }) ∧
    (∀ p ps, l.writing = none → l.reports = p :: ps →
      l.headReply = none ∨ l.lastReport = some false →
      l.offer = { l with
        writing := some (.report p), dropped := 0
        reports := if 0 < l.dropped then ps ++ [.dropped l.dropped] else ps })) ∧
  ∀ (s : State) (r : Report),
    (s.sys.ready = false → s.raise r = s) ∧
    (s.sys.ready = true → s.line.reports.length < 32 →
      s.raise r = s.withLine { s.line with reports := s.line.reports ++ [r] }) ∧
    (s.sys.ready = true → 32 ≤ s.line.reports.length → s.line.dropped < 4294967295 →
      s.raise r = s.withLine { s.line with dropped := s.line.dropped + 1 }) ∧
    (s.sys.ready = true → 32 ≤ s.line.reports.length → s.line.dropped = 4294967295 → s.raise r = s) ∧
    (runs s →
      (s.line.writing = none → txdText s = [] ∧ ∀ k, deOut s k = false) ∧
      (∀ a, s.line.writing = some (.reply a) → txdText s = a.text ++ ['\r', '\n']) ∧
      (∀ a, s.line.writing = some (.report a) → txdText s = a.text ++ ['\r', '\n']) ∧
      ∀ k, deOut s k = true ↔
        (if s.line.gap then 1 else 0) ≤ k ∧ k < (if s.line.gap then 1 else 0) + (txdText s).length) ∧
    [Reply.ok, .resetOk, .clamped, .nomap].map Reply.text =
      ["OK".toList, "OK".toList, "OK CLAMPED".toList, "OK NOMAP".toList] ∧
    (∀ xs, Reply.text (.data xs) = "OK".toList ++ xs.flatMap fun x => ' ' :: x.text) ∧
    (∀ a, Reply.text (.no a) = "NO ".toList ++ a.text) ∧
    ([Reason.syntaxErr, .range, .unknown, .full, .conflict, .path, .layout, .state, .busy, .motion, .stopped,
      .cut, .long, .overrun, .start].map Reason.text =
      ["SYNTAX", "RANGE", "UNKNOWN", "FULL", "CONFLICT", "PATH", "LAYOUT", "STATE", "BUSY", "MOTION", "STOPPED",
        "CUT", "LONG", "OVERRUN", "START"].map String.toList) ∧
    (∀ ks : List Kw, ks = [
        .clock, .run, .hold, .set, .rate, .start, .key, .linear, .step, .g, .none, .drop, .list, .group,
        .dimmed, .soft, .hard, .switched, .lamp, .stagger, .to, .level, .until, .free, .bright, .scan,
        .normal, .allOn, .allOff, .walk, .matrix, .divider, .rows, .cols, .reversed, .flood, .source, .skyRed,
        .skyGreen, .skyBlue, .ambient, .bridge, .pwm, .sense, .on, .off, .trip, .restore, .stop, .resume,
        .threshold, .input, .mark, .index, .filter, .sectionW, .length, .a, .b, .buffer, .turnout, .legs,
        .throw, .reverse, .pulse, .position, .crossing, .lamps, .flash, .lead, .bell, .tone, .quiet, .unit,
        .train, .place, .lift, .find, .go, .park, .cab, .fwd, .rev, .name, .table, .ramp, .creep, .home,
        .cabtime, .service, .route, .add, .loop, .timetable, .autorun, .axis, .program, .speed, .clear,
        .direction, .gain, .kick, .maxduty, .stall, .slew, .plus, .minus, .budget, .ceiling, .map, .get,
        .status, .save, .erase, .reset, .running, .held, .light, .dark, .settled, .unsettled, .override,
        .claim, .duty, .staged, .driving, .dead, .cut, .ma, .occupied, .active, .inactive, .stuck, .last,
        .defW, .join, .leg, .trunk, .unknown, .moving, .queued, .idle, .phase, .warning, .protectedW,
        .sounding, .silent, .holder, .wait, .openW, .blocked, .reason, .head, .target, .auth, .unplaced,
        .parked, .waiting, .stopping, .dwelling, .halted, .lost, .faulted, .authority, .deadlock, .stopped,
        .starting, .stalled, .cause, .cmd, .meas, .dir, .max, .scale, .motion, .fixed, .demand, .total, .over,
        .under, .dimming, .axesLimited, .departuresHeld, .sw2460, .ready, .time, .halt, .store, .line, .latch,
        .valid, .invalid, .saving, .erasing, .trains] →
      (∀ k, k ∈ ks) ∧ ks.map Kw.text = [
        "CLOCK", "RUN", "HOLD", "SET", "RATE", "START", "KEY", "LINEAR", "STEP", "G", "NONE", "DROP", "LIST",
        "GROUP", "DIMMED", "SOFT", "HARD", "SWITCHED", "LAMP", "STAGGER", "TO", "LEVEL", "UNTIL", "FREE",
        "BRIGHT", "SCAN", "NORMAL", "ALL_ON", "ALL_OFF", "WALK", "MATRIX", "DIVIDER", "ROWS", "COLS",
        "REVERSED", "FLOOD", "SOURCE", "SKY_RED", "SKY_GREEN", "SKY_BLUE", "AMBIENT", "BRIDGE", "PWM",
        "SENSE", "ON", "OFF", "TRIP", "RESTORE", "STOP", "RESUME", "THRESHOLD", "INPUT", "MARK", "INDEX",
        "FILTER", "SECTION", "LENGTH", "A", "B", "BUFFER", "TURNOUT", "LEGS", "THROW", "REVERSE", "PULSE",
        "POSITION", "CROSSING", "LAMPS", "FLASH", "LEAD", "BELL", "TONE", "QUIET", "UNIT", "TRAIN", "PLACE",
        "LIFT", "FIND", "GO", "PARK", "CAB", "FWD", "REV", "NAME", "TABLE", "RAMP", "CREEP", "HOME",
        "CABTIME", "SERVICE", "ROUTE", "ADD", "LOOP", "TIMETABLE", "AUTORUN", "AXIS", "PROGRAM", "SPEED",
        "CLEAR", "DIRECTION", "GAIN", "KICK", "MAXDUTY", "STALL", "SLEW", "+", "-", "BUDGET", "CEILING",
        "MAP", "GET", "STATUS", "SAVE", "ERASE", "RESET", "RUNNING", "HELD", "LIGHT", "DARK", "SETTLED",
        "UNSETTLED", "OVERRIDE", "CLAIM", "DUTY", "STAGED", "DRIVING", "DEAD", "CUT", "MA", "OCCUPIED",
        "ACTIVE", "INACTIVE", "STUCK", "LAST", "DEF", "JOIN", "LEG", "TRUNK", "UNKNOWN", "MOVING", "QUEUED",
        "IDLE", "PHASE", "WARNING", "PROTECTED", "SOUNDING", "SILENT", "HOLDER", "WAIT", "OPEN", "BLOCKED",
        "REASON", "HEAD", "TARGET", "AUTH", "UNPLACED", "PARKED", "WAITING", "STOPPING", "DWELLING", "HALTED",
        "LOST", "FAULTED", "AUTHORITY", "DEADLOCK", "STOPPED", "STARTING", "STALLED", "CAUSE", "CMD", "MEAS",
        "DIR", "MAX", "SCALE", "MOTION", "FIXED", "DEMAND", "TOTAL", "OVER", "UNDER", "DIMMING",
        "AXES_LIMITED", "DEPARTURES_HELD", "SW2460", "READY", "TIME", "HALT", "STORE", "LINE", "LATCH",
        "VALID", "INVALID", "SAVING", "ERASING", "TRAINS"].map String.toList) ∧
    (∀ k, Tok.text (.word k) = k.text) ∧ (∀ cs, Tok.text (.name cs) = cs) ∧
    (∀ n, Tok.text (.num n) = Nat.toDigits 10 n) ∧
    (∀ n : Nat, Tok.text (.int n) = Nat.toDigits 10 n) ∧
    (∀ n : Nat, 0 < n → Tok.text (.int (-n)) = '-' :: Nat.toDigits 10 n) ∧
    (∀ (h m x : Nat) (two : Nat → List Char), h ≤ 23 → m ≤ 59 → x ≤ 59 →
      (∀ k, two k = [Nat.digitChar (k / 10), Nat.digitChar (k % 10)]) →
      Tok.text (.time (h * 3600 + m * 60 + x)) = two h ++ ':' :: two m ++ ':' :: two x) ∧
    [Report.ready, .haltLine, .haltCommand, .stopReleased, .saved, .erased].map Report.text =
      ["#READY", "#HALT LINE", "#HALT COMMAND", "#STOP RELEASED", "#SAVED", "#ERASED"].map String.toList ∧
    [Pressure.normal, .dimming, .axesLimited, .departuresHeld].map (fun a => Report.text (.budget a)) =
      ["#BUDGET NORMAL", "#BUDGET DIMMING", "#BUDGET AXES_LIMITED", "#BUDGET DEPARTURES_HELD"].map
        String.toList ∧
    ∀ num : Nat → List Char, (∀ n, num n = ' ' :: Nat.toDigits 10 n) →
      (∀ (k : Channel) mA, Report.text (.trip k mA) = "#TRIP".toList ++ num k ++ num mA) ∧
      (∀ (i : InputId) (m : MarkId), i.val = m.val →
        Report.text (.stuck i) = "#MARK".toList ++ num m ++ " STUCK".toList ∧
        Report.text (.released i) = "#MARK".toList ++ num m ++ " RELEASED".toList) ∧
      (∀ (i : InputId) (n : Axis), i.val = 16 + n.val →
        Report.text (.stuck i) = "#INDEX".toList ++ num n ++ " STUCK".toList ∧
        Report.text (.released i) = "#INDEX".toList ++ num n ++ " RELEASED".toList) ∧
      (∀ t, Report.text (.turnout t .normal) = "#TURNOUT".toList ++ num t ++ " NORMAL".toList ∧
        Report.text (.turnout t .reverse) = "#TURNOUT".toList ++ num t ++ " REVERSE".toList) ∧
      (∀ x, Report.text (.stray x) = "#STRAY".toList ++ num x) ∧
      (∀ m, Report.text (.strayMark m) = "#STRAY MARK".toList ++ num m) ∧
      (∀ n u h, Report.text (.deadlock n u h) = "#DEADLOCK".toList ++ num n ++ num u ++ num h) ∧
      (∀ n, Report.text (.markMiss n) = "#MARKMISS".toList ++ num n ∧
        Report.text (.lost n) = "#LOST".toList ++ num n ∧ Report.text (.cab n) = "#CAB".toList ++ num n) ∧
      (∀ n r, Report.text (.missed n r) = "#MISSED".toList ++ num n ++ num r) ∧
      (∀ n, Report.text (.stall n) = "#STALL".toList ++ num n) ∧
      ∀ k, Report.text (.skipped k) = "#SKIPPED".toList ++ num k ∧
        Report.text (.dropped k) = "#DROPPED".toList ++ num k


/-! ## The store and start-up (chapter 12) -/

/-- `SAVE` and `ERASE` and their completions, and `RESET` (R194 to R196). Log 31: what a cleared image holds is
the model's choice, so it is left open here. Log 5: the completion of a SAVE or ERASE that is not in flight
changes nothing. The configuration is busy exactly while a SAVE is in flight. -/
def Obligations.StoreLines : Prop :=
  ∀ s : State, (s.busy = true ↔ s.store.state = .saving) ∧
    (takes s → s.store.state = .valid ∨ s.store.state = .invalid →
      exec .save s = replies (s.withStore ⟨s.cfg, .saving⟩) .ok ∧
      exec .erase s = replies (s.withStore ⟨s.store.image, .erasing⟩) .ok) ∧
    (takes s → s.store.state = .saving ∨ s.store.state = .erasing →
      exec .save s = replies s (.no .busy) ∧ exec .erase s = replies s (.no .busy)) ∧
    (runs s → s.store.state = .saving →
      exec .saveComplete s = acts ((s.withStore ⟨s.store.image, .valid⟩).raise .saved)) ∧
    (runs s → s.store.state ≠ .saving → exec .saveComplete s = acts s) ∧
    (runs s → s.store.state = .erasing → ∃ image,
      exec .eraseComplete s = acts ((s.withStore ⟨image, .invalid⟩).raise .erased)) ∧
    (runs s → s.store.state ≠ .erasing → exec .eraseComplete s = acts s) ∧
    (takes s → exec .reset s = replies (s.withLine { s.line with closed := true }) .resetOk) ∧
    (∀ c, isLine c → s.line.closed = true → exec c s = .next s)

/-- The device reset and its sources (R192, R196): what it loads, and that it leaves no output on, no train
placed, no unit held, nothing queued, and the part in phase START with its settling timer running. Every
SWITCHED group is settled at the scene time set (R25, R196 step 4), and the first compose is in flight on it,
with no page ready and no request pending (R38, R44). The slots hold NONE (R72), the occupancy counts are 0
(R81), the inputs have no run, no stamp and are not stuck (R85; the first sample gives their level, log 24), and
the quiet flag is that of the scene time (R110). A start time set since the last device reset goes to the clock
in place of the loaded one (R8; log 43), and the configuration is as loaded. `POWER_ON` and `RST_RELEASE` carry
the pin levels the reset reads, and an RST sample that ends the hold gives none of the straps (log 26). Log 5:
`RST_RELEASE` while RST does not hold the part changes nothing. Log 44: a device reset starts the run of RST
samples afresh. The fields of the empty configuration, which is loaded where the store is not VALID, are those
the tables of the chapters give. The groups' settling is stated for thresholds as R20 bounds them. -/
def Obligations.DeviceResets : Prop :=
  (∀ c : Scene, c = Scene.empty →
    c.clockRate = 60 ∧ c.startTime = 0 ∧ c.keyframes = [] ∧ c.brightness = 16 ∧ c.scan = .normal ∧
    (∀ g, c.groups.get g = ⟨.dimmed, .linear, 64, 8, 255, 0⟩) ∧ (∀ i, c.lamps.get i = ⟨none, 0⟩) ∧
    c.divider = 1 ∧ c.rows = .normal ∧ c.cols = .normal ∧ (∀ f, c.floodSources.get f = .none) ∧
    (∀ k, c.bridge.get k = ⟨64, 4, true, 1500⟩) ∧ (∀ x, c.thresholds.get x = 6) ∧
    (∀ i, c.filters.get i = 3) ∧ (∀ x, c.sections.get x = none) ∧ (∀ k, c.turnouts.get k = none) ∧
    (∀ k, c.pulses.get k = 150) ∧ (∀ r, c.runs.get r = none) ∧ (∀ m, c.marks.get m = none) ∧
    (∀ k, c.crossings.get k = none) ∧ c.bellTone = 1200 ∧ c.quietWindow = none ∧
    (∀ (n : Train) (d : TrainDef), d = c.trains.get n → d.name = 'T' :: Nat.toDigits 10 n.val ∧
      d.length = 300 ∧ d.accel = 8 ∧ d.decel = 8 ∧ d.creep = 2 ∧ d.service = 12 ∧ d.home = none ∧
      d.cabTime = 3 ∧ ∀ k : Fin 32, d.table.get k = (8 * k.val, 10 * k.val)) ∧
    (∀ r, c.routes.get r = none) ∧ c.timetable = [] ∧ c.autorun = false ∧
    (∀ n, c.axes.get n = ⟨[], .plus, 16, 120, 200, 5000, 100⟩) ∧ c.ceiling = 4000 ∧ c.lampRating = 20 ∧
    c.floodRating = 500 ∧ ∀ w, c.windows.get w = none) ∧
  (∀ (s : State) (p : ResetPins), exec (.powerOn p) s = .next (deviceReset p s) ∧
    (s.sys.rstHeld = true → exec (.rstRelease p) s = .next (deviceReset p s)) ∧
    (s.sys.rstHeld = true → ∃ q : ResetPins, q.stop = s.sys.pins.stop ∧
      exec (.rstSample false) s = .next (deviceReset q (s.withFreeDraws (s.freeDraws + 1)))) ∧
    (s.sys.rstHeld = false → exec (.rstRelease p) s = .next s)) ∧
  (∀ s : State,
    exec .rstAssert s = .next (s.withSys { s.sys with rstHeld := true, rstRun := 0 }) ∧
    (s.sys.rstHeld = true → exec (.rstSample true) s = .next s) ∧
    (s.sys.rstHeld = false → s.sys.rstRun < 2 → exec (.rstSample true) s =
      .next (s.withSys { s.sys with rstRun := s.sys.rstRun + 1 })) ∧
    (s.sys.rstHeld = false → 2 ≤ s.sys.rstRun → exec (.rstSample true) s = exec .rstAssert s) ∧
    (s.sys.rstHeld = false → exec (.rstSample false) s =
      .next (s.withSys { s.sys with rstRun := 0 }))) ∧
  ∀ (s t : State) (p : ResetPins) (c : Scene) (now : Nat), t = deviceReset p s →
    c = (if s.store.state = .valid then s.store.image else Scene.empty) →
    now = s.nextStart.getD c.startTime →
    t.cfg = c ∧ t.nextStart = none ∧ t.store.image = s.store.image ∧
    t.store.state = (if s.store.state = .valid then .valid else .invalid) ∧
    t.clock = ⟨now, 0, c.autorun, now⟩ ∧
    t.halt = p.stop ∧ t.sys = ⟨false, true, false, 0, 0, p⟩ ∧
    t.stopc = ⟨p.stop, 0, p.stop⟩ ∧ t.pending = s.pending ∧
    (∀ k, t.channels.get k =
      ⟨.off, ⟨0, .plus⟩, none, false, false, (c.bridge.get k).res, (c.bridge.get k).prescale, 0⟩) ∧
    (∀ k, t.floods.get k = ⟨none, 0⟩) ∧
    (∀ k, t.matrix.shown.lamps.get k = 0 ∧ t.matrix.composing.lamps.get k = 0) ∧
    (∀ k, t.matrix.shown.floods.get k = 0 ∧ t.matrix.composing.floods.get k = 0) ∧
    t.matrix.ready = false ∧ t.matrix.pending = false ∧ t.matrix.frameDivider = c.divider ∧
    t.matrix.frameRows = c.rows ∧ t.matrix.frameCols = c.cols ∧
    (∀ n, t.trains.get n = ⟨.unplaced, .route, 0, .fwd, none, 0, 0, 0, 0, none, none, false, 0, none, none,
      (t.trains.get n).cabSince, [], [], none, false, false, none, []⟩) ∧ (∀ u, t.units.get u = ⟨none, []⟩) ∧
    (∀ k, t.crossings.get k = ⟨.idle, false, none, false⟩) ∧ (∀ k, t.driver.points.get k = none) ∧
    t.driver.queue = [] ∧ t.driver.pulse = none ∧ t.driver.recovery = false ∧
    t.sense.queue = [] ∧ t.sense.inflight = none ∧
    (∀ k, t.sense.held.get k = none ∧ t.sense.slots.get k = none) ∧
    (∀ x, t.sense.filters.get x = ⟨false, 0, 0⟩) ∧
    (∀ i f, f = t.inputs.get i → f.sampled = false ∧ f.run = 0 ∧ f.runStart = 0 ∧ f.stuck = false ∧
      f.last = none) ∧
    t.bell.sounding = false ∧ t.bell.output = false ∧ t.bell.halfPeriod = none ∧
    (t.bell.quiet = true ↔ ∃ f e, c.quietWindow = some (f, e) ∧
      if f < e then f ≤ now ∧ now < e else f ≤ now ∨ now < e) ∧
    (∀ n, t.axes.get n =
      ⟨if p.stop then .halted else .stopped, none, programValue (c.axes.get n).program now, none, 0, 0, none,
        0, none, false⟩) ∧
    t.account = ⟨256, 256, .normal, 0, 0, 0, 0, 0, 0⟩ ∧
    (ThresholdsInRange s → ∀ (g : GroupId) (d : GroupDef) (dir : Direction),
      d = c.groups.get g → d.kind = .switched →
      dir = (if skyValue c .ambient now < d.threshold then .dark else .light) →
      t.sky.groups.get g = ⟨dir, now, true⟩ ∧
      ∀ i, (c.lamps.get i).group = some g →
        (t.sky.lamps.get i).frozen = if dir = .dark then d.onLevel else 0) ∧
    (∀ i, (∀ g, (c.lamps.get i).group = some g → (c.groups.get g).kind = .dimmed) →
      (t.sky.lamps.get i).frozen = 0) ∧
    (∀ i, (t.sky.lamps.get i).override = none ∧ (t.sky.lamps.get i).claim = none) ∧
    (∀ i, t.sky.floods.get i = none) ∧ t.sky.walkPos.val = 0 ∧
    (t.sky.walkTimer = true ↔ c.scan = .walk) ∧ t.sky.sums = ⟨0, 0, 0⟩ ∧
    t.sky.compose = some (composePage t now) ∧
    (∃ u : State, u.sky.compose = none ∧ u.matrix.ready = false ∧ t = startCompose u) ∧
    t.line.lastReport = none ∧ t.line.gap = false ∧ t.line.afterCr = false ∧
    t.line.slotA = .empty ∧ t.line.slotB = .empty ∧ t.line.order = [] ∧ t.line.reports = [] ∧
    t.line.dropped = 0 ∧ t.line.rx = .idle ∧ t.line.writing = none ∧ t.line.closed = false ∧
    t.line.rate = (match p.baud1, p.baud0 with
      | false, false => .b9600 | false, true => .b38400
      | true, false => .b57600 | true, true => .b115200)

/-- The settling timer (R197): trains are placed on their homes in ascending order, then the part is READY and
says so, then it reports the strays, the defined OCCUPIED sections whose unit has no holder, in ascending
order. A home that fails leaves all as it was. Log 5: the expiry of a settling timer that is not running
changes nothing. -/
def Obligations.SettlingEnds : Prop :=
  (∀ (s u : State) (xs : List Section), runs s → s.sys.settling = true →
    u = (List.finRange 6).foldl placeHome s → (xs.Pairwise fun x y => x < y) →
    (∀ x, x ∈ xs ↔ u.cfg.sections.get x ≠ none ∧ u.occupied x = true ∧
      ∀ k, u.cfg.unitKey x = some k → (u.units.get k).holder = none) →
    exec .settlingTimer s = acts (xs.foldl (fun t x => t.raise (.stray x))
      ((u.withSys { u.sys with ready := true, settling := false }).raise .ready))) ∧
  (∀ s : State, runs s → s.sys.settling = false → exec .settlingTimer s = acts s) ∧
  ∀ (s : State) (n : Train),
    ((s.cfg.trains.get n).home = none → placeHome s n = s) ∧
    ∀ x, (s.cfg.trains.get n).home = some x →
      (s.cfg.unitKey x.sec = none ∨ s.occupied x.sec = false ∨ (s.trains.get n).state ≠ .unplaced →
        placeHome s n = s) ∧
      (∀ u h, s.cfg.unitKey x.sec = some u → (s.units.get u).holder = some h → placeHome s n = s) ∧
      (∀ u, s.cfg.unitKey x.sec = some u → (s.units.get u).holder = none → s.occupied x.sec = true →
        (s.trains.get n).state = .unplaced → (s.trains.get n).holdings = [] →
        ∃ y : TrainRun, y = (placeHome s n).trains.get n ∧ y.state = .parked ∧
          y.span = [⟨x.sec, other x.e⟩] ∧ y.holdings = [u] ∧
          ((placeHome s n).units.get u).holder = some n)

/-! ## Queries: each changes nothing and answers the fields its rule names -/

/-- The queries of scene time, sky, matrix and floods (R5, R8, R16, R20, R28, R33, R34, R43, R53): each answers
the fields its rule names, and a number or a time out of range is refused. The words of the answers are those of
the chapters. -/
def Obligations.LightQueries : Prop :=
  (([Transition.linear, .step].map transitionTok = [.word .linear, .word .step] ∧
    [Curve.linear, .soft, .hard].map curveTok = [.word .linear, .word .soft, .word .hard] ∧
    [ScanMode.normal, .allOn, .allOff, .walk].map scanTok =
      [.word .normal, .word .allOn, .word .allOff, .word .walk] ∧
    [Mirror.normal, .reversed].map mirrorTok = [.word .normal, .word .reversed] ∧
    [FloodSource.skyRed, .skyGreen, .skyBlue, .ambient, .none].map sourceTok =
      [.word .skyRed, .word .skyGreen, .word .skyBlue, .word .ambient, .word .none]) ∧
    overrideToks none = [.word .none] ∧ (∀ v, overrideToks (some ⟨v, none⟩) = [.num v]) ∧
    (∀ v e, overrideToks (some ⟨v, some e⟩) = [.num v, .word .until, .time e]) ∧
    (∀ (k : Nat) (i : Fin k), idTok i = .num i.val) ∧
    (∀ (α : Type) (f : α → Tok), optTok f none = .word .none ∧ ∀ a, optTok f (some a) = f a) ∧
    ∀ d, frameRate d = 400 / (d + 1)) ∧
  ∀ s : State, takes s →
    exec .clockQuery s = replies s (.data [.time s.clock.time,
      .word (if s.clock.running then .running else .held), .num s.cfg.clockRate]) ∧
    exec .clockStartQuery s = replies s (.data [.time s.cfg.startTime]) ∧
    exec .keyList s = replies s (.data
      (.num s.cfg.keyframes.length :: s.cfg.keyframes.map fun k => .time k.time)) ∧
    (∀ t k, ListsOrdered s → timeOk t → k ∈ s.cfg.keyframes → k.time = secs t →
      exec (.keyQuery t) s = replies s (.data ([.time k.time, transitionTok k.tr, .num k.red,
        .num k.green, .num k.blue, .num k.ambient]
        ++ k.pairs.flatMap fun p => [.word .g, .num p.1.val, .num p.2]))) ∧
    (∀ t, timeOk t → (∀ k ∈ s.cfg.keyframes, k.time ≠ secs t) →
      exec (.keyQuery t) s = replies s (.no .unknown)) ∧
    (∀ (g : GroupId) (d : GroupDef) (r : GroupRun), d = s.cfg.groups.get g → r = s.sky.groups.get g →
      (d.kind = .dimmed →
        exec (.groupQuery g.val) s = replies s (.data [.word .dimmed, curveTok d.curve])) ∧
      (d.kind = .switched → exec (.groupQuery g.val) s = replies s (.data [.word .switched,
        .num d.threshold, .num d.hysteresis, .num d.onLevel, .num d.warmUp,
        .word (match r.dir with | .light => .light | .dark => .dark), .time r.crossTime,
        .word (if r.settled then .settled else .unsettled)]))) ∧
    (∀ i : LampId, exec (.lampQuery i.val) s = replies s (.data
      ([.word .group, optTok idTok (s.cfg.lamps.get i).group, .word .stagger,
        .num (s.cfg.lamps.get i).stagger, .word .override]
        ++ overrideToks (s.sky.lamps.get i).override
        ++ [.word .claim, optTok idTok (s.sky.lamps.get i).claim, .word .level,
          .num (s.matrix.shown.lamps.get i)]))) ∧
    exec .brightQuery s = replies s (.data [.num s.cfg.brightness]) ∧
    exec .scanQuery s = replies s (.data [scanTok s.cfg.scan]) ∧
    exec .matrixQuery s = replies s (.data [.word .divider, .num s.cfg.divider, .word .rate,
      .num (frameRate s.cfg.divider), .word .rows, mirrorTok s.cfg.rows, .word .cols,
      mirrorTok s.cfg.cols]) ∧
    (∀ f : FloodId, exec (.floodQuery f.val) s = replies s (.data
      ([.word .source, sourceTok (s.cfg.floodSources.get f), .word .override]
        ++ overrideToks (s.sky.floods.get f)
        ++ [.word .level, .num (s.matrix.shown.floods.get f), .word .duty,
          .num (s.floods.get f).applied]))) ∧
    (∀ k, 192 ≤ k → exec (.lampQuery k) s = replies s (.no .range)) ∧
    (∀ k, 16 ≤ k → exec (.groupQuery k) s = replies s (.no .range)) ∧
    (∀ k, 6 ≤ k → exec (.floodQuery k) s = replies s (.no .range)) ∧
    (∀ t, ¬ timeOk t → exec (.keyQuery t) s = replies s (.no .range))

/-- The queries of bridges, sensing, inputs, the layout and the units (R64, R84, R90, R93, R96, R98, R104, R105,
R111, R130). A turnout with both a pulse in flight and a queued entry is written MOVING (log 45). The words of
the answers are those of the chapters. -/
def Obligations.TrackQueries : Prop :=
  ([ChannelState.off, .driving, .dead, .cut].map channelStateTok =
      [.word .off, .word .driving, .word .dead, .word .cut] ∧
    [Polarity.plus, .minus].map polTok = [.word .plus, .word .minus] ∧
    [true, false].map onOff = [.word .on, .word .off] ∧
    [End.a, .b].map endTok = [.word .a, .word .b] ∧
    [MarkKind.position, .stop].map markKindTok = [.word .position, .word .stop] ∧
    [Branch.normal, .reverse].map branchTok = [.word .normal, .word .reverse] ∧
    [none, some Branch.normal, some .reverse].map pointsTok =
      [.word .unknown, .word .normal, .word .reverse] ∧
    [CrossingState.idle, .warning, .protectedBy].map crossingStateTok =
      [.word .idle, .word .warning, .word .protectedW] ∧
    linkToks .buffer = [.word .buffer] ∧
    (∀ y f, linkToks (.join y f) = [.word .join, .num y.val, endTok f]) ∧
    ∀ t, linkToks (.leg t .trunk) = [.word .leg, .num t.val, .word .trunk] ∧
      ∀ b, linkToks (.leg t (.branch b)) = [.word .leg, .num t.val, branchTok b]) ∧
  ∀ s : State, takes s →
    (∀ (c : Channel) (r : ChannelRun) (d : ChannelDef), r = s.channels.get c → d = s.cfg.bridge.get c →
      exec (.bridgeQuery c.val) s = replies s (.data ([channelStateTok r.state, polTok r.applied.pol,
        .num r.applied.duty, .word .staged]
        ++ (match r.staged with | none => [.word .none] | some p => [polTok p.pol, .num p.duty])
        ++ [.word .pwm, .num d.res, .num d.prescale, .word .sense, onOff d.sense, .word .trip,
          .num d.trip, .word .ma, optTok .num (s.sense.slots.get c)]))) ∧
    (∀ (x : Section) (f : Occupancy), f = s.sense.filters.get x →
      exec (.senseSectionQuery x.val) s = replies s (.data
        [.word (if f.occupied then .occupied else .clear), .num f.above, .num f.below,
          .word .threshold, .num (s.cfg.thresholds.get x)])) ∧
    (∃ xs : List Section, exec .senseQuery s = replies s (.data (.num xs.length :: xs.map idTok)) ∧
      (xs.Pairwise fun x y => x < y) ∧ ∀ x, x ∈ xs ↔ s.occupied x = true) ∧
    (∀ (m : MarkId) (i : InputId) (f : InputRun), i.val = m.val → f = s.inputs.get i →
      exec (.inputMarkQuery m.val) s = replies s (.data ([
        .word (if f.active then .active else .inactive), .word (if f.stuck then .stuck else .normal),
        .word .filter, .num (s.cfg.filters.get i), .word .last, optTok .num f.last, .word .defW] ++
        (match s.cfg.marks.get m with
          | none => [.word .none]
          | some d => [idTok d.sec, .num d.offset, markKindTok d.kind])))) ∧
    (∀ (n : Axis) (i : InputId) (f : InputRun), i.val = 16 + n.val → f = s.inputs.get i →
      exec (.inputIndexQuery n.val) s = replies s (.data [
        .word (if f.active then .active else .inactive), .word (if f.stuck then .stuck else .normal),
        .word .filter, .num (s.cfg.filters.get i), .word .last, optTok .num f.last])) ∧
    (∀ x : Section, (s.cfg.sections.get x = none →
        exec (.sectionQuery x.val) s = replies s (.data [.word .none])) ∧
      ∀ d, s.cfg.sections.get x = some d → exec (.sectionQuery x.val) s = replies s (.data
        ([.word .length, .num d.length, .word .a] ++ linkToks d.endA ++ [.word .b]
          ++ linkToks d.endB ++ [.word .run, optTok idTok (s.cfg.runOf x), .word .unit,
            optTok idTok (s.cfg.unitKey x)]))) ∧
    (∀ t : TurnoutId, (s.cfg.turnouts.get t = none → exec (.turnoutQuery t.val) s =
        replies s (.data [.word .none, pointsTok (s.driver.points.get t)])) ∧
      ∀ d, s.cfg.turnouts.get t = some d → ∃ activity : List Tok,
        exec (.turnoutQuery t.val) s = replies s (.data
          ([pointsTok (s.driver.points.get t)] ++ activity ++
            [.word .legs, idTok d.trunk.sec, endTok d.trunk.e, idTok d.normal.sec, endTok d.normal.e,
              idTok d.reverse.sec, endTok d.reverse.e, .word .pulse, .num (s.cfg.pulses.get t)])) ∧
        (∀ p, s.driver.pulse = some p → p.entry.t = t →
          activity = [.word .moving, branchTok p.entry.wanted]) ∧
        ((∀ p, s.driver.pulse = some p → p.entry.t ≠ t) →
          (∀ es e fs, s.driver.queue = es ++ e :: fs → e.t = t → (∀ x ∈ es, x.t ≠ t) →
            activity = [.word .queued, branchTok e.wanted]) ∧
          ((∀ e ∈ s.driver.queue, e.t ≠ t) → activity = [.word .idle]))) ∧
    (∀ r : RunId, (s.cfg.runs.get r = none →
        exec (.runQuery r.val) s = replies s (.data [.word .none])) ∧
      ∀ xs, s.cfg.runs.get r = some xs →
        exec (.runQuery r.val) s = replies s (.data (.num xs.length :: xs.map idTok))) ∧
    (∀ m : MarkId, (s.cfg.marks.get m = none →
        exec (.markQuery m.val) s = replies s (.data [.word .none])) ∧
      ∀ d, s.cfg.marks.get m = some d → exec (.markQuery m.val) s =
        replies s (.data [idTok d.sec, .num d.offset, markKindTok d.kind])) ∧
    (∀ k : CrossingId, (s.cfg.crossings.get k = none →
        exec (.crossingQuery k.val) s = replies s (.data [.word .none])) ∧
      ∀ d (r : CrossingRun), s.cfg.crossings.get k = some d → r = s.crossings.get k →
        exec (.crossingQuery k.val) s = replies s (.data [crossingStateTok r.state, .word .phase,
          .num (if r.phase then 1 else 0), idTok d.sec, .word .lamps, idTok d.lampA, idTok d.lampB,
          .word .flash, .num d.flash, .word .lead, .num d.lead, .word .bell, onOff d.bell])) ∧
    exec .bellQuery s = replies s (.data
      ([.word (if s.bell.sounding then .sounding else .silent), .word .tone, .num s.cfg.bellTone,
        .word .quiet] ++
        (match s.cfg.quietWindow with | none => [.word .none] | some (f, t) => [.time f, .time t])
        ++ [.word .quiet, onOff s.bell.quiet])) ∧
    (∀ (x u : Section) (r : UnitRec), s.cfg.unitKey x = some u → r = s.units.get u →
      exec (.unitQuery x.val) s = replies s (.data ([.word .unit, idTok u, .word .holder,
        optTok idTok r.holder, .word .wait, .num r.waiting.length] ++ r.waiting.map idTok
        ++ [.word (if s.blocked u then .blocked else .openW)]))) ∧
    (∀ x : Section, s.cfg.unitKey x = none →
      exec (.unitQuery x.val) s = replies s (.no .unknown)) ∧
    ∃ ps : List (Section × Train), exec .unitList s = replies s (.data
        (.num ps.length :: ps.flatMap fun p => [idTok p.1, idTok p.2])) ∧
      (ps.Pairwise fun x y => x.1 < y.1) ∧ ∀ u n, (u, n) ∈ ps ↔ (s.units.get u).holder = some n

/-- The queries of routes, trains, axes, the budget, the fixture map and the part (R150, R154, R158, R160, R161,
R169, R179, R189 to R191). A `TRAIN` query restarts the supervision timer as every taken `TRAIN` line does
(R156); what it writes for a train without a route or a place is free (log 23), so its data are stated for a
train with both. `STATUS` is answered before `#READY` too. The words of the answers are those of the chapters.
-/
def Obligations.TrafficAndStatusQueries : Prop :=
  ([TrainState.unplaced, .parked, .waiting, .running, .stopping, .dwelling, .halted, .lost, .faulted].map
      trainStateTok = [.word .unplaced, .word .parked, .word .waiting, .word .running, .word .stopping,
        .word .dwelling, .word .halted, .word .lost, .word .faulted] ∧
    [Mode.route, .cab].map modeTok = [.word .route, .word .cab] ∧
    [WaitReason.authority, .budget, .deadlock].map reasonTok =
      [.word .authority, .word .budget, .word .deadlock] ∧
    [AxisState.stopped, .starting, .running, .stopping, .stalled, .halted].map axisStateTok =
      [.word .stopped, .word .starting, .word .running, .word .stopping, .word .stalled, .word .halted] ∧
    [StallCause.index, .cut].map causeTok = [.word .index, .word .cut] ∧
    [FixtureKind.lamp, .flood, .axis].map fixtureTok = [.word .lamp, .word .flood, .word .axis] ∧
    [StoreState.valid, .invalid, .saving, .erasing].map storeTok =
      [.word .valid, .word .invalid, .word .saving, .word .erasing] ∧
    [Pressure.normal, .dimming, .axesLimited, .departuresHeld].map Pressure.kw =
      [.normal, .dimming, .axesLimited, .departuresHeld]) ∧
  (∀ s : State, takes s →
    (∀ r : RouteId, (s.cfg.routes.get r = none →
        exec (.routeQuery r.val) s = replies s (.data [.word .none])) ∧
      ∀ d, s.cfg.routes.get r = some d → exec (.routeQuery r.val) s = replies s (.data
        ([.word .loop, onOff d.loop] ++ d.positions.flatMap fun p =>
          [idTok p.sec, endTok p.entry] ++ (match p.stop with
            | none => []
            | some st => [.word .stop, .num st.dwell, optTok idTok st.mark])))) ∧
    exec .timetableQuery s = replies s (.data
      [.num s.cfg.timetable.length, .word .autorun, onOff s.cfg.autorun]) ∧
    (∀ i es, es = (s.cfg.timetable.drop i).take 8 → exec (.timetableList i) s = replies s (.data
      (.num es.length :: es.flatMap fun e => [.time e.time, idTok e.train, idTok e.route]))) ∧
    (∀ (n : Train) (i : Fin 32) (p : Nat × Nat), p = (s.cfg.trains.get n).table.get i →
      exec (.trainTableQuery n.val i.val) s =
        replies (restartCabTimer n s) (.data [.num p.1, .num p.2])) ∧
    (∀ (n : Train) (x : TrainRun), x = s.trains.get n →
      (∀ r i h, x.route = some (r, i) → x.span.getLast? = some h →
        exec (.trainQuery n.val) s = replies (restartCabTimer n s) (.data
          ([.name (s.cfg.trains.get n).name, trainStateTok x.state, modeTok x.mode, .word .reason,
            optTok reasonTok x.reason, .word .route, idTok r, .word .index, .num i, .word .head,
            idTok h.sec, .num x.headPos, .word .target, .num x.target, .word .a, .num x.speed,
            .word .duty, .num x.duty, .word .auth,
            optTok (fun a : Authority => .int a.dist) x.authority, .word .hold,
            .num x.holdings.length] ++ x.holdings.map idTok))) ∧
      ((x.route = none ∨ x.span = []) → ∃ ts,
        exec (.trainQuery n.val) s =
          replies (restartCabTimer n (s.withFreeDraws (s.freeDraws + 1))) (.data ts))) ∧
    (∀ (n : Axis) (ps : List (Nat × Nat)), ps = (s.cfg.axes.get n).program →
      exec (.axisProgramQuery n.val) s = replies s (.data
        (.num ps.length :: ps.flatMap fun p => [.time p.1, .num p.2]))) ∧
    (∀ (n : Axis) (a : AxisRun) (d : AxisDef) (cue : Nat), a = s.axes.get n → d = s.cfg.axes.get n →
      cue = a.override.getD a.program → exec (.axisQuery n.val) s = replies s (.data
        [axisStateTok a.state, .word .cause, optTok causeTok a.cause, .word .cmd,
          .num (if s.account.level = .axesLimited ∨ s.account.level = .departuresHeld then cue / 2
            else cue),
          .word .target, .num a.target, .word .meas, .num a.measured, .word .duty, .num a.duty,
          .word .override, optTok .num a.override, .word .last, optTok .num a.last, .word .dir,
          polTok d.direction, .word .gain, .num d.gain, .word .kick, .num d.kick, .word .max,
          .num d.maxDuty, .word .stall, .num d.stallLimit, .word .slew, .num d.slew])) ∧
    (∀ a : Account, a = s.account → exec .budgetQuery s = replies s (.data
      [.word a.level.kw, .word .scale, .num a.scale, .word .target, .num a.target, .word .ceiling,
        .num s.cfg.ceiling, .word .lamp, .num s.cfg.lampRating, .word .flood, .num s.cfg.floodRating,
        .word .motion, .num a.motion, .word .fixed, .num a.fixed, .word .demand, .num a.demand,
        .word .total, .num a.total, .word .over, .num a.overCount, .word .under,
        .num a.underCount])) ∧
    (exec (.mapQuery 0) s = replies s (.data [.num 0, .num 192, .word .lamp, .num 0])) ∧
    (∀ i : Fin 7, (s.cfg.windows.get i = none →
        exec (.mapQuery (i.val + 1)) s = replies s (.data [.word .none])) ∧
      ∀ d, s.cfg.windows.get i = some d → exec (.mapQuery (i.val + 1)) s = replies s (.data
        [.num d.base, .num d.count, fixtureTok d.kind, .num d.first])) ∧
    (∃ ws : List Nat, exec .mapList s = replies s (.data (.num ws.length :: ws.map .num)) ∧
      (ws.Pairwise fun x y => x < y) ∧ ∀ w, w ∈ ws ↔ s.cfg.window w ≠ none) ∧
    (∀ f, f ≤ 1023 → (s.cfg.fixture f = none →
        exec (.get f) s = replies s (.data [.num f, .word .none])) ∧
      (∀ i, s.cfg.fixture f = some (.lamp i) →
        exec (.get f) s = replies s (.data [.num f, .num (s.matrix.shown.lamps.get i)])) ∧
      (∀ i, s.cfg.fixture f = some (.flood i) →
        exec (.get f) s = replies s (.data [.num f, .num (s.matrix.shown.floods.get i)])) ∧
      ∀ n, s.cfg.fixture f = some (.axis n) →
        exec (.get f) s = replies s (.data [.num f, .num (s.axes.get n).measured])) ∧
    (∀ f, 1023 < f → exec (.get f) s = replies s (.no .range))) ∧
  ∀ s : State, runs s → s.line.closed = false →
    exec .status s = replies s (.data ([.word .sw2460, .word (if s.sys.ready then .ready else .start),
      .word .time, .time s.clock.time, .word (if s.clock.running then .running else .held),
      .word .level, .word s.account.level.kw, .word .halt,
      .word (if s.stopc.line then .line else if s.stopc.latch then .latch else .off), .word .store,
      storeTok s.store.state, .word .trains]
      ++ (ids 6).map fun n => trainStateTok (s.trains.get n).state))


/-! ## Invariants that every step keeps -/

/-- A step keeps the halt's hold on bridges, trains and axes, where trains at rest have speed 0 and the
timers of each axis run in their own states (R66, R146, R167). -/
def Obligations.StepsKeepHalt : Prop :=
  ∀ s t : State, HaltHolds s → TrainsAtRest s → AxesAgree s → step s = .next t → HaltHolds t

/-- A step keeps holders, holdings, waiting lists and requests in agreement: at most one holder a unit, at
most one list a train (R112, R115). -/
def Obligations.StepsKeepReservations : Prop :=
  ∀ s t : State, ReservationsAgree s → step s = .next t → ReservationsAgree t

/-- A step closes no circle of trains that wait for each other (R116). -/
def Obligations.StepsCloseNoCircle : Prop :=
  ∀ s t : State, ReservationsAgree s → NoWaitCycle s → step s = .next t → NoWaitCycle t

/-- A step leaves no crossing IDLE while a train holds or waits for its unit, and keeps every lead timer to
a defined crossing in WARNING (R106, R107, R123). -/
def Obligations.StepsKeepCrossings : Prop :=
  ∀ s t : State, LeadTimersRun s → step s = .next t →
    LeadTimersRun t ∧ (ReservationsAgree s → CrossingsGuard s → CrossingsGuard t)

/-- A step keeps the duty of every channel that is not DRIVING at 0, one waiting request a channel, one
queued throw a turnout, trains at rest at speed 0, and the timers of each axis to the states they run in
(R55, R72, R100, R132, R165). -/
def Obligations.StepsKeepDrives : Prop :=
  (∀ s t : State, step s = .next t →
    (DutyOnlyDriving s → DutyOnlyDriving t) ∧ (ConverterLegal s → ConverterLegal t) ∧
    (DriverLegal s → DriverLegal t)) ∧
  ∀ s t : State, step s = .next t →
    (HaltHolds s → TrainsAtRest s → TrainsAtRest t) ∧ (AxesAgree s → AxesAgree t)


/-- A step keeps every list of the configuration in order and within its length, and the page exchange, the
budget scale, scene time, the thresholds of the groups, the bell, the report queue and the image of a SAVE in
flight as their rules bound them (R1, R13, R19, R45, R110, R154, R160, R171, R188, R194). -/
def Obligations.StepsKeepBounds : Prop :=
  (∀ s t : State, ListsOrdered s → step s = .next t → ListsOrdered t) ∧
  ∀ s t : State, step s = .next t →
    (ExchangeLegal s → ExchangeLegal t) ∧ (ScaleInRange s → ScaleInRange t) ∧
    (ClockInRange s → ClockInRange t) ∧ (ThresholdsInRange s → ThresholdsInRange t) ∧
    (BellFollows s → BellFollows t) ∧ (ReportsBounded s → ReportsBounded t) ∧ (SavedAsRun s → SavedAsRun t)


/-- Every invariant holds right after a device reset (R71, R112, R132, R196). -/
def Obligations.InvariantsAtReset : Prop :=
  HaltHolds State.reset ∧ ReservationsAgree State.reset ∧ NoWaitCycle State.reset ∧
  CrossingsGuard State.reset ∧ LeadTimersRun State.reset ∧ DutyOnlyDriving State.reset ∧ ConverterLegal State.reset ∧
  DriverLegal State.reset ∧ TrainsAtRest State.reset ∧ AxesAgree State.reset ∧
  ListsOrdered State.reset ∧ ExchangeLegal State.reset ∧ ScaleInRange State.reset ∧
  ClockInRange State.reset ∧ ThresholdsInRange State.reset ∧ BellFollows State.reset ∧
  ReportsBounded State.reset ∧ SavedAsRun State.reset
end

