-- ==== Sys2Proof/Laws/State.lean ====
section
/-! SUPPORT. One lemma per field per update of State: what replacing one block leaves and what it
sets. Each is true by rfl. -/

namespace Sys2Proof.Machine

@[simp] theorem State.withCfg_cfg (s : State) (x : Scene) : (s.withCfg x).cfg = x := rfl
@[simp] theorem State.withCfg_store (s : State) (x : Scene) : (s.withCfg x).store = s.store := rfl
@[simp] theorem State.withCfg_clock (s : State) (x : Scene) : (s.withCfg x).clock = s.clock := rfl
@[simp] theorem State.withCfg_sky (s : State) (x : Scene) : (s.withCfg x).sky = s.sky := rfl
@[simp] theorem State.withCfg_matrix (s : State) (x : Scene) : (s.withCfg x).matrix = s.matrix := rfl
@[simp] theorem State.withCfg_floods (s : State) (x : Scene) : (s.withCfg x).floods = s.floods := rfl
@[simp] theorem State.withCfg_channels (s : State) (x : Scene) : (s.withCfg x).channels = s.channels := rfl
@[simp] theorem State.withCfg_stopc (s : State) (x : Scene) : (s.withCfg x).stopc = s.stopc := rfl
@[simp] theorem State.withCfg_sense (s : State) (x : Scene) : (s.withCfg x).sense = s.sense := rfl
@[simp] theorem State.withCfg_inputs (s : State) (x : Scene) : (s.withCfg x).inputs = s.inputs := rfl
@[simp] theorem State.withCfg_driver (s : State) (x : Scene) : (s.withCfg x).driver = s.driver := rfl
@[simp] theorem State.withCfg_crossings (s : State) (x : Scene) : (s.withCfg x).crossings = s.crossings := rfl
@[simp] theorem State.withCfg_bell (s : State) (x : Scene) : (s.withCfg x).bell = s.bell := rfl
@[simp] theorem State.withCfg_units (s : State) (x : Scene) : (s.withCfg x).units = s.units := rfl
@[simp] theorem State.withCfg_trains (s : State) (x : Scene) : (s.withCfg x).trains = s.trains := rfl
@[simp] theorem State.withCfg_axes (s : State) (x : Scene) : (s.withCfg x).axes = s.axes := rfl
@[simp] theorem State.withCfg_account (s : State) (x : Scene) : (s.withCfg x).account = s.account := rfl
@[simp] theorem State.withCfg_line (s : State) (x : Scene) : (s.withCfg x).line = s.line := rfl
@[simp] theorem State.withCfg_sys (s : State) (x : Scene) : (s.withCfg x).sys = s.sys := rfl
@[simp] theorem State.withCfg_nextStart (s : State) (x : Scene) : (s.withCfg x).nextStart = s.nextStart := rfl
@[simp] theorem State.withCfg_freeDraws (s : State) (x : Scene) : (s.withCfg x).freeDraws = s.freeDraws := rfl
@[simp] theorem State.withCfg_pending (s : State) (x : Scene) : (s.withCfg x).pending = s.pending := rfl

@[simp] theorem State.withStore_cfg (s : State) (x : Store) : (s.withStore x).cfg = s.cfg := rfl
@[simp] theorem State.withStore_store (s : State) (x : Store) : (s.withStore x).store = x := rfl
@[simp] theorem State.withStore_clock (s : State) (x : Store) : (s.withStore x).clock = s.clock := rfl
@[simp] theorem State.withStore_sky (s : State) (x : Store) : (s.withStore x).sky = s.sky := rfl
@[simp] theorem State.withStore_matrix (s : State) (x : Store) : (s.withStore x).matrix = s.matrix := rfl
@[simp] theorem State.withStore_floods (s : State) (x : Store) : (s.withStore x).floods = s.floods := rfl
@[simp] theorem State.withStore_channels (s : State) (x : Store) : (s.withStore x).channels = s.channels := rfl
@[simp] theorem State.withStore_stopc (s : State) (x : Store) : (s.withStore x).stopc = s.stopc := rfl
@[simp] theorem State.withStore_sense (s : State) (x : Store) : (s.withStore x).sense = s.sense := rfl
@[simp] theorem State.withStore_inputs (s : State) (x : Store) : (s.withStore x).inputs = s.inputs := rfl
@[simp] theorem State.withStore_driver (s : State) (x : Store) : (s.withStore x).driver = s.driver := rfl
@[simp] theorem State.withStore_crossings (s : State) (x : Store) : (s.withStore x).crossings = s.crossings := rfl
@[simp] theorem State.withStore_bell (s : State) (x : Store) : (s.withStore x).bell = s.bell := rfl
@[simp] theorem State.withStore_units (s : State) (x : Store) : (s.withStore x).units = s.units := rfl
@[simp] theorem State.withStore_trains (s : State) (x : Store) : (s.withStore x).trains = s.trains := rfl
@[simp] theorem State.withStore_axes (s : State) (x : Store) : (s.withStore x).axes = s.axes := rfl
@[simp] theorem State.withStore_account (s : State) (x : Store) : (s.withStore x).account = s.account := rfl
@[simp] theorem State.withStore_line (s : State) (x : Store) : (s.withStore x).line = s.line := rfl
@[simp] theorem State.withStore_sys (s : State) (x : Store) : (s.withStore x).sys = s.sys := rfl
@[simp] theorem State.withStore_nextStart (s : State) (x : Store) : (s.withStore x).nextStart = s.nextStart := rfl
@[simp] theorem State.withStore_freeDraws (s : State) (x : Store) : (s.withStore x).freeDraws = s.freeDraws := rfl
@[simp] theorem State.withStore_pending (s : State) (x : Store) : (s.withStore x).pending = s.pending := rfl

@[simp] theorem State.withClock_cfg (s : State) (x : Clock) : (s.withClock x).cfg = s.cfg := rfl
@[simp] theorem State.withClock_store (s : State) (x : Clock) : (s.withClock x).store = s.store := rfl
@[simp] theorem State.withClock_clock (s : State) (x : Clock) : (s.withClock x).clock = x := rfl
@[simp] theorem State.withClock_sky (s : State) (x : Clock) : (s.withClock x).sky = s.sky := rfl
@[simp] theorem State.withClock_matrix (s : State) (x : Clock) : (s.withClock x).matrix = s.matrix := rfl
@[simp] theorem State.withClock_floods (s : State) (x : Clock) : (s.withClock x).floods = s.floods := rfl
@[simp] theorem State.withClock_channels (s : State) (x : Clock) : (s.withClock x).channels = s.channels := rfl
@[simp] theorem State.withClock_stopc (s : State) (x : Clock) : (s.withClock x).stopc = s.stopc := rfl
@[simp] theorem State.withClock_sense (s : State) (x : Clock) : (s.withClock x).sense = s.sense := rfl
@[simp] theorem State.withClock_inputs (s : State) (x : Clock) : (s.withClock x).inputs = s.inputs := rfl
@[simp] theorem State.withClock_driver (s : State) (x : Clock) : (s.withClock x).driver = s.driver := rfl
@[simp] theorem State.withClock_crossings (s : State) (x : Clock) : (s.withClock x).crossings = s.crossings := rfl
@[simp] theorem State.withClock_bell (s : State) (x : Clock) : (s.withClock x).bell = s.bell := rfl
@[simp] theorem State.withClock_units (s : State) (x : Clock) : (s.withClock x).units = s.units := rfl
@[simp] theorem State.withClock_trains (s : State) (x : Clock) : (s.withClock x).trains = s.trains := rfl
@[simp] theorem State.withClock_axes (s : State) (x : Clock) : (s.withClock x).axes = s.axes := rfl
@[simp] theorem State.withClock_account (s : State) (x : Clock) : (s.withClock x).account = s.account := rfl
@[simp] theorem State.withClock_line (s : State) (x : Clock) : (s.withClock x).line = s.line := rfl
@[simp] theorem State.withClock_sys (s : State) (x : Clock) : (s.withClock x).sys = s.sys := rfl
@[simp] theorem State.withClock_nextStart (s : State) (x : Clock) : (s.withClock x).nextStart = s.nextStart := rfl
@[simp] theorem State.withClock_freeDraws (s : State) (x : Clock) : (s.withClock x).freeDraws = s.freeDraws := rfl
@[simp] theorem State.withClock_pending (s : State) (x : Clock) : (s.withClock x).pending = s.pending := rfl

@[simp] theorem State.withSky_cfg (s : State) (x : Sky) : (s.withSky x).cfg = s.cfg := rfl
@[simp] theorem State.withSky_store (s : State) (x : Sky) : (s.withSky x).store = s.store := rfl
@[simp] theorem State.withSky_clock (s : State) (x : Sky) : (s.withSky x).clock = s.clock := rfl
@[simp] theorem State.withSky_sky (s : State) (x : Sky) : (s.withSky x).sky = x := rfl
@[simp] theorem State.withSky_matrix (s : State) (x : Sky) : (s.withSky x).matrix = s.matrix := rfl
@[simp] theorem State.withSky_floods (s : State) (x : Sky) : (s.withSky x).floods = s.floods := rfl
@[simp] theorem State.withSky_channels (s : State) (x : Sky) : (s.withSky x).channels = s.channels := rfl
@[simp] theorem State.withSky_stopc (s : State) (x : Sky) : (s.withSky x).stopc = s.stopc := rfl
@[simp] theorem State.withSky_sense (s : State) (x : Sky) : (s.withSky x).sense = s.sense := rfl
@[simp] theorem State.withSky_inputs (s : State) (x : Sky) : (s.withSky x).inputs = s.inputs := rfl
@[simp] theorem State.withSky_driver (s : State) (x : Sky) : (s.withSky x).driver = s.driver := rfl
@[simp] theorem State.withSky_crossings (s : State) (x : Sky) : (s.withSky x).crossings = s.crossings := rfl
@[simp] theorem State.withSky_bell (s : State) (x : Sky) : (s.withSky x).bell = s.bell := rfl
@[simp] theorem State.withSky_units (s : State) (x : Sky) : (s.withSky x).units = s.units := rfl
@[simp] theorem State.withSky_trains (s : State) (x : Sky) : (s.withSky x).trains = s.trains := rfl
@[simp] theorem State.withSky_axes (s : State) (x : Sky) : (s.withSky x).axes = s.axes := rfl
@[simp] theorem State.withSky_account (s : State) (x : Sky) : (s.withSky x).account = s.account := rfl
@[simp] theorem State.withSky_line (s : State) (x : Sky) : (s.withSky x).line = s.line := rfl
@[simp] theorem State.withSky_sys (s : State) (x : Sky) : (s.withSky x).sys = s.sys := rfl
@[simp] theorem State.withSky_nextStart (s : State) (x : Sky) : (s.withSky x).nextStart = s.nextStart := rfl
@[simp] theorem State.withSky_freeDraws (s : State) (x : Sky) : (s.withSky x).freeDraws = s.freeDraws := rfl
@[simp] theorem State.withSky_pending (s : State) (x : Sky) : (s.withSky x).pending = s.pending := rfl

@[simp] theorem State.withMatrix_cfg (s : State) (x : Matrix) : (s.withMatrix x).cfg = s.cfg := rfl
@[simp] theorem State.withMatrix_store (s : State) (x : Matrix) : (s.withMatrix x).store = s.store := rfl
@[simp] theorem State.withMatrix_clock (s : State) (x : Matrix) : (s.withMatrix x).clock = s.clock := rfl
@[simp] theorem State.withMatrix_sky (s : State) (x : Matrix) : (s.withMatrix x).sky = s.sky := rfl
@[simp] theorem State.withMatrix_matrix (s : State) (x : Matrix) : (s.withMatrix x).matrix = x := rfl
@[simp] theorem State.withMatrix_floods (s : State) (x : Matrix) : (s.withMatrix x).floods = s.floods := rfl
@[simp] theorem State.withMatrix_channels (s : State) (x : Matrix) : (s.withMatrix x).channels = s.channels := rfl
@[simp] theorem State.withMatrix_stopc (s : State) (x : Matrix) : (s.withMatrix x).stopc = s.stopc := rfl
@[simp] theorem State.withMatrix_sense (s : State) (x : Matrix) : (s.withMatrix x).sense = s.sense := rfl
@[simp] theorem State.withMatrix_inputs (s : State) (x : Matrix) : (s.withMatrix x).inputs = s.inputs := rfl
@[simp] theorem State.withMatrix_driver (s : State) (x : Matrix) : (s.withMatrix x).driver = s.driver := rfl
@[simp] theorem State.withMatrix_crossings (s : State) (x : Matrix) : (s.withMatrix x).crossings = s.crossings := rfl
@[simp] theorem State.withMatrix_bell (s : State) (x : Matrix) : (s.withMatrix x).bell = s.bell := rfl
@[simp] theorem State.withMatrix_units (s : State) (x : Matrix) : (s.withMatrix x).units = s.units := rfl
@[simp] theorem State.withMatrix_trains (s : State) (x : Matrix) : (s.withMatrix x).trains = s.trains := rfl
@[simp] theorem State.withMatrix_axes (s : State) (x : Matrix) : (s.withMatrix x).axes = s.axes := rfl
@[simp] theorem State.withMatrix_account (s : State) (x : Matrix) : (s.withMatrix x).account = s.account := rfl
@[simp] theorem State.withMatrix_line (s : State) (x : Matrix) : (s.withMatrix x).line = s.line := rfl
@[simp] theorem State.withMatrix_sys (s : State) (x : Matrix) : (s.withMatrix x).sys = s.sys := rfl
@[simp] theorem State.withMatrix_nextStart (s : State) (x : Matrix) : (s.withMatrix x).nextStart = s.nextStart := rfl
@[simp] theorem State.withMatrix_freeDraws (s : State) (x : Matrix) : (s.withMatrix x).freeDraws = s.freeDraws := rfl
@[simp] theorem State.withMatrix_pending (s : State) (x : Matrix) : (s.withMatrix x).pending = s.pending := rfl

@[simp] theorem State.withFloods_cfg (s : State) (x : Table FloodRun 6) : (s.withFloods x).cfg = s.cfg := rfl
@[simp] theorem State.withFloods_store (s : State) (x : Table FloodRun 6) : (s.withFloods x).store = s.store := rfl
@[simp] theorem State.withFloods_clock (s : State) (x : Table FloodRun 6) : (s.withFloods x).clock = s.clock := rfl
@[simp] theorem State.withFloods_sky (s : State) (x : Table FloodRun 6) : (s.withFloods x).sky = s.sky := rfl
@[simp] theorem State.withFloods_matrix (s : State) (x : Table FloodRun 6) : (s.withFloods x).matrix = s.matrix := rfl
@[simp] theorem State.withFloods_floods (s : State) (x : Table FloodRun 6) : (s.withFloods x).floods = x := rfl
@[simp] theorem State.withFloods_channels (s : State) (x : Table FloodRun 6) : (s.withFloods x).channels = s.channels := rfl
@[simp] theorem State.withFloods_stopc (s : State) (x : Table FloodRun 6) : (s.withFloods x).stopc = s.stopc := rfl
@[simp] theorem State.withFloods_sense (s : State) (x : Table FloodRun 6) : (s.withFloods x).sense = s.sense := rfl
@[simp] theorem State.withFloods_inputs (s : State) (x : Table FloodRun 6) : (s.withFloods x).inputs = s.inputs := rfl
@[simp] theorem State.withFloods_driver (s : State) (x : Table FloodRun 6) : (s.withFloods x).driver = s.driver := rfl
@[simp] theorem State.withFloods_crossings (s : State) (x : Table FloodRun 6) : (s.withFloods x).crossings = s.crossings := rfl
@[simp] theorem State.withFloods_bell (s : State) (x : Table FloodRun 6) : (s.withFloods x).bell = s.bell := rfl
@[simp] theorem State.withFloods_units (s : State) (x : Table FloodRun 6) : (s.withFloods x).units = s.units := rfl
@[simp] theorem State.withFloods_trains (s : State) (x : Table FloodRun 6) : (s.withFloods x).trains = s.trains := rfl
@[simp] theorem State.withFloods_axes (s : State) (x : Table FloodRun 6) : (s.withFloods x).axes = s.axes := rfl
@[simp] theorem State.withFloods_account (s : State) (x : Table FloodRun 6) : (s.withFloods x).account = s.account := rfl
@[simp] theorem State.withFloods_line (s : State) (x : Table FloodRun 6) : (s.withFloods x).line = s.line := rfl
@[simp] theorem State.withFloods_sys (s : State) (x : Table FloodRun 6) : (s.withFloods x).sys = s.sys := rfl
@[simp] theorem State.withFloods_nextStart (s : State) (x : Table FloodRun 6) : (s.withFloods x).nextStart = s.nextStart := rfl
@[simp] theorem State.withFloods_freeDraws (s : State) (x : Table FloodRun 6) : (s.withFloods x).freeDraws = s.freeDraws := rfl
@[simp] theorem State.withFloods_pending (s : State) (x : Table FloodRun 6) : (s.withFloods x).pending = s.pending := rfl

@[simp] theorem State.withChannels_cfg (s : State) (x : Table ChannelRun 24) : (s.withChannels x).cfg = s.cfg := rfl
@[simp] theorem State.withChannels_store (s : State) (x : Table ChannelRun 24) : (s.withChannels x).store = s.store := rfl
@[simp] theorem State.withChannels_clock (s : State) (x : Table ChannelRun 24) : (s.withChannels x).clock = s.clock := rfl
@[simp] theorem State.withChannels_sky (s : State) (x : Table ChannelRun 24) : (s.withChannels x).sky = s.sky := rfl
@[simp] theorem State.withChannels_matrix (s : State) (x : Table ChannelRun 24) : (s.withChannels x).matrix = s.matrix := rfl
@[simp] theorem State.withChannels_floods (s : State) (x : Table ChannelRun 24) : (s.withChannels x).floods = s.floods := rfl
@[simp] theorem State.withChannels_channels (s : State) (x : Table ChannelRun 24) : (s.withChannels x).channels = x := rfl
@[simp] theorem State.withChannels_stopc (s : State) (x : Table ChannelRun 24) : (s.withChannels x).stopc = s.stopc := rfl
@[simp] theorem State.withChannels_sense (s : State) (x : Table ChannelRun 24) : (s.withChannels x).sense = s.sense := rfl
@[simp] theorem State.withChannels_inputs (s : State) (x : Table ChannelRun 24) : (s.withChannels x).inputs = s.inputs := rfl
@[simp] theorem State.withChannels_driver (s : State) (x : Table ChannelRun 24) : (s.withChannels x).driver = s.driver := rfl
@[simp] theorem State.withChannels_crossings (s : State) (x : Table ChannelRun 24) : (s.withChannels x).crossings = s.crossings := rfl
@[simp] theorem State.withChannels_bell (s : State) (x : Table ChannelRun 24) : (s.withChannels x).bell = s.bell := rfl
@[simp] theorem State.withChannels_units (s : State) (x : Table ChannelRun 24) : (s.withChannels x).units = s.units := rfl
@[simp] theorem State.withChannels_trains (s : State) (x : Table ChannelRun 24) : (s.withChannels x).trains = s.trains := rfl
@[simp] theorem State.withChannels_axes (s : State) (x : Table ChannelRun 24) : (s.withChannels x).axes = s.axes := rfl
@[simp] theorem State.withChannels_account (s : State) (x : Table ChannelRun 24) : (s.withChannels x).account = s.account := rfl
@[simp] theorem State.withChannels_line (s : State) (x : Table ChannelRun 24) : (s.withChannels x).line = s.line := rfl
@[simp] theorem State.withChannels_sys (s : State) (x : Table ChannelRun 24) : (s.withChannels x).sys = s.sys := rfl
@[simp] theorem State.withChannels_nextStart (s : State) (x : Table ChannelRun 24) : (s.withChannels x).nextStart = s.nextStart := rfl
@[simp] theorem State.withChannels_freeDraws (s : State) (x : Table ChannelRun 24) : (s.withChannels x).freeDraws = s.freeDraws := rfl
@[simp] theorem State.withChannels_pending (s : State) (x : Table ChannelRun 24) : (s.withChannels x).pending = s.pending := rfl

@[simp] theorem State.withStopc_cfg (s : State) (x : StopControl) : (s.withStopc x).cfg = s.cfg := rfl
@[simp] theorem State.withStopc_store (s : State) (x : StopControl) : (s.withStopc x).store = s.store := rfl
@[simp] theorem State.withStopc_clock (s : State) (x : StopControl) : (s.withStopc x).clock = s.clock := rfl
@[simp] theorem State.withStopc_sky (s : State) (x : StopControl) : (s.withStopc x).sky = s.sky := rfl
@[simp] theorem State.withStopc_matrix (s : State) (x : StopControl) : (s.withStopc x).matrix = s.matrix := rfl
@[simp] theorem State.withStopc_floods (s : State) (x : StopControl) : (s.withStopc x).floods = s.floods := rfl
@[simp] theorem State.withStopc_channels (s : State) (x : StopControl) : (s.withStopc x).channels = s.channels := rfl
@[simp] theorem State.withStopc_stopc (s : State) (x : StopControl) : (s.withStopc x).stopc = x := rfl
@[simp] theorem State.withStopc_sense (s : State) (x : StopControl) : (s.withStopc x).sense = s.sense := rfl
@[simp] theorem State.withStopc_inputs (s : State) (x : StopControl) : (s.withStopc x).inputs = s.inputs := rfl
@[simp] theorem State.withStopc_driver (s : State) (x : StopControl) : (s.withStopc x).driver = s.driver := rfl
@[simp] theorem State.withStopc_crossings (s : State) (x : StopControl) : (s.withStopc x).crossings = s.crossings := rfl
@[simp] theorem State.withStopc_bell (s : State) (x : StopControl) : (s.withStopc x).bell = s.bell := rfl
@[simp] theorem State.withStopc_units (s : State) (x : StopControl) : (s.withStopc x).units = s.units := rfl
@[simp] theorem State.withStopc_trains (s : State) (x : StopControl) : (s.withStopc x).trains = s.trains := rfl
@[simp] theorem State.withStopc_axes (s : State) (x : StopControl) : (s.withStopc x).axes = s.axes := rfl
@[simp] theorem State.withStopc_account (s : State) (x : StopControl) : (s.withStopc x).account = s.account := rfl
@[simp] theorem State.withStopc_line (s : State) (x : StopControl) : (s.withStopc x).line = s.line := rfl
@[simp] theorem State.withStopc_sys (s : State) (x : StopControl) : (s.withStopc x).sys = s.sys := rfl
@[simp] theorem State.withStopc_nextStart (s : State) (x : StopControl) : (s.withStopc x).nextStart = s.nextStart := rfl
@[simp] theorem State.withStopc_freeDraws (s : State) (x : StopControl) : (s.withStopc x).freeDraws = s.freeDraws := rfl
@[simp] theorem State.withStopc_pending (s : State) (x : StopControl) : (s.withStopc x).pending = s.pending := rfl

@[simp] theorem State.withSense_cfg (s : State) (x : Sense) : (s.withSense x).cfg = s.cfg := rfl
@[simp] theorem State.withSense_store (s : State) (x : Sense) : (s.withSense x).store = s.store := rfl
@[simp] theorem State.withSense_clock (s : State) (x : Sense) : (s.withSense x).clock = s.clock := rfl
@[simp] theorem State.withSense_sky (s : State) (x : Sense) : (s.withSense x).sky = s.sky := rfl
@[simp] theorem State.withSense_matrix (s : State) (x : Sense) : (s.withSense x).matrix = s.matrix := rfl
@[simp] theorem State.withSense_floods (s : State) (x : Sense) : (s.withSense x).floods = s.floods := rfl
@[simp] theorem State.withSense_channels (s : State) (x : Sense) : (s.withSense x).channels = s.channels := rfl
@[simp] theorem State.withSense_stopc (s : State) (x : Sense) : (s.withSense x).stopc = s.stopc := rfl
@[simp] theorem State.withSense_sense (s : State) (x : Sense) : (s.withSense x).sense = x := rfl
@[simp] theorem State.withSense_inputs (s : State) (x : Sense) : (s.withSense x).inputs = s.inputs := rfl
@[simp] theorem State.withSense_driver (s : State) (x : Sense) : (s.withSense x).driver = s.driver := rfl
@[simp] theorem State.withSense_crossings (s : State) (x : Sense) : (s.withSense x).crossings = s.crossings := rfl
@[simp] theorem State.withSense_bell (s : State) (x : Sense) : (s.withSense x).bell = s.bell := rfl
@[simp] theorem State.withSense_units (s : State) (x : Sense) : (s.withSense x).units = s.units := rfl
@[simp] theorem State.withSense_trains (s : State) (x : Sense) : (s.withSense x).trains = s.trains := rfl
@[simp] theorem State.withSense_axes (s : State) (x : Sense) : (s.withSense x).axes = s.axes := rfl
@[simp] theorem State.withSense_account (s : State) (x : Sense) : (s.withSense x).account = s.account := rfl
@[simp] theorem State.withSense_line (s : State) (x : Sense) : (s.withSense x).line = s.line := rfl
@[simp] theorem State.withSense_sys (s : State) (x : Sense) : (s.withSense x).sys = s.sys := rfl
@[simp] theorem State.withSense_nextStart (s : State) (x : Sense) : (s.withSense x).nextStart = s.nextStart := rfl
@[simp] theorem State.withSense_freeDraws (s : State) (x : Sense) : (s.withSense x).freeDraws = s.freeDraws := rfl
@[simp] theorem State.withSense_pending (s : State) (x : Sense) : (s.withSense x).pending = s.pending := rfl

@[simp] theorem State.withInputs_cfg (s : State) (x : Table InputRun 20) : (s.withInputs x).cfg = s.cfg := rfl
@[simp] theorem State.withInputs_store (s : State) (x : Table InputRun 20) : (s.withInputs x).store = s.store := rfl
@[simp] theorem State.withInputs_clock (s : State) (x : Table InputRun 20) : (s.withInputs x).clock = s.clock := rfl
@[simp] theorem State.withInputs_sky (s : State) (x : Table InputRun 20) : (s.withInputs x).sky = s.sky := rfl
@[simp] theorem State.withInputs_matrix (s : State) (x : Table InputRun 20) : (s.withInputs x).matrix = s.matrix := rfl
@[simp] theorem State.withInputs_floods (s : State) (x : Table InputRun 20) : (s.withInputs x).floods = s.floods := rfl
@[simp] theorem State.withInputs_channels (s : State) (x : Table InputRun 20) : (s.withInputs x).channels = s.channels := rfl
@[simp] theorem State.withInputs_stopc (s : State) (x : Table InputRun 20) : (s.withInputs x).stopc = s.stopc := rfl
@[simp] theorem State.withInputs_sense (s : State) (x : Table InputRun 20) : (s.withInputs x).sense = s.sense := rfl
@[simp] theorem State.withInputs_inputs (s : State) (x : Table InputRun 20) : (s.withInputs x).inputs = x := rfl
@[simp] theorem State.withInputs_driver (s : State) (x : Table InputRun 20) : (s.withInputs x).driver = s.driver := rfl
@[simp] theorem State.withInputs_crossings (s : State) (x : Table InputRun 20) : (s.withInputs x).crossings = s.crossings := rfl
@[simp] theorem State.withInputs_bell (s : State) (x : Table InputRun 20) : (s.withInputs x).bell = s.bell := rfl
@[simp] theorem State.withInputs_units (s : State) (x : Table InputRun 20) : (s.withInputs x).units = s.units := rfl
@[simp] theorem State.withInputs_trains (s : State) (x : Table InputRun 20) : (s.withInputs x).trains = s.trains := rfl
@[simp] theorem State.withInputs_axes (s : State) (x : Table InputRun 20) : (s.withInputs x).axes = s.axes := rfl
@[simp] theorem State.withInputs_account (s : State) (x : Table InputRun 20) : (s.withInputs x).account = s.account := rfl
@[simp] theorem State.withInputs_line (s : State) (x : Table InputRun 20) : (s.withInputs x).line = s.line := rfl
@[simp] theorem State.withInputs_sys (s : State) (x : Table InputRun 20) : (s.withInputs x).sys = s.sys := rfl
@[simp] theorem State.withInputs_nextStart (s : State) (x : Table InputRun 20) : (s.withInputs x).nextStart = s.nextStart := rfl
@[simp] theorem State.withInputs_freeDraws (s : State) (x : Table InputRun 20) : (s.withInputs x).freeDraws = s.freeDraws := rfl
@[simp] theorem State.withInputs_pending (s : State) (x : Table InputRun 20) : (s.withInputs x).pending = s.pending := rfl

@[simp] theorem State.withDriver_cfg (s : State) (x : Driver) : (s.withDriver x).cfg = s.cfg := rfl
@[simp] theorem State.withDriver_store (s : State) (x : Driver) : (s.withDriver x).store = s.store := rfl
@[simp] theorem State.withDriver_clock (s : State) (x : Driver) : (s.withDriver x).clock = s.clock := rfl
@[simp] theorem State.withDriver_sky (s : State) (x : Driver) : (s.withDriver x).sky = s.sky := rfl
@[simp] theorem State.withDriver_matrix (s : State) (x : Driver) : (s.withDriver x).matrix = s.matrix := rfl
@[simp] theorem State.withDriver_floods (s : State) (x : Driver) : (s.withDriver x).floods = s.floods := rfl
@[simp] theorem State.withDriver_channels (s : State) (x : Driver) : (s.withDriver x).channels = s.channels := rfl
@[simp] theorem State.withDriver_stopc (s : State) (x : Driver) : (s.withDriver x).stopc = s.stopc := rfl
@[simp] theorem State.withDriver_sense (s : State) (x : Driver) : (s.withDriver x).sense = s.sense := rfl
@[simp] theorem State.withDriver_inputs (s : State) (x : Driver) : (s.withDriver x).inputs = s.inputs := rfl
@[simp] theorem State.withDriver_driver (s : State) (x : Driver) : (s.withDriver x).driver = x := rfl
@[simp] theorem State.withDriver_crossings (s : State) (x : Driver) : (s.withDriver x).crossings = s.crossings := rfl
@[simp] theorem State.withDriver_bell (s : State) (x : Driver) : (s.withDriver x).bell = s.bell := rfl
@[simp] theorem State.withDriver_units (s : State) (x : Driver) : (s.withDriver x).units = s.units := rfl
@[simp] theorem State.withDriver_trains (s : State) (x : Driver) : (s.withDriver x).trains = s.trains := rfl
@[simp] theorem State.withDriver_axes (s : State) (x : Driver) : (s.withDriver x).axes = s.axes := rfl
@[simp] theorem State.withDriver_account (s : State) (x : Driver) : (s.withDriver x).account = s.account := rfl
@[simp] theorem State.withDriver_line (s : State) (x : Driver) : (s.withDriver x).line = s.line := rfl
@[simp] theorem State.withDriver_sys (s : State) (x : Driver) : (s.withDriver x).sys = s.sys := rfl
@[simp] theorem State.withDriver_nextStart (s : State) (x : Driver) : (s.withDriver x).nextStart = s.nextStart := rfl
@[simp] theorem State.withDriver_freeDraws (s : State) (x : Driver) : (s.withDriver x).freeDraws = s.freeDraws := rfl
@[simp] theorem State.withDriver_pending (s : State) (x : Driver) : (s.withDriver x).pending = s.pending := rfl

@[simp] theorem State.withCrossings_cfg (s : State) (x : Table CrossingRun 2) : (s.withCrossings x).cfg = s.cfg := rfl
@[simp] theorem State.withCrossings_store (s : State) (x : Table CrossingRun 2) : (s.withCrossings x).store = s.store := rfl
@[simp] theorem State.withCrossings_clock (s : State) (x : Table CrossingRun 2) : (s.withCrossings x).clock = s.clock := rfl
@[simp] theorem State.withCrossings_sky (s : State) (x : Table CrossingRun 2) : (s.withCrossings x).sky = s.sky := rfl
@[simp] theorem State.withCrossings_matrix (s : State) (x : Table CrossingRun 2) : (s.withCrossings x).matrix = s.matrix := rfl
@[simp] theorem State.withCrossings_floods (s : State) (x : Table CrossingRun 2) : (s.withCrossings x).floods = s.floods := rfl
@[simp] theorem State.withCrossings_channels (s : State) (x : Table CrossingRun 2) : (s.withCrossings x).channels = s.channels := rfl
@[simp] theorem State.withCrossings_stopc (s : State) (x : Table CrossingRun 2) : (s.withCrossings x).stopc = s.stopc := rfl
@[simp] theorem State.withCrossings_sense (s : State) (x : Table CrossingRun 2) : (s.withCrossings x).sense = s.sense := rfl
@[simp] theorem State.withCrossings_inputs (s : State) (x : Table CrossingRun 2) : (s.withCrossings x).inputs = s.inputs := rfl
@[simp] theorem State.withCrossings_driver (s : State) (x : Table CrossingRun 2) : (s.withCrossings x).driver = s.driver := rfl
@[simp] theorem State.withCrossings_crossings (s : State) (x : Table CrossingRun 2) : (s.withCrossings x).crossings = x := rfl
@[simp] theorem State.withCrossings_bell (s : State) (x : Table CrossingRun 2) : (s.withCrossings x).bell = s.bell := rfl
@[simp] theorem State.withCrossings_units (s : State) (x : Table CrossingRun 2) : (s.withCrossings x).units = s.units := rfl
@[simp] theorem State.withCrossings_trains (s : State) (x : Table CrossingRun 2) : (s.withCrossings x).trains = s.trains := rfl
@[simp] theorem State.withCrossings_axes (s : State) (x : Table CrossingRun 2) : (s.withCrossings x).axes = s.axes := rfl
@[simp] theorem State.withCrossings_account (s : State) (x : Table CrossingRun 2) : (s.withCrossings x).account = s.account := rfl
@[simp] theorem State.withCrossings_line (s : State) (x : Table CrossingRun 2) : (s.withCrossings x).line = s.line := rfl
@[simp] theorem State.withCrossings_sys (s : State) (x : Table CrossingRun 2) : (s.withCrossings x).sys = s.sys := rfl
@[simp] theorem State.withCrossings_nextStart (s : State) (x : Table CrossingRun 2) : (s.withCrossings x).nextStart = s.nextStart := rfl
@[simp] theorem State.withCrossings_freeDraws (s : State) (x : Table CrossingRun 2) : (s.withCrossings x).freeDraws = s.freeDraws := rfl
@[simp] theorem State.withCrossings_pending (s : State) (x : Table CrossingRun 2) : (s.withCrossings x).pending = s.pending := rfl

@[simp] theorem State.withBell_cfg (s : State) (x : Bell) : (s.withBell x).cfg = s.cfg := rfl
@[simp] theorem State.withBell_store (s : State) (x : Bell) : (s.withBell x).store = s.store := rfl
@[simp] theorem State.withBell_clock (s : State) (x : Bell) : (s.withBell x).clock = s.clock := rfl
@[simp] theorem State.withBell_sky (s : State) (x : Bell) : (s.withBell x).sky = s.sky := rfl
@[simp] theorem State.withBell_matrix (s : State) (x : Bell) : (s.withBell x).matrix = s.matrix := rfl
@[simp] theorem State.withBell_floods (s : State) (x : Bell) : (s.withBell x).floods = s.floods := rfl
@[simp] theorem State.withBell_channels (s : State) (x : Bell) : (s.withBell x).channels = s.channels := rfl
@[simp] theorem State.withBell_stopc (s : State) (x : Bell) : (s.withBell x).stopc = s.stopc := rfl
@[simp] theorem State.withBell_sense (s : State) (x : Bell) : (s.withBell x).sense = s.sense := rfl
@[simp] theorem State.withBell_inputs (s : State) (x : Bell) : (s.withBell x).inputs = s.inputs := rfl
@[simp] theorem State.withBell_driver (s : State) (x : Bell) : (s.withBell x).driver = s.driver := rfl
@[simp] theorem State.withBell_crossings (s : State) (x : Bell) : (s.withBell x).crossings = s.crossings := rfl
@[simp] theorem State.withBell_bell (s : State) (x : Bell) : (s.withBell x).bell = x := rfl
@[simp] theorem State.withBell_units (s : State) (x : Bell) : (s.withBell x).units = s.units := rfl
@[simp] theorem State.withBell_trains (s : State) (x : Bell) : (s.withBell x).trains = s.trains := rfl
@[simp] theorem State.withBell_axes (s : State) (x : Bell) : (s.withBell x).axes = s.axes := rfl
@[simp] theorem State.withBell_account (s : State) (x : Bell) : (s.withBell x).account = s.account := rfl
@[simp] theorem State.withBell_line (s : State) (x : Bell) : (s.withBell x).line = s.line := rfl
@[simp] theorem State.withBell_sys (s : State) (x : Bell) : (s.withBell x).sys = s.sys := rfl
@[simp] theorem State.withBell_nextStart (s : State) (x : Bell) : (s.withBell x).nextStart = s.nextStart := rfl
@[simp] theorem State.withBell_freeDraws (s : State) (x : Bell) : (s.withBell x).freeDraws = s.freeDraws := rfl
@[simp] theorem State.withBell_pending (s : State) (x : Bell) : (s.withBell x).pending = s.pending := rfl

@[simp] theorem State.withUnits_cfg (s : State) (x : Table UnitRec 20) : (s.withUnits x).cfg = s.cfg := rfl
@[simp] theorem State.withUnits_store (s : State) (x : Table UnitRec 20) : (s.withUnits x).store = s.store := rfl
@[simp] theorem State.withUnits_clock (s : State) (x : Table UnitRec 20) : (s.withUnits x).clock = s.clock := rfl
@[simp] theorem State.withUnits_sky (s : State) (x : Table UnitRec 20) : (s.withUnits x).sky = s.sky := rfl
@[simp] theorem State.withUnits_matrix (s : State) (x : Table UnitRec 20) : (s.withUnits x).matrix = s.matrix := rfl
@[simp] theorem State.withUnits_floods (s : State) (x : Table UnitRec 20) : (s.withUnits x).floods = s.floods := rfl
@[simp] theorem State.withUnits_channels (s : State) (x : Table UnitRec 20) : (s.withUnits x).channels = s.channels := rfl
@[simp] theorem State.withUnits_stopc (s : State) (x : Table UnitRec 20) : (s.withUnits x).stopc = s.stopc := rfl
@[simp] theorem State.withUnits_sense (s : State) (x : Table UnitRec 20) : (s.withUnits x).sense = s.sense := rfl
@[simp] theorem State.withUnits_inputs (s : State) (x : Table UnitRec 20) : (s.withUnits x).inputs = s.inputs := rfl
@[simp] theorem State.withUnits_driver (s : State) (x : Table UnitRec 20) : (s.withUnits x).driver = s.driver := rfl
@[simp] theorem State.withUnits_crossings (s : State) (x : Table UnitRec 20) : (s.withUnits x).crossings = s.crossings := rfl
@[simp] theorem State.withUnits_bell (s : State) (x : Table UnitRec 20) : (s.withUnits x).bell = s.bell := rfl
@[simp] theorem State.withUnits_units (s : State) (x : Table UnitRec 20) : (s.withUnits x).units = x := rfl
@[simp] theorem State.withUnits_trains (s : State) (x : Table UnitRec 20) : (s.withUnits x).trains = s.trains := rfl
@[simp] theorem State.withUnits_axes (s : State) (x : Table UnitRec 20) : (s.withUnits x).axes = s.axes := rfl
@[simp] theorem State.withUnits_account (s : State) (x : Table UnitRec 20) : (s.withUnits x).account = s.account := rfl
@[simp] theorem State.withUnits_line (s : State) (x : Table UnitRec 20) : (s.withUnits x).line = s.line := rfl
@[simp] theorem State.withUnits_sys (s : State) (x : Table UnitRec 20) : (s.withUnits x).sys = s.sys := rfl
@[simp] theorem State.withUnits_nextStart (s : State) (x : Table UnitRec 20) : (s.withUnits x).nextStart = s.nextStart := rfl
@[simp] theorem State.withUnits_freeDraws (s : State) (x : Table UnitRec 20) : (s.withUnits x).freeDraws = s.freeDraws := rfl
@[simp] theorem State.withUnits_pending (s : State) (x : Table UnitRec 20) : (s.withUnits x).pending = s.pending := rfl

@[simp] theorem State.withTrains_cfg (s : State) (x : Table TrainRun 6) : (s.withTrains x).cfg = s.cfg := rfl
@[simp] theorem State.withTrains_store (s : State) (x : Table TrainRun 6) : (s.withTrains x).store = s.store := rfl
@[simp] theorem State.withTrains_clock (s : State) (x : Table TrainRun 6) : (s.withTrains x).clock = s.clock := rfl
@[simp] theorem State.withTrains_sky (s : State) (x : Table TrainRun 6) : (s.withTrains x).sky = s.sky := rfl
@[simp] theorem State.withTrains_matrix (s : State) (x : Table TrainRun 6) : (s.withTrains x).matrix = s.matrix := rfl
@[simp] theorem State.withTrains_floods (s : State) (x : Table TrainRun 6) : (s.withTrains x).floods = s.floods := rfl
@[simp] theorem State.withTrains_channels (s : State) (x : Table TrainRun 6) : (s.withTrains x).channels = s.channels := rfl
@[simp] theorem State.withTrains_stopc (s : State) (x : Table TrainRun 6) : (s.withTrains x).stopc = s.stopc := rfl
@[simp] theorem State.withTrains_sense (s : State) (x : Table TrainRun 6) : (s.withTrains x).sense = s.sense := rfl
@[simp] theorem State.withTrains_inputs (s : State) (x : Table TrainRun 6) : (s.withTrains x).inputs = s.inputs := rfl
@[simp] theorem State.withTrains_driver (s : State) (x : Table TrainRun 6) : (s.withTrains x).driver = s.driver := rfl
@[simp] theorem State.withTrains_crossings (s : State) (x : Table TrainRun 6) : (s.withTrains x).crossings = s.crossings := rfl
@[simp] theorem State.withTrains_bell (s : State) (x : Table TrainRun 6) : (s.withTrains x).bell = s.bell := rfl
@[simp] theorem State.withTrains_units (s : State) (x : Table TrainRun 6) : (s.withTrains x).units = s.units := rfl
@[simp] theorem State.withTrains_trains (s : State) (x : Table TrainRun 6) : (s.withTrains x).trains = x := rfl
@[simp] theorem State.withTrains_axes (s : State) (x : Table TrainRun 6) : (s.withTrains x).axes = s.axes := rfl
@[simp] theorem State.withTrains_account (s : State) (x : Table TrainRun 6) : (s.withTrains x).account = s.account := rfl
@[simp] theorem State.withTrains_line (s : State) (x : Table TrainRun 6) : (s.withTrains x).line = s.line := rfl
@[simp] theorem State.withTrains_sys (s : State) (x : Table TrainRun 6) : (s.withTrains x).sys = s.sys := rfl
@[simp] theorem State.withTrains_nextStart (s : State) (x : Table TrainRun 6) : (s.withTrains x).nextStart = s.nextStart := rfl
@[simp] theorem State.withTrains_freeDraws (s : State) (x : Table TrainRun 6) : (s.withTrains x).freeDraws = s.freeDraws := rfl
@[simp] theorem State.withTrains_pending (s : State) (x : Table TrainRun 6) : (s.withTrains x).pending = s.pending := rfl

@[simp] theorem State.withAxes_cfg (s : State) (x : Table AxisRun 4) : (s.withAxes x).cfg = s.cfg := rfl
@[simp] theorem State.withAxes_store (s : State) (x : Table AxisRun 4) : (s.withAxes x).store = s.store := rfl
@[simp] theorem State.withAxes_clock (s : State) (x : Table AxisRun 4) : (s.withAxes x).clock = s.clock := rfl
@[simp] theorem State.withAxes_sky (s : State) (x : Table AxisRun 4) : (s.withAxes x).sky = s.sky := rfl
@[simp] theorem State.withAxes_matrix (s : State) (x : Table AxisRun 4) : (s.withAxes x).matrix = s.matrix := rfl
@[simp] theorem State.withAxes_floods (s : State) (x : Table AxisRun 4) : (s.withAxes x).floods = s.floods := rfl
@[simp] theorem State.withAxes_channels (s : State) (x : Table AxisRun 4) : (s.withAxes x).channels = s.channels := rfl
@[simp] theorem State.withAxes_stopc (s : State) (x : Table AxisRun 4) : (s.withAxes x).stopc = s.stopc := rfl
@[simp] theorem State.withAxes_sense (s : State) (x : Table AxisRun 4) : (s.withAxes x).sense = s.sense := rfl
@[simp] theorem State.withAxes_inputs (s : State) (x : Table AxisRun 4) : (s.withAxes x).inputs = s.inputs := rfl
@[simp] theorem State.withAxes_driver (s : State) (x : Table AxisRun 4) : (s.withAxes x).driver = s.driver := rfl
@[simp] theorem State.withAxes_crossings (s : State) (x : Table AxisRun 4) : (s.withAxes x).crossings = s.crossings := rfl
@[simp] theorem State.withAxes_bell (s : State) (x : Table AxisRun 4) : (s.withAxes x).bell = s.bell := rfl
@[simp] theorem State.withAxes_units (s : State) (x : Table AxisRun 4) : (s.withAxes x).units = s.units := rfl
@[simp] theorem State.withAxes_trains (s : State) (x : Table AxisRun 4) : (s.withAxes x).trains = s.trains := rfl
@[simp] theorem State.withAxes_axes (s : State) (x : Table AxisRun 4) : (s.withAxes x).axes = x := rfl
@[simp] theorem State.withAxes_account (s : State) (x : Table AxisRun 4) : (s.withAxes x).account = s.account := rfl
@[simp] theorem State.withAxes_line (s : State) (x : Table AxisRun 4) : (s.withAxes x).line = s.line := rfl
@[simp] theorem State.withAxes_sys (s : State) (x : Table AxisRun 4) : (s.withAxes x).sys = s.sys := rfl
@[simp] theorem State.withAxes_nextStart (s : State) (x : Table AxisRun 4) : (s.withAxes x).nextStart = s.nextStart := rfl
@[simp] theorem State.withAxes_freeDraws (s : State) (x : Table AxisRun 4) : (s.withAxes x).freeDraws = s.freeDraws := rfl
@[simp] theorem State.withAxes_pending (s : State) (x : Table AxisRun 4) : (s.withAxes x).pending = s.pending := rfl

@[simp] theorem State.withAccount_cfg (s : State) (x : Account) : (s.withAccount x).cfg = s.cfg := rfl
@[simp] theorem State.withAccount_store (s : State) (x : Account) : (s.withAccount x).store = s.store := rfl
@[simp] theorem State.withAccount_clock (s : State) (x : Account) : (s.withAccount x).clock = s.clock := rfl
@[simp] theorem State.withAccount_sky (s : State) (x : Account) : (s.withAccount x).sky = s.sky := rfl
@[simp] theorem State.withAccount_matrix (s : State) (x : Account) : (s.withAccount x).matrix = s.matrix := rfl
@[simp] theorem State.withAccount_floods (s : State) (x : Account) : (s.withAccount x).floods = s.floods := rfl
@[simp] theorem State.withAccount_channels (s : State) (x : Account) : (s.withAccount x).channels = s.channels := rfl
@[simp] theorem State.withAccount_stopc (s : State) (x : Account) : (s.withAccount x).stopc = s.stopc := rfl
@[simp] theorem State.withAccount_sense (s : State) (x : Account) : (s.withAccount x).sense = s.sense := rfl
@[simp] theorem State.withAccount_inputs (s : State) (x : Account) : (s.withAccount x).inputs = s.inputs := rfl
@[simp] theorem State.withAccount_driver (s : State) (x : Account) : (s.withAccount x).driver = s.driver := rfl
@[simp] theorem State.withAccount_crossings (s : State) (x : Account) : (s.withAccount x).crossings = s.crossings := rfl
@[simp] theorem State.withAccount_bell (s : State) (x : Account) : (s.withAccount x).bell = s.bell := rfl
@[simp] theorem State.withAccount_units (s : State) (x : Account) : (s.withAccount x).units = s.units := rfl
@[simp] theorem State.withAccount_trains (s : State) (x : Account) : (s.withAccount x).trains = s.trains := rfl
@[simp] theorem State.withAccount_axes (s : State) (x : Account) : (s.withAccount x).axes = s.axes := rfl
@[simp] theorem State.withAccount_account (s : State) (x : Account) : (s.withAccount x).account = x := rfl
@[simp] theorem State.withAccount_line (s : State) (x : Account) : (s.withAccount x).line = s.line := rfl
@[simp] theorem State.withAccount_sys (s : State) (x : Account) : (s.withAccount x).sys = s.sys := rfl
@[simp] theorem State.withAccount_nextStart (s : State) (x : Account) : (s.withAccount x).nextStart = s.nextStart := rfl
@[simp] theorem State.withAccount_freeDraws (s : State) (x : Account) : (s.withAccount x).freeDraws = s.freeDraws := rfl
@[simp] theorem State.withAccount_pending (s : State) (x : Account) : (s.withAccount x).pending = s.pending := rfl

@[simp] theorem State.withLine_cfg (s : State) (x : CommandLine) : (s.withLine x).cfg = s.cfg := rfl
@[simp] theorem State.withLine_store (s : State) (x : CommandLine) : (s.withLine x).store = s.store := rfl
@[simp] theorem State.withLine_clock (s : State) (x : CommandLine) : (s.withLine x).clock = s.clock := rfl
@[simp] theorem State.withLine_sky (s : State) (x : CommandLine) : (s.withLine x).sky = s.sky := rfl
@[simp] theorem State.withLine_matrix (s : State) (x : CommandLine) : (s.withLine x).matrix = s.matrix := rfl
@[simp] theorem State.withLine_floods (s : State) (x : CommandLine) : (s.withLine x).floods = s.floods := rfl
@[simp] theorem State.withLine_channels (s : State) (x : CommandLine) : (s.withLine x).channels = s.channels := rfl
@[simp] theorem State.withLine_stopc (s : State) (x : CommandLine) : (s.withLine x).stopc = s.stopc := rfl
@[simp] theorem State.withLine_sense (s : State) (x : CommandLine) : (s.withLine x).sense = s.sense := rfl
@[simp] theorem State.withLine_inputs (s : State) (x : CommandLine) : (s.withLine x).inputs = s.inputs := rfl
@[simp] theorem State.withLine_driver (s : State) (x : CommandLine) : (s.withLine x).driver = s.driver := rfl
@[simp] theorem State.withLine_crossings (s : State) (x : CommandLine) : (s.withLine x).crossings = s.crossings := rfl
@[simp] theorem State.withLine_bell (s : State) (x : CommandLine) : (s.withLine x).bell = s.bell := rfl
@[simp] theorem State.withLine_units (s : State) (x : CommandLine) : (s.withLine x).units = s.units := rfl
@[simp] theorem State.withLine_trains (s : State) (x : CommandLine) : (s.withLine x).trains = s.trains := rfl
@[simp] theorem State.withLine_axes (s : State) (x : CommandLine) : (s.withLine x).axes = s.axes := rfl
@[simp] theorem State.withLine_account (s : State) (x : CommandLine) : (s.withLine x).account = s.account := rfl
@[simp] theorem State.withLine_line (s : State) (x : CommandLine) : (s.withLine x).line = x := rfl
@[simp] theorem State.withLine_sys (s : State) (x : CommandLine) : (s.withLine x).sys = s.sys := rfl
@[simp] theorem State.withLine_nextStart (s : State) (x : CommandLine) : (s.withLine x).nextStart = s.nextStart := rfl
@[simp] theorem State.withLine_freeDraws (s : State) (x : CommandLine) : (s.withLine x).freeDraws = s.freeDraws := rfl
@[simp] theorem State.withLine_pending (s : State) (x : CommandLine) : (s.withLine x).pending = s.pending := rfl

@[simp] theorem State.withSys_cfg (s : State) (x : System) : (s.withSys x).cfg = s.cfg := rfl
@[simp] theorem State.withSys_store (s : State) (x : System) : (s.withSys x).store = s.store := rfl
@[simp] theorem State.withSys_clock (s : State) (x : System) : (s.withSys x).clock = s.clock := rfl
@[simp] theorem State.withSys_sky (s : State) (x : System) : (s.withSys x).sky = s.sky := rfl
@[simp] theorem State.withSys_matrix (s : State) (x : System) : (s.withSys x).matrix = s.matrix := rfl
@[simp] theorem State.withSys_floods (s : State) (x : System) : (s.withSys x).floods = s.floods := rfl
@[simp] theorem State.withSys_channels (s : State) (x : System) : (s.withSys x).channels = s.channels := rfl
@[simp] theorem State.withSys_stopc (s : State) (x : System) : (s.withSys x).stopc = s.stopc := rfl
@[simp] theorem State.withSys_sense (s : State) (x : System) : (s.withSys x).sense = s.sense := rfl
@[simp] theorem State.withSys_inputs (s : State) (x : System) : (s.withSys x).inputs = s.inputs := rfl
@[simp] theorem State.withSys_driver (s : State) (x : System) : (s.withSys x).driver = s.driver := rfl
@[simp] theorem State.withSys_crossings (s : State) (x : System) : (s.withSys x).crossings = s.crossings := rfl
@[simp] theorem State.withSys_bell (s : State) (x : System) : (s.withSys x).bell = s.bell := rfl
@[simp] theorem State.withSys_units (s : State) (x : System) : (s.withSys x).units = s.units := rfl
@[simp] theorem State.withSys_trains (s : State) (x : System) : (s.withSys x).trains = s.trains := rfl
@[simp] theorem State.withSys_axes (s : State) (x : System) : (s.withSys x).axes = s.axes := rfl
@[simp] theorem State.withSys_account (s : State) (x : System) : (s.withSys x).account = s.account := rfl
@[simp] theorem State.withSys_line (s : State) (x : System) : (s.withSys x).line = s.line := rfl
@[simp] theorem State.withSys_sys (s : State) (x : System) : (s.withSys x).sys = x := rfl
@[simp] theorem State.withSys_nextStart (s : State) (x : System) : (s.withSys x).nextStart = s.nextStart := rfl
@[simp] theorem State.withSys_freeDraws (s : State) (x : System) : (s.withSys x).freeDraws = s.freeDraws := rfl
@[simp] theorem State.withSys_pending (s : State) (x : System) : (s.withSys x).pending = s.pending := rfl

@[simp] theorem State.withNextStart_cfg (s : State) (x : Option Nat) : (s.withNextStart x).cfg = s.cfg := rfl
@[simp] theorem State.withNextStart_store (s : State) (x : Option Nat) : (s.withNextStart x).store = s.store := rfl
@[simp] theorem State.withNextStart_clock (s : State) (x : Option Nat) : (s.withNextStart x).clock = s.clock := rfl
@[simp] theorem State.withNextStart_sky (s : State) (x : Option Nat) : (s.withNextStart x).sky = s.sky := rfl
@[simp] theorem State.withNextStart_matrix (s : State) (x : Option Nat) : (s.withNextStart x).matrix = s.matrix := rfl
@[simp] theorem State.withNextStart_floods (s : State) (x : Option Nat) : (s.withNextStart x).floods = s.floods := rfl
@[simp] theorem State.withNextStart_channels (s : State) (x : Option Nat) : (s.withNextStart x).channels = s.channels := rfl
@[simp] theorem State.withNextStart_stopc (s : State) (x : Option Nat) : (s.withNextStart x).stopc = s.stopc := rfl
@[simp] theorem State.withNextStart_sense (s : State) (x : Option Nat) : (s.withNextStart x).sense = s.sense := rfl
@[simp] theorem State.withNextStart_inputs (s : State) (x : Option Nat) : (s.withNextStart x).inputs = s.inputs := rfl
@[simp] theorem State.withNextStart_driver (s : State) (x : Option Nat) : (s.withNextStart x).driver = s.driver := rfl
@[simp] theorem State.withNextStart_crossings (s : State) (x : Option Nat) : (s.withNextStart x).crossings = s.crossings := rfl
@[simp] theorem State.withNextStart_bell (s : State) (x : Option Nat) : (s.withNextStart x).bell = s.bell := rfl
@[simp] theorem State.withNextStart_units (s : State) (x : Option Nat) : (s.withNextStart x).units = s.units := rfl
@[simp] theorem State.withNextStart_trains (s : State) (x : Option Nat) : (s.withNextStart x).trains = s.trains := rfl
@[simp] theorem State.withNextStart_axes (s : State) (x : Option Nat) : (s.withNextStart x).axes = s.axes := rfl
@[simp] theorem State.withNextStart_account (s : State) (x : Option Nat) : (s.withNextStart x).account = s.account := rfl
@[simp] theorem State.withNextStart_line (s : State) (x : Option Nat) : (s.withNextStart x).line = s.line := rfl
@[simp] theorem State.withNextStart_sys (s : State) (x : Option Nat) : (s.withNextStart x).sys = s.sys := rfl
@[simp] theorem State.withNextStart_nextStart (s : State) (x : Option Nat) : (s.withNextStart x).nextStart = x := rfl
@[simp] theorem State.withNextStart_freeDraws (s : State) (x : Option Nat) : (s.withNextStart x).freeDraws = s.freeDraws := rfl
@[simp] theorem State.withNextStart_pending (s : State) (x : Option Nat) : (s.withNextStart x).pending = s.pending := rfl

@[simp] theorem State.withFreeDraws_cfg (s : State) (x : Nat) : (s.withFreeDraws x).cfg = s.cfg := rfl
@[simp] theorem State.withFreeDraws_store (s : State) (x : Nat) : (s.withFreeDraws x).store = s.store := rfl
@[simp] theorem State.withFreeDraws_clock (s : State) (x : Nat) : (s.withFreeDraws x).clock = s.clock := rfl
@[simp] theorem State.withFreeDraws_sky (s : State) (x : Nat) : (s.withFreeDraws x).sky = s.sky := rfl
@[simp] theorem State.withFreeDraws_matrix (s : State) (x : Nat) : (s.withFreeDraws x).matrix = s.matrix := rfl
@[simp] theorem State.withFreeDraws_floods (s : State) (x : Nat) : (s.withFreeDraws x).floods = s.floods := rfl
@[simp] theorem State.withFreeDraws_channels (s : State) (x : Nat) : (s.withFreeDraws x).channels = s.channels := rfl
@[simp] theorem State.withFreeDraws_stopc (s : State) (x : Nat) : (s.withFreeDraws x).stopc = s.stopc := rfl
@[simp] theorem State.withFreeDraws_sense (s : State) (x : Nat) : (s.withFreeDraws x).sense = s.sense := rfl
@[simp] theorem State.withFreeDraws_inputs (s : State) (x : Nat) : (s.withFreeDraws x).inputs = s.inputs := rfl
@[simp] theorem State.withFreeDraws_driver (s : State) (x : Nat) : (s.withFreeDraws x).driver = s.driver := rfl
@[simp] theorem State.withFreeDraws_crossings (s : State) (x : Nat) : (s.withFreeDraws x).crossings = s.crossings := rfl
@[simp] theorem State.withFreeDraws_bell (s : State) (x : Nat) : (s.withFreeDraws x).bell = s.bell := rfl
@[simp] theorem State.withFreeDraws_units (s : State) (x : Nat) : (s.withFreeDraws x).units = s.units := rfl
@[simp] theorem State.withFreeDraws_trains (s : State) (x : Nat) : (s.withFreeDraws x).trains = s.trains := rfl
@[simp] theorem State.withFreeDraws_axes (s : State) (x : Nat) : (s.withFreeDraws x).axes = s.axes := rfl
@[simp] theorem State.withFreeDraws_account (s : State) (x : Nat) : (s.withFreeDraws x).account = s.account := rfl
@[simp] theorem State.withFreeDraws_line (s : State) (x : Nat) : (s.withFreeDraws x).line = s.line := rfl
@[simp] theorem State.withFreeDraws_sys (s : State) (x : Nat) : (s.withFreeDraws x).sys = s.sys := rfl
@[simp] theorem State.withFreeDraws_nextStart (s : State) (x : Nat) : (s.withFreeDraws x).nextStart = s.nextStart := rfl
@[simp] theorem State.withFreeDraws_freeDraws (s : State) (x : Nat) : (s.withFreeDraws x).freeDraws = x := rfl
@[simp] theorem State.withFreeDraws_pending (s : State) (x : Nat) : (s.withFreeDraws x).pending = s.pending := rfl

@[simp] theorem State.withPending_cfg (s : State) (x : List Instr) : (s.withPending x).cfg = s.cfg := rfl
@[simp] theorem State.withPending_store (s : State) (x : List Instr) : (s.withPending x).store = s.store := rfl
@[simp] theorem State.withPending_clock (s : State) (x : List Instr) : (s.withPending x).clock = s.clock := rfl
@[simp] theorem State.withPending_sky (s : State) (x : List Instr) : (s.withPending x).sky = s.sky := rfl
@[simp] theorem State.withPending_matrix (s : State) (x : List Instr) : (s.withPending x).matrix = s.matrix := rfl
@[simp] theorem State.withPending_floods (s : State) (x : List Instr) : (s.withPending x).floods = s.floods := rfl
@[simp] theorem State.withPending_channels (s : State) (x : List Instr) : (s.withPending x).channels = s.channels := rfl
@[simp] theorem State.withPending_stopc (s : State) (x : List Instr) : (s.withPending x).stopc = s.stopc := rfl
@[simp] theorem State.withPending_sense (s : State) (x : List Instr) : (s.withPending x).sense = s.sense := rfl
@[simp] theorem State.withPending_inputs (s : State) (x : List Instr) : (s.withPending x).inputs = s.inputs := rfl
@[simp] theorem State.withPending_driver (s : State) (x : List Instr) : (s.withPending x).driver = s.driver := rfl
@[simp] theorem State.withPending_crossings (s : State) (x : List Instr) : (s.withPending x).crossings = s.crossings := rfl
@[simp] theorem State.withPending_bell (s : State) (x : List Instr) : (s.withPending x).bell = s.bell := rfl
@[simp] theorem State.withPending_units (s : State) (x : List Instr) : (s.withPending x).units = s.units := rfl
@[simp] theorem State.withPending_trains (s : State) (x : List Instr) : (s.withPending x).trains = s.trains := rfl
@[simp] theorem State.withPending_axes (s : State) (x : List Instr) : (s.withPending x).axes = s.axes := rfl
@[simp] theorem State.withPending_account (s : State) (x : List Instr) : (s.withPending x).account = s.account := rfl
@[simp] theorem State.withPending_line (s : State) (x : List Instr) : (s.withPending x).line = s.line := rfl
@[simp] theorem State.withPending_sys (s : State) (x : List Instr) : (s.withPending x).sys = s.sys := rfl
@[simp] theorem State.withPending_nextStart (s : State) (x : List Instr) : (s.withPending x).nextStart = s.nextStart := rfl
@[simp] theorem State.withPending_freeDraws (s : State) (x : List Instr) : (s.withPending x).freeDraws = s.freeDraws := rfl
@[simp] theorem State.withPending_pending (s : State) (x : List Instr) : (s.withPending x).pending = x := rfl

end Sys2Proof.Machine
end

