-- ==== Sys2Proof/Laws/Table.lean ====
section
/-! SUPPORT. What each table operation leaves at each number, and object numbers on the line. -/

namespace Sys2Proof

@[ext] theorem Table.ext {α : Type} {n : Nat} {t u : Table α n} (h : ∀ i, t.get i = u.get i) : t = u := by
  cases t with
  | mk a ha => cases u with
    | mk b hb =>
      have : a = b := List.ext_getElem (ha.trans hb.symm) fun i h1 _ => h ⟨i, ha ▸ h1⟩
      subst this; rfl

@[simp] theorem Table.get_set_self {α : Type} {n : Nat} (t : Table α n) (i : Fin n) (x : α) :
    (t.set i x).get i = x := by simp [Table.get, Table.set]

theorem Table.get_set_of_ne {α : Type} {n : Nat} (t : Table α n) {i j : Fin n} (x : α) (h : j ≠ i) :
    (t.set i x).get j = t.get j := by
  have : i.val ≠ j.val := fun e => h (Fin.ext e.symm)
  simp [Table.get, Table.set, this]

theorem Table.get_set {α : Type} {n : Nat} (t : Table α n) (i j : Fin n) (x : α) :
    (t.set i x).get j = if j = i then x else t.get j := by
  by_cases h : j = i
  · subst h; simp
  · rw [if_neg h, Table.get_set_of_ne t x h]

@[simp] theorem Table.get_modify_self {α : Type} {n : Nat} (t : Table α n) (i : Fin n) (f : α → α) :
    (t.modify i f).get i = f (t.get i) := Table.get_set_self ..

theorem Table.get_modify {α : Type} {n : Nat} (t : Table α n) (i j : Fin n) (f : α → α) :
    (t.modify i f).get j = if j = i then f (t.get j) else t.get j := by
  rw [Table.modify, Table.get_set]; split <;> simp_all

theorem Table.get_modify_of_ne {α : Type} {n : Nat} (t : Table α n) {i j : Fin n} (f : α → α)
    (h : j ≠ i) : (t.modify i f).get j = t.get j := Table.get_set_of_ne t _ h

@[simp] theorem Table.get_ofFn {α : Type} {n : Nat} (f : Fin n → α) (i : Fin n) :
    (Table.ofFn f).get i = f i := by simp [Table.get, Table.ofFn]

@[simp] theorem Table.get_replicate {α : Type} {n : Nat} (x : α) (i : Fin n) :
    (Table.replicate n x).get i = x := by simp [Table.get, Table.replicate]

@[simp] theorem Table.get_map {α β : Type} {n : Nat} (f : α → β) (t : Table α n) (i : Fin n) :
    (t.map f).get i = f (t.get i) := by simp [Table.get, Table.map]

@[simp] theorem Table.get_mapIdx {α β : Type} {n : Nat} (f : Fin n → α → β) (t : Table α n) (i : Fin n) :
    (t.mapIdx f).get i = f i (t.get i) := by simp [Table.mapIdx]

@[simp] theorem Table.set_get {α : Type} {n : Nat} (t : Table α n) (i : Fin n) : t.set i (t.get i) = t := by
  ext j; rw [Table.get_set]; split <;> simp_all

/-- A test of every element is a test at every number. -/
theorem Table.all_iff {α : Type} {n : Nat} (t : Table α n) (p : α → Bool) :
    t.data.all p = true ↔ ∀ i, p (t.get i) = true := by
  simp only [List.all_eq_true]
  constructor
  · intro h i; exact h _ (List.getElem_mem ..)
  · intro h x hx
    obtain ⟨k, hk, rfl⟩ := List.getElem_of_mem hx
    exact h ⟨k, t.len ▸ hk⟩

theorem Table.any_iff {α : Type} {n : Nat} (t : Table α n) (p : α → Bool) :
    t.data.any p = true ↔ ∃ i, p (t.get i) = true := by
  simp only [List.any_eq_true]
  constructor
  · rintro ⟨x, hx, hp⟩
    obtain ⟨k, hk, rfl⟩ := List.getElem_of_mem hx
    exact ⟨⟨k, t.len ▸ hk⟩, hp⟩
  · rintro ⟨i, hi⟩; exact ⟨_, List.getElem_mem .., hi⟩

@[simp] theorem mem_ids {n : Nat} (i : Fin n) : i ∈ ids n := List.mem_finRange i

theorem ids_pairwise (n : Nat) : (ids n).Pairwise (· < ·) := List.pairwise_lt_finRange n

/-! ## Object numbers -/

@[simp] theorem asId_val {n : Nat} (i : Fin n) : asId n i.val = some i := by simp [asId]

theorem asId_eq_some {n k : Nat} {i : Fin n} : asId n k = some i ↔ k = i.val := by
  unfold asId; split
  · constructor
    · intro h; cases h; rfl
    · intro h; simp [h]
  · constructor
    · intro h; cases h
    · intro h; omega

theorem asId_eq_none {n k : Nat} : asId n k = none ↔ n ≤ k := by
  unfold asId; split <;> simp <;> omega

end Sys2Proof
end

