-- ==== Sys2Proof/Laws/Ops.lean ====
section
/-! SUPPORT. What the shared operations do: how a line and an event reach their block, the operand forms,
and what reports, answers and the transmitter may change. -/

namespace Sys2Proof.Machine

open Sys2Proof.Safety

/-! ## How a command reaches its block -/

/-- A line the part takes: its block acts, and its answer joins the reply order (R184, R185). -/
theorem command_of_takes {f : State → Ans} {s : State} (h : takes s) :
    command f s = replies (f s).1 (f s).2 := by
  obtain ⟨a, b, c⟩ := h; simp [command, lineCommand, whenReady, replies, a, b, c]

/-- Before `#READY` a line is answered `NO START` (R184). -/
theorem command_of_start {f : State → Ans} {s : State} (h : s.sys.ready = false)
    (h1 : s.sys.rstHeld = false) (h2 : s.line.closed = false) :
    command f s = replies s (.no .start) := by
  simp [command, lineCommand, whenReady, replies, refuse, h, h1, h2]

/-- While RST holds the part, or after a `RESET`, no line has an effect (R196). -/
theorem command_of_shut {f : State → Ans} {s : State}
    (h : s.sys.rstHeld = true ∨ s.line.closed = true) : command f s = .next s := by
  simp only [command, lineCommand, Bool.or_eq_true]
  rw [if_pos h]

/-- An event the part takes (R196). -/
theorem event_of_runs {f : State → State} {s : State} (h : runs s) : event f s = acts (f s) := by
  simp [event, acts, show s.sys.rstHeld = false from h]

/-- While RST holds the part no event has an effect (R196). -/
theorem event_of_held {f : State → State} {s : State} (h : s.sys.rstHeld = true) :
    event f s = .next s := by simp [event, h]

/-- A setting form while no SAVE is in flight (R194). -/
theorem unlessBusy_of_idle {f : State → Ans} {s : State} (h : s.busy = false) : unlessBusy s f = f s := by
  simp [unlessBusy, h]

/-- A setting form while a SAVE is in flight (R194). -/
theorem unlessBusy_of_busy {f : State → Ans} {s : State} (h : s.busy = true) :
    unlessBusy s f = refuse .busy s := by simp [unlessBusy, h]

theorem unlessBusy_of_settable {f : State → Ans} {s : State} (h : settable s) : unlessBusy s f = f s :=
  unlessBusy_of_idle h.2

/-- A refused block call changes nothing under a wait for `SAVE`, when the block's refusals do not. -/
theorem unlessBusy_refused {f : State → Ans} {s : State} {r : Reason}
    (h : (f s).2 = .no r → (f s).1 = s) : (unlessBusy s f).2 = .no r → (unlessBusy s f).1 = s := by
  unfold unlessBusy; split
  · intro _; rfl
  · exact h

@[simp] theorem refuse_fst (r : Reason) (s : State) : (refuse r s).1 = s := rfl
@[simp] theorem refuse_snd (r : Reason) (s : State) : (refuse r s).2 = .no r := rfl
@[simp] theorem taken_fst (s : State) : (taken s).1 = s := rfl
@[simp] theorem taken_snd (s : State) : (taken s).2 = .ok := rfl
@[simp] theorem answered_fst (ts : List Tok) (s : State) : (answered ts s).1 = s := rfl
@[simp] theorem answered_snd (ts : List Tok) (s : State) : (answered ts s).2 = .data ts := rfl
@[simp] theorem takenClamped_fst (b : Bool) (s : State) : (takenClamped b s).1 = s := rfl
@[simp] theorem takenClamped_snd (b : Bool) (s : State) : (takenClamped b s).2 = okOr b := rfl

/-! ## Spans -/

/-- A section lies in the span when one of its elements is that section (R113). -/
@[simp] theorem TrainRun.spans_iff (t : TrainRun) (x : Section) :
    t.spans x = true ↔ ∃ e ∈ t.span, e.sec = x := by
  simp [TrainRun.spans]

/-- A mark of section x is expected of a moving train that has x in its span or holds its unit (R143). -/
theorem State.expects_iff (s : State) (n : Train) (x : Section) : s.expects n x = true ↔
    (s.trains.get n).moving = true ∧ ((∃ e ∈ (s.trains.get n).span, e.sec = x) ∨ s.holds n x = true) := by
  simp [State.expects]

/-! ## Operand forms -/

theorem timeValue_of_ok {t : TimeTok} (h : timeOk t) : timeValue t = some (secs t) := by
  obtain ⟨a, b, c⟩ := h; simp [timeValue, secs, a, b, c]

theorem timeValue_of_not_ok {t : TimeTok} (h : ¬ timeOk t) : timeValue t = none := by
  unfold timeOk at h; simp only [timeValue]; rw [if_neg h]

theorem secs_lt {t : TimeTok} (h : timeOk t) : secs t < 86400 := by
  obtain ⟨a, b, c⟩ := h; unfold secs; omega

@[simp] theorem groupValue_map (g : Option GroupId) : groupValue (g.map Fin.val) = some g := by
  cases g <;> simp [groupValue]

@[simp] theorem asIds_map {k : Nat} (xs : List (Fin k)) : asIds k (xs.map Fin.val) = some xs := by
  induction xs with
  | nil => rfl
  | cons x xs ih => simp [asIds, ih]

/-- Every number of a list names an object, and the list is theirs. -/
theorem asIds_eq_some {k : Nat} {ns : List Nat} {xs : List (Fin k)} :
    asIds k ns = some xs ↔ ns = xs.map Fin.val := by
  induction ns generalizing xs with
  | nil => cases xs <;> simp [asIds]
  | cons n ns ih =>
    simp only [asIds]
    cases h : asId k n with
    | none => cases xs with
      | nil => simp
      | cons x xs => simp; intro e; have := asId_eq_none.mp h; omega
    | some i =>
      have hi := asId_eq_some.mp h
      cases h2 : asIds k ns with
      | none =>
        simp only [reduceCtorEq, false_iff]
        cases xs with
        | nil => simp
        | cons x xs =>
          simp only [List.map_cons, List.cons.injEq, not_and]
          intro _ e; have := (ih (xs := xs)).mpr e; rw [h2] at this; cases this
      | some is =>
        have h3 := (ih (xs := is)).mp h2
        constructor
        · intro e; cases e; simp [hi, h3]
        · intro e
          cases xs with
          | nil => simp at e
          | cons x xs =>
            simp only [List.map_cons, List.cons.injEq] at e
            have e1 : i = x := Fin.ext (by omega)
            have e2 := (ih (xs := xs)).mpr e.2
            rw [h2] at e2; cases e2; rw [e1]

/-! ## Reports, answers and the transmitter -/

/-- A raised report touches the command line alone. -/
theorem State.raise_eq (s : State) (r : Report) : s.raise r = s.withLine (s.raise r).line := by
  unfold State.raise; split <;> rfl

/-- An answer touches the command line alone. -/
theorem State.answer_eq (s : State) (r : Reply) : s.answer r = s.withLine (s.answer r).line := rfl

/-- The transmitter touches the command line alone. -/
theorem State.offer_eq (s : State) : s.offer = s.withLine s.line.offer := rfl

/-- A raised report leaves a queue of at most 32 (R188). -/
theorem CommandLine.push_reports_le (l : CommandLine) (r : Report) (h : l.reports.length ≤ 32) :
    (l.push r).reports.length ≤ 32 := by
  unfold CommandLine.push; split
  · rename_i hlt; simp [Config.maxReports] at hlt ⊢; omega
  · exact h

/-- A dropped count stays within its range (R188). -/
theorem CommandLine.push_dropped_le (l : CommandLine) (r : Report) (h : l.dropped ≤ 4294967295) :
    (l.push r).dropped ≤ 4294967295 := by
  unfold CommandLine.push; split
  · exact h
  · simp [Config.maxDropped]

/-- The transmitter leaves a queue of at most 32 (R188). -/
theorem CommandLine.offer_reports_le (l : CommandLine) (h : l.reports.length ≤ 32) :
    l.offer.reports.length ≤ 32 := by
  have hs : l.startReport.reports.length ≤ 32 := by
    unfold CommandLine.startReport; split
    · exact h
    · rename_i r rs hr
      rw [hr, List.length_cons] at h
      by_cases hd : l.dropped = 0
      · rw [if_pos hd]; show rs.length ≤ 32; omega
      · rw [if_neg hd]; show (rs ++ [Report.dropped l.dropped]).length ≤ 32
        simp only [List.length_append, List.length_singleton]; omega
  unfold CommandLine.offer; split
  · exact h
  · split
    · exact h
    · exact hs
    · exact h
    · split
      · exact hs
      · exact h

/-- The transmitter never raises the dropped count (R188). -/
theorem CommandLine.offer_dropped_le (l : CommandLine) : l.offer.dropped ≤ l.dropped := by
  have hs : l.startReport.dropped ≤ l.dropped := by
    unfold CommandLine.startReport; split
    · exact Nat.le_refl _
    · exact Nat.zero_le _
  unfold CommandLine.offer; split
  · exact Nat.le_refl _
  · split
    · exact Nat.le_refl _
    · exact hs
    · exact Nat.le_refl _
    · split
      · exact hs
      · exact Nat.le_refl _

/-! ## Ways over the layout -/

/-- The model's ways in which sections meet are those of R94. -/
theorem Scene.meets_iff_leads (c : Scene) (p q : SecEnd) :
    c.meets p.sec (other p.e) q = true ↔ Leads c p q := by
  unfold Scene.meets Scene.exits Leads
  split <;> rename_i h
  · simp [h]
  · simp only [h, List.any_cons, List.any_nil, Bool.or_false, beq_iff_eq, EndLink.join.injEq, reduceCtorEq,
      false_and, exists_false, or_false, and_false]
    exact ⟨fun h => by subst h; exact ⟨rfl, rfl⟩, fun ⟨h1, h2⟩ => by cases q; simp_all⟩
  · cases ht : c.turnouts.get _ <;> simp [h, ht]
    grind
  · cases ht : c.turnouts.get _ <;> simp [h, ht]
    grind

theorem passable_nil (c : Scene) : Passable c [] := by intro i p q h; simp at h

theorem passable_single (c : Scene) (p : SecEnd) : Passable c [p] := by intro i a b _ h; simp at h

/-- A list of entry ends is passable end by end (R149). -/
theorem passable_cons (c : Scene) (p q : SecEnd) (ps : List SecEnd) :
    Passable c (p :: q :: ps) ↔ Leads c p q ∧ Passable c (q :: ps) := by
  constructor
  · exact fun h => ⟨h 0 p q rfl rfl, fun i a b ha hb => h (i + 1) a b ha hb⟩
  · rintro ⟨h0, h⟩ (_ | i) a b ha hb
    · cases ha; cases hb; exact h0
    · exact h i a b ha hb

/-- The model's check of a route's stop marks is that of R99 and R150. -/
theorem Scene.stopsHold_iff (c : Scene) (r : RouteDef) :
    c.stopsHold r = true ↔ StopsFit c r.positions := by
  unfold Scene.stopsHold StopsFit Scene.stopMarkFits
  rw [List.all_eq_true]
  refine forall_congr' fun p => imp_congr_right fun _ => ?_
  rcases p.stop with _ | ⟨dw, _ | m⟩
  · simp
  · exact ⟨fun _ _ _ h hm => (by cases h; cases hm), fun _ => rfl⟩
  · cases h : c.marks.get m with
    | none => simp [h]
    | some d =>
      simp only [h, Bool.and_eq_true, beq_iff_eq]
      exact ⟨fun hd _ _ h1 h2 => (by cases h1; cases h2; exact ⟨d, h, hd⟩),
        fun hd => by obtain ⟨_, h1, h2⟩ := hd _ _ rfl rfl; cases h.symm.trans h1; exact h2⟩

end Sys2Proof.Machine
end

