-- ==== Sys2Proof/Laws/Frames.lean ====
section
/-! SUPPORT. What the shared operations of the blocks may change, said once for each. `Asks` is a duty
request's frame, `Redraws` that of working an authority out afresh, `Lights` that of a recompose request,
`Calls` that of a notice to a crossing, and `Traffic` that of everything the traffic controller does. Each
is reflexive and transitive; `Asks` extends `Redraws`, which with `Lights` extends `Calls`, which extends
`Traffic`. -/

namespace Sys2Proof.Machine

open Sys2Proof.Safety

/-! ## The frames -/

/-- No channel differs but in its staged pair: what duty requests can do (R58). -/
def ChannelsAsk (s t : State) : Prop :=
  ∀ c, t.channels.get c = { s.channels.get c with staged := (t.channels.get c).staged }

/-- No train differs but in its authority and powered set (R127, R128). -/
def TrainsRedraw (s t : State) : Prop :=
  ∀ n, t.trains.get n = { s.trains.get n with
    authority := (t.trains.get n).authority, powered := (t.trains.get n).powered }

/-- Everything the traffic controller reaches may differ: the configuration, the store, the clock, the
floods, stop control, sensing, the inputs, the axes, the budget and the part's own fields stay, and channels
differ in their staged pairs alone. -/
structure Traffic (s t : State) : Prop where
  cfg : t.cfg = s.cfg
  store : t.store = s.store
  clock : t.clock = s.clock
  floods : t.floods = s.floods
  stopc : t.stopc = s.stopc
  sense : t.sense = s.sense
  inputs : t.inputs = s.inputs
  axes : t.axes = s.axes
  account : t.account = s.account
  sys : t.sys = s.sys
  nextStart : t.nextStart = s.nextStart
  freeDraws : t.freeDraws = s.freeDraws
  pending : t.pending = s.pending
  asks : ChannelsAsk s t

/-- Of these, only the sky engine, the lamp matrix, the crossings, the bell, authorities and powered sets
differ, besides staged pairs. -/
structure Calls (s t : State) : Prop extends Traffic s t where
  driver : t.driver = s.driver
  units : t.units = s.units
  line : t.line = s.line
  trains : TrainsRedraw s t

/-- Only authorities, powered sets and staged pairs differ. -/
structure Redraws (s t : State) : Prop extends Calls s t where
  sky : t.sky = s.sky
  matrix : t.matrix = s.matrix
  crossings : t.crossings = s.crossings
  bell : t.bell = s.bell

/-- Only staged pairs differ. -/
structure Asks (s t : State) : Prop extends Redraws s t where
  same : t.trains = s.trains

/-- Only the sky engine and the lamp matrix differ. -/
structure Lights (s t : State) : Prop extends Calls s t where
  channels : t.channels = s.channels
  same : t.trains = s.trains
  crossings : t.crossings = s.crossings
  bell : t.bell = s.bell

theorem ChannelsAsk.refl (s : State) : ChannelsAsk s s := fun _ => rfl

theorem ChannelsAsk.trans {s t u : State} (h : ChannelsAsk s t) (k : ChannelsAsk t u) :
    ChannelsAsk s u := fun c => by rw [k c, h c]

theorem TrainsRedraw.refl (s : State) : TrainsRedraw s s := fun _ => rfl

theorem TrainsRedraw.trans {s t u : State} (h : TrainsRedraw s t) (k : TrainsRedraw t u) :
    TrainsRedraw s u := fun n => by rw [k n, h n]

theorem Traffic.refl (s : State) : Traffic s s :=
  ⟨rfl, rfl, rfl, rfl, rfl, rfl, rfl, rfl, rfl, rfl, rfl, rfl, rfl, .refl s⟩

theorem Traffic.trans {s t u : State} (h : Traffic s t) (k : Traffic t u) : Traffic s u :=
  ⟨k.cfg.trans h.cfg, k.store.trans h.store, k.clock.trans h.clock, k.floods.trans h.floods,
    k.stopc.trans h.stopc, k.sense.trans h.sense, k.inputs.trans h.inputs, k.axes.trans h.axes,
    k.account.trans h.account, k.sys.trans h.sys, k.nextStart.trans h.nextStart,
    k.freeDraws.trans h.freeDraws, k.pending.trans h.pending, h.asks.trans k.asks⟩

/-- An operation done only under a condition. -/
theorem Traffic.ite (p : Prop) [Decidable p] {s t : State} (h : Traffic s t) :
    Traffic s (if p then t else s) := by
  split
  · exact h
  · exact .refl s

theorem Calls.refl (s : State) : Calls s s := ⟨.refl s, rfl, rfl, rfl, .refl s⟩

theorem Calls.trans {s t u : State} (h : Calls s t) (k : Calls t u) : Calls s u :=
  ⟨h.toTraffic.trans k.toTraffic, k.driver.trans h.driver, k.units.trans h.units, k.line.trans h.line,
    h.trains.trans k.trains⟩

theorem Redraws.refl (s : State) : Redraws s s := ⟨.refl s, rfl, rfl, rfl, rfl⟩

theorem Redraws.trans {s t u : State} (h : Redraws s t) (k : Redraws t u) : Redraws s u :=
  ⟨h.toCalls.trans k.toCalls, k.sky.trans h.sky, k.matrix.trans h.matrix,
    k.crossings.trans h.crossings, k.bell.trans h.bell⟩

theorem Asks.refl (s : State) : Asks s s := ⟨.refl s, rfl⟩

theorem Asks.trans {s t u : State} (h : Asks s t) (k : Asks t u) : Asks s u :=
  ⟨h.toRedraws.trans k.toRedraws, k.same.trans h.same⟩

theorem Lights.refl (s : State) : Lights s s := ⟨.refl s, rfl, rfl, rfl, rfl⟩

theorem Lights.trans {s t u : State} (h : Lights s t) (k : Lights t u) : Lights s u :=
  ⟨h.toCalls.trans k.toCalls, k.channels.trans h.channels, k.same.trans h.same,
    k.crossings.trans h.crossings, k.bell.trans h.bell⟩

/-- A state that differs in the channels' staged pairs alone. -/
theorem Asks.intro {s : State} {x : Table ChannelRun 24} (h : ChannelsAsk s (s.withChannels x)) :
    Asks s (s.withChannels x) :=
  ⟨⟨⟨⟨rfl, rfl, rfl, rfl, rfl, rfl, rfl, rfl, rfl, rfl, rfl, rfl, rfl, h⟩, rfl, rfl, rfl, fun _ => rfl⟩,
    rfl, rfl, rfl, rfl⟩, rfl⟩

/-- A state that differs in the trains' authorities and powered sets alone. -/
theorem Redraws.intro {s : State} {x : Table TrainRun 6} (h : TrainsRedraw s (s.withTrains x)) :
    Redraws s (s.withTrains x) :=
  ⟨⟨⟨rfl, rfl, rfl, rfl, rfl, rfl, rfl, rfl, rfl, rfl, rfl, rfl, rfl, fun _ => rfl⟩, rfl, rfl, rfl, h⟩,
    rfl, rfl, rfl, rfl⟩

theorem Lights.ofSky (s : State) (x : Sky) : Lights s (s.withSky x) :=
  ⟨⟨⟨rfl, rfl, rfl, rfl, rfl, rfl, rfl, rfl, rfl, rfl, rfl, rfl, rfl, fun _ => rfl⟩, rfl, rfl, rfl,
    fun _ => rfl⟩, rfl, rfl, rfl, rfl⟩

theorem Lights.ofMatrix (s : State) (x : Matrix) : Lights s (s.withMatrix x) :=
  ⟨⟨⟨rfl, rfl, rfl, rfl, rfl, rfl, rfl, rfl, rfl, rfl, rfl, rfl, rfl, fun _ => rfl⟩, rfl, rfl, rfl,
    fun _ => rfl⟩, rfl, rfl, rfl, rfl⟩

theorem Calls.ofCrossings (s : State) (x : Table CrossingRun 2) : Calls s (s.withCrossings x) :=
  ⟨⟨rfl, rfl, rfl, rfl, rfl, rfl, rfl, rfl, rfl, rfl, rfl, rfl, rfl, fun _ => rfl⟩, rfl, rfl, rfl,
    fun _ => rfl⟩

theorem Calls.ofBell (s : State) (x : Bell) : Calls s (s.withBell x) :=
  ⟨⟨rfl, rfl, rfl, rfl, rfl, rfl, rfl, rfl, rfl, rfl, rfl, rfl, rfl, fun _ => rfl⟩, rfl, rfl, rfl,
    fun _ => rfl⟩

/-- A relation that each step of a fold keeps holds across the fold. -/
theorem foldl_frame {α β : Type} {R : β → β → Prop} (hr : ∀ b, R b b)
    (ht : ∀ {a b c}, R a b → R b c → R a c) {f : β → α → β} (h : ∀ b x, R b (f b x)) (xs : List α) (b : β) :
    R b (xs.foldl f b) := by
  induction xs generalizing b with
  | nil => exact hr b
  | cons x xs ih => exact ht (h b x) (ih (f b x))

theorem Traffic.foldl {α : Type} {f : State → α → State} (h : ∀ s x, Traffic s (f s x)) (xs : List α)
    (s : State) : Traffic s (xs.foldl f s) := foldl_frame Traffic.refl Traffic.trans h xs s

/-! ## What each shared operation keeps -/

theorem dutyRequest_asks (c : Channel) (d : Drive) (s : State) : Asks s (dutyRequest c d s) := by
  unfold dutyRequest; split
  · exact .refl s
  · refine Asks.intro fun e => ?_
    simp only [State.withChannels_channels, Table.get_modify]; split <;> rfl

theorem dutyZero_asks (c : Channel) (s : State) : Asks s (dutyZero c s) := dutyRequest_asks ..

theorem restSection_asks (s : State) (x : Section) : Asks s (restSection s x) := dutyZero_asks ..

theorem driveSection_asks (d : Nat) (s : State) (e : SpanElt) : Asks s (driveSection d s e) :=
  dutyRequest_asks ..

theorem restSections_asks (xs : List Section) (s : State) : Asks s (xs.foldl restSection s) :=
  foldl_frame Asks.refl Asks.trans restSection_asks xs s

theorem driveSections_asks (d : Nat) (xs : List SpanElt) (s : State) :
    Asks s (xs.foldl (driveSection d) s) := foldl_frame Asks.refl Asks.trans (driveSection_asks d) xs s

theorem restPowered_asks (n : Train) (s : State) : Asks s (restPowered n s) := restSections_asks ..

theorem sendPower_asks (n : Train) (s : State) : Asks s (sendPower n s) :=
  (driveSections_asks ..).trans (restSections_asks ..)

/-- Only train n's authority and powered set change. -/
theorem setAuthority_redraws (n : Train) (a : Option Authority) (p : List SpanElt) (s : State) :
    Redraws s (s.modTrain n fun t => { t with authority := a, powered := p }) := by
  refine Redraws.intro fun m => ?_
  simp only [State.withTrains_trains, Table.get_modify]; split <;> rfl

/-- Working an authority end out afresh (R127 to R129). -/
theorem refreshAuthority_redraws (n : Train) (s : State) : Redraws s (refreshAuthority n s) := by
  unfold refreshAuthority; dsimp only; split
  · exact (((driveSections_asks ..).trans (restSections_asks ..)).toRedraws).trans
      (setAuthority_redraws ..)
  · exact setAuthority_redraws ..

/-- A position or completion notice of a turnout (R122). -/
theorem turnoutNotice_redraws (t : TurnoutId) (old s : State) : Redraws s (turnoutNotice t old s) :=
  foldl_frame Redraws.refl Redraws.trans (fun s n => refreshAuthority_redraws n s) _ s

/-- A state notice of a crossing (R123). -/
theorem crossingNotice_redraws (k : CrossingId) (s : State) : Redraws s (crossingNotice k s) := by
  unfold crossingNotice; split
  · exact .refl s
  · split
    · exact .refl s
    · exact refreshAuthority_redraws ..

theorem startCompose_lights (s : State) : Lights s (startCompose s) := Lights.ofSky ..

/-- A recompose request (R35, R45). -/
theorem requestRecompose_lights (s : State) : Lights s (requestRecompose s) := by
  unfold requestRecompose; split
  · exact Lights.ofMatrix ..
  · exact startCompose_lights s

theorem bellUpdate_calls (s : State) : Calls s (bellUpdate s) := by
  unfold bellUpdate; split
  · split
    · exact .refl s
    · exact Calls.ofBell ..
  · exact Calls.ofBell ..

/-- A recompose request for a claim (R30). -/
theorem requestForClaim_lights (old : Table LampRun 192) (i : LampId) (s : State) :
    Lights s (requestForClaim old i s) := by
  unfold requestForClaim; split
  · exact .refl s
  · exact requestRecompose_lights s

theorem changeClaims_calls (d : CrossingDef) (f : LampRun → LampRun) (s : State) :
    Calls s (changeClaims d f s) :=
  ((Lights.ofSky ..).trans ((requestForClaim_lights ..).trans (requestForClaim_lights ..))).toCalls

theorem modCrossing_calls (k : CrossingId) (f : CrossingRun → CrossingRun) (s : State) :
    Calls s (s.modCrossing k f) := Calls.ofCrossings ..

theorem enterWarning_calls (k : CrossingId) (d : CrossingDef) (s : State) :
    Calls s (enterWarning k d s) :=
  (((modCrossing_calls k _ s).trans (changeClaims_calls ..)).trans (bellUpdate_calls _)).trans
    (crossingNotice_redraws ..).toCalls

theorem enterIdle_calls (k : CrossingId) (d : CrossingDef) (s : State) : Calls s (enterIdle k d s) :=
  (((modCrossing_calls k _ s).trans (changeClaims_calls ..)).trans (bellUpdate_calls _)).trans
    (crossingNotice_redraws ..).toCalls

/-- A notice to one crossing (R107). -/
theorem crossingAct_calls (s : State) (k : CrossingId) : Calls s (crossingAct s k) := by
  unfold crossingAct; split
  · exact .refl s
  · split
    · split
      · exact enterWarning_calls ..
      · exact .refl s
    all_goals
      split
      · exact .refl s
      · exact enterIdle_calls ..

/-- A unit notice (R123). -/
theorem unitNotice_calls (u : Section) (s : State) : Calls s (unitNotice u s) :=
  foldl_frame Calls.refl Calls.trans crossingAct_calls _ s

theorem leadExpiry_calls (k : CrossingId) (s : State) : Calls s (leadExpiry k s) := by
  unfold leadExpiry; split
  · exact .refl s
  · refine Calls.trans ?_ (crossingNotice_redraws ..).toCalls
    refine Calls.trans ?_ (bellUpdate_calls _)
    exact modCrossing_calls ..

/-! ## The traffic controller -/

theorem raise_traffic (r : Report) (s : State) : Traffic s (s.raise r) := by
  rw [State.raise_eq]; exact ⟨rfl, rfl, rfl, rfl, rfl, rfl, rfl, rfl, rfl, rfl, rfl, rfl, rfl, fun _ => rfl⟩

theorem modTrain_traffic (n : Train) (f : TrainRun → TrainRun) (s : State) :
    Traffic s (s.modTrain n f) :=
  ⟨rfl, rfl, rfl, rfl, rfl, rfl, rfl, rfl, rfl, rfl, rfl, rfl, rfl, fun _ => rfl⟩

theorem withTrains_traffic (x : Table TrainRun 6) (s : State) : Traffic s (s.withTrains x) :=
  ⟨rfl, rfl, rfl, rfl, rfl, rfl, rfl, rfl, rfl, rfl, rfl, rfl, rfl, fun _ => rfl⟩

theorem modUnit_traffic (u : Section) (f : UnitRec → UnitRec) (s : State) : Traffic s (s.modUnit u f) :=
  ⟨rfl, rfl, rfl, rfl, rfl, rfl, rfl, rfl, rfl, rfl, rfl, rfl, rfl, fun _ => rfl⟩

theorem withDriver_traffic (d : Driver) (s : State) : Traffic s (s.withDriver d) :=
  ⟨rfl, rfl, rfl, rfl, rfl, rfl, rfl, rfl, rfl, rfl, rfl, rfl, rfl, fun _ => rfl⟩

theorem driverNotice_traffic (t : TurnoutId) (d : Driver) (s : State) :
    Traffic s (driverNotice t d s) :=
  (withDriver_traffic d s).trans (turnoutNotice_redraws ..).toTraffic

theorem takeEntries_traffic (es : List Throw) (s : State) : Traffic s (takeEntries es s) := by
  induction es generalizing s with
  | nil => exact withDriver_traffic ..
  | cons e es ih =>
    unfold takeEntries; split
    · exact ih s
    · split
      · exact (driverNotice_traffic ..).trans (ih _)
      · exact driverNotice_traffic ..

theorem reportThrow_traffic (e : Throw) (s : State) : Traffic s (reportThrow e s) := by
  unfold reportThrow; split
  · exact raise_traffic ..
  · exact .refl s

/-- A throw request (R101, R102). -/
theorem requestThrow_traffic (e : Throw) (s : State) : Traffic s (requestThrow e s) := by
  unfold requestThrow; split
  · exact .refl s
  · split
    · exact withDriver_traffic ..
    · split
      · exact (driverNotice_traffic ..).trans (reportThrow_traffic ..)
      · dsimp only; split
        · exact (withDriver_traffic ..).trans (takeEntries_traffic ..)
        · exact withDriver_traffic ..

theorem pulseEnd_traffic (s : State) : Traffic s (pulseEnd s) := by
  unfold pulseEnd; split
  · exact .refl s
  · exact (driverNotice_traffic ..).trans (reportThrow_traffic ..)

theorem recoveryExpiry_traffic (s : State) : Traffic s (recoveryExpiry s) := by
  unfold recoveryExpiry; split
  · exact (withDriver_traffic ..).trans (takeEntries_traffic ..)
  · exact .refl s

theorem askThrows_traffic (n : Train) (s : State) (u : Section) : Traffic s (askThrows n s u) := by
  unfold askThrows; split
  · exact .refl s
  · exact Traffic.foldl (fun s p => requestThrow_traffic _ s) _ s

theorem askAllThrows_traffic (n : Train) (s : State) : Traffic s (askAllThrows n s) :=
  Traffic.foldl (askThrows_traffic n) _ s

theorem refreshAuthority_traffic (n : Train) (s : State) : Traffic s (refreshAuthority n s) :=
  (refreshAuthority_redraws n s).toTraffic

theorem unitNotice_traffic (u : Section) (s : State) : Traffic s (unitNotice u s) :=
  (unitNotice_calls u s).toTraffic

theorem setRetries_traffic (s : State) : Traffic s (setRetries s) := withTrains_traffic ..

/-- A grant (R117). -/
theorem grant_traffic (quiet : Bool) (n : Train) (u : Section) (s : State) :
    Traffic s (grant quiet n u s) := by
  unfold grant; dsimp only
  refine Traffic.trans ?_ (refreshAuthority_traffic ..)
  refine Traffic.trans ?_ (askThrows_traffic ..)
  have h := ((modUnit_traffic u (fun r => ⟨some n, r.waiting.erase n⟩) s).trans
    (modTrain_traffic n (fun t =>
      { t with
        holdings := t.holdings ++ [u]
        request := if t.request = some u then none else t.request }) _)).trans (setRetries_traffic _)
  split
  · exact h
  · exact h.trans (unitNotice_traffic ..)

theorem reportStrays_traffic (xs : List Section) (s : State) : Traffic s (reportStrays xs s) :=
  Traffic.foldl (fun s _ => raise_traffic _ s) xs s

theorem dropUnit_traffic (n : Train) (u : Section) (s : State) : Traffic s (dropUnit n u s) := by
  unfold dropUnit; dsimp only
  refine Traffic.trans ?_ (setRetries_traffic _)
  refine Traffic.trans ?_ (restSections_asks ..).toTraffic
  exact (modUnit_traffic ..).trans (modTrain_traffic ..)

theorem releaseHeld_traffic (quiet : Bool) (n : Train) (u : Section) (s : State) :
    Traffic s (releaseHeld quiet n u s) := by
  have strayed : ∀ xs : List Section, ∀ t : State,
      Traffic t (if quiet then reportStrays xs t else unitNotice u (reportStrays xs t)) := by
    intro xs t; split
    · exact reportStrays_traffic ..
    · exact (reportStrays_traffic ..).trans (unitNotice_traffic ..)
  unfold releaseHeld; dsimp only
  refine (dropUnit_traffic n u s).trans ?_
  split
  · exact strayed ..
  · split
    · exact strayed ..
    · exact grant_traffic ..

/-- A release (R119). -/
theorem release_traffic (quiet : Bool) (n : Train) (s : State) (u : Section) :
    Traffic s (release quiet n s u) := by
  unfold release; split
  · exact releaseHeld_traffic ..
  · exact .refl s

/-- A request (R115, R116). -/
theorem requestUnit_traffic (n : Train) (u : Section) (s : State) : Traffic s (requestUnit n u s) := by
  unfold requestUnit; dsimp only; split
  · exact .refl s
  · split
    · exact grant_traffic ..
    · split
      · exact (modTrain_traffic ..).trans (raise_traffic ..)
      · exact ((modUnit_traffic ..).trans (modTrain_traffic ..)).trans (unitNotice_traffic ..)

/-- A withdrawal (R120). -/
theorem withdraw_traffic (n : Train) (s : State) : Traffic s (withdraw n s) := by
  unfold withdraw; split
  · exact modTrain_traffic ..
  · exact ((modUnit_traffic ..).trans (modTrain_traffic ..)).trans (unitNotice_traffic ..)

/-- Freeing a section (R118). -/
theorem freeSection_traffic (n : Train) (x : Section) (s : State) : Traffic s (freeSection n x s) := by
  unfold freeSection; dsimp only
  refine Traffic.trans ?_ (refreshAuthority_traffic ..)
  split
  · exact (modTrain_traffic ..).trans (restSection_asks ..).toTraffic
  · split
    · exact (modTrain_traffic ..).trans (restSection_asks ..).toTraffic
    · exact ((modTrain_traffic ..).trans (restSection_asks ..).toTraffic).trans (release_traffic ..)

theorem freeOnClear_traffic (x : Section) (s : State) : Traffic s (freeOnClear x s) := by
  unfold freeOnClear; split
  · exact .refl s
  · exact freeSection_traffic ..

theorem grantOnClear_traffic (x : Section) (s : State) : Traffic s (grantOnClear x s) := by
  unfold grantOnClear; split
  · exact .refl s
  · split
    · split
      · exact .refl s
      · exact grant_traffic ..
    · exact .refl s

theorem restPowered_traffic (n : Train) (s : State) : Traffic s (restPowered n s) :=
  (restPowered_asks n s).toTraffic

theorem enterWaitingFor_traffic (r : Option WaitReason) (n : Train) (s : State) :
    Traffic s (enterWaitingFor r n s) := modTrain_traffic ..

theorem enterWaiting_traffic (n : Train) (s : State) : Traffic s (enterWaiting n s) :=
  enterWaitingFor_traffic none n s

theorem park_traffic (n : Train) (s : State) : Traffic s (park n s) := modTrain_traffic ..

/-- Serving a stop (R141). -/
theorem serveStop_traffic (n : Train) (s : State) : Traffic s (serveStop n s) := by
  unfold serveStop; dsimp only
  refine Traffic.trans ?_ (refreshAuthority_traffic ..)
  split
  · exact (modTrain_traffic ..).trans (modTrain_traffic ..)
  · exact (((modTrain_traffic ..).trans (modTrain_traffic ..)).trans (enterWaiting_traffic ..)).trans
      (askAllThrows_traffic ..)
  · exact (modTrain_traffic ..).trans (modTrain_traffic ..)

theorem stopAtMark_traffic (n : Train) (s : State) : Traffic s (stopAtMark n s) :=
  ((modTrain_traffic ..).trans (restPowered_traffic ..)).trans (serveStop_traffic ..)

theorem endDwell_traffic (n : Train) (s : State) : Traffic s (endDwell n s) :=
  ((modTrain_traffic ..).trans (enterWaiting_traffic ..)).trans (askAllThrows_traffic ..)

theorem takeDwell_traffic (d : Nat) (s : State) (n : Train) : Traffic s (takeDwell d s n) := by
  unfold takeDwell; dsimp only; split
  · split
    · exact endDwell_traffic ..
    · exact modTrain_traffic ..
  · exact .refl s

/-- A turnabout (R157). -/
theorem turnabout_traffic (n : Train) (s : State) : Traffic s (turnabout n s) := by
  unfold turnabout; dsimp only
  exact (((modTrain_traffic ..).trans (Traffic.foldl (release_traffic false n) _ _)).trans
    (withdraw_traffic ..)).trans (refreshAuthority_traffic ..)

theorem fixHead_traffic (n : Train) (x : Section) (s : State) : Traffic s (fixHead n x s) :=
  (modTrain_traffic ..).trans (refreshAuthority_traffic ..)

theorem positionFix_traffic (x : Section) (s : State) : Traffic s (positionFix x s) := by
  unfold positionFix; split
  · exact .refl s
  · exact fixHead_traffic ..

theorem fixAtMark_traffic (n : Train) (m : MarkId) (x : Section) (offset : Nat) (s : State) :
    Traffic s (fixAtMark n m x offset s) := by
  unfold fixAtMark; split
  · exact .refl s
  · dsimp only
    split
    · split
      · exact (modTrain_traffic ..).trans (stopAtMark_traffic ..)
      · exact (modTrain_traffic ..).trans (refreshAuthority_traffic ..)
    · split
      · exact (modTrain_traffic ..).trans (stopAtMark_traffic ..)
      · exact (modTrain_traffic ..).trans (refreshAuthority_traffic ..)

/-- A mark event (R143). -/
theorem markEvent_traffic (m : MarkId) (x : Section) (offset : Nat) (s : State) :
    Traffic s (markEvent m x offset s) := by
  unfold markEvent; split
  · exact fixAtMark_traffic ..
  · split
    · exact (fixHead_traffic ..).trans (fixAtMark_traffic ..)
    · split
      · exact .refl s
      · exact raise_traffic ..

/-- An occupancy transition (R123). -/
theorem occupancyNotice_traffic (x : Section) (s : State) : Traffic s (occupancyNotice x s) := by
  unfold occupancyNotice; split
  · dsimp only
    refine Traffic.trans ?_ (Traffic.foldl (fun s k => (crossingAct_calls s k).toTraffic) _ _)
    split
    · refine Traffic.trans ?_ (positionFix_traffic ..)
      split
      · exact raise_traffic ..
      · exact .refl s
    · exact (freeOnClear_traffic ..).trans (grantOnClear_traffic ..)
  · exact .refl s

theorem loseTrain_traffic (n : Train) (s : State) : Traffic s (loseTrain n s) :=
  (((modTrain_traffic ..).trans (restPowered_traffic ..)).trans (withdraw_traffic ..)).trans
    (raise_traffic ..)

theorem faultTrain_traffic (s : State) (n : Train) : Traffic s (faultTrain s n) :=
  ((modTrain_traffic ..).trans (restSections_asks ..).toTraffic).trans
    (withdraw_traffic ..)

theorem sectionCutNotice_traffic (x : Section) (s : State) : Traffic s (sectionCutNotice x s) :=
  Traffic.foldl faultTrain_traffic _ s

/-- The halt notice to the trains (R146). -/
theorem haltTrains_traffic (s : State) : Traffic s (haltTrains s) :=
  (withTrains_traffic ..).trans (Traffic.foldl (fun s n => turnabout_traffic n s) _ _)

/-- The resume notice to the trains (R146). -/
theorem resumeTrains_traffic (s : State) : Traffic s (resumeTrains s) := by
  refine Traffic.foldl (fun s n => ?_) _ s
  unfold comeBack; split
  · exact enterWaiting_traffic ..
  · exact park_traffic ..

theorem stayWaiting_traffic (r : WaitReason) (n : Train) (s : State) : Traffic s (stayWaiting r n s) :=
  modTrain_traffic ..

theorem startStopping_traffic (c : StopCause) (n : Train) (s : State) :
    Traffic s (startStopping c n s) := modTrain_traffic ..

theorem depart_traffic (w : Nat) (n : Train) (s : State) : Traffic s (depart w n s) := by
  unfold depart; split
  · exact stayWaiting_traffic ..
  · exact modTrain_traffic ..

theorem departureTest_traffic (n : Train) (a : Authority) (s : State) :
    Traffic s (departureTest n a s) := by
  unfold departureTest; dsimp only
  split; · exact park_traffic ..
  split; · exact stayWaiting_traffic ..
  split; · exact depart_traffic ..
  split; · exact depart_traffic ..
  split; · exact serveStop_traffic ..
  exact stayWaiting_traffic ..

theorem brakingTest_traffic (n : Train) (a : Authority) (s : State) :
    Traffic s (brakingTest n a s) := by
  unfold brakingTest; split
  · exact .refl s
  · exact startStopping_traffic ..

theorem creepTest_traffic (n : Train) (a : Authority) (s : State) : Traffic s (creepTest n a s) := by
  unfold creepTest; dsimp only; split
  · exact modTrain_traffic ..
  · exact .refl s

theorem runningTest_traffic (n : Train) (a : Authority) (s : State) :
    Traffic s (runningTest n a s) := by
  unfold runningTest; dsimp only; split
  · exact startStopping_traffic ..
  · split
    · exact (modTrain_traffic ..).trans (creepTest_traffic ..)
    · exact (modTrain_traffic ..).trans (brakingTest_traffic ..)

theorem returnToRunning_traffic (n : Train) (s : State) : Traffic s (returnToRunning n s) :=
  modTrain_traffic ..

theorem stoppingTest_traffic (n : Train) (a : Authority) (s : State) :
    Traffic s (stoppingTest n a s) := by
  unfold stoppingTest; dsimp only; split
  · split
    · exact returnToRunning_traffic ..
    · exact .refl s
  · split
    · exact (returnToRunning_traffic ..).trans (brakingTest_traffic ..)
    · exact .refl s
  · exact .refl s
  · exact .refl s

theorem stateTest_traffic (n : Train) (s : State) : Traffic s (stateTest n s) := by
  unfold stateTest; split
  · exact .refl s
  · split
    · exact departureTest_traffic ..
    · exact runningTest_traffic ..
    · exact stoppingTest_traffic ..
    all_goals exact .refl s

theorem moveTrain_traffic (n : Train) (s : State) : Traffic s (moveTrain n s) := by
  unfold moveTrain; dsimp only; split
  · exact modTrain_traffic ..
  · exact .refl s

theorem restByCommand_traffic (n : Train) (s : State) : Traffic s (restByCommand n s) := by
  unfold restByCommand; dsimp only; split
  · split
    · exact (turnabout_traffic ..).trans (park_traffic ..)
    · exact (turnabout_traffic ..).trans (enterWaiting_traffic ..)
  · exact park_traffic ..

theorem comeToRest_traffic (n : Train) (s : State) : Traffic s (comeToRest n s) := by
  unfold comeToRest; split
  · split
    · exact serveStop_traffic ..
    · exact enterWaitingFor_traffic ..
  · exact enterWaitingFor_traffic ..
  · exact restByCommand_traffic ..
  · exact enterWaitingFor_traffic ..

theorem overshootCheck_traffic (n : Train) (s : State) : Traffic s (overshootCheck n s) := by
  unfold overshootCheck; split
  · exact .refl s
  · split
    · exact (raise_traffic ..).trans (stopAtMark_traffic ..)
    · exact .refl s

theorem checkTrain_traffic (n : Train) (s : State) : Traffic s (checkTrain n s) := by
  unfold checkTrain; split
  · exact .refl s
  · dsimp only
    refine Traffic.trans ?_ (Traffic.ite _ (comeToRest_traffic ..))
    refine Traffic.trans ?_ (Traffic.ite _ (overshootCheck_traffic ..))
    exact Traffic.ite _ (Traffic.ite _ (loseTrain_traffic ..))

theorem lookAhead_traffic (n : Train) (s : State) : Traffic s (lookAhead n s) := by
  unfold lookAhead; dsimp only; split
  · split
    · exact .refl s
    · split
      · exact .refl s
      · split
        · exact .refl s
        · exact requestUnit_traffic ..
  · exact .refl s

theorem retryStep_traffic (n : Train) (s : State) : Traffic s (retryStep n s) := by
  unfold retryStep; dsimp only; split
  · exact (modTrain_traffic ..).trans (askAllThrows_traffic ..)
  · exact .refl s

/-- A ramp tick (R135). -/
theorem rampTick_traffic (n : Train) (s : State) : Traffic s (rampTick n s) := by
  unfold rampTick; split
  · exact (((((((retryStep_traffic ..).trans (refreshAuthority_traffic ..)).trans
      (stateTest_traffic ..)).trans (moveTrain_traffic ..)).trans (checkTrain_traffic ..)).trans
      (sendPower_asks ..).toTraffic).trans (lookAhead_traffic ..))
  · exact .refl s

end Sys2Proof.Machine
end

