-- ==== Sys2Proof/Laws/Text.lean ====
section
/-! SUPPORT. What the tokens of a line look like, and that a line of such tokens splits back into them. -/

namespace Sys2Proof.Machine

/-- A character of a token in capitals: printable, no blank, no small letter. -/
def plainChar (c : Char) : Bool := decide (33 ≤ c.toNat) && decide (c.toNat ≤ 126) && !c.isLower

/-- A token in capitals. -/
def PlainToken (t : List Char) : Prop := t ≠ [] ∧ t.all plainChar = true

theorem plainChar_not_blank {c : Char} (h : plainChar c = true) : isBlank c = false := by
  simp only [plainChar, Bool.and_eq_true, decide_eq_true_eq] at h
  have h1 : c ≠ ' ' := fun e => by rw [e] at h; exact absurd h.1.1 (by decide)
  have h2 : c ≠ '\t' := fun e => by rw [e] at h; exact absurd h.1.1 (by decide)
  simp [isBlank, h1, h2]

theorem plainChar_toUpper {c : Char} (h : plainChar c = true) : c.toUpper = c := by
  simp only [plainChar, Bool.and_eq_true, Bool.not_eq_true'] at h
  have := h.2
  simp only [Char.isLower, ge_iff_le, Bool.and_eq_false_iff, decide_eq_false_iff_not] at this
  unfold Char.toUpper
  rw [dif_neg]
  intro hc
  rcases this with hl | hl
  · exact hl hc.1
  · exact hl hc.2

theorem PlainToken.append {a b : List Char} (ha : PlainToken a) (hb : PlainToken b) :
    PlainToken (a ++ b) := by
  refine ⟨by simp [ha.1], ?_⟩
  rw [List.all_append, ha.2, hb.2]; rfl

theorem PlainToken.cons {c : Char} {a : List Char} (hc : plainChar c = true) (ha : PlainToken a) :
    PlainToken (c :: a) := ⟨by simp, by rw [List.all_cons, hc, ha.2]; rfl⟩

theorem plainToken_kw (k : Kw) : PlainToken k.text := by
  cases k <;> exact ⟨by decide, by decide⟩

theorem plainChar_of_isDigit {c : Char} (h : c.isDigit = true) : plainChar c = true := by
  simp only [Char.isDigit, Bool.and_eq_true, decide_eq_true_eq] at h
  have h1 : 48 ≤ c.toNat := h.1
  have h2 : c.toNat ≤ 57 := h.2
  have h3 : c.isLower = false := by
    simp only [Char.isLower, Bool.and_eq_false_iff, decide_eq_false_iff_not]
    left; intro h3; have h4 : 97 ≤ c.toNat := h3; omega
  simp [plainChar, h3]; omega

theorem plainToken_digits (n : Nat) : PlainToken (digits n) := by
  refine ⟨?_, ?_⟩
  · unfold digits; intro h
    have := Nat.length_toDigits_pos (b := 10) (n := n)
    rw [h] at this; exact absurd this (by decide)
  · rw [List.all_eq_true]
    intro c hc
    exact plainChar_of_isDigit (Nat.isDigit_of_mem_toDigits (by decide) (by decide) hc)

theorem plainToken_twoDigits (n : Nat) : PlainToken (twoDigits n) := by
  unfold twoDigits; split
  · exact .cons (by decide) (plainToken_digits n)
  · exact plainToken_digits n

theorem plainToken_time (t : TimeTok) : PlainToken (spellTime t) := by
  unfold spellTime
  exact .append (.append (plainToken_twoDigits _) (.cons (by decide) (plainToken_twoDigits _)))
    (.cons (by decide) (plainToken_twoDigits _))

theorem plainToken_group (g : Option Nat) : PlainToken (spellGroup g) := by
  cases g
  · rw [spellGroup]; exact plainToken_kw _
  · exact plainToken_digits _

theorem plainToken_end (e : End) : PlainToken (spellEnd e) := by
  cases e <;> (rw [spellEnd]; exact plainToken_kw _)
theorem plainToken_switch (b : Bool) : PlainToken (spellSwitch b) := plainToken_kw _
theorem plainToken_mirror (m : Mirror) : PlainToken (spellMirror m) := by
  cases m <;> (rw [spellMirror]; exact plainToken_kw _)
theorem plainToken_polarity (p : Polarity) : PlainToken (spellPolarity p) := by
  cases p <;> (rw [spellPolarity]; exact plainToken_kw _)
theorem plainToken_orientation (o : Orientation) : PlainToken (spellOrientation o) := by
  cases o <;> (rw [spellOrientation]; exact plainToken_kw _)
theorem plainToken_transition (x : Transition) : PlainToken (spellTransition x) := by
  cases x <;> (rw [spellTransition]; exact plainToken_kw _)
theorem plainToken_curve (x : Curve) : PlainToken (spellCurve x) := by
  cases x <;> (rw [spellCurve]; exact plainToken_kw _)
theorem plainToken_scan (x : ScanMode) : PlainToken (spellScan x) := by
  cases x <;> (rw [spellScan]; exact plainToken_kw _)
theorem plainToken_source (x : FloodSource) : PlainToken (spellSource x) := by
  cases x <;> (rw [spellSource]; exact plainToken_kw _)
theorem plainToken_markKind (x : MarkKind) : PlainToken (spellMarkKind x) := by
  cases x <;> (rw [spellMarkKind]; exact plainToken_kw _)
theorem plainToken_fixture (x : FixtureKind) : PlainToken (spellFixture x) := by
  cases x <;> (rw [spellFixture]; exact plainToken_kw _)
theorem plainToken_branch (b : Branch) : PlainToken (branchKw b).text := plainToken_kw _

/-- A name of capital letters and digits is one token (R131). -/
theorem plainToken_name {name : List Char} (h : nameOk name = true) : PlainToken name := by
  simp only [nameOk, Bool.and_eq_true, Bool.not_eq_true', List.isEmpty_eq_false_iff] at h
  refine ⟨h.1.1, ?_⟩
  rw [List.all_eq_true] at *
  intro c hc
  have := h.2 c hc
  rw [Bool.or_eq_true] at this
  rcases this with hu | hd
  · simp only [Char.isUpper, decide_eq_true_eq] at hu
    have h1 : 65 ≤ c.toNat := hu.1
    have h2 : c.toNat ≤ 90 := hu.2
    have h3 : c.isLower = false := by
      simp only [Char.isLower, Bool.and_eq_false_iff, decide_eq_false_iff_not]
      left; intro h3; have h4 : 97 ≤ c.toNat := h3; omega
    simp [plainChar, h3]; omega
  · exact plainChar_of_isDigit hd

/-- Every token of a list is plain. -/
def Plain (ts : List (List Char)) : Prop := ∀ t ∈ ts, PlainToken t

theorem plain_nil : Plain [] := fun _ h => nomatch h

theorem plain_cons {t : List Char} {ts : List (List Char)} (h : PlainToken t) (hs : Plain ts) :
    Plain (t :: ts) := fun u hu => by
  rcases List.mem_cons.mp hu with rfl | hu
  · exact h
  · exact hs u hu

theorem plain_append {ts us : List (List Char)} (h : Plain ts) (k : Plain us) : Plain (ts ++ us) :=
  fun u hu => (List.mem_append.mp hu).elim (h u) (k u)

theorem plain_map_digits (xs : List Nat) : Plain (xs.map digits) := fun u hu => by
  obtain ⟨n, _, rfl⟩ := List.mem_map.mp hu
  exact plainToken_digits n

theorem plain_pairs (ps : List (Nat × Nat)) : Plain (spellPairs ps) := fun u hu => by
  obtain ⟨p, _, hp⟩ := List.mem_flatMap.mp hu
  exact plain_cons (plainToken_digits _) (plain_cons (plainToken_digits _) plain_nil) u hp

theorem plain_groupPairs (ps : List (Nat × Nat)) : Plain (spellGroupPairs ps) := fun u hu => by
  obtain ⟨p, _, hp⟩ := List.mem_flatMap.mp hu
  exact plain_cons (plainToken_kw _)
    (plain_cons (plainToken_digits _) (plain_cons (plainToken_digits _) plain_nil)) u hp

theorem plain_until (t : Option TimeTok) : Plain (spellUntil t) := by
  cases t
  · exact plain_nil
  · exact plain_cons (plainToken_kw _) (plain_cons (plainToken_time _) plain_nil)

theorem plain_endTok (e : EndTok) : Plain (spellEndTok e) :=
  plain_cons (plainToken_digits _) (plain_cons (plainToken_end _) plain_nil)

/-! ## Splitting a line of plain tokens -/

/-- A run of plain characters joins the token in progress. -/
theorem splitTokens_run (t cur rest : List Char) (h : t.all plainChar = true) :
    splitTokens cur (t ++ rest) = splitTokens (cur ++ t) rest := by
  induction t generalizing cur with
  | nil => simp
  | cons c t ih =>
    rw [List.all_cons, Bool.and_eq_true] at h
    rw [List.cons_append, splitTokens, plainChar_not_blank h.1]
    rw [if_neg (by decide), ih _ h.2, List.append_assoc]; rfl

/-- A line of plain tokens splits into them (R184). -/
theorem splitTokens_joinToks {ts : List (List Char)} (h : Plain ts) :
    splitTokens [] (joinToks ts) = ts := by
  induction ts with
  | nil => rfl
  | cons t ts ih =>
    have ht := h t (List.mem_cons_self ..)
    have hts : Plain ts := fun u hu => h u (List.mem_cons_of_mem _ hu)
    cases ts with
    | nil =>
      have := splitTokens_run t [] [] ht.2
      simp only [List.append_nil, List.nil_append] at this
      rw [joinToks, this, splitTokens, if_neg]
      simp [ht.1]
    | cons u us =>
      rw [joinToks, List.append_assoc, splitTokens_run t [] _ ht.2, List.nil_append]
      rw [List.cons_append, List.nil_append, splitTokens]
      rw [if_pos (by decide), if_neg (by simp [ht.1]), ih hts]
      exact fun h => nomatch h

/-- A line of plain tokens is in capitals already. -/
theorem toUpper_joinToks {ts : List (List Char)} (h : Plain ts) :
    (joinToks ts).map Char.toUpper = joinToks ts := by
  have tok : ∀ t : List Char, PlainToken t → t.map Char.toUpper = t := fun t ht => by
    have : ∀ c ∈ t, Char.toUpper c = c := fun c hc =>
      plainChar_toUpper (List.all_eq_true.mp ht.2 c hc)
    simp [List.map_congr_left this]
  induction ts with
  | nil => rfl
  | cons t ts ih =>
    have ht := h t (List.mem_cons_self ..)
    have hts : Plain ts := fun u hu => h u (List.mem_cons_of_mem _ hu)
    cases ts with
    | nil => exact tok t ht
    | cons u us =>
      rw [joinToks, List.map_append, List.map_append, tok t ht, ih hts]
      · rfl
      · exact fun h => nomatch h

/-- The tokens of a line spelled from plain tokens are those tokens (R184). -/
theorem lineTokens_joinToks {ts : List (List Char)} (h : Plain ts) : lineTokens (joinToks ts) = ts := by
  rw [lineTokens, toUpper_joinToks h, splitTokens_joinToks h]

/-! ## Numbers -/

/-- A digit more. -/
theorem digitsValue_append (a : List Char) (c : Char) :
    digitsValue (a ++ [c]) = 10 * digitsValue a + (c.toNat - 48) := by
  simp [digitsValue]

/-- The value of one digit. -/
theorem digitChar_val (k : Nat) (h : k < 10) : (Nat.digitChar k).toNat - 48 = k := by
  have : k = 0 ∨ k = 1 ∨ k = 2 ∨ k = 3 ∨ k = 4 ∨ k = 5 ∨ k = 6 ∨ k = 7 ∨ k = 8 ∨ k = 9 := by omega
  rcases this with rfl | rfl | rfl | rfl | rfl | rfl | rfl | rfl | rfl | rfl <;> rfl

/-- Digits are read back as the number they write. -/
theorem digitsValue_digits (n : Nat) : digitsValue (digits n) = n := by
  induction n using Nat.strongRecOn with
  | ind n ih =>
    unfold digits
    by_cases h : n < 10
    · rw [Nat.toDigits_of_lt_base h]; simp [digitsValue, digitChar_val n h]
    · rw [Nat.toDigits_of_base_le (by decide) (by omega), digitsValue_append, digitChar_val _ (Nat.mod_lt _ (by decide))]
      have := ih (n/10) (by omega)
      unfold digits at this
      rw [this]; omega

/-- How many digits a number takes. -/
theorem digits_length_le (n k : Nat) (h : n < 10 ^ (k+1)) : (digits n).length ≤ k + 1 := by
  unfold digits
  exact (Nat.length_toDigits_le_iff (by decide) (by omega)).mpr h

/-- A number of at most nine digits is read back from its token (R184). -/
theorem numberOf_digits {n : Nat} (h : numOk n = true) : numberOf (digits n) = some n := by
  have h1 : n ≤ 999999999 := by simpa [numOk] using h
  have h2 : 1 ≤ (digits n).length := Nat.length_toDigits_pos
  have h3 := digits_length_le n 8 (by omega)
  have h4 : (digits n).all Char.isDigit = true := by
    rw [List.all_eq_true]; intro c hc; exact Nat.isDigit_of_mem_toDigits (by decide) (by decide) hc
  rw [numberOf, if_pos ⟨h2, h3, h4⟩, digitsValue_digits]

theorem ofChars_eq_none {cs : List Char} (h : ∀ k ∈ Kw.all, k.text ≠ cs) : Kw.ofChars cs = none := by
  simpa [Kw.ofChars] using h

/-- Digits spell no word. -/
theorem ofChars_digits (n : Nat) : Kw.ofChars (digits n) = none := by
  apply ofChars_eq_none
  intro k _ e
  have : k.text.all Char.isDigit = true := by
    rw [e, List.all_eq_true]; intro c hc
    exact Nat.isDigit_of_mem_toDigits (by decide) (by decide) hc
  cases k <;> revert this <;> decide

/-- A number token is read as its number (R184). -/
theorem wordOf_digits {n : Nat} (h : numOk n = true) : wordOf (digits n) = .num n := by
  rw [wordOf, ofChars_digits, numberOf_digits h]

end Sys2Proof.Machine
end

