-- ==== Sys2Proof/Laws/PerInstr.lean ====
section
/-! SUPPORT. Statements about every command, made constructor by constructor. `PlainTokens`: the line that
spells a well-formed command is made of tokens in capitals, none empty and none with a blank, so that it
splits back into them. -/

namespace Sys2Proof.Laws

open Sys2Proof.Machine

/-- The tokens of a well-formed line command are plain. -/
def PlainTokens.Statement (i : Instr) : Prop :=
  i.wf = true → ∀ ts, spellTokens i = some ts → Plain ts

/-- An event has no tokens. -/
theorem plainTokens_of_event {i : Instr} (h : spellTokens i = none) : PlainTokens.Statement i :=
  fun _ ts e => by rw [h] at e; cases e

/-- A line command with known tokens. -/
theorem plainTokens_of_tokens {i : Instr} {us : List (List Char)} (h : spellTokens i = some us)
    (hp : Plain us) : PlainTokens.Statement i :=
  fun _ ts e => by rw [h] at e; cases e; exact hp

theorem PlainTokens.clockStep : PlainTokens.Statement (.clockStep) :=
  plainTokens_of_event rfl

theorem PlainTokens.dwellEnd (x0 : Train) : PlainTokens.Statement (.dwellEnd x0) :=
  plainTokens_of_event rfl

theorem PlainTokens.clockQuery : PlainTokens.Statement (.clockQuery) :=
  plainTokens_of_tokens rfl
    (plain_cons (plainToken_kw _) plain_nil)

theorem PlainTokens.clockStartQuery : PlainTokens.Statement (.clockStartQuery) :=
  plainTokens_of_tokens rfl
    (plain_cons (plainToken_kw _) (plain_cons (plainToken_kw _) plain_nil))

theorem PlainTokens.clockRun : PlainTokens.Statement (.clockRun) :=
  plainTokens_of_tokens rfl
    (plain_cons (plainToken_kw _) (plain_cons (plainToken_kw _) plain_nil))

theorem PlainTokens.clockHold : PlainTokens.Statement (.clockHold) :=
  plainTokens_of_tokens rfl
    (plain_cons (plainToken_kw _) (plain_cons (plainToken_kw _) plain_nil))

theorem PlainTokens.clockRate (x0 : Nat) : PlainTokens.Statement (.clockRate x0) :=
  plainTokens_of_tokens rfl
    (plain_cons (plainToken_kw _) (plain_cons (plainToken_kw _) (plain_cons (plainToken_digits
      _) plain_nil)))

theorem PlainTokens.clockStart (x0 : TimeTok) : PlainTokens.Statement (.clockStart x0) :=
  plainTokens_of_tokens rfl
    (plain_cons (plainToken_kw _) (plain_cons (plainToken_kw _) (plain_cons (plainToken_time _)
      plain_nil)))

theorem PlainTokens.clockSet (x0 : TimeTok) : PlainTokens.Statement (.clockSet x0) :=
  plainTokens_of_tokens rfl
    (plain_cons (plainToken_kw _) (plain_cons (plainToken_kw _) (plain_cons (plainToken_time _)
      plain_nil)))

theorem PlainTokens.key (x0 : TimeTok) (x1 : Transition) (x2 : Nat) (x3 : Nat) (x4 : Nat) (x5 :
    Nat) (x6 : List (Nat × Nat)) : PlainTokens.Statement (.key x0 x1 x2 x3 x4 x5 x6) :=
  plainTokens_of_tokens rfl
    (plain_append (plain_cons (plainToken_kw _) (plain_cons (plainToken_time _) (plain_cons
      (plainToken_transition _) (plain_cons (plainToken_digits _) (plain_cons (plainToken_digits
      _) (plain_cons (plainToken_digits _) (plain_cons (plainToken_digits _) plain_nil)))))))
      (plain_groupPairs _))

theorem PlainTokens.keyG (x0 : TimeTok) (x1 : Nat) (x2 : Nat) : PlainTokens.Statement (.keyG x0 x1
    x2) :=
  plainTokens_of_tokens rfl
    (plain_cons (plainToken_kw _) (plain_cons (plainToken_time _) (plain_cons (plainToken_kw _)
      (plain_cons (plainToken_digits _) (plain_cons (plainToken_digits _) plain_nil)))))

theorem PlainTokens.keyGNone (x0 : TimeTok) (x1 : Nat) : PlainTokens.Statement (.keyGNone x0 x1)
    :=
  plainTokens_of_tokens rfl
    (plain_cons (plainToken_kw _) (plain_cons (plainToken_time _) (plain_cons (plainToken_kw _)
      (plain_cons (plainToken_digits _) (plain_cons (plainToken_kw _) plain_nil)))))

theorem PlainTokens.keyDrop (x0 : TimeTok) : PlainTokens.Statement (.keyDrop x0) :=
  plainTokens_of_tokens rfl
    (plain_cons (plainToken_kw _) (plain_cons (plainToken_kw _) (plain_cons (plainToken_time _)
      plain_nil)))

theorem PlainTokens.keyList : PlainTokens.Statement (.keyList) :=
  plainTokens_of_tokens rfl
    (plain_cons (plainToken_kw _) (plain_cons (plainToken_kw _) plain_nil))

theorem PlainTokens.keyQuery (x0 : TimeTok) : PlainTokens.Statement (.keyQuery x0) :=
  plainTokens_of_tokens rfl
    (plain_cons (plainToken_kw _) (plain_cons (plainToken_time _) plain_nil))

theorem PlainTokens.groupDimmed (x0 : Nat) (x1 : Curve) : PlainTokens.Statement (.groupDimmed x0
    x1) :=
  plainTokens_of_tokens rfl
    (plain_cons (plainToken_kw _) (plain_cons (plainToken_digits _) (plain_cons (plainToken_kw
      _) (plain_cons (plainToken_curve _) plain_nil))))

theorem PlainTokens.groupSwitched (x0 : Nat) (x1 : Nat) (x2 : Nat) (x3 : Nat) (x4 : Nat) :
    PlainTokens.Statement (.groupSwitched x0 x1 x2 x3 x4) :=
  plainTokens_of_tokens rfl
    (plain_cons (plainToken_kw _) (plain_cons (plainToken_digits _) (plain_cons (plainToken_kw
      _) (plain_cons (plainToken_digits _) (plain_cons (plainToken_digits _) (plain_cons
      (plainToken_digits _) (plain_cons (plainToken_digits _) plain_nil)))))))

theorem PlainTokens.groupQuery (x0 : Nat) : PlainTokens.Statement (.groupQuery x0) :=
  plainTokens_of_tokens rfl
    (plain_cons (plainToken_kw _) (plain_cons (plainToken_digits _) plain_nil))

theorem PlainTokens.lampGroup (x0 : Nat) (x1 : Option Nat) : PlainTokens.Statement (.lampGroup x0
    x1) :=
  plainTokens_of_tokens rfl
    (plain_cons (plainToken_kw _) (plain_cons (plainToken_digits _) (plain_cons (plainToken_kw
      _) (plain_cons (plainToken_group _) plain_nil))))

theorem PlainTokens.lampStagger (x0 : Nat) (x1 : Nat) : PlainTokens.Statement (.lampStagger x0 x1)
    :=
  plainTokens_of_tokens rfl
    (plain_cons (plainToken_kw _) (plain_cons (plainToken_digits _) (plain_cons (plainToken_kw
      _) (plain_cons (plainToken_digits _) plain_nil))))

theorem PlainTokens.lampGroupStagger (x0 : Nat) (x1 : Option Nat) (x2 : Nat) :
    PlainTokens.Statement (.lampGroupStagger x0 x1 x2) :=
  plainTokens_of_tokens rfl
    (plain_cons (plainToken_kw _) (plain_cons (plainToken_digits _) (plain_cons (plainToken_kw
      _) (plain_cons (plainToken_group _) (plain_cons (plainToken_kw _) (plain_cons
      (plainToken_digits _) plain_nil))))))

theorem PlainTokens.lampRange (x0 : Nat) (x1 : Nat) (x2 : Option Nat) (x3 : Nat) (x4 : Nat) :
    PlainTokens.Statement (.lampRange x0 x1 x2 x3 x4) :=
  plainTokens_of_tokens rfl
    (plain_cons (plainToken_kw _) (plain_cons (plainToken_digits _) (plain_cons (plainToken_kw
      _) (plain_cons (plainToken_digits _) (plain_cons (plainToken_kw _) (plain_cons
      (plainToken_group _) (plain_cons (plainToken_kw _) (plain_cons (plainToken_digits _)
      (plain_cons (plainToken_digits _) plain_nil)))))))))

theorem PlainTokens.lampLevel (x0 : Nat) (x1 : Nat) (x2 : Option TimeTok) : PlainTokens.Statement
    (.lampLevel x0 x1 x2) :=
  plainTokens_of_tokens rfl
    (plain_append (plain_cons (plainToken_kw _) (plain_cons (plainToken_digits _) (plain_cons
      (plainToken_kw _) (plain_cons (plainToken_digits _) plain_nil)))) (plain_until _))

theorem PlainTokens.lampFree (x0 : Nat) : PlainTokens.Statement (.lampFree x0) :=
  plainTokens_of_tokens rfl
    (plain_cons (plainToken_kw _) (plain_cons (plainToken_digits _) (plain_cons (plainToken_kw
      _) plain_nil)))

theorem PlainTokens.lampQuery (x0 : Nat) : PlainTokens.Statement (.lampQuery x0) :=
  plainTokens_of_tokens rfl
    (plain_cons (plainToken_kw _) (plain_cons (plainToken_digits _) plain_nil))

theorem PlainTokens.bright (x0 : Nat) : PlainTokens.Statement (.bright x0) :=
  plainTokens_of_tokens rfl
    (plain_cons (plainToken_kw _) (plain_cons (plainToken_digits _) plain_nil))

theorem PlainTokens.brightQuery : PlainTokens.Statement (.brightQuery) :=
  plainTokens_of_tokens rfl
    (plain_cons (plainToken_kw _) plain_nil)

theorem PlainTokens.scan (x0 : ScanMode) : PlainTokens.Statement (.scan x0) :=
  plainTokens_of_tokens rfl
    (plain_cons (plainToken_kw _) (plain_cons (plainToken_scan _) plain_nil))

theorem PlainTokens.scanQuery : PlainTokens.Statement (.scanQuery) :=
  plainTokens_of_tokens rfl
    (plain_cons (plainToken_kw _) plain_nil)

theorem PlainTokens.walkTimer : PlainTokens.Statement (.walkTimer) :=
  plainTokens_of_event rfl

theorem PlainTokens.composeComplete : PlainTokens.Statement (.composeComplete) :=
  plainTokens_of_event rfl

theorem PlainTokens.matrixDivider (x0 : Nat) : PlainTokens.Statement (.matrixDivider x0) :=
  plainTokens_of_tokens rfl
    (plain_cons (plainToken_kw _) (plain_cons (plainToken_kw _) (plain_cons (plainToken_digits
      _) plain_nil)))

theorem PlainTokens.matrixRows (x0 : Mirror) : PlainTokens.Statement (.matrixRows x0) :=
  plainTokens_of_tokens rfl
    (plain_cons (plainToken_kw _) (plain_cons (plainToken_kw _) (plain_cons (plainToken_mirror
      _) plain_nil)))

theorem PlainTokens.matrixCols (x0 : Mirror) : PlainTokens.Statement (.matrixCols x0) :=
  plainTokens_of_tokens rfl
    (plain_cons (plainToken_kw _) (plain_cons (plainToken_kw _) (plain_cons (plainToken_mirror
      _) plain_nil)))

theorem PlainTokens.matrixQuery : PlainTokens.Statement (.matrixQuery) :=
  plainTokens_of_tokens rfl
    (plain_cons (plainToken_kw _) plain_nil)

theorem PlainTokens.frameEnd : PlainTokens.Statement (.frameEnd) :=
  plainTokens_of_event rfl

theorem PlainTokens.floodPeriodEnd (x0 : FloodId) : PlainTokens.Statement (.floodPeriodEnd x0) :=
  plainTokens_of_event rfl

theorem PlainTokens.floodSource (x0 : Nat) (x1 : FloodSource) : PlainTokens.Statement
    (.floodSource x0 x1) :=
  plainTokens_of_tokens rfl
    (plain_cons (plainToken_kw _) (plain_cons (plainToken_digits _) (plain_cons (plainToken_kw
      _) (plain_cons (plainToken_source _) plain_nil))))

theorem PlainTokens.floodQuery (x0 : Nat) : PlainTokens.Statement (.floodQuery x0) :=
  plainTokens_of_tokens rfl
    (plain_cons (plainToken_kw _) (plain_cons (plainToken_digits _) plain_nil))

theorem PlainTokens.periodEnd (x0 : Channel) : PlainTokens.Statement (.periodEnd x0) :=
  plainTokens_of_event rfl

theorem PlainTokens.senseTimer (x0 : Channel) : PlainTokens.Statement (.senseTimer x0) :=
  plainTokens_of_event rfl

theorem PlainTokens.conversionRequest (x0 : Channel) (x1 : Nat) : PlainTokens.Statement
    (.conversionRequest x0 x1) :=
  plainTokens_of_event rfl

theorem PlainTokens.restore (x0 : Nat) : PlainTokens.Statement (.restore x0) :=
  plainTokens_of_tokens rfl
    (plain_cons (plainToken_kw _) (plain_cons (plainToken_digits _) plain_nil))

theorem PlainTokens.bridgePwm (x0 : Nat) (x1 : Nat) (x2 : Nat) : PlainTokens.Statement (.bridgePwm
    x0 x1 x2) :=
  plainTokens_of_tokens rfl
    (plain_cons (plainToken_kw _) (plain_cons (plainToken_digits _) (plain_cons (plainToken_kw
      _) (plain_cons (plainToken_digits _) (plain_cons (plainToken_digits _) plain_nil)))))

theorem PlainTokens.bridgeSense (x0 : Nat) (x1 : Bool) : PlainTokens.Statement (.bridgeSense x0
    x1) :=
  plainTokens_of_tokens rfl
    (plain_cons (plainToken_kw _) (plain_cons (plainToken_digits _) (plain_cons (plainToken_kw
      _) (plain_cons (plainToken_switch _) plain_nil))))

theorem PlainTokens.bridgeTrip (x0 : Nat) (x1 : Nat) : PlainTokens.Statement (.bridgeTrip x0 x1)
    :=
  plainTokens_of_tokens rfl
    (plain_cons (plainToken_kw _) (plain_cons (plainToken_digits _) (plain_cons (plainToken_kw
      _) (plain_cons (plainToken_digits _) plain_nil))))

theorem PlainTokens.bridgeQuery (x0 : Nat) : PlainTokens.Statement (.bridgeQuery x0) :=
  plainTokens_of_tokens rfl
    (plain_cons (plainToken_kw _) (plain_cons (plainToken_digits _) plain_nil))

theorem PlainTokens.stopLineAssert : PlainTokens.Statement (.stopLineAssert) :=
  plainTokens_of_event rfl

theorem PlainTokens.stopLineRelease : PlainTokens.Statement (.stopLineRelease) :=
  plainTokens_of_event rfl

theorem PlainTokens.stop : PlainTokens.Statement (.stop) :=
  plainTokens_of_tokens rfl
    (plain_cons (plainToken_kw _) plain_nil)

theorem PlainTokens.resume : PlainTokens.Statement (.resume) :=
  plainTokens_of_tokens rfl
    (plain_cons (plainToken_kw _) plain_nil)

theorem PlainTokens.conversionComplete : PlainTokens.Statement (.conversionComplete) :=
  plainTokens_of_event rfl

theorem PlainTokens.senseThreshold (x0 : Nat) (x1 : Nat) : PlainTokens.Statement (.senseThreshold
    x0 x1) :=
  plainTokens_of_tokens rfl
    (plain_cons (plainToken_kw _) (plain_cons (plainToken_digits _) (plain_cons (plainToken_kw
      _) (plain_cons (plainToken_digits _) plain_nil))))

theorem PlainTokens.senseSectionQuery (x0 : Nat) : PlainTokens.Statement (.senseSectionQuery x0)
    :=
  plainTokens_of_tokens rfl
    (plain_cons (plainToken_kw _) (plain_cons (plainToken_digits _) plain_nil))

theorem PlainTokens.senseQuery : PlainTokens.Statement (.senseQuery) :=
  plainTokens_of_tokens rfl
    (plain_cons (plainToken_kw _) plain_nil)

theorem PlainTokens.acceptedEdgeActive (x0 : InputId) : PlainTokens.Statement (.acceptedEdgeActive
    x0) :=
  plainTokens_of_event rfl

theorem PlainTokens.acceptedEdgeInactive (x0 : InputId) : PlainTokens.Statement
    (.acceptedEdgeInactive x0) :=
  plainTokens_of_event rfl

theorem PlainTokens.stuckTimer (x0 : InputId) : PlainTokens.Statement (.stuckTimer x0) :=
  plainTokens_of_event rfl

theorem PlainTokens.inputMarkFilter (x0 : Nat) (x1 : Nat) : PlainTokens.Statement
    (.inputMarkFilter x0 x1) :=
  plainTokens_of_tokens rfl
    (plain_cons (plainToken_kw _) (plain_cons (plainToken_kw _) (plain_cons (plainToken_digits
      _) (plain_cons (plainToken_kw _) (plain_cons (plainToken_digits _) plain_nil)))))

theorem PlainTokens.inputIndexFilter (x0 : Nat) (x1 : Nat) : PlainTokens.Statement
    (.inputIndexFilter x0 x1) :=
  plainTokens_of_tokens rfl
    (plain_cons (plainToken_kw _) (plain_cons (plainToken_kw _) (plain_cons (plainToken_digits
      _) (plain_cons (plainToken_kw _) (plain_cons (plainToken_digits _) plain_nil)))))

theorem PlainTokens.inputMarkQuery (x0 : Nat) : PlainTokens.Statement (.inputMarkQuery x0) :=
  plainTokens_of_tokens rfl
    (plain_cons (plainToken_kw _) (plain_cons (plainToken_kw _) (plain_cons (plainToken_digits
      _) plain_nil)))

theorem PlainTokens.inputIndexQuery (x0 : Nat) : PlainTokens.Statement (.inputIndexQuery x0) :=
  plainTokens_of_tokens rfl
    (plain_cons (plainToken_kw _) (plain_cons (plainToken_kw _) (plain_cons (plainToken_digits
      _) plain_nil)))

theorem PlainTokens.sectionLength (x0 : Nat) (x1 : Nat) : PlainTokens.Statement (.sectionLength x0
    x1) :=
  plainTokens_of_tokens rfl
    (plain_cons (plainToken_kw _) (plain_cons (plainToken_digits _) (plain_cons (plainToken_kw
      _) (plain_cons (plainToken_digits _) plain_nil))))

theorem PlainTokens.sectionDrop (x0 : Nat) : PlainTokens.Statement (.sectionDrop x0) :=
  plainTokens_of_tokens rfl
    (plain_cons (plainToken_kw _) (plain_cons (plainToken_digits _) (plain_cons (plainToken_kw
      _) plain_nil)))

theorem PlainTokens.sectionJoin (x0 : Nat) (x1 : End) (x2 : EndTok) : PlainTokens.Statement
    (.sectionJoin x0 x1 x2) :=
  plainTokens_of_tokens rfl
    (plain_append (plain_cons (plainToken_kw _) (plain_cons (plainToken_digits _) (plain_cons
      (plainToken_end _) plain_nil))) (plain_endTok _))

theorem PlainTokens.sectionBuffer (x0 : Nat) (x1 : End) : PlainTokens.Statement (.sectionBuffer x0
    x1) :=
  plainTokens_of_tokens rfl
    (plain_cons (plainToken_kw _) (plain_cons (plainToken_digits _) (plain_cons (plainToken_end
      _) (plain_cons (plainToken_kw _) plain_nil))))

theorem PlainTokens.sectionQuery (x0 : Nat) : PlainTokens.Statement (.sectionQuery x0) :=
  plainTokens_of_tokens rfl
    (plain_cons (plainToken_kw _) (plain_cons (plainToken_digits _) plain_nil))

theorem PlainTokens.turnoutLegs (x0 : Nat) (x1 : EndTok) (x2 : EndTok) (x3 : EndTok) :
    PlainTokens.Statement (.turnoutLegs x0 x1 x2 x3) :=
  plainTokens_of_tokens rfl
    (plain_append (plain_append (plain_append (plain_cons (plainToken_kw _) (plain_cons
      (plainToken_digits _) (plain_cons (plainToken_kw _) plain_nil))) (plain_endTok _))
      (plain_endTok _)) (plain_endTok _))

theorem PlainTokens.turnoutDrop (x0 : Nat) : PlainTokens.Statement (.turnoutDrop x0) :=
  plainTokens_of_tokens rfl
    (plain_cons (plainToken_kw _) (plain_cons (plainToken_digits _) (plain_cons (plainToken_kw
      _) plain_nil)))

theorem PlainTokens.runDefine (x0 : Nat) (x1 : List Nat) : PlainTokens.Statement (.runDefine x0
    x1) :=
  plainTokens_of_tokens rfl
    (plain_append (plain_cons (plainToken_kw _) (plain_cons (plainToken_digits _) plain_nil))
      (plain_map_digits _))

theorem PlainTokens.runDrop (x0 : Nat) : PlainTokens.Statement (.runDrop x0) :=
  plainTokens_of_tokens rfl
    (plain_cons (plainToken_kw _) (plain_cons (plainToken_digits _) (plain_cons (plainToken_kw
      _) plain_nil)))

theorem PlainTokens.runQuery (x0 : Nat) : PlainTokens.Statement (.runQuery x0) :=
  plainTokens_of_tokens rfl
    (plain_cons (plainToken_kw _) (plain_cons (plainToken_digits _) plain_nil))

theorem PlainTokens.markDefine (x0 : Nat) (x1 : Nat) (x2 : Nat) (x3 : MarkKind) :
    PlainTokens.Statement (.markDefine x0 x1 x2 x3) :=
  plainTokens_of_tokens rfl
    (plain_cons (plainToken_kw _) (plain_cons (plainToken_digits _) (plain_cons
      (plainToken_digits _) (plain_cons (plainToken_digits _) (plain_cons (plainToken_markKind _)
      plain_nil)))))

theorem PlainTokens.markDrop (x0 : Nat) : PlainTokens.Statement (.markDrop x0) :=
  plainTokens_of_tokens rfl
    (plain_cons (plainToken_kw _) (plain_cons (plainToken_digits _) (plain_cons (plainToken_kw
      _) plain_nil)))

theorem PlainTokens.markQuery (x0 : Nat) : PlainTokens.Statement (.markQuery x0) :=
  plainTokens_of_tokens rfl
    (plain_cons (plainToken_kw _) (plain_cons (plainToken_digits _) plain_nil))

theorem PlainTokens.pulseComplete : PlainTokens.Statement (.pulseComplete) :=
  plainTokens_of_event rfl

theorem PlainTokens.recoveryEnd : PlainTokens.Statement (.recoveryEnd) :=
  plainTokens_of_event rfl

theorem PlainTokens.turnoutThrow (x0 : Nat) (x1 : Branch) : PlainTokens.Statement (.turnoutThrow
    x0 x1) :=
  plainTokens_of_tokens rfl
    (plain_cons (plainToken_kw _) (plain_cons (plainToken_digits _) (plain_cons (plainToken_kw
      _) (plain_cons (plainToken_kw _) plain_nil))))

theorem PlainTokens.turnoutPulse (x0 : Nat) (x1 : Nat) : PlainTokens.Statement (.turnoutPulse x0
    x1) :=
  plainTokens_of_tokens rfl
    (plain_cons (plainToken_kw _) (plain_cons (plainToken_digits _) (plain_cons (plainToken_kw
      _) (plain_cons (plainToken_digits _) plain_nil))))

theorem PlainTokens.turnoutQuery (x0 : Nat) : PlainTokens.Statement (.turnoutQuery x0) :=
  plainTokens_of_tokens rfl
    (plain_cons (plainToken_kw _) (plain_cons (plainToken_digits _) plain_nil))

theorem PlainTokens.crossingDefine (x0 : Nat) (x1 : Nat) (x2 : Nat) (x3 : Nat) (x4 : Nat) (x5 :
    Nat) (x6 : Bool) : PlainTokens.Statement (.crossingDefine x0 x1 x2 x3 x4 x5 x6) :=
  plainTokens_of_tokens rfl
    (plain_cons (plainToken_kw _) (plain_cons (plainToken_digits _) (plain_cons
      (plainToken_digits _) (plain_cons (plainToken_kw _) (plain_cons (plainToken_digits _)
      (plain_cons (plainToken_digits _) (plain_cons (plainToken_kw _) (plain_cons
      (plainToken_digits _) (plain_cons (plainToken_kw _) (plain_cons (plainToken_digits _)
      (plain_cons (plainToken_kw _) (plain_cons (plainToken_switch _) plain_nil))))))))))))

theorem PlainTokens.crossingDrop (x0 : Nat) : PlainTokens.Statement (.crossingDrop x0) :=
  plainTokens_of_tokens rfl
    (plain_cons (plainToken_kw _) (plain_cons (plainToken_digits _) (plain_cons (plainToken_kw
      _) plain_nil)))

theorem PlainTokens.crossingQuery (x0 : Nat) : PlainTokens.Statement (.crossingQuery x0) :=
  plainTokens_of_tokens rfl
    (plain_cons (plainToken_kw _) (plain_cons (plainToken_digits _) plain_nil))

theorem PlainTokens.leadTimer (x0 : CrossingId) : PlainTokens.Statement (.leadTimer x0) :=
  plainTokens_of_event rfl

theorem PlainTokens.flashTimer (x0 : CrossingId) : PlainTokens.Statement (.flashTimer x0) :=
  plainTokens_of_event rfl

theorem PlainTokens.bellHalfPeriod : PlainTokens.Statement (.bellHalfPeriod) :=
  plainTokens_of_event rfl

theorem PlainTokens.bellTone (x0 : Nat) : PlainTokens.Statement (.bellTone x0) :=
  plainTokens_of_tokens rfl
    (plain_cons (plainToken_kw _) (plain_cons (plainToken_kw _) (plain_cons (plainToken_digits
      _) plain_nil)))

theorem PlainTokens.bellQuiet (x0 : TimeTok) (x1 : TimeTok) : PlainTokens.Statement (.bellQuiet x0
    x1) :=
  plainTokens_of_tokens rfl
    (plain_cons (plainToken_kw _) (plain_cons (plainToken_kw _) (plain_cons (plainToken_time _)
      (plain_cons (plainToken_time _) plain_nil))))

theorem PlainTokens.bellQuietNone : PlainTokens.Statement (.bellQuietNone) :=
  plainTokens_of_tokens rfl
    (plain_cons (plainToken_kw _) (plain_cons (plainToken_kw _) (plain_cons (plainToken_kw _)
      plain_nil)))

theorem PlainTokens.bellQuery : PlainTokens.Statement (.bellQuery) :=
  plainTokens_of_tokens rfl
    (plain_cons (plainToken_kw _) plain_nil)

theorem PlainTokens.unitQuery (x0 : Nat) : PlainTokens.Statement (.unitQuery x0) :=
  plainTokens_of_tokens rfl
    (plain_cons (plainToken_kw _) (plain_cons (plainToken_digits _) plain_nil))

theorem PlainTokens.unitList : PlainTokens.Statement (.unitList) :=
  plainTokens_of_tokens rfl
    (plain_cons (plainToken_kw _) plain_nil)

theorem PlainTokens.rampTick (x0 : Train) : PlainTokens.Statement (.rampTick x0) :=
  plainTokens_of_event rfl

theorem PlainTokens.trainResume (x0 : Nat) : PlainTokens.Statement (.trainResume x0) :=
  plainTokens_of_tokens rfl
    (plain_cons (plainToken_kw _) (plain_cons (plainToken_digits _) (plain_cons (plainToken_kw
      _) plain_nil)))

theorem PlainTokens.trainPlace (x0 : Nat) (x1 : Nat) (x2 : End) : PlainTokens.Statement
    (.trainPlace x0 x1 x2) :=
  plainTokens_of_tokens rfl
    (plain_cons (plainToken_kw _) (plain_cons (plainToken_digits _) (plain_cons (plainToken_kw
      _) (plain_cons (plainToken_digits _) (plain_cons (plainToken_end _) plain_nil)))))

theorem PlainTokens.trainLift (x0 : Nat) : PlainTokens.Statement (.trainLift x0) :=
  plainTokens_of_tokens rfl
    (plain_cons (plainToken_kw _) (plain_cons (plainToken_digits _) (plain_cons (plainToken_kw
      _) plain_nil)))

theorem PlainTokens.trainFind (x0 : Nat) (x1 : Nat) (x2 : End) : PlainTokens.Statement (.trainFind
    x0 x1 x2) :=
  plainTokens_of_tokens rfl
    (plain_cons (plainToken_kw _) (plain_cons (plainToken_digits _) (plain_cons (plainToken_kw
      _) (plain_cons (plainToken_digits _) (plain_cons (plainToken_end _) plain_nil)))))

theorem PlainTokens.routeDefine (x0 : Nat) (x1 : List Nat) : PlainTokens.Statement (.routeDefine
    x0 x1) :=
  plainTokens_of_tokens rfl
    (plain_append (plain_cons (plainToken_kw _) (plain_cons (plainToken_digits _) plain_nil))
      (plain_map_digits _))

theorem PlainTokens.routeAdd (x0 : Nat) (x1 : List Nat) : PlainTokens.Statement (.routeAdd x0 x1)
    :=
  plainTokens_of_tokens rfl
    (plain_append (plain_cons (plainToken_kw _) (plain_cons (plainToken_digits _) (plain_cons
      (plainToken_kw _) plain_nil))) (plain_map_digits _))

theorem PlainTokens.routeStop (x0 : Nat) (x1 : Nat) (x2 : Nat) (x3 : Option Nat) :
    PlainTokens.Statement (.routeStop x0 x1 x2 x3) := by
  cases x3
  · exact plainTokens_of_tokens rfl
      (plain_cons (plainToken_kw _) (plain_cons (plainToken_digits _) (plain_cons (plainToken_kw
        _) (plain_cons (plainToken_digits _) (plain_cons (plainToken_digits _) plain_nil)))))
  · exact plainTokens_of_tokens rfl
      (plain_cons (plainToken_kw _) (plain_cons (plainToken_digits _) (plain_cons (plainToken_kw
        _) (plain_cons (plainToken_digits _) (plain_cons (plainToken_digits _) (plain_cons
        (plainToken_kw _) (plain_cons (plainToken_digits _) plain_nil)))))))

theorem PlainTokens.routeStopNone (x0 : Nat) (x1 : Nat) : PlainTokens.Statement (.routeStopNone x0
    x1) :=
  plainTokens_of_tokens rfl
    (plain_cons (plainToken_kw _) (plain_cons (plainToken_digits _) (plain_cons (plainToken_kw
      _) (plain_cons (plainToken_digits _) (plain_cons (plainToken_kw _) plain_nil)))))

theorem PlainTokens.routeLoop (x0 : Nat) (x1 : Bool) : PlainTokens.Statement (.routeLoop x0 x1) :=
  plainTokens_of_tokens rfl
    (plain_cons (plainToken_kw _) (plain_cons (plainToken_digits _) (plain_cons (plainToken_kw
      _) (plain_cons (plainToken_switch _) plain_nil))))

theorem PlainTokens.routeDrop (x0 : Nat) : PlainTokens.Statement (.routeDrop x0) :=
  plainTokens_of_tokens rfl
    (plain_cons (plainToken_kw _) (plain_cons (plainToken_digits _) (plain_cons (plainToken_kw
      _) plain_nil)))

theorem PlainTokens.routeQuery (x0 : Nat) : PlainTokens.Statement (.routeQuery x0) :=
  plainTokens_of_tokens rfl
    (plain_cons (plainToken_kw _) (plain_cons (plainToken_digits _) plain_nil))

theorem PlainTokens.trainGo (x0 : Nat) (x1 : Nat) : PlainTokens.Statement (.trainGo x0 x1) :=
  plainTokens_of_tokens rfl
    (plain_cons (plainToken_kw _) (plain_cons (plainToken_digits _) (plain_cons (plainToken_kw
      _) (plain_cons (plainToken_digits _) plain_nil))))

theorem PlainTokens.trainPark (x0 : Nat) : PlainTokens.Statement (.trainPark x0) :=
  plainTokens_of_tokens rfl
    (plain_cons (plainToken_kw _) (plain_cons (plainToken_digits _) (plain_cons (plainToken_kw
      _) plain_nil)))

theorem PlainTokens.timetableAdd (x0 : TimeTok) (x1 : Nat) (x2 : Nat) : PlainTokens.Statement
    (.timetableAdd x0 x1 x2) :=
  plainTokens_of_tokens rfl
    (plain_cons (plainToken_kw _) (plain_cons (plainToken_time _) (plain_cons (plainToken_digits
      _) (plain_cons (plainToken_digits _) plain_nil))))

theorem PlainTokens.timetableDrop (x0 : TimeTok) (x1 : Nat) : PlainTokens.Statement
    (.timetableDrop x0 x1) :=
  plainTokens_of_tokens rfl
    (plain_cons (plainToken_kw _) (plain_cons (plainToken_kw _) (plain_cons (plainToken_time _)
      (plain_cons (plainToken_digits _) plain_nil))))

theorem PlainTokens.timetableAutorun (x0 : Bool) : PlainTokens.Statement (.timetableAutorun x0) :=
  plainTokens_of_tokens rfl
    (plain_cons (plainToken_kw _) (plain_cons (plainToken_kw _) (plain_cons (plainToken_switch
      _) plain_nil)))

theorem PlainTokens.timetableQuery : PlainTokens.Statement (.timetableQuery) :=
  plainTokens_of_tokens rfl
    (plain_cons (plainToken_kw _) plain_nil)

theorem PlainTokens.timetableList (x0 : Nat) : PlainTokens.Statement (.timetableList x0) :=
  plainTokens_of_tokens rfl
    (plain_cons (plainToken_kw _) (plain_cons (plainToken_kw _) (plain_cons (plainToken_digits
      _) plain_nil)))

theorem PlainTokens.trainCab (x0 : Nat) (x1 : Nat) (x2 : Option Orientation) :
    PlainTokens.Statement (.trainCab x0 x1 x2) := by
  cases x2
  · exact plainTokens_of_tokens rfl
      (plain_cons (plainToken_kw _) (plain_cons (plainToken_digits _) (plain_cons (plainToken_kw
        _) (plain_cons (plainToken_digits _) plain_nil))))
  · exact plainTokens_of_tokens rfl
      (plain_cons (plainToken_kw _) (plain_cons (plainToken_digits _) (plain_cons (plainToken_kw
        _) (plain_cons (plainToken_digits _) (plain_cons (plainToken_orientation _) plain_nil)))))

theorem PlainTokens.cabSupervisionTimer (x0 : Train) : PlainTokens.Statement (.cabSupervisionTimer
    x0) :=
  plainTokens_of_event rfl

theorem PlainTokens.trainName (x0 : Nat) (x1 : List Char) : PlainTokens.Statement (.trainName x0
    x1) :=
  fun h => plainTokens_of_tokens rfl (plain_cons (plainToken_kw _) (plain_cons (plainToken_digits _)
    (plain_cons (plainToken_kw _) (plain_cons (plainToken_name
      (by simp only [Instr.wf, Bool.and_eq_true] at h; exact h.2)) plain_nil)))) h

theorem PlainTokens.trainLength (x0 : Nat) (x1 : Nat) : PlainTokens.Statement (.trainLength x0 x1)
    :=
  plainTokens_of_tokens rfl
    (plain_cons (plainToken_kw _) (plain_cons (plainToken_digits _) (plain_cons (plainToken_kw
      _) (plain_cons (plainToken_digits _) plain_nil))))

theorem PlainTokens.trainTable (x0 : Nat) (x1 : Nat) (x2 : List (Nat × Nat)) :
    PlainTokens.Statement (.trainTable x0 x1 x2) :=
  plainTokens_of_tokens rfl
    (plain_append (plain_cons (plainToken_kw _) (plain_cons (plainToken_digits _) (plain_cons
      (plainToken_kw _) (plain_cons (plainToken_digits _) plain_nil)))) (plain_pairs _))

theorem PlainTokens.trainTableQuery (x0 : Nat) (x1 : Nat) : PlainTokens.Statement
    (.trainTableQuery x0 x1) :=
  plainTokens_of_tokens rfl
    (plain_cons (plainToken_kw _) (plain_cons (plainToken_digits _) (plain_cons (plainToken_kw
      _) (plain_cons (plainToken_digits _) plain_nil))))

theorem PlainTokens.trainRamp (x0 : Nat) (x1 : Nat) (x2 : Nat) : PlainTokens.Statement (.trainRamp
    x0 x1 x2) :=
  plainTokens_of_tokens rfl
    (plain_cons (plainToken_kw _) (plain_cons (plainToken_digits _) (plain_cons (plainToken_kw
      _) (plain_cons (plainToken_digits _) (plain_cons (plainToken_digits _) plain_nil)))))

theorem PlainTokens.trainCreep (x0 : Nat) (x1 : Nat) : PlainTokens.Statement (.trainCreep x0 x1)
    :=
  plainTokens_of_tokens rfl
    (plain_cons (plainToken_kw _) (plain_cons (plainToken_digits _) (plain_cons (plainToken_kw
      _) (plain_cons (plainToken_digits _) plain_nil))))

theorem PlainTokens.trainHome (x0 : Nat) (x1 : Nat) (x2 : End) : PlainTokens.Statement (.trainHome
    x0 x1 x2) :=
  plainTokens_of_tokens rfl
    (plain_cons (plainToken_kw _) (plain_cons (plainToken_digits _) (plain_cons (plainToken_kw
      _) (plain_cons (plainToken_digits _) (plain_cons (plainToken_end _) plain_nil)))))

theorem PlainTokens.trainHomeNone (x0 : Nat) : PlainTokens.Statement (.trainHomeNone x0) :=
  plainTokens_of_tokens rfl
    (plain_cons (plainToken_kw _) (plain_cons (plainToken_digits _) (plain_cons (plainToken_kw
      _) (plain_cons (plainToken_kw _) plain_nil))))

theorem PlainTokens.trainCabtime (x0 : Nat) (x1 : Nat) : PlainTokens.Statement (.trainCabtime x0
    x1) :=
  plainTokens_of_tokens rfl
    (plain_cons (plainToken_kw _) (plain_cons (plainToken_digits _) (plain_cons (plainToken_kw
      _) (plain_cons (plainToken_digits _) plain_nil))))

theorem PlainTokens.trainService (x0 : Nat) (x1 : Nat) : PlainTokens.Statement (.trainService x0
    x1) :=
  plainTokens_of_tokens rfl
    (plain_cons (plainToken_kw _) (plain_cons (plainToken_digits _) (plain_cons (plainToken_kw
      _) (plain_cons (plainToken_digits _) plain_nil))))

theorem PlainTokens.trainQuery (x0 : Nat) : PlainTokens.Statement (.trainQuery x0) :=
  plainTokens_of_tokens rfl
    (plain_cons (plainToken_kw _) (plain_cons (plainToken_digits _) plain_nil))

theorem PlainTokens.axisProgram (x0 : Nat) (x1 : TimeTok) (x2 : Nat) : PlainTokens.Statement
    (.axisProgram x0 x1 x2) :=
  plainTokens_of_tokens rfl
    (plain_cons (plainToken_kw _) (plain_cons (plainToken_digits _) (plain_cons (plainToken_kw
      _) (plain_cons (plainToken_time _) (plain_cons (plainToken_digits _) plain_nil)))))

theorem PlainTokens.axisProgramDrop (x0 : Nat) (x1 : TimeTok) : PlainTokens.Statement
    (.axisProgramDrop x0 x1) :=
  plainTokens_of_tokens rfl
    (plain_cons (plainToken_kw _) (plain_cons (plainToken_digits _) (plain_cons (plainToken_kw
      _) (plain_cons (plainToken_kw _) (plain_cons (plainToken_time _) plain_nil)))))

theorem PlainTokens.axisProgramNone (x0 : Nat) : PlainTokens.Statement (.axisProgramNone x0) :=
  plainTokens_of_tokens rfl
    (plain_cons (plainToken_kw _) (plain_cons (plainToken_digits _) (plain_cons (plainToken_kw
      _) (plain_cons (plainToken_kw _) plain_nil))))

theorem PlainTokens.axisProgramQuery (x0 : Nat) : PlainTokens.Statement (.axisProgramQuery x0) :=
  plainTokens_of_tokens rfl
    (plain_cons (plainToken_kw _) (plain_cons (plainToken_digits _) (plain_cons (plainToken_kw
      _) plain_nil)))

theorem PlainTokens.axisSpeed (x0 : Nat) (x1 : Nat) : PlainTokens.Statement (.axisSpeed x0 x1) :=
  plainTokens_of_tokens rfl
    (plain_cons (plainToken_kw _) (plain_cons (plainToken_digits _) (plain_cons (plainToken_kw
      _) (plain_cons (plainToken_digits _) plain_nil))))

theorem PlainTokens.axisFree (x0 : Nat) : PlainTokens.Statement (.axisFree x0) :=
  plainTokens_of_tokens rfl
    (plain_cons (plainToken_kw _) (plain_cons (plainToken_digits _) (plain_cons (plainToken_kw
      _) plain_nil)))

theorem PlainTokens.updateTick (x0 : Axis) : PlainTokens.Statement (.updateTick x0) :=
  plainTokens_of_event rfl

theorem PlainTokens.stallTimer (x0 : Axis) : PlainTokens.Statement (.stallTimer x0) :=
  plainTokens_of_event rfl

theorem PlainTokens.stopTimer (x0 : Axis) : PlainTokens.Statement (.stopTimer x0) :=
  plainTokens_of_event rfl

theorem PlainTokens.axisClear (x0 : Nat) : PlainTokens.Statement (.axisClear x0) :=
  plainTokens_of_tokens rfl
    (plain_cons (plainToken_kw _) (plain_cons (plainToken_digits _) (plain_cons (plainToken_kw
      _) plain_nil)))

theorem PlainTokens.axisDirection (x0 : Nat) (x1 : Polarity) : PlainTokens.Statement
    (.axisDirection x0 x1) :=
  plainTokens_of_tokens rfl
    (plain_cons (plainToken_kw _) (plain_cons (plainToken_digits _) (plain_cons (plainToken_kw
      _) (plain_cons (plainToken_polarity _) plain_nil))))

theorem PlainTokens.axisGain (x0 : Nat) (x1 : Nat) : PlainTokens.Statement (.axisGain x0 x1) :=
  plainTokens_of_tokens rfl
    (plain_cons (plainToken_kw _) (plain_cons (plainToken_digits _) (plain_cons (plainToken_kw
      _) (plain_cons (plainToken_digits _) plain_nil))))

theorem PlainTokens.axisKick (x0 : Nat) (x1 : Nat) : PlainTokens.Statement (.axisKick x0 x1) :=
  plainTokens_of_tokens rfl
    (plain_cons (plainToken_kw _) (plain_cons (plainToken_digits _) (plain_cons (plainToken_kw
      _) (plain_cons (plainToken_digits _) plain_nil))))

theorem PlainTokens.axisMaxduty (x0 : Nat) (x1 : Nat) : PlainTokens.Statement (.axisMaxduty x0 x1)
    :=
  plainTokens_of_tokens rfl
    (plain_cons (plainToken_kw _) (plain_cons (plainToken_digits _) (plain_cons (plainToken_kw
      _) (plain_cons (plainToken_digits _) plain_nil))))

theorem PlainTokens.axisStall (x0 : Nat) (x1 : Nat) : PlainTokens.Statement (.axisStall x0 x1) :=
  plainTokens_of_tokens rfl
    (plain_cons (plainToken_kw _) (plain_cons (plainToken_digits _) (plain_cons (plainToken_kw
      _) (plain_cons (plainToken_digits _) plain_nil))))

theorem PlainTokens.axisSlew (x0 : Nat) (x1 : Nat) : PlainTokens.Statement (.axisSlew x0 x1) :=
  plainTokens_of_tokens rfl
    (plain_cons (plainToken_kw _) (plain_cons (plainToken_digits _) (plain_cons (plainToken_kw
      _) (plain_cons (plainToken_digits _) plain_nil))))

theorem PlainTokens.axisQuery (x0 : Nat) : PlainTokens.Statement (.axisQuery x0) :=
  plainTokens_of_tokens rfl
    (plain_cons (plainToken_kw _) (plain_cons (plainToken_digits _) plain_nil))

theorem PlainTokens.budgetEvaluation : PlainTokens.Statement (.budgetEvaluation) :=
  plainTokens_of_event rfl

theorem PlainTokens.budgetCeiling (x0 : Nat) : PlainTokens.Statement (.budgetCeiling x0) :=
  plainTokens_of_tokens rfl
    (plain_cons (plainToken_kw _) (plain_cons (plainToken_kw _) (plain_cons (plainToken_digits
      _) plain_nil)))

theorem PlainTokens.budgetLamp (x0 : Nat) : PlainTokens.Statement (.budgetLamp x0) :=
  plainTokens_of_tokens rfl
    (plain_cons (plainToken_kw _) (plain_cons (plainToken_kw _) (plain_cons (plainToken_digits
      _) plain_nil)))

theorem PlainTokens.budgetFlood (x0 : Nat) : PlainTokens.Statement (.budgetFlood x0) :=
  plainTokens_of_tokens rfl
    (plain_cons (plainToken_kw _) (plain_cons (plainToken_kw _) (plain_cons (plainToken_digits
      _) plain_nil)))

theorem PlainTokens.budgetQuery : PlainTokens.Statement (.budgetQuery) :=
  plainTokens_of_tokens rfl
    (plain_cons (plainToken_kw _) plain_nil)

theorem PlainTokens.receiveCharacter (x0 : BitVec 8) (x1 : Bool) : PlainTokens.Statement
    (.receiveCharacter x0 x1) :=
  plainTokens_of_event rfl

theorem PlainTokens.lineWritten : PlainTokens.Statement (.lineWritten) :=
  plainTokens_of_event rfl

theorem PlainTokens.mapDefine (x0 : Nat) (x1 : Nat) (x2 : Nat) (x3 : FixtureKind) (x4 : Nat) :
    PlainTokens.Statement (.mapDefine x0 x1 x2 x3 x4) :=
  plainTokens_of_tokens rfl
    (plain_cons (plainToken_kw _) (plain_cons (plainToken_digits _) (plain_cons
      (plainToken_digits _) (plain_cons (plainToken_digits _) (plain_cons (plainToken_fixture _)
      (plain_cons (plainToken_digits _) plain_nil))))))

theorem PlainTokens.mapNone (x0 : Nat) : PlainTokens.Statement (.mapNone x0) :=
  plainTokens_of_tokens rfl
    (plain_cons (plainToken_kw _) (plain_cons (plainToken_digits _) (plain_cons (plainToken_kw
      _) plain_nil)))

theorem PlainTokens.mapQuery (x0 : Nat) : PlainTokens.Statement (.mapQuery x0) :=
  plainTokens_of_tokens rfl
    (plain_cons (plainToken_kw _) (plain_cons (plainToken_digits _) plain_nil))

theorem PlainTokens.mapList : PlainTokens.Statement (.mapList) :=
  plainTokens_of_tokens rfl
    (plain_cons (plainToken_kw _) plain_nil)

theorem PlainTokens.set (x0 : Nat) (x1 : Nat) (x2 : Option TimeTok) : PlainTokens.Statement (.set
    x0 x1 x2) :=
  plainTokens_of_tokens rfl
    (plain_append (plain_cons (plainToken_kw _) (plain_cons (plainToken_digits _) (plain_cons
      (plainToken_digits _) plain_nil))) (plain_until _))

theorem PlainTokens.free (x0 : Nat) : PlainTokens.Statement (.free x0) :=
  plainTokens_of_tokens rfl
    (plain_cons (plainToken_kw _) (plain_cons (plainToken_digits _) plain_nil))

theorem PlainTokens.get (x0 : Nat) : PlainTokens.Statement (.get x0) :=
  plainTokens_of_tokens rfl
    (plain_cons (plainToken_kw _) (plain_cons (plainToken_digits _) plain_nil))

theorem PlainTokens.status : PlainTokens.Statement (.status) :=
  plainTokens_of_tokens rfl
    (plain_cons (plainToken_kw _) plain_nil)

theorem PlainTokens.save : PlainTokens.Statement (.save) :=
  plainTokens_of_tokens rfl
    (plain_cons (plainToken_kw _) plain_nil)

theorem PlainTokens.saveComplete : PlainTokens.Statement (.saveComplete) :=
  plainTokens_of_event rfl

theorem PlainTokens.erase : PlainTokens.Statement (.erase) :=
  plainTokens_of_tokens rfl
    (plain_cons (plainToken_kw _) plain_nil)

theorem PlainTokens.eraseComplete : PlainTokens.Statement (.eraseComplete) :=
  plainTokens_of_event rfl

theorem PlainTokens.reset : PlainTokens.Statement (.reset) :=
  plainTokens_of_tokens rfl
    (plain_cons (plainToken_kw _) plain_nil)

theorem PlainTokens.powerOn (x0 : ResetPins) : PlainTokens.Statement (.powerOn x0) :=
  plainTokens_of_event rfl

theorem PlainTokens.rstAssert : PlainTokens.Statement (.rstAssert) :=
  plainTokens_of_event rfl

theorem PlainTokens.rstRelease (x0 : ResetPins) : PlainTokens.Statement (.rstRelease x0) :=
  plainTokens_of_event rfl

theorem PlainTokens.settlingTimer : PlainTokens.Statement (.settlingTimer) :=
  plainTokens_of_event rfl

theorem PlainTokens.inputSample (x0 : BitVec 20) : PlainTokens.Statement (.inputSample x0) :=
  plainTokens_of_event rfl

theorem PlainTokens.stopLineSample (x0 : Bool) : PlainTokens.Statement (.stopLineSample x0) :=
  plainTokens_of_event rfl

theorem PlainTokens.rstSample (x0 : Bool) : PlainTokens.Statement (.rstSample x0) :=
  plainTokens_of_event rfl

theorem PlainTokens.realMillisecondCount : PlainTokens.Statement (.realMillisecondCount) :=
  plainTokens_of_event rfl

end Sys2Proof.Laws
end

