-- ==== Sys2Proof/Laws/Throws.lean ====
section
/-! SUPPORT. What asking for throws does (R122): the first uses that `firstUses` gives are those of a path, each
once and in path order, so that `askThrows` and `askAllThrows` ask as `AsksThrows` and `AsksForHeld` say. -/

namespace Sys2Proof.Machine

open Sys2Proof.Safety

/-- Place `i` of a path is the first that passes a turnout not yet seen, on the branch `e` names. -/
def FreshUse (ps : List PathElt) (seen : List TurnoutId) (i : Nat) (e : TurnoutId × Branch) : Prop :=
  (∃ p, ps[i]? = some p ∧ p.via = some e) ∧ e.1 ∉ seen ∧
    ∀ (j : Nat) p o, j < i → ps[j]? = some p → p.via ≠ some (e.1, o)

/-- A place past the first is a fresh use where it is one of the rest, of a turnout that the first does not
pass. -/
theorem freshUse_succ {p : PathElt} {ps : List PathElt} {seen : List TurnoutId} {i : Nat}
    {e : TurnoutId × Branch} :
    FreshUse (p :: ps) seen (i + 1) e ↔ FreshUse ps seen i e ∧ ∀ o, p.via ≠ some (e.1, o) := by
  unfold FreshUse
  constructor
  · rintro ⟨h, hs, hj⟩
    refine ⟨⟨by simpa using h, hs, fun j q o hji hq => hj (j + 1) q o (by omega) (by simpa using hq)⟩,
      fun o => hj 0 p o (by omega) rfl⟩
  · rintro ⟨⟨h, hs, hj⟩, h0⟩
    refine ⟨by simpa using h, hs, fun j q o hji hq => ?_⟩
    cases j with
    | zero => cases hq; exact h0 o
    | succ j => exact hj j q o (by omega) (by simpa using hq)

/-- The first place is a fresh use of the turnout that it passes. -/
theorem freshUse_zero {p : PathElt} {ps : List PathElt} {seen : List TurnoutId} {e : TurnoutId × Branch} :
    FreshUse (p :: ps) seen 0 e ↔ p.via = some e ∧ e.1 ∉ seen := by
  simp [FreshUse]

/-- The first uses are the fresh uses of the path, in path order. -/
theorem firstUses_spec (ps : List PathElt) (seen : List TurnoutId) :
    ∃ uses : List (Nat × TurnoutId × Branch), uses.map Prod.snd = firstUses ps seen ∧
      (uses.Pairwise fun x y => x.1 < y.1) ∧ ∀ i e, (i, e) ∈ uses ↔ FreshUse ps seen i e := by
  induction ps generalizing seen with
  | nil => exact ⟨[], rfl, .nil, by simp [FreshUse]⟩
  | cons p ps ih =>
    have skip : (∀ e, p.via = some e → e.1 ∈ seen) → firstUses (p :: ps) seen = firstUses ps seen →
        ∃ uses : List (Nat × TurnoutId × Branch), uses.map Prod.snd = firstUses (p :: ps) seen ∧
          (uses.Pairwise fun x y => x.1 < y.1) ∧
          ∀ i e, (i, e) ∈ uses ↔ FreshUse (p :: ps) seen i e := by
      intro h0 he
      obtain ⟨us, hm, hp, hu⟩ := ih seen
      refine ⟨us.map fun x => (x.1 + 1, x.2), by rw [he, ← hm]; simp [Function.comp_def],
        List.pairwise_map.2 (hp.imp fun h => Nat.succ_lt_succ h), fun i e => ?_⟩
      cases i with
      | zero =>
        rw [freshUse_zero]
        simp only [List.mem_map, Prod.mk.injEq]
        exact ⟨fun ⟨_, _, h, _⟩ => (Nat.succ_ne_zero _ h).elim, fun ⟨h, k⟩ => (k (h0 _ h)).elim⟩
      | succ i =>
        rw [freshUse_succ, ← hu]
        simp only [List.mem_map, Prod.mk.injEq, Nat.add_right_cancel_iff]
        constructor
        · rintro ⟨x, hx, rfl, rfl⟩
          exact ⟨hx, fun o ho => ((hu x.1 x.2).1 hx).2.1 (h0 (x.2.1, o) ho)⟩
        · rintro ⟨h, -⟩; exact ⟨_, h, rfl, rfl⟩
    rcases hv : p.via with _ | ⟨t, b⟩
    · exact skip (by simp [hv]) (by simp [firstUses, hv])
    · by_cases ht : t ∈ seen
      · exact skip (by rintro e he; rw [hv] at he; cases he; exact ht) (by simp [firstUses, hv, ht])
      · obtain ⟨us, hm, hp, hu⟩ := ih (t :: seen)
        have first : ∀ x ∈ us.map (fun x => (x.1 + 1, x.2)), 0 < x.1 := by
          simp only [List.mem_map]; rintro _ ⟨_, _, rfl⟩; exact Nat.succ_pos _
        refine ⟨(0, t, b) :: us.map fun x => (x.1 + 1, x.2), ?_, ?_, fun i e => ?_⟩
        · simp [firstUses, hv, ht, ← hm, Function.comp_def]
        · exact List.pairwise_cons.2 ⟨first, List.pairwise_map.2 (hp.imp fun h => Nat.succ_lt_succ h)⟩
        · cases i with
          | zero =>
            rw [freshUse_zero, hv]
            simp only [List.mem_cons, List.mem_map, Prod.mk.injEq]
            constructor
            · rintro (⟨-, rfl⟩ | ⟨_, _, h, _⟩)
              · exact ⟨by simp, ht⟩
              · exact (Nat.succ_ne_zero _ h).elim
            · rintro ⟨h, -⟩; cases h; simp
          | succ i =>
            rw [freshUse_succ]
            have key : FreshUse ps (t :: seen) i e ↔
                FreshUse ps seen i e ∧ ∀ o, p.via ≠ some (e.1, o) := by
              unfold FreshUse; rw [hv]
              constructor
              · rintro ⟨h, hs, hj⟩
                exact ⟨⟨h, fun k => hs (.tail _ k), hj⟩, fun o ho => hs (by cases ho; exact .head _)⟩
              · rintro ⟨⟨h, hs, hj⟩, ho⟩
                refine ⟨h, fun k => ?_, hj⟩
                rcases List.mem_cons.1 k with k | k
                · exact ho b (by rw [← k])
                · exact hs k
            rw [← key, ← hu]
            simp only [List.mem_cons, List.mem_map, Prod.mk.injEq]
            constructor
            · rintro (⟨h, -⟩ | ⟨x, hx, h, rfl⟩)
              · exact (Nat.succ_ne_zero _ h).elim
              · cases h; exact hx
            · intro h; exact .inr ⟨_, h, rfl, rfl⟩

/-- The throws of one unit (R122). -/
theorem askThrows_asks (n : Train) (s : State) (u : Section) : AsksThrows n u s (askThrows n s u) := by
  refine ⟨fun h => by simp [askThrows, h], fun h => ?_⟩
  obtain ⟨us, hm, hp, hu⟩ := firstUses_spec (s.path n).tail []
  refine ⟨(us.filter fun x => s.cfg.governs u x.2.1).map fun x => (x.1, ⟨x.2.1, x.2.2, .train n⟩), ?_,
    List.pairwise_map.2 (hp.filter _), fun i e => ?_⟩
  · simp only [askThrows, h, ← hm, List.filter_map, List.foldl_map]; rfl
  · simp only [List.mem_map, List.mem_filter]
    have g : ∀ t, s.cfg.governs u t = true ↔
        ∃ d, s.cfg.turnouts.get t = some d ∧ s.cfg.unitKey d.trunk.sec = some u := by
      intro t; unfold Scene.governs; cases h : s.cfg.turnouts.get t <;> simp
    constructor
    · rintro ⟨⟨j, t, b⟩, ⟨hx, hg⟩, h⟩
      simp only [Prod.mk.injEq] at h
      obtain ⟨rfl, rfl⟩ := h
      obtain ⟨a, -, c⟩ := (hu _ _).1 hx
      exact ⟨rfl, a, (g _).1 hg, fun j p o => c j p o⟩
    · rintro ⟨ho, ha, hg, hj⟩
      refine ⟨(i, e.t, e.wanted), ⟨(hu _ _).2 ⟨ha, by simp, fun j p o => hj j p o⟩, (g _).2 hg⟩, ?_⟩
      cases e; simp only at ho; subst ho; rfl

/-- The throws of every held unit (R122; log 40). -/
theorem askAllThrows_asks (n : Train) (s : State) : AsksForHeld n s (askAllThrows n s) := by
  unfold AsksForHeld askAllThrows
  generalize (s.trains.get n).holdings = us
  induction us generalizing s with
  | nil => rfl
  | cons u us ih => exact ⟨_, askThrows_asks n s u, ih _⟩
end Sys2Proof.Machine
end

