-- ==== Sys2Proof/Tests/Slice0.lean ====
section
/-! SUPPORT. Tests: terms that are not well formed, the spec's worked figures, and for each statement
with hypotheses a witness that meets them. -/

namespace Sys2Proof.Tests

open Sys2Proof.Machine Sys2Proof.Safety

/-! ## Terms no line can spell: the check refuses each -/

/-- Numbers have at most 9 digits, in every position (R184). -/
theorem test_wf_numbers : [Instr.bright 1000000000, .clockRate 1000000000, .lampFree 1000000000,
    .lampGroup 0 (some 1000000000), .bridgePwm 0 64 1000000000, .sectionJoin 0 .a ⟨1000000000, .a⟩,
    .trainRamp 0 1 1000000000, .routeStop 0 0 0 (some 1000000000), .set 0 1000000000 none,
    .get 1000000000, .mapDefine 1 0 1 .lamp 1000000000].map Instr.wf = List.replicate 11 false := by
  decide

/-- A scene time has at most two digits a field. -/
theorem test_wf_times : [Instr.clockSet ⟨100, 0, 0⟩, .clockStart ⟨0, 100, 0⟩, .keyDrop ⟨0, 0, 100⟩,
    .lampLevel 0 0 (some ⟨100, 0, 0⟩), .bellQuiet ⟨0, 0, 0⟩ ⟨0, 100, 0⟩,
    .axisProgram 0 ⟨0, 0, 100⟩ 0, .timetableAdd ⟨100, 0, 0⟩ 0 0].map Instr.wf =
    List.replicate 7 false := by decide

/-- Lists that the line needs are not empty; names hold capitals and digits only. -/
theorem test_wf_lists : [Instr.runDefine 0 [], .routeDefine 0 [], .routeAdd 0 [], .trainTable 0 1 [],
    .trainName 0 [], .trainName 0 ['a'], .trainName 0 ['-'], .runDefine 0 [1, 1000000000],
    .key ⟨0, 0, 0⟩ .linear 0 0 0 0 [(0, 1000000000)]].map Instr.wf = List.replicate 9 false := by decide

/-- No sense input carries 100 A. -/
theorem test_wf_current : (Instr.conversionRequest 0 100000).wf = false := by decide

theorem test_wf_holds : [Instr.bright 20, .clockSet ⟨24, 60, 0⟩, .trainName 0 ['T', '2'],
    .runDefine 0 [4, 5], .lampGroup 191 none].map Instr.wf = List.replicate 5 true := by decide

/-! ## The interface -/

theorem test_no_word_spells : decodeTableWord 0 0 = none := rfl
theorem test_fetch_word_unchanged : State.reset.withFetchWord 0 0 = State.reset := rfl
theorem test_step_idles : step State.reset = .next State.reset := rfl

/-! ## Worked figures of the spec -/

/-- Section 2.2, worked interpolations: 114, 94 across midnight, 150 for a group's own sequence. -/
theorem test_interpolation :
    between ⟨64800, 200, .linear⟩ ⟨73800, 20, .linear⟩ 69120 = 114 ∧
    between ⟨79200, 30, .linear⟩ ⟨18000, 180, .linear⟩ 3600 = 94 ∧
    between ⟨64800, 0, .linear⟩ ⟨79200, 200, .linear⟩ 75600 = 150 := by decide

/-- Across midnight both keyframes lie after t, so the last is A (section 2.2). -/
theorem test_keyframe_pair :
    keyPair [⟨18000, 180, .linear⟩, ⟨79200, 30, .linear⟩] 3600 =
      some (⟨79200, 30, .linear⟩, some ⟨18000, 180, .linear⟩) := by decide

/-- R21, the curve table for g = 114; R31, the worked case of lamp 12: 51, 38, 30. -/
theorem test_curves : curveLevel .linear 114 = 114 ∧ curveLevel .soft 114 = 51 ∧
    curveLevel .hard 114 = 23 ∧ brightStage 12 51 = 38 ∧ budgetStage 200 38 = 30 := by decide

/-- Section "Dusk on a street of three lamps": lamps 40 to 42 at e = 120, and at the end of the ramp. -/
theorem test_dusk_ramp :
    [0, 60, 120].map (fun st => switchedLevel ⟨.switched, .linear, 60, 10, 200, 120⟩
      ⟨.dark, 71828, false⟩ 71948 st 0) = [200, 100, 0] ∧
    [0, 60, 120].map (fun st => switchedLevel ⟨.switched, .linear, 60, 10, 200, 120⟩
      ⟨.dark, 71828, false⟩ 71963 st 0) = [200, 125, 25] := by decide

/-- R39, the matrix table: lamp 30 stands at row 1, column 6. -/
theorem test_lamp_place :
    shownLamp ⟨Page.dark, Page.dark, false, false, 1, .normal, .normal⟩ 1 6 = 30 ∧
    shownLamp ⟨Page.dark, Page.dark, false, false, 1, .reversed, .normal⟩ 6 6 = 30 ∧
    shownLamp ⟨Page.dark, Page.dark, false, false, 1, .reversed, .reversed⟩ 0 0 = 191 := by decide

/-- Section 8.3's formulas on the empty configuration's table (8 and 10 a step): step 12 is 96 and
120 mm/s, and a decel of 8 from step 1 covers 5 tenths, then 0. -/
theorem test_speed_and_duty : speedOf (TrainDef.empty 0) 192 = 120 ∧ dutyOf (TrainDef.empty 0) 192 = 96 ∧
    speedOf (TrainDef.empty 0) 496 = 310 ∧ stoppingDistance (TrainDef.empty 0) 16 = 5 := by decide

/-- R164 and R165, worked case: m = 320 and the duty rises by 10; fast, m = 500 and it falls by 12. -/
theorem test_axis_loop : speedFrom 10900 12775 = 320 ∧ speedFrom 0 1200 = 500 ∧
    correctedDuty { AxisDef.empty with gain := 32, maxDuty := 220 } 400 320 150 = 160 ∧
    correctedDuty { AxisDef.empty with gain := 32, maxDuty := 220 } 400 500 150 = 138 := by decide

/-- The evaluations 1, 2, 6 and 15 of "a crowded evening" (chapter 10). -/
theorem test_budget_scale : targetScale 4000 1300 0 3200 = 216 ∧ targetScale 4000 3600 0 3200 = 64 ∧
    nextScale 256 216 = 216 ∧ nextScale 216 64 = 64 ∧ nextScale 64 256 = 80 := by decide

/-- 00_scope: the step from 23:59:50 to 00:00:20 passes midnight and 23:59:55. -/
theorem test_passes : passes 86390 20 86395 = true ∧ passes 86390 20 0 = true ∧
    passes 86390 20 86390 = false ∧ passes 86390 20 20 = true ∧ passes 86390 20 21 = false := by decide

/-! ## Lines of text -/

/-- Lines as the spec writes them (sections 2.1, 4.4, 6.8, 11.2). -/
theorem test_parse_lines :
    parseLine "key 18:00 linear 40 30 90 200".toList = .line (.key ⟨18, 0, 0⟩ .linear 40 30 90 200 []) ∧
    parseLine "TURNOUT 0 LEGS 0 B 1 A 2 A".toList = .line (.turnoutLegs 0 ⟨0, .b⟩ ⟨1, .a⟩ ⟨2, .a⟩) ∧
    parseLine "SECTION 3 B 4 A".toList = .line (.sectionJoin 3 .b ⟨4, .a⟩) ∧
    parseLine "RUN 0 4 5".toList = .line (.runDefine 0 [4, 5]) ∧
    parseLine "STATUS".toList = .line .status := by decide

theorem test_parse_refusals :
    parseLine "BRIGHT X".toList = .refused .syntaxErr ∧
    parseLine "NOTHING".toList = .refused .unknown := by decide

/-- R53: a missing `SOURCE` and a token too many are syntax errors; R185: so is a number where a keyword
stands. -/
theorem test_parse_syntax : ["FLOOD 2 AMBIENT", "FLOOD 2 7", "FLOOD 2 SOURCE RED RED", "LAMP 1 5",
    "LAMP 1 1234567890", "GROUP 3 7", "SECTION 1 2", "BELL 5"].map (fun l => parseLine l.toList) =
    List.replicate 8 (.refused .syntaxErr) := by decide

/-- R185: a keyword that is none where one stands is unknown, wherever the form has it. -/
theorem test_parse_unknown : ["SCAN FOO", "TURNOUT 0 THROW FOO", "LAMP 1 GROUP 2 FOO 5",
    "LAMP 1 TO 5 FOO 2 STAGGER 0 30", "CROSSING 0 7 LAMPS 1 2 FOO 9 LEAD 3 BELL ON",
    "ROUTE 0 STOP 99 FOO", "ROUTE 0 STOP 99 10 FOO 4"].map (fun l => parseLine l.toList) =
    [.unknownIn (.scan .normal), .unknownIn (.turnoutThrow 0 .normal),
      .unknownIn (.lampGroupStagger 1 (some 2) 5), .unknownIn (.lampRange 1 5 (some 2) 0 30),
      .unknownIn (.crossingDefine 0 7 1 2 9 3 true), .unknownIn (.routeStopNone 0 99),
      .unknownIn (.routeStop 0 99 10 (some 4))] := by decide

/-- R169: `SYNTAX` comes before `UNKNOWN`, so a run of more than 9 digits after a word that selects no form makes
the line malformed; another token there is not tested (log 55). -/
theorem test_parse_unknown_and_malformed :
    ["AXIS 0 FOO 1234567890", "LAMP 5 FOO 99999999999", "INPUT FOO 1234567890", "AXIS 0 FOO 123456789",
      "INPUT FOO"].map (fun l => parseLine l.toList) =
    [.refused .syntaxErr, .refused .syntaxErr, .refused .syntaxErr, .unknownIn (.axisQuery 0),
      .refused .unknown] := by decide

/-- R150: a name's characters are judged before the train number. -/
theorem test_parse_name :
    parseLine "TRAIN 9 NAME A_B".toList = .line (.trainName 9 ['A', '_', 'B']) ∧
    (takeCommand (.trainName 9 ['A', '_', 'B']) State.reset).2 = .no .syntaxErr ∧
    (takeCommand (.trainName 9 ['A', 'B']) State.reset).2 = .no .range := by decide

/-- R43's example `OK DIVIDER 1 RATE 200 ROWS NORMAL COLS REVERSED`. -/
theorem test_reply_text : Reply.text (.data [.word .divider, .num 1, .word .rate, .num (frameRate 1),
    .word .rows, mirrorTok .normal, .word .cols, mirrorTok .reversed]) =
    "OK DIVIDER 1 RATE 200 ROWS NORMAL COLS REVERSED".toList := by decide

/-- R28's example `OK GROUP 2 STAGGER 60 OVERRIDE 120 UNTIL 21:00:00 CLAIM NONE LEVEL 118`. -/
theorem test_lamp_reply : Reply.text (.data ([.word .group, .num 2, .word .stagger, .num 60, .word .override]
    ++ overrideToks (some ⟨120, some 75600⟩) ++ [.word .claim, .word .none, .word .level, .num 118])) =
    "OK GROUP 2 STAGGER 60 OVERRIDE 120 UNTIL 21:00:00 CLAIM NONE LEVEL 118".toList := by decide

/-! ## States for the witnesses -/

/-- READY, everything at rest. -/
def ready : State := State.reset.withSys { State.reset.sys with ready := true, settling := false }

/-- A SAVE in flight. -/
def saving : State := ready.withStore ⟨ready.cfg, .saving⟩

/-- RST held. -/
def held : State := ready.withSys { ready.sys with rstHeld := true }

/-- The part in the halt by its latch. -/
def halted : State := ready.withStopc ⟨false, 0, true⟩

/-- Section 0 joined to section 1, whose end B is the trunk of turnout 0 to sections 2 and 3; section 4
stands alone with mark 1, section 5 alone; run 1 gathers 6 and 7; crossing 0 lies in section 2; route 0
runs from 0 to 1. -/
def layout : Scene :=
  { Scene.empty with
    sections := ⟨[some ⟨900, .buffer, .join 1 .a⟩, some ⟨400, .join 0 .b, .leg 0 .trunk⟩,
      some ⟨300, .leg 0 (.branch .normal), .buffer⟩, some ⟨300, .leg 0 (.branch .reverse), .buffer⟩,
      some ⟨100, .buffer, .buffer⟩, some ⟨9999, .buffer, .buffer⟩, some ⟨200, .buffer, .buffer⟩,
      some ⟨200, .buffer, .buffer⟩] ++ List.replicate 12 none, rfl⟩
    turnouts := Scene.empty.turnouts.set 0 (some ⟨⟨1, .b⟩, ⟨2, .a⟩, ⟨3, .a⟩⟩)
    runs := Scene.empty.runs.set 1 (some [6, 7])
    marks := (Scene.empty.marks.set 0 (some ⟨0, 900, .stop⟩)).set 1 (some ⟨4, 100, .position⟩)
    crossings := Scene.empty.crossings.set 0 (some ⟨2, 10, 11, 200, 1, true⟩)
    routes := Scene.empty.routes.set 0 (some
      ⟨[⟨0, .a, none⟩, ⟨1, .a, some ⟨0, none⟩⟩], false⟩) }

/-- The part on that layout. -/
def track : State := ready.withCfg layout

/-- Train `n` in state `x` in section 0, heading for section 1, holding units 0 and 1. -/
def withTrain (x : TrainRun) : State :=
  ((((track.modTrain 0 fun _ => { x with holdings := [0, 1], span := [⟨0, .a⟩] }).modUnit 0
    fun _ => ⟨some 0, []⟩).modUnit 1 fun _ => ⟨some 0, []⟩)).withSense
    { track.sense with filters := track.sense.filters.set 0 ⟨true, 3, 0⟩ }

/-- That train parked, running, and so on. -/
def trainIn (x : TrainState) : State := withTrain { TrainRun.reset with state := x }

/-! ## Witnesses: what each statement's clauses suppose can be met -/

theorem witness_StepTakesFront : State.reset.pending = [] := rfl

theorem witness_LinesWaitOrFail :
    (held.sys.rstHeld = true ∧ (∀ p, Instr.stop ≠ .powerOn p) ∧ (∀ p, Instr.stop ≠ .rstRelease p) ∧
      (∀ b, Instr.stop ≠ .rstSample b) ∧ Instr.stop ≠ .rstAssert ∧ Instr.stop ≠ .stopLineAssert ∧
      Instr.stop ≠ .stopLineRelease ∧ ∀ b, Instr.stop ≠ .stopLineSample b) ∧
    (isLine .stop ∧ Instr.stop ≠ .status ∧ State.reset.sys.ready = false ∧
      State.reset.sys.rstHeld = false ∧ State.reset.line.closed = false) ∧
    (takeCommand (.restore 24) ready).2 = .no .range ∧
    (isLine .keyList ∧ saving.busy = true ∧ ∃ t, exec .keyList saving = .next t) :=
  ⟨⟨rfl, nofun, nofun, nofun, nofun, nofun, nofun, nofun⟩, ⟨nofun, nofun, rfl, rfl, rfl⟩, rfl, nofun, rfl,
    _, rfl⟩

theorem witness_LinesRoundTrip :
    (Instr.bright 999999999).wf = true ∧
      spellLine (.bright 999999999) = some "BRIGHT 999999999".toList := by decide

theorem witness_NoticesPassTheirAdvance : 86399 < 86400 ∧ 90 ≤ 90 ∧ (1 ≤ 90 ∧ 90 ≤ 90) := by decide

/-- A running clock at 23:59:59. -/
def ticking (acc rate : Nat) : State :=
  (ready.withClock ⟨86399, acc, true, 86399⟩).withCfg { ready.cfg with clockRate := rate }

theorem witness_ClockCommands :
    (runs ready ∧ ready.clock.running = false ∧ takes ready ∧ settable ready ∧ savingNow saving ∧
      timeOk ⟨23, 59, 59⟩ ∧ ¬ timeOk ⟨24, 0, 0⟩ ∧ ¬ timeOk ⟨0, 60, 0⟩) ∧
    (runs (ticking 0 15) ∧ (ticking 0 15).clock.running = true ∧
      (ticking 0 15).clock.acc + (ticking 0 15).cfg.clockRate < 16) ∧
    (runs (ticking 15 1440) ∧ (ticking 15 1440).clock.running = true ∧
      (ticking 15 1440).clock.acc + (ticking 15 1440).cfg.clockRate = 16 * 90 + 15 ∧
      89 = ((ticking 15 1440).clock.time + 90) % 86400) := by
  simp only [takes, settable, savingNow, runs, timeOk]; decide

theorem witness_InterpolationLiesBetween :
    let seq : List KeyPoint := [⟨0, 180, .linear⟩, ⟨86399, 30, .step⟩]
    (seq.Pairwise fun x y => x.time < y.time) ∧ (∀ k ∈ seq, k.time < 86400) ∧
    keyPair seq 0 = some (⟨0, 180, .linear⟩, some ⟨86399, 30, .step⟩) ∧
    keyPair seq 86399 = some (⟨86399, 30, .step⟩, some ⟨0, 180, .linear⟩) := by decide

/-- Three keyframes: two carry a pair for group 15, the first alone one for group 0, none one for group 1. -/
def threeKeys : Scene :=
  { Scene.empty with
    keyframes := [⟨60, .linear, 10, 20, 30, 40, [(0, 7), (15, 100)]⟩, ⟨120, .step, 0, 0, 0, 255, []⟩,
      ⟨86399, .linear, 255, 255, 255, 0, [(15, 200)]⟩] }

/-- Sequences of 0, 1 and 2 keyframes; times before every keyframe, at the first and at the last. -/
theorem witness_InterpolationLiesBetween_sequences :
    (threeKeys.keyframes.Pairwise fun x y => x.time < y.time) ∧
    keySequence threeKeys.keyframes (.group 1) = [] ∧
    keySequence threeKeys.keyframes (.group 0) = [⟨60, 7, .linear⟩] ∧
    keySequence threeKeys.keyframes (.group 15) = [⟨60, 100, .linear⟩, ⟨86399, 200, .linear⟩] ∧
    (keySequence threeKeys.keyframes .ambient).length = 3 := by decide

/-- R18 by hand: at 00:00:59 group 15 stands 60 of the 61 seconds from 200 to 100, (200 + 6000 + 30) / 61; at
00:01:00 it equals the first keyframe, and halfway, 43170 of 86339 seconds on, (4316900 + 8634000 + 43169) /
86339. -/
theorem test_skyValue : [59, 60, 43230].map (skyValue threeKeys (.group 15)) = [102, 100, 150] := by decide

/-- Sixteen keyframes, one a minute, each with a level for group 15. -/
def sixteenKeys : State :=
  ready.withCfg { ready.cfg with
    keyframes := (List.range 16).map fun i => ⟨60 * i, .linear, 0, 0, 0, 0, [(15, 255)]⟩ }

theorem sixteen_ordered : ListsOrdered sixteenKeys := by simp only [ListsOrdered, ordered]; decide
theorem ready_ordered : ListsOrdered ready := by simp only [ListsOrdered, ordered]; decide

theorem witness_KeyLinesEditTheList :
    (settable sixteenKeys ∧ ListsOrdered sixteenKeys ∧ timeOk ⟨0, 15, 0⟩ ∧ timeOk ⟨23, 59, 59⟩) ∧
    ((∀ p ∈ [((15 : Nat), (255 : Nat)), (0, 0)], p.1 < 16 ∧ p.2 ≤ 255) ∧ ([15, 0] : List Nat).Nodup ∧
      ∃ k ∈ sixteenKeys.cfg.keyframes, k.time = secs ⟨0, 15, 0⟩ ∧ (15, 255) ∈ k.pairs) ∧
    ((∀ k ∈ sixteenKeys.cfg.keyframes, k.time ≠ secs ⟨23, 59, 59⟩) ∧
      sixteenKeys.cfg.keyframes.length = 16) ∧
    (settable ready ∧ ListsOrdered ready ∧ ready.cfg.keyframes.length < 16) := by
  refine ⟨⟨⟨⟨rfl, rfl, rfl⟩, rfl⟩, sixteen_ordered, ?_⟩, ?_, ?_, ⟨⟨rfl, rfl, rfl⟩, rfl⟩,
    ready_ordered, ?_⟩ <;> (try simp only [timeOk, secs]) <;> decide

/-- Group 0 SWITCHED at threshold 1, with the ambient always `a`. -/
def switchedScene (a : Nat) : Scene :=
  { Scene.empty with
    keyframes := [⟨0, .step, 0, 0, 0, a, []⟩]
    groups := Scene.empty.groups.set 0 ⟨.switched, .linear, 1, 0, 255, 0⟩ }

theorem witness_GroupLinesAndSettling :
    (settable ready ∧ 255 ≤ 255 ∧ 64 ≤ 64 ∧ 600 ≤ 600 ∧ 255 < 256 ∧ 64 < 65 ∧ 600 < 601) ∧
    (((switchedScene 0).groups.get 0).kind = .switched ∧
      skyValue (switchedScene 0) .ambient 0 < ((switchedScene 0).groups.get 0).threshold) ∧
    (((switchedScene 1).groups.get 0).kind = .switched ∧
      ¬ skyValue (switchedScene 1) .ambient 0 < ((switchedScene 1).groups.get 0).threshold) := by
  refine ⟨⟨⟨⟨rfl, rfl, rfl⟩, rfl⟩, ?_⟩, ?_⟩ <;> decide

/-- Lamp 191 with an override. -/
def overridden : State :=
  ready.withSky { ready.sky with lamps := ready.sky.lamps.set 191 ⟨some ⟨90, none⟩, none, 0⟩ }

theorem witness_LampLines :
    (settable ready ∧ 1800 ≤ 1800 ∧ ((0 : LampId) ≤ 191 ∧ 81 + (191 - 0) * 9 ≤ 1800) ∧
      (190 : LampId) < 191 ∧ 1800 < 82 + (191 - 0) * 9) ∧
    (takes overridden ∧ (overridden.sky.lamps.get 191).override ≠ none ∧
      (overridden.sky.lamps.get 0).override = none ∧ timeOk ⟨0, 0, 59⟩ ∧ ¬ timeOk ⟨0, 0, 60⟩) := by
  refine ⟨⟨⟨⟨rfl, rfl, rfl⟩, rfl⟩, ?_⟩, ⟨rfl, rfl, rfl⟩, ?_⟩ <;> (try simp only [timeOk]) <;> decide

theorem witness_LightSettings :
    settable ready ∧ ScanMode.normal ≠ .walk ∧ 15 ≤ 15 ∧ 15 < 16 ∧
      ready.cfg.floodSources.get 5 ≠ .skyRed :=
  ⟨⟨⟨rfl, rfl, rfl⟩, rfl⟩, by decide⟩

/-- A page ready, flood 0 staged, the walk timer running. -/
def pageReady : State :=
  ((ready.withMatrix { ready.matrix with ready := true }).withFloods
    (ready.floods.set 0 ⟨some 255, 0⟩)).withSky { ready.sky with compose := none, walkTimer := true }

theorem witness_PageExchange_pins :
    (191 : LampId).val = 24 * (7 : Fin 8).val + (23 : Fin 24).val ∧
    ready.matrix.frameRows = .normal ∧ ready.matrix.frameCols = .normal ∧ 255 < 256 := by decide

theorem witness_PageExchange :
    (runs ready ∧ ready.sky.compose = some ⟨Page.dark, Sums.zero⟩ ∧ ready.matrix.ready = false ∧
      (ready.floods.get 5).staged = none ∧ ready.sky.walkTimer = false) ∧
    (runs pageReady ∧ pageReady.matrix.ready = true ∧ (pageReady.floods.get 0).staged = some 255 ∧
      pageReady.sky.walkTimer = true) := by
  refine ⟨⟨rfl, rfl, ?_⟩, rfl, ?_⟩ <;> decide

/-- The layout with the lamps of crossing 0 claimed. -/
def claimed : State :=
  track.withSky { track.sky with
    compose := none
    lamps := (track.sky.lamps.set 10 ⟨none, some 0, 0⟩).set 11 ⟨none, some 0, 0⟩ }

theorem witness_ComposeLevels :
    claimed.account.scale ≤ 256 ∧ (∃ c, (startCompose claimed).sky.compose = some c) ∧
      ((groupPass claimed.cfg 0 claimed.sky).lamps.get 10).claim = some 0 ∧
      ((groupPass claimed.cfg 0 claimed.sky).lamps.get 9).claim = none ∧
      ∃ d, claimed.cfg.crossings.get 0 = some d ∧ d.lampA = 10 ∧ d.lampB = 11 :=
  ⟨by decide, ⟨_, rfl⟩, by decide, by decide, _, rfl, rfl, rfl⟩

/-- Channel 23 as given. -/
def withChannel (ch : ChannelRun) : State := ready.withChannels (ready.channels.set 23 ch)

def channel (st : ChannelState) (p : Drive) (staged : Option Drive) : ChannelRun :=
  ⟨st, p, staged, false, false, 64, 4, 0⟩

theorem witness_DutyRequestsAreStaged :
    (ready.halt = false ∧ (ready.channels.get 23).state ≠ .cut) ∧ halted.halt = true ∧
    ((withChannel (channel .cut ⟨0, .plus⟩ none)).channels.get 23).state = .cut ∧
    (0 : Channel) ≠ 23 := by decide

/-- Every channel without the sense switch. -/
def unsensed : State :=
  ready.withCfg { ready.cfg with bridge := ready.cfg.bridge.map fun d => { d with sense := false } }

theorem witness_PeriodEnds :
    (runs ready ∧ (ready.channels.get 23).state = .off ∧ ready.halt = false ∧
      (ready.cfg.bridge.get 23).sense = true) ∧
    ((unsensed.channels.get 23).state = .off ∧ (unsensed.cfg.bridge.get 23).sense = false ∧
      (3 : Nat) * (unsensed.cfg.bridge.get 23).res / 256 = 0 ∧
      1 ≤ (4 : Nat) * (unsensed.cfg.bridge.get 23).res / 256) ∧
    ((halted.channels.get 23).state = .off ∧ halted.halt = true) ∧
    [channel .cut ⟨0, .plus⟩ none, channel .driving ⟨9, .plus⟩ none,
      channel .driving ⟨9, .plus⟩ (some ⟨1, .plus⟩), channel .driving ⟨0, .plus⟩ (some ⟨1, .minus⟩),
      channel .driving ⟨1, .plus⟩ (some ⟨0, .minus⟩), channel .dead ⟨0, .plus⟩ (some ⟨0, .minus⟩)].all
      (fun ch => (withChannel ch).channels.get 23 = ch) := by
  refine ⟨⟨rfl, ?_⟩, ?_⟩ <;> decide

/-- The bridge drives for the on-time, pulls low for the rest, and is released in OFF (R57). -/
theorem test_bridge_out :
    let s := withChannel { channel .driving ⟨9, .minus⟩ none with onTime := 2 }
    [0, 1, 2, 63].map (bridgeOut s 23) = [.drive .minus, .drive .minus, .low, .low] ∧
    bridgeOut ready 23 0 = .released := by decide

theorem witness_TrackSettings :
    (settable ready ∧ (1 ≤ 128 ∧ 128 ≤ 128) ∧ (500 ≤ 3000 ∧ 3000 ≤ 3000) ∧ (1 ≤ 100 ∧ 100 ≤ 100) ∧
      (2 ≤ 8 ∧ 8 ≤ 8) ∧ (19 : InputId).val = 16 + (3 : Axis).val ∧ (15 : InputId).val = (15 : MarkId).val) ∧
    (128 < 129 ∧ 499 < 500 ∧ 3000 < 3001 ∧ 0 < 1 ∧ 100 < 101 ∧ 1 < 2 ∧ 8 < 9 ∧ 24 ≤ 24 ∧
      (ready.channels.get 0).state ≠ .cut) ∧
    (takes (withChannel (channel .cut ⟨0, .plus⟩ none)) ∧
      ((withChannel (channel .cut ⟨0, .plus⟩ none)).channels.get 23).state = .cut) := by
  refine ⟨⟨⟨⟨rfl, rfl, rfl⟩, rfl⟩, ?_⟩, ?_, ⟨rfl, rfl, rfl⟩, ?_⟩ <;> decide

/-- The STOP line asserted, the latch set. -/
def stopLine : State := ready.withStopc ⟨true, 2, true⟩

theorem witness_HaltComesIntoForce :
    (ready.halt = false ∧ runs ready ∧ takes ready ∧ (ready.trains.get 0).state ≠ .waiting ∧
      (ready.trains.get 0).moving = false) ∧
    (((trainIn .waiting).trains.get 0).state = .waiting ∧ (trainIn .waiting).halt = false) ∧
    (((trainIn .running).trains.get 0).moving = true ∧ (trainIn .running).halt = false) ∧
    (halted.halt = true ∧ takes halted ∧ runs halted ∧ halted.stopc.line = false) := by
  simp only [takes, runs]; decide

theorem witness_HaltEnds :
    (runs stopLine ∧ takes stopLine ∧ stopLine.stopc.line = true ∧ stopLine.stopc.latch = true) ∧
    (takes ready ∧ ready.stopc.line = false ∧ ready.stopc.latch = false) ∧
    (takes halted ∧ halted.stopc.line = false ∧ halted.stopc.latch = true ∧
      (halted.trains.get 0).state ≠ .halted) ∧
    (((trainIn .halted).withStopc ⟨false, 0, true⟩).trains.get 0).state = .halted ∧
    (true ≠ ready.stopc.line ∧ ready.stopc.run < 2 ∧ false ≠ stopLine.stopc.line ∧
      2 ≤ stopLine.stopc.run) := by
  simp only [takes, runs]; decide

/-- Channel 23 armed and driving, with conversions in flight and waiting as given. -/
def converting (v : Option Conversion) (q : List Request) : State :=
  (withChannel { channel .driving ⟨9, .plus⟩ none with armed := true, onTime := 1 }).withSense
    { ready.sense with inflight := v, queue := q }

theorem witness_ConversionRequests :
    (runs ready ∧ (ready.channels.get 23).armed = false) ∧
    ((converting none []).channels.get 23).armed = true ∧
    ((converting none []).channels.get 23).state = .driving ∧
    1 ≤ ((converting none []).channels.get 23).onTime ∧ (converting none []).sense.inflight = none ∧
    ((converting (some ⟨⟨0, false⟩, 0⟩) [⟨1, false⟩]).sense.inflight ≠ none ∧
      ∀ r ∈ (converting (some ⟨⟨0, false⟩, 0⟩) [⟨1, false⟩]).sense.queue, r.ch ≠ 23) ∧
    (∃ r ∈ (converting (some ⟨⟨0, false⟩, 0⟩) [⟨23, false⟩]).sense.queue, r.ch = 23) := by
  refine ⟨⟨rfl, ?_⟩, ?_⟩ <;> decide

theorem witness_SamplesAreDelivered :
    (runs (converting (some ⟨⟨23, true⟩, 0⟩) []) ∧
      (converting (some ⟨⟨23, true⟩, 0⟩) []).sense.inflight = some ⟨⟨23, true⟩, 0⟩) ∧
    (3 * min (1499 / 3) 1023 < (ready.cfg.bridge.get 23).trip ∧
      ((converting (some ⟨⟨23, false⟩, 1499⟩) []).channels.get 23).state = .driving) ∧
    ((ready.cfg.bridge.get 23).trip ≤ 3 * min (1500 / 3) 1023 ∧
      ((converting (some ⟨⟨23, false⟩, 1500⟩) []).channels.get 23).state ≠ .cut) ∧
    (ready.cfg.thresholds.get 19 < 3 * min (9 / 3) 1023 ∧
      3 * min (8 / 3) 1023 ≤ ready.cfg.thresholds.get 19 ∧ (19 : Section).val = (19 : Channel).val ∧
      (18 : Section).val ≠ (19 : Channel).val) := by
  refine ⟨⟨rfl, ?_⟩, ?_⟩ <;> decide

/-- Channel 23 converting 1500 mA, with its own request and one of channel 0, held at 6 mA, waiting. -/
def convertingQueued (discard : Bool) : State :=
  let s := converting (some ⟨⟨23, discard⟩, 1500⟩) [⟨23, false⟩, ⟨0, true⟩]
  s.withSense { s.sense with held := (s.sense.held.set 23 (some 9)).set 0 (some 6) }

theorem witness_SamplesAreDelivered_next :
    (runs (convertingQueued false) ∧
      (convertingQueued false).sense.inflight = some ⟨⟨23, false⟩, 1500⟩) ∧
    ((convertingQueued false).cfg.bridge.get 23).trip ≤ 3 * min (1500 / 3) 1023 ∧
    ((convertingQueued false).channels.get 23).state ≠ .cut ∧
    (convertingQueued false).sense.queue.filter (fun r => r.ch ≠ 23) = [⟨0, true⟩] ∧
    (convertingQueued false).sense.held.get 0 = some 6 ∧
    (convertingQueued true).sense.queue = ⟨23, false⟩ :: [⟨0, true⟩] ∧
    (convertingQueued true).sense.held.get 23 = some 9 := by
  refine ⟨⟨rfl, rfl⟩, ?_⟩; decide

/-- R80, R75, R76: the trip zeroes the slot, drops channel 23's request and reports, and channel 0's
conversion starts with its held value. -/
theorem test_trip : ∃ t, exec .conversionComplete (convertingQueued false) = .next t ∧
    t.sense.slots.get 23 = some 0 ∧ t.sense.queue = [] ∧ t.sense.inflight = some ⟨⟨0, true⟩, 6⟩ ∧
    t.sense.held.get 0 = none ∧ .report (.trip 23 1500) ∈ t.line.writing.toList ++ t.line.reports.map .report :=
  ⟨_, rfl, by decide⟩

/-- A trip reaches the section's trains for channel 19, the axis for channel 23 (R62). -/
theorem witness_SamplesAreDelivered_cut : (19 : Section).val = (19 : Channel).val ∧
    20 + (3 : Axis).val = (23 : Channel).val ∧ (convertingQueued false).sense.inflight.isSome = true ∧
    ((converting (some ⟨⟨19, false⟩, 1500⟩) []).cfg.bridge.get 19).trip ≤ 3 * min (1500 / 3) 1023 ∧
    ((converting (some ⟨⟨19, false⟩, 1500⟩) []).channels.get 19).state = .off := by decide

/-- R166: channel 23's trip makes axis 3 STALLED with cause CUT. -/
theorem test_axis_cut : ∃ t, exec .conversionComplete (convertingQueued false) = .next t ∧
    (t.axes.get 3).state = .stalled ∧ (t.axes.get 3).cause = some .cut :=
  ⟨_, rfl, by decide⟩

/-- Input `i` as given, on the layout. -/
def withInput (i : InputId) (f : InputRun) : State := track.withInputs (track.inputs.set i f)

theorem witness_InputEdgesAndSamples :
    (runs ready ∧ (ready.inputs.get 19).active = false ∧ (ready.inputs.get 19).stuck = false ∧
      (ready.inputs.get 19).sampled = false ∧ (ready.inputs.get 19).stuckTimer = false ∧
      16 + (3 : Axis).val = (19 : InputId).val) ∧
    (track.cfg.marks.get 15 = none ∧ track.cfg.marks.get 0 = some ⟨0, 900, .stop⟩) ∧
    ((withInput 19 ⟨true, true, 0, 0, true, none, true⟩).inputs.get 19).active = true ∧
    ((withInput 19 ⟨true, true, 0, 0, true, none, true⟩).inputs.get 19).stuckTimer = true ∧
    (((withInput 19 ⟨true, false, 1, 7, false, none, false⟩).inputs.get 19).run + 1 <
        track.cfg.filters.get 19 ∧
      track.cfg.filters.get 19 ≤
        ((withInput 19 ⟨true, false, 2, 7, false, none, false⟩).inputs.get 19).run + 1 ∧
      true ≠ ((withInput 19 ⟨true, false, 2, 7, false, none, false⟩).inputs.get 19).active) := by
  refine ⟨⟨rfl, ?_⟩, ?_⟩ <;> decide

/-- Filter length 3: input 0 reads mark 0, input 2 no defined mark, input 19 the index of axis 3. -/
theorem witness_InputEdgesAndSamples_accepted :
    (track.cfg.marks.get 2 = none ∧ (0 : MarkId).val = (0 : InputId).val ∧
      (2 : MarkId).val = (2 : InputId).val ∧ 16 + (3 : Axis).val = (19 : InputId).val) ∧
    (track.cfg.filters.get 0 ≤ 2 + 1 ∧ track.cfg.filters.get 2 ≤ 2 + 1 ∧ track.cfg.filters.get 19 ≤ 2 + 1) ∧
    (((withInput 0 ⟨true, false, 2, 7, false, none, false⟩).inputs.get 0).active = false ∧
      ((withInput 0 ⟨true, false, 2, 7, false, none, false⟩).inputs.get 0).stuck = false ∧
      ((withInput 0 ⟨true, false, 2, 7, true, none, false⟩).inputs.get 0).stuck = true) ∧
    (((withInput 19 ⟨true, true, 2, 7, true, none, false⟩).inputs.get 19).active = true ∧
      ((withInput 19 ⟨false, false, 0, 0, false, none, false⟩).inputs.get 19).sampled = false ∧
      ((withInput 19 ⟨true, true, 0, 0, false, none, false⟩).inputs.get 19).sampled = true) := by decide

/-- The layout with section `x` OCCUPIED. -/
def occupiedAt (x : Section) : State :=
  track.withSense { track.sense with filters := track.sense.filters.set x ⟨true, 3, 0⟩ }

/-- The layout with no route over it. -/
def bare : Scene := { layout with routes := Scene.empty.routes }

theorem layable_track : layable track := ⟨⟨⟨rfl, rfl, rfl⟩, rfl⟩, by decide⟩

theorem witness_SectionLines_lengths :
    layable track ∧
    (track.cfg.sections.get 8 = none ∧ (∀ m d, track.cfg.marks.get m = some d → d.sec = 8 → d.offset ≤ 100) ∧
      ({ layout with sections := layout.sections.set 8 (some ⟨100, .buffer, .buffer⟩) } : Scene).routesAgree
        = true) ∧
    (track.cfg.sections.get 4 = some ⟨100, .buffer, .buffer⟩ ∧
      (∀ m k, track.cfg.marks.get m = some k → k.sec = 4 → k.offset ≤ 100) ∧
      ({ layout with sections := layout.sections.set 4 (some ⟨100, .buffer, .buffer⟩) } : Scene).routesAgree
        = true) ∧
    (track.cfg.marks.get 0 = some ⟨0, 900, .stop⟩ ∧ 899 < 900 ∧ 99 < 100 ∧ 9999 < 10000) :=
  ⟨layable_track, by decide⟩

/-- Section 19, undefined and OCCUPIED, becomes defined; section 0 is defined and stays so. -/
theorem witness_SectionLines_strays : (occupiedAt 19).occupied 19 = true ∧
    (occupiedAt 19).cfg.sections.get 19 = none ∧ (∀ u, ((occupiedAt 19).units.get u).holder = none) ∧
    (∀ z, z ≠ (19 : Section) → (occupiedAt 19).occupied z = false) ∧
    layable (occupiedAt 19) := ⟨by decide, by decide, by decide, by decide, ⟨⟨rfl, rfl, rfl⟩, rfl⟩, by decide⟩

/-- Undefined, in no run, and each member of run 1, which names its unit 6 (R97). -/
theorem witness_SectionLines_units :
    track.cfg.sections.get 19 = none ∧
    (track.cfg.sections.get 0 ≠ none ∧ ∀ r, 0 ∉ (track.cfg.runs.get r).getD []) ∧
    (track.cfg.sections.get 7 ≠ none ∧ track.cfg.runs.get 1 = some [6, 7] ∧
      ∀ j, 7 ∈ (track.cfg.runs.get j).getD [] → j = 1) ∧
    [0, 6, 7, 19].map track.cfg.unitKey = [some 0, some 6, some 6, none] := by decide

theorem witness_SectionLines_ends :
    ((track.cfg.sections.get 5).isSome = true ∧ track.cfg.link ⟨5, .a⟩ = .buffer ∧
      track.cfg.link ⟨5, .b⟩ = .buffer ∧ track.cfg.runOf 5 = none ∧
      (∀ m k, track.cfg.marks.get m = some k → k.sec ≠ 5) ∧
      (∀ k d, track.cfg.crossings.get k = some d → d.sec ≠ 5) ∧
      (∀ r d, track.cfg.routes.get r = some d → ∀ p ∈ d.positions, p.sec ≠ 5) ∧
      ({ layout with sections := layout.sections.set 5 none } : Scene).routesAgree = true) ∧
    (track.cfg.link ⟨0, .b⟩ = .join 1 .a ∧ track.cfg.link ⟨1, .b⟩ = .leg 0 .trunk) ∧
    ((4 : Section) ≠ 5 ∧ track.cfg.link ⟨4, .a⟩ = .buffer ∧
      ((layout.setLink ⟨4, .a⟩ (.join 5 .b)).setLink ⟨5, .b⟩ (.join 4 .a)).routesAgree = true) ∧
    (bare.link ⟨0, .b⟩ = .join 1 .a ∧
      ((bare.setLink ⟨0, .b⟩ .buffer).setLink ⟨1, .a⟩ .buffer).routesAgree = true) := by decide

theorem witness_SectionLines_named :
    (∀ x ∈ ([0, 2, 4, 6] : List Section), track.cfg.sections.get x ≠ none) ∧
    track.cfg.link ⟨6, .a⟩ = .buffer ∧ (∃ r xs, track.cfg.runs.get r = some xs ∧ 6 ∈ xs) ∧
    (∃ m k, track.cfg.marks.get m = some k ∧ k.sec = 4) ∧
    (∃ k d, track.cfg.crossings.get k = some d ∧ d.sec = 2) ∧
    ∃ r d, track.cfg.routes.get r = some d ∧ ∃ p ∈ d.positions, p.sec = 0 :=
  ⟨by decide, by decide, ⟨1, _, rfl, by decide⟩, ⟨1, _, rfl, rfl⟩, ⟨0, _, rfl, rfl⟩,
    0, _, rfl, _, List.mem_cons_self, rfl⟩

/-- Turnout 0 waits in the throw queue. -/
def throwQueued : State :=
  track.withDriver ⟨track.driver.points, [⟨0, .reverse, .line⟩], some ⟨⟨1, .normal, .line⟩, 50⟩, false⟩

theorem witness_LayoutObjects_definitions :
    layable track ∧
    (track.cfg.defined 4 = true ∧ track.cfg.defined 5 = true ∧ track.cfg.defined 6 = true ∧
      track.driver.concerns 1 = false ∧ (track.cfg.releaseLegs 1).link ⟨4, .a⟩ = .buffer ∧
      (track.cfg.releaseLegs 1).link ⟨5, .a⟩ = .buffer ∧ (track.cfg.releaseLegs 1).link ⟨6, .b⟩ = .buffer ∧
      ((track.cfg.releaseLegs 1).attachLegs 1 ⟨⟨4, .a⟩, ⟨5, .a⟩, ⟨6, .b⟩⟩).routesAgree = true) ∧
    (track.cfg.turnouts.get 0 = some ⟨⟨1, .b⟩, ⟨2, .a⟩, ⟨3, .a⟩⟩ ∧ track.driver.concerns 0 = false ∧
      ({ layout.releaseLegs 0 with turnouts := (layout.releaseLegs 0).turnouts.set 0 none } : Scene).routesAgree
        = true) ∧
    (throwQueued.cfg.turnouts.get 0 = track.cfg.turnouts.get 0 ∧ throwQueued.driver.concerns 0 = true ∧
      throwQueued.busy = false ∧ throwQueued.anyPlaced = false) ∧
    (([4, 5] : List Section).Nodup ∧ (∀ x ∈ ([4, 5] : List Section), track.cfg.defined x = true ∧
        ∀ k, track.cfg.runOf x = some k → k = 0) ∧
      ({ layout with runs := layout.runs.set 0 (some [4, 5]) } : Scene).routesAgree = true) ∧
    (8 < (List.replicate 9 (4 : Section)).length ∧ ([4] : List Section).length < 2 ∧
      track.cfg.runs.get 1 = some [6, 7] ∧
      ({ layout with runs := layout.runs.set 1 none } : Scene).routesAgree = true) :=
  ⟨layable_track, by decide⟩

/-- Route 0 stops at mark 0, which lies in another section. -/
def markUsed : State :=
  track.withCfg { layout with routes := layout.routes.set 0 (some
    ⟨[⟨0, .a, some ⟨5, some 0⟩⟩, ⟨1, .a, some ⟨0, none⟩⟩], false⟩) }

theorem witness_LayoutObjects_marks_and_crossings :
    (track.cfg.sections.get 4 = some ⟨100, .buffer, .buffer⟩ ∧
      ({ layout with marks := layout.marks.set 15 (some ⟨4, 100, .stop⟩) } : Scene).routesAgree = true) ∧
    ({ layout with marks := layout.marks.set 1 none } : Scene).routesAgree = true ∧
    (markUsed.busy = false ∧ markUsed.anyPlaced = false ∧
      ({ markUsed.cfg with marks := markUsed.cfg.marks.set 0 none } : Scene).routesAgree = false) ∧
    (track.cfg.defined 4 = true ∧ (track.crossings.get 1).state = .idle ∧ (0 : LampId) ≠ 191) ∧
    ((track.withCrossings (track.crossings.set 0 ⟨.warning, true, some 1, true⟩)).crossings.get 0).state ≠
      .idle ∧
    ((trainIn .parked).busy = false ∧ (trainIn .parked).anyPlaced = true) := by decide

theorem witness_LayoutObjects_placed :
    settable (trainIn .parked) ∧ (trainIn .parked).anyPlaced = true ∧ (100 ≤ 100 ∧ 9999 ≤ 9999) ∧
    (2 ≤ ([4, 5] : List Section).length ∧ ([4, 5] : List Section).length ≤ 8) ∧
    (∀ d, (trainIn .parked).cfg.sections.get 4 = some d → 100 ≤ d.length) ∧
    (255 ≤ 255 ∧ 1 ≤ 1 ∧ 10 ≤ 10) :=
  ⟨⟨⟨rfl, rfl, rfl⟩, rfl⟩, by decide, by decide, by decide,
    fun d h => by have h : some (⟨100, .buffer, .buffer⟩ : SectionDef) = some d := h
                  cases h; decide, by decide⟩

theorem witness_LayoutObjects_other_crossings : ∀ j o, j ≠ (1 : CrossingId) →
    track.cfg.crossings.get j = some o →
    (0 : LampId) ≠ o.lampA ∧ (0 : LampId) ≠ o.lampB ∧ (191 : LampId) ≠ o.lampA ∧ (191 : LampId) ≠ o.lampB ∧
      (4 : Section) ≠ o.sec := by
  intro j o hj ho
  match j with
  | 0 =>
    have h : (⟨2, 10, 11, 200, 1, true⟩ : CrossingDef) = o := Option.some.inj ho
    rw [← h]; decide
  | 1 => exact absurd rfl hj

/-- The part on the layout with the driver as given. -/
def driving (d : Driver) : State := (trainIn .parked).withDriver d

theorem witness_ThrowRequests :
    (track.cfg.turnouts.get 1 = none ∧ track.cfg.turnouts.get 0 ≠ none ∧ track.governor 0 = none ∧
      takes track ∧ track.governor 0 ≠ some 5) ∧
    ((trainIn .parked).governor 0 = some 0 ∧ takes (trainIn .parked)) ∧
    (∃ x ∈ throwQueued.driver.queue, x.t = 0) ∧
    ((∀ x ∈ (driving ⟨Table.replicate 8 (some .normal), [], none, false⟩).driver.queue, x.t ≠ 0) ∧
      (driving ⟨Table.replicate 8 (some .normal), [], none, false⟩).driver.points.get 0 = some .normal) ∧
    ((driving ⟨Table.replicate 8 none, [], none, true⟩).driver.points.get 0 ≠ some .normal ∧
      (driving ⟨Table.replicate 8 none, [], none, true⟩).driver.recovery = true) ∧
    (track.driver.points.get 0 ≠ some .normal ∧ track.driver.pulse = none ∧
      track.driver.recovery = false ∧ track.driver.queue = []) := by
  simp only [takes]; decide

theorem witness_PulsesAndRecovery :
    (runs throwQueued ∧ throwQueued.driver.pulse = some ⟨⟨1, .normal, .line⟩, 50⟩) ∧
    (runs track ∧ track.driver.pulse = none ∧ track.driver.recovery = false ∧ settable track ∧
      track.driver.points.get 0 ≠ some .normal ∧ track.governor 0 ≠ some 5) ∧
    (driving ⟨Table.replicate 8 none, [], none, true⟩).driver.recovery = true ∧
    (driving ⟨Table.replicate 8 none, [⟨0, .normal, .train 0⟩], none, true⟩).governor 0 = some 0 ∧
    (driving ⟨Table.replicate 8 none, [⟨0, .normal, .train 5⟩], none, true⟩).governor 0 ≠ some 5 ∧
    (50 ≤ 500 ∧ 49 < 50 ∧ 500 < 501) := by
  simp only [runs, settable, takes]; decide

/-- At the end of recovery: an entry whose train lost the unit, one in position, and one to pulse. -/
def recovering : State :=
  driving ⟨(Table.replicate 8 none).set 1 (some .normal),
    [⟨0, .normal, .train 5⟩, ⟨1, .normal, .line⟩, ⟨0, .reverse, .train 0⟩], none, true⟩

/-- R102: the driver passes over the first two entries at once and pulses the third. -/
theorem test_recovery_takes_next : ∃ t, exec .recoveryEnd recovering = .next t ∧
    t.driver.pulse = some ⟨⟨0, .reverse, .train 0⟩, recovering.cfg.pulses.get 0⟩ ∧
    t.driver.queue = [] ∧ t.driver.recovery = false ∧ t.driver.points.get 1 = some .normal :=
  ⟨_, rfl, by decide⟩

theorem witness_PulsesAndRecovery_queue :
    runs recovering ∧ recovering.driver.recovery = true ∧ recovering.governor 0 ≠ some 5 ∧
    recovering.governor 0 = some 0 ∧ recovering.driver.points.get 1 = some .normal ∧
    recovering.driver.points.get 0 ≠ some .reverse := by
  simp only [runs]; decide

/-- Of all coils only that of turnout 1 for NORMAL is driven (R102). -/
theorem test_coil : (ids 8).map (coilOn throwQueued · .normal) =
    [false, true, false, false, false, false, false, false] ∧
    (ids 8).all (fun t => !coilOn throwQueued t .reverse) = true := by decide

/-- Unit 2 held by train 0, so crossing 0 is called; the crossing as given. -/
def crossing (called : Bool) (r : CrossingRun) : State :=
  (track.withCrossings (track.crossings.set 0 r)).withUnits
    (if called then track.units.set 2 ⟨some 0, []⟩ else track.units)

theorem witness_CrossingsWarn :
    (∃ d, track.cfg.crossings.get 0 = some d ∧ (crossing true ⟨.idle, false, none, false⟩).called d = true ∧
      track.called d = false ∧ track.occupied d.sec = false) ∧
    ((track.crossings.get 0).state = .idle ∧ (track.crossings.get 0).leadTimer = none ∧
      (track.crossings.get 0).flashTimer = false ∧ runs track) ∧
    (((crossing true ⟨.warning, true, some 1, true⟩).crossings.get 0).state ≠ .idle ∧
      ((crossing true ⟨.warning, true, some 1, true⟩).crossings.get 0).leadTimer ≠ none ∧
      ((crossing false ⟨.warning, true, some 1, true⟩).crossings.get 0).flashTimer = true) :=
  ⟨⟨_, rfl, by decide⟩, by simp only [runs]; decide, by decide⟩

theorem witness_BellSettings :
    (runs ready ∧ settable ready ∧ ready.bell.halfPeriod = none ∧ timeOk ⟨23, 0, 0⟩ ∧ timeOk ⟨0, 0, 0⟩ ∧
      secs ⟨23, 0, 0⟩ ≠ secs ⟨0, 0, 0⟩ ∧ ¬ secs ⟨23, 0, 0⟩ < secs ⟨0, 0, 0⟩ ∧
      ¬ ready.clock.time < secs ⟨0, 0, 0⟩) ∧
    ((ready.withBell ⟨false, true, true, some 2500⟩).bell.halfPeriod ≠ none) ∧
    (secs ⟨0, 0, 0⟩ < secs ⟨0, 0, 1⟩ ∧ secs ⟨0, 0, 0⟩ ≤ ready.clock.time ∧
      ready.clock.time < secs ⟨0, 0, 1⟩) ∧
    (199 < 200 ∧ 4000 ≤ 4000 ∧ 4000 < 4001) := by
  simp only [runs, settable, takes, timeOk, secs]; decide

/-- Crossing 0 warns, with the bell as given. -/
def ringing (b : Bell) : State := (crossing true ⟨.warning, false, some 1, true⟩).withBell b

theorem witness_BellSettings_output :
    ((crossing true ⟨.warning, false, some 1, true⟩).bellDue = true ∧
      (crossing true ⟨.warning, false, some 1, true⟩).bell.sounding = false) ∧
    ((ringing ⟨false, true, true, some 416⟩).bellDue = true ∧
      (ringing ⟨false, true, true, some 416⟩).bell.sounding = true) ∧
    ready.bellDue = false := by decide

/-- Train 1 in section 2, holding its unit; train 0 in section 0, waiting for it where `ask` says so. -/
def twoTrains (ask : Bool) : State :=
  let s := ((trainIn .parked).modTrain 1 fun _ =>
    { TrainRun.reset with state := .parked, holdings := [2], span := [⟨2, .a⟩] }).modUnit 2
      fun _ => ⟨some 1, if ask then [0] else []⟩
  if ask then s.modTrain 0 fun x => { x with request := some 2 } else s

theorem witness_RequestsResolve :
    ((trainIn .parked).units.get 0).holder = some 0 ∧
    (((trainIn .parked).units.get 3).holder = none ∧ (trainIn .parked).blocked 3 = false ∧
      ((trainIn .parked).units.get 3).waiting = []) ∧
    (((twoTrains true).units.get 1).holder = some 0 ∧ (0 : Train) ≠ 1 ∧
      (twoTrains true).chainReaches 1 6 (some 0) = true) ∧
    (((twoTrains false).units.get 1).holder = some 0 ∧
      (twoTrains false).chainReaches 1 6 (some 0) = false) ∧
    ((track.withSense { track.sense with filters := track.sense.filters.set 3 ⟨true, 3, 0⟩ }).blocked 3 = true ∧
      (track.units.get 3).holder = none) := by decide

theorem two_agree : ReservationsAgree (twoTrains true) := by
  refine ⟨?_, ?_, ?_, ?_, ?_, ?_, ?_⟩ <;> decide
theorem one_agrees : ReservationsAgree (trainIn .parked) := by
  refine ⟨?_, ?_, ?_, ?_, ?_, ?_, ?_⟩ <;> decide

theorem witness_ReleasesHandOn :
    ReservationsAgree (twoTrains true) ∧
    (((twoTrains true).units.get 2).holder = some 1 ∧ ((twoTrains true).units.get 2).waiting = [0] ∧
      ∀ x, (twoTrains true).cfg.unitKey x = some 2 → (twoTrains true).occupied x = false) ∧
    (((twoTrains true).units.get 1).holder = some 0 ∧ ((twoTrains true).units.get 1).waiting = []) ∧
    ((twoTrains true).cfg.unitKey 0 = some 0 ∧ (twoTrains true).occupied 0 = true) :=
  ⟨two_agree, by decide⟩

/-- Train 0 with a span of sections 0 and 1, its head in section 1. -/
def spanning : State := (trainIn .parked).modTrain 0 fun x => { x with
  span := [⟨0, .a⟩, ⟨1, .a⟩], powered := [⟨0, .a⟩, ⟨1, .a⟩] }

/-- Unit 3 free with train 1 waiting for it, its section CLEAR. -/
def unblocked : State := (trainIn .parked).modUnit 3 fun _ => ⟨none, [1]⟩

/-- The clauses on the occupancy notice: CLEAR behind the head and elsewhere, OCCUPIED with and without a
holder, a free unit with and without waiters, a crossing in and out of the section. -/
theorem witness_ReleasesHandOn_notices :
    (track.cfg.sections.get 19 = none ∧ track.cfg.sections.get 0 ≠ none) ∧
    (spanning.occupied 1 = false ∧ (spanning.trains.get 0).state ≠ .unplaced ∧
      (∃ e ∈ (spanning.trains.get 0).span.dropLast, e.sec = 0) ∧
      (∀ m, m < (0 : Train) → (spanning.trains.get m).state = .unplaced) ∧
      (∀ n, (spanning.trains.get n).state = .unplaced ∨
        ∀ e ∈ (spanning.trains.get n).span.dropLast, e.sec ≠ 1) ∧
      (spanning.cfg.unitKey 0 = some 0 ∧ ∀ e ∈ [(⟨1, .a⟩ : SpanElt)], spanning.cfg.unitKey e.sec ≠ some 0)) ∧
    (spanning.halt = false ∧ (spanning.channels.get (sectionChannel 0)).state ≠ .cut) ∧
    ((occupiedAt 4).occupied 4 = true ∧ (occupiedAt 4).cfg.unitKey 4 = some 4 ∧
      ((occupiedAt 4).units.get 4).holder = none ∧ (trainIn .parked).occupied 0 = true ∧
      ((trainIn .parked).units.get 0).holder ≠ none) ∧
    ((unblocked.units.get 3).holder = none ∧ (unblocked.units.get 3).waiting = [1] ∧
      ∀ z, unblocked.cfg.unitKey z = some 3 → unblocked.occupied z = false) ∧
    ((track.cfg.crossings.get 0).map CrossingDef.sec = some 2 ∧ track.cfg.crossings.get 1 = none) ∧
    ((twoTrains true).units.get 2).holder ≠ some 0 := by decide

/-- Train 0 driven in CAB mode from section 0 towards section 1. -/
def cabTrain (st : TrainState) (step : Nat) : State :=
  withTrain { TrainRun.reset with
    state := st, mode := .cab, cabStep := step, cabTimer := some 3, headPos := 3000
    cause := if st = .stopping then some .command else none }

theorem witness_AuthorityStaysWithin :
    ⟨1, .a, none, none⟩ ∈ ((cabTrain .waiting 1).walk 0 true).within.tail := by decide

theorem witness_StopPoints : layout.sections.get 4 = some ⟨100, .buffer, .buffer⟩ ∧
    layout.marks.get 1 = some ⟨4, 100, .position⟩ ∧ 100 ≤ 100 := by decide

theorem witness_SpeedAndStoppingDistance : (496 ≤ 496 ∧ 496 = 16 * 31 + 0 ∧ 495 = 16 * 30 + 15 ∧ 15 < 16) ∧
    1 ≤ (TrainDef.empty 5).decel ∧ ∀ i : Fin 32, ((TrainDef.empty 5).step i.val).2 ≤ 999 := by decide

theorem witness_RampTicks :
    (runs track ∧ (track.trains.get 5).state = .unplaced) ∧
    (((trainIn .parked).trains.get 0).state ≠ .waiting ∧ ((trainIn .parked).trains.get 0).moving = false) ∧
    (((cabTrain .waiting 0).trains.get 0).state = .waiting ∧ (cabTrain .waiting 0).wanted 0 = 0) ∧
    (∃ t : State, exec (.rampTick 0) (cabTrain .running 5) = acts t ∧ (t.trains.get 0).moving = true ∧
      (cabTrain .running 5).halt = false ∧ (t.trains.get 0).powered ≠ [] ∧
      ((cabTrain .running 5).channels.get 0).state ≠ .cut) :=
  ⟨⟨rfl, by decide⟩, by decide, by decide, _, rfl, by decide, by decide, by decide, by decide⟩

theorem track_agrees : ReservationsAgree track ∧ ReservationsAgree (occupiedAt 4) := by
  refine ⟨⟨?_, ?_, ?_, ?_, ?_, ?_, ?_⟩, ?_, ?_, ?_, ?_, ?_, ?_, ?_⟩ <;> decide

theorem witness_PlacingAndLifting :
    (takes (occupiedAt 4) ∧ ReservationsAgree (occupiedAt 4) ∧ (occupiedAt 4).cfg.unitKey 4 = some 4 ∧
      ((occupiedAt 4).trains.get 5).state = .unplaced ∧ (occupiedAt 4).occupied 4 = true ∧
      ((occupiedAt 4).units.get 4).holder = none) ∧
    (takes track ∧ ReservationsAgree track ∧ track.cfg.unitKey 19 = none ∧ track.cfg.unitKey 4 ≠ none ∧
      track.occupied 4 = false ∧ (track.trains.get 5).state ≠ .parked) ∧
    (takes (trainIn .parked) ∧ ReservationsAgree (trainIn .parked) ∧
      ((trainIn .parked).trains.get 0).state = .parked ∧
      ((trainIn .parked).trains.get 5).state = .unplaced ∧ (trainIn .parked).occupied 0 = true ∧
      ((trainIn .parked).units.get 0).holder ≠ none) :=
  ⟨⟨⟨rfl, rfl, rfl⟩, track_agrees.2, by decide⟩, ⟨⟨rfl, rfl, rfl⟩, track_agrees.1, by decide⟩,
    ⟨rfl, rfl, rfl⟩, one_agrees, by decide⟩

/-- Train 0 parked on units 0 and 1, train 1 LOST without a unit. -/
def lostTrain : State := (trainIn .parked).modTrain 1 fun _ => { TrainRun.reset with state := .lost }

theorem lost_agrees : ReservationsAgree lostTrain ∧ ReservationsAgree (trainIn .lost) ∧
    ReservationsAgree (trainIn .faulted) := by
  refine ⟨⟨?_, ?_, ?_, ?_, ?_, ?_, ?_⟩, ⟨?_, ?_, ?_, ?_, ?_, ?_, ?_⟩, ?_, ?_, ?_, ?_, ?_, ?_, ?_⟩ <;> decide

theorem witness_FindingAndResuming :
    (takes (trainIn .lost) ∧ ReservationsAgree (trainIn .lost) ∧ (trainIn .lost).cfg.unitKey 0 = some 0 ∧
      ((trainIn .lost).trains.get 0).state = .lost ∧ (trainIn .lost).occupied 0 = true ∧
      ((trainIn .lost).trains.get 0).request = none ∧ ((trainIn .lost).units.get 0).holder = some 0) ∧
    (takes lostTrain ∧ ReservationsAgree lostTrain ∧ lostTrain.cfg.unitKey 0 = some 0 ∧
      (lostTrain.trains.get 1).state = .lost ∧ lostTrain.occupied 0 = true ∧
      (lostTrain.units.get 0).holder = some 0 ∧ (0 : Train) ≠ 1 ∧ lostTrain.occupied 4 = false) ∧
    (takes (trainIn .faulted) ∧ ReservationsAgree (trainIn .faulted) ∧
      ((trainIn .faulted).trains.get 0).state = .faulted ∧ ((trainIn .faulted).trains.get 1).state ≠ .faulted ∧
      ∀ z, (trainIn .faulted).holds 0 z = true →
        ((trainIn .faulted).channels.get (sectionChannel z)).state ≠ .cut) ∧
    ((trainIn .faulted).modChannel 1 fun ch => { ch with state := .cut }).holds 0 1 = true ∧
      (((trainIn .faulted).modChannel 1 fun ch => { ch with state := .cut }).channels.get
        (sectionChannel 1)).state = .cut :=
  ⟨⟨⟨rfl, rfl, rfl⟩, lost_agrees.2.1, by decide⟩, ⟨⟨rfl, rfl, rfl⟩, lost_agrees.1, by decide⟩,
    ⟨⟨rfl, rfl, rfl⟩, lost_agrees.2.2, by decide⟩, by decide⟩

theorem witness_DispatchLines :
    (takes (trainIn .parked) ∧ ((trainIn .parked).trains.get 0).state = .parked ∧
      ((trainIn .parked).trains.get 0).span.getLast? = some ⟨0, .a⟩ ∧
      (∃ d p, (trainIn .parked).cfg.routes.get 0 = some d ∧ d.positions.head? = some p ∧ p.sec = 0 ∧
        p.entry = .a) ∧ (trainIn .parked).cfg.routes.get 11 = none) ∧
    (((twoTrains false).trains.get 1).span.getLast? = some ⟨2, .a⟩ ∧ (2 : Section) ≠ 0) ∧
    (((trainIn .running).trains.get 0).mode = .route ∧ ((trainIn .running).trains.get 0).moving = true ∧
      ((trainIn .running).trains.get 0).state ≠ .parked ∧
      ((trainIn .running).trains.get 0).state ≠ .dwelling) ∧
    (((trainIn .waiting).trains.get 0).state = .waiting ∧ ((trainIn .halted).trains.get 0).state = .halted) ∧
    (runs (trainIn .dwelling) ∧ ((trainIn .dwelling).trains.get 0).state = .dwelling) :=
  ⟨⟨⟨rfl, rfl, rfl⟩, by decide, by decide, ⟨_, _, rfl, rfl, rfl, rfl⟩, by decide⟩, by decide, by decide,
    by decide, rfl, by decide⟩

theorem witness_CabDriving :
    (takes (trainIn .parked) ∧ ((trainIn .parked).trains.get 0).state = .parked ∧
      ((trainIn .parked).trains.get 0).speed = 0 ∧
      Orientation.rev ≠ ((trainIn .parked).trains.get 0).orientation ∧
      ((trainIn .parked).trains.get 0).cabTimer = none ∧ 31 < 32) ∧
    (((withTrain { TrainRun.reset with state := .running, speed := 1 }).trains.get 0).moving = true ∧
      ((withTrain { TrainRun.reset with state := .running, speed := 1 }).trains.get 0).speed ≠ 0) ∧
    ((cabTrain .parked 0).trains.get 0).cabTimer ≠ none ∧ ((cabTrain .parked 0).trains.get 0).cabStep = 0 ∧
    (((cabTrain .running 1).trains.get 0).cabStep ≠ 0 ∧ ((cabTrain .running 1).trains.get 0).moving = true) ∧
    ((cabTrain .waiting 1).trains.get 0).state = .waiting ∧
    ((trainIn .faulted).trains.get 0).state = .faulted :=
  ⟨⟨⟨rfl, rfl, rfl⟩, by decide⟩, by decide⟩

/-- Train 0 follows route 0. -/
def onRoute : State := withTrain { TrainRun.reset with state := .waiting, route := some (0, 0) }

/-- Sections 0 and 1 joined in a ring. -/
def ring : Scene :=
  { Scene.empty with
    sections := (Scene.empty.sections.set 0 (some ⟨900, .join 1 .b, .join 1 .a⟩)).set 1
      (some ⟨900, .join 0 .b, .join 0 .a⟩) }

/-- Route 0 loops over that ring. -/
def ringed : State :=
  ready.withCfg { ring with routes := ring.routes.set 0 (some
    ⟨[⟨0, .a, none⟩, ⟨1, .a, some ⟨0, none⟩⟩], true⟩) }

theorem leads_of_meets {c : Scene} {p q : SecEnd} (h : c.meets p.sec (other p.e) q = true) : Leads c p q :=
  (Scene.meets_iff_leads c p q).1 h

/-- The route of `layout` can be passed and does not loop; the one of `ring` loops. -/
theorem route_ways :
    Passable layout [⟨0, .a⟩, ⟨1, .a⟩] ∧ Leads layout ⟨1, .a⟩ ⟨3, .a⟩ ∧ ¬ Leads layout ⟨1, .a⟩ ⟨0, .a⟩ ∧
    (∀ qs : List SecEnd, qs.map SecEnd.sec = [2, 3] → ¬ Passable layout qs) ∧
    Leads ring ⟨1, .a⟩ ⟨0, .a⟩ ∧ ¬ Leads ring ⟨0, .a⟩ ⟨0, .a⟩ := by
  refine ⟨(passable_cons ..).2 ⟨leads_of_meets (by decide), passable_single _ _⟩, leads_of_meets (by decide),
    fun h => ?_, fun qs hq h => ?_, leads_of_meets (by decide), fun h => ?_⟩
  · exact absurd ((Scene.meets_iff_leads ..).2 h) (by decide)
  · match qs with
    | [⟨x, e⟩, ⟨y, f⟩] =>
      obtain ⟨rfl, rfl⟩ : x = 2 ∧ y = 3 := by simpa using hq
      have h := (Scene.meets_iff_leads ..).2 ((passable_cons ..).1 h).1
      cases e <;> cases f <;> exact absurd h (by decide)
    | [] | [_] | _ :: _ :: _ :: _ => simp at hq
  · exact absurd ((Scene.meets_iff_leads ..).2 h) (by decide)

theorem witness_RouteLines_edits :
    (settable onRoute ∧ onRoute.routeInUse 0 = true ∧ (onRoute.cfg.routes.get 0).isSome = true) ∧
    (settable track ∧ track.routeInUse 0 = false ∧
      (∀ x ∈ ([0, 1, 2, 3] : List Section), track.cfg.defined x = true) ∧ track.cfg.defined 19 = false) ∧
    (([0] : List Section).length < 2 ∧ 32 < (List.replicate 33 (0 : Section)).length ∧ 32 < 2 + 31) ∧
    (track.cfg.routes.get 0 = some ⟨[⟨0, .a, none⟩] ++ [⟨1, .a, some ⟨0, none⟩⟩], false⟩ ∧ 2 + 30 ≤ 32) ∧
    (StopsFit layout [⟨0, .a, some ⟨3600, some 0⟩⟩, ⟨1, .a, some ⟨3600, none⟩⟩] ∧
      ¬ StopsFit layout [⟨1, .a, some ⟨0, some 0⟩⟩] ∧ ¬ StopsFit layout [⟨4, .a, some ⟨0, some 1⟩⟩] ∧
      0 + 1 < 2 ∧ 1 + 1 = 2 ∧ 3600 < 3601) := by
  refine ⟨⟨⟨⟨rfl, rfl, rfl⟩, rfl⟩, by decide⟩, ⟨⟨⟨rfl, rfl, rfl⟩, rfl⟩, by decide⟩, by decide, by decide, ?_⟩
  refine ⟨(Scene.stopsHold_iff layout ⟨_, false⟩).1 (by decide), fun h => ?_, fun h => ?_, by decide⟩ <;>
    exact absurd ((Scene.stopsHold_iff layout ⟨_, false⟩).2 h) (by decide)

theorem witness_RouteLines_loops :
    Passable track.cfg (⟨1, .a⟩ :: [⟨3, .a⟩]) ∧
    (¬ ∃ a z, (entries [⟨0, .a, none⟩, ⟨1, .a, some ⟨0, none⟩⟩]).head? = some a ∧
      (entries [⟨0, .a, none⟩, ⟨1, .a, some ⟨0, none⟩⟩]).getLast? = some z ∧ Leads track.cfg z a) ∧
    (settable ringed ∧ ringed.routeInUse 0 = false ∧
      ringed.cfg.routes.get 0 = some ⟨[⟨0, .a, none⟩] ++ [⟨1, .a, some ⟨0, none⟩⟩], true⟩ ∧
      Passable ringed.cfg (⟨1, .a⟩ :: [⟨0, .a⟩]) ∧ ¬ Leads ringed.cfg ⟨0, .a⟩ ⟨0, .a⟩ ∧
      ∃ a z, (entries [⟨0, .a, none⟩, ⟨1, .a, none⟩]).head? = some a ∧
        (entries [⟨0, .a, none⟩, ⟨1, .a, none⟩]).getLast? = some z ∧ Leads ringed.cfg z a) :=
  ⟨(passable_cons ..).2 ⟨route_ways.2.1, passable_single _ _⟩,
    fun ⟨a, z, ha, hz, h⟩ => by cases ha; cases hz; exact route_ways.2.2.1 h,
    ⟨⟨rfl, rfl, rfl⟩, rfl⟩, by decide, rfl,
    (passable_cons ..).2 ⟨route_ways.2.2.2.2.1, passable_single _ _⟩, route_ways.2.2.2.2.2,
    _, _, rfl, rfl, route_ways.2.2.2.2.1⟩

/-- A full timetable. -/
def timetabled : State :=
  ready.withCfg { ready.cfg with timetable := (List.range 48).map fun i => ⟨60 * i, 5, 11⟩ }

theorem timetabled_ordered : ListsOrdered timetabled := by simp only [ListsOrdered, ordered]; decide

theorem witness_TimetableLines :
    (settable ready ∧ ListsOrdered ready ∧ timeOk ⟨0, 47, 0⟩ ∧ ready.cfg.timetable.length < 48) ∧
    (settable timetabled ∧ ListsOrdered timetabled ∧
      (∃ e ∈ timetabled.cfg.timetable, e.time = secs ⟨0, 47, 0⟩ ∧ e.train = 5) ∧
      timetabled.cfg.timetable.length = 48 ∧
      ∀ e ∈ timetabled.cfg.timetable, ¬ (e.time = secs ⟨0, 47, 0⟩ ∧ e.train = 4)) := by
  refine ⟨⟨⟨⟨rfl, rfl, rfl⟩, rfl⟩, ready_ordered, ?_⟩, ⟨⟨rfl, rfl, rfl⟩, rfl⟩, timetabled_ordered, ?_⟩ <;>
    simp only [timeOk, secs] <;> decide

theorem witness_TrainDefinitions :
    (settable ready ∧ (ready.trains.get 5).mode = .route ∧ ((cabTrain .parked 0).trains.get 0).mode = .cab) ∧
    ['A', 'Z', '0', '9', 'A', 'Z', '0', '9'].all (fun c => c.isUpper || c.isDigit) = true ∧
    (100 ≤ 3000 ∧ 1 ≤ 64 ∧ 1 ≤ 8 ∧ 1 ≤ 30 ∧ 31 < 32) ∧
    (99 < 100 ∧ 3000 < 3001 ∧ 8 < 9 ∧ 30 < 31 ∧ 64 < 65 ∧ 0 < 1 ∧ 20 ≤ 20) ∧
    (8 < (List.replicate 9 'A').length ∧
      (List.replicate 9 'A').all (fun c => c.isUpper || c.isDigit) = true) ∧
    ((∃ p ∈ ([(256, 0)] : List (Nat × Nat)), 255 < p.1 ∨ 999 < p.2) ∧
      ∃ p ∈ ([(0, 1000)] : List (Nat × Nat)), 255 < p.1 ∨ 999 < p.2) ∧
    (31 + ([(255, 999)] : List (Nat × Nat)).length ≤ 32 ∧
      32 < 32 + ([(255, 999)] : List (Nat × Nat)).length ∧
      ∀ p ∈ ([(255, 999)] : List (Nat × Nat)), p.1 ≤ 255 ∧ p.2 ≤ 999) :=
  ⟨⟨⟨⟨rfl, rfl, rfl⟩, rfl⟩, by decide⟩, rfl, by decide, by decide, ⟨by decide, rfl⟩, by decide⟩

/-- A full program of axis 3. -/
def programmed : State :=
  ready.withCfg { ready.cfg with axes := ready.cfg.axes.modify 3 fun d =>
    { d with program := (List.range 8).map fun i => (60 * i, 600) } }

theorem programmed_ordered : ListsOrdered programmed := by simp only [ListsOrdered, ordered]; decide

theorem witness_AxisPrograms :
    (programmed.cfg.axes.get 3).program.Pairwise (fun x y => x.1 < y.1) ∧
    (settable programmed ∧ ListsOrdered programmed ∧ timeOk ⟨0, 7, 0⟩ ∧
      (∃ p ∈ (programmed.cfg.axes.get 3).program, p.1 = secs ⟨0, 7, 0⟩) ∧
      (∀ p ∈ (programmed.cfg.axes.get 3).program, p.1 ≠ secs ⟨0, 8, 0⟩) ∧
      (programmed.cfg.axes.get 3).program.length = 8 ∧ ¬ timeOk ⟨0, 0, 60⟩ ∧ 600 < 601) ∧
    (settable ready ∧ ListsOrdered ready ∧ (ready.cfg.axes.get 3).program.length < 8) ∧
    ((∀ q ∈ ([(60, 9)] : List (Nat × Nat)), 59 < q.1) ∧ (60, 9) ∈ ([(60, 9)] : List (Nat × Nat))) := by
  refine ⟨?_, ⟨⟨⟨rfl, rfl, rfl⟩, rfl⟩, programmed_ordered, ?_⟩, ⟨⟨⟨rfl, rfl, rfl⟩, rfl⟩, ready_ordered, ?_⟩, ?_⟩ <;>
    (try simp only [timeOk, secs]) <;> decide

/-- Axis 3 in a state, with a duty. -/
def axisIn (st : AxisState) : State :=
  ready.modAxis 3 fun a => { a with
    state := st, duty := 9, target := 60, last := some 0, stallTimer := some 5000, stopTimer := true
    override := some 600 }

theorem witness_AxisSettings :
    (takes (axisIn .stalled) ∧ settable (axisIn .stalled) ∧
      ((axisIn .stalled).axes.get 3).state = .stalled ∧
      ((axisIn .stalled).channels.get (axisChannel 3)).state ≠ .cut) ∧
    ((((axisIn .stalled).modChannel 23 fun ch => { ch with state := .cut }).channels.get
      (axisChannel 3)).state = .cut) ∧
    (settable (axisIn .running) ∧ ((axisIn .running).axes.get 3).state = .running) ∧
    (600 < 601 ∧ 64 < 65 ∧ 255 < 256 ∧ 499 < 500 ∧ 30000 < 30001 ∧ 500 ≤ 30000) :=
  ⟨⟨⟨rfl, rfl, rfl⟩, ⟨⟨rfl, rfl, rfl⟩, rfl⟩, by decide⟩, by decide,
    ⟨⟨⟨rfl, rfl, rfl⟩, rfl⟩, by decide⟩, by decide⟩

theorem witness_AxisEvents :
    (runs State.reset ∧ State.reset.sys.ready = false) ∧
    (runs (axisIn .starting) ∧ (axisIn .starting).sys.ready = true ∧
      ((axisIn .starting).axes.get 3).state = .starting ∧
      ((axisIn .starting).axes.get 3).stallTimer ≠ none) ∧
    (((axisIn .running).axes.get 3).state = .running ∧ ((axisIn .running).axes.get 3).last = some 0 ∧
      6000 = 600000 / max 100 ((100 + 4294967296 - 0) % 4294967296)) ∧
    (((axisIn .stopping).axes.get 3).state = .stopping ∧ ((axisIn .stopping).axes.get 3).stopTimer = true) ∧
    ((ready.axes.get 3).last = none ∧ (ready.axes.get 3).stallTimer = none ∧
      (ready.axes.get 3).stopTimer = false ∧ (ready.axes.get 3).state = .stopped) ∧
    ((axisIn .running).modAxis 3 fun a => { a with last := none }).axes.get 3 =
      { (axisIn .running).axes.get 3 with last := none } :=
  ⟨⟨rfl, rfl⟩, ⟨rfl, by decide⟩, by decide⟩

/-- The load account as given. -/
def pressed (p : Pressure) (scale overs unders motion : Nat) : State :=
  (ready.withAccount { ready.account with level := p, scale := scale, overCount := overs, underCount := unders }).withSense
    { ready.sense with slots := ready.sense.slots.set 0 (some motion) }

theorem witness_BudgetEvaluations :
    (runs State.reset ∧ State.reset.sys.ready = false) ∧
    (runs ready ∧ ready.sys.ready = true ∧ ready.account.level = .normal) ∧
    (motionTerm (pressed .axesLimited 64 2 0 4001) = 4001 ∧
      (pressed .axesLimited 64 2 0 4001).cfg.ceiling < 4001 ∧
      2 ≤ (pressed .axesLimited 64 2 0 4001).account.overCount) ∧
    (motionTerm (pressed .axesLimited 256 0 9 3600) = 3600 ∧
      3600 * 10 ≤ (pressed .axesLimited 256 0 9 3600).cfg.ceiling * 9 ∧
      9 ≤ (pressed .axesLimited 256 0 9 3600).account.underCount) ∧
    ((pressed .axesLimited 256 0 9 3601).cfg.ceiling * 9 < 3601 * 10 ∧
      3601 ≤ (pressed .axesLimited 256 0 9 3601).cfg.ceiling) ∧
    ((pressed .dimming 64 0 0 0).account.level = .dimming ∧
      (pressed .departuresHeld 64 0 0 0).account.level = .departuresHeld) :=
  ⟨⟨rfl, rfl⟩, ⟨rfl, by decide⟩, by decide⟩

/-- The layout with window 1 on fixtures 200 to 205, the floods, and window 2 on the axes. -/
def mapped : State :=
  ready.withCfg { ready.cfg with
    windows := (ready.cfg.windows.set 0 (some ⟨200, 6, .flood, 0⟩)).set 1 (some ⟨1020, 4, .axis, 0⟩) }

theorem witness_BudgetAndMapLines :
    (settable ready ∧ 4000 = max 500 (min 20000 4000) ∧ 4000 ≤ ready.cfg.ceiling ∧
      (∀ k, (ready.trains.get k).speed = 0) ∧ ready.cfg.ceiling < 4001 ∧
      ∀ k, (ready.axes.get k).state ≠ .starting ∧ (ready.axes.get k).state ≠ .running) ∧
    (settable (axisIn .running) ∧ ∃ k, ((axisIn .running).axes.get k).state = .running) ∧
    (settable mapped ∧ 1016 + 4 ≤ 1024 ∧ 0 + 4 ≤ 4 ∧
      ∀ v : Fin 8, v.val ≠ 2 + 1 → ∀ x, mapped.cfg.window v.val = some x → 1016 + 4 ≤ x.base ∨ x.base + x.count ≤ 1016) ∧
    (∃ x, mapped.cfg.window 2 = some x ∧ 1017 < x.base + x.count ∧ x.base < 1017 + 4) ∧
    (1023 < 1024 ∧ 192 < 193 ∧ 1024 < 1021 + 4 ∧ 4 < 1 + 4 ∧ 7 < 8) :=
  ⟨⟨⟨⟨rfl, rfl, rfl⟩, rfl⟩, by decide⟩, ⟨⟨⟨rfl, rfl, rfl⟩, rfl⟩, 3, by decide⟩,
    ⟨⟨⟨rfl, rfl, rfl⟩, rfl⟩, by decide⟩, ⟨_, rfl, by decide⟩, by decide⟩

theorem witness_FixtureLines :
    (mapped.cfg.window 2 = some ⟨1020, 4, .axis, 0⟩ ∧ 1020 ≤ 1023 ∧ 1023 < 1020 + 4 ∧
      mapped.cfg.fixture 1023 = some (.axis 3)) ∧
    (takes mapped ∧ mapped.cfg.fixture 191 = some (.lamp 191) ∧ mapped.cfg.fixture 205 = some (.flood 5) ∧
      mapped.cfg.fixture 206 = none ∧ 1023 < 1024 ∧ timeOk ⟨23, 59, 59⟩ ∧ ¬ timeOk ⟨24, 0, 0⟩) := by
  refine ⟨?_, ⟨rfl, rfl, rfl⟩, ?_⟩ <;> (try simp only [timeOk]) <;> decide

/-- The command line with the receiver, slot 0 and the reply order as given. -/
def receiving (rx : Receiver) (a : Slot) (order : List Entry) : State :=
  ready.withLine { ready.line with rx := rx, slotA := a, order := order }

theorem witness_ReceivedLines :
    (takes ready ∧ ready.line.rx = .idle ∧ ready.line.slotA = .empty ∧ parseLine "STOP".toList = .line .stop ∧
      ['S', '~', ' '].all (fun c => 32 ≤ c.toNat && c.toNat ≤ 126) = true) ∧
    (takes (receiving (.slot false) (.receiving ⟨List.replicate 96 'A', true, false, false⟩) [.slot false]) ∧
      (receiving (.slot false) (.receiving ⟨List.replicate 96 'A', true, false, false⟩) [.slot false]).line.slot
        false = .receiving ⟨List.replicate 96 'A', true, false, false⟩) ∧
    (takes (receiving (.slot false) (.receiving ⟨[' '], false, false, true⟩) [.slot false]) ∧
      (receiving (.slot false) (.receiving ⟨[' '], false, false, true⟩) [.slot false]).line.slot false =
        .receiving ⟨[' '], false, false, true⟩) ∧
    (runs (receiving (.overrun false) .empty [.overrun 65534]) ∧
      (receiving (.overrun false) .empty [.overrun 65534]).line.order = [] ++ [.overrun 65534] ∧
      65534 < 65535 ∧ (receiving (.overrun true) .empty []).line.rx = .overrun true) ∧
    ((BitVec.ofNat 8 32) ≠ 13 ∧ (BitVec.ofNat 8 32) ≠ 10) :=
  ⟨⟨⟨rfl, rfl, rfl⟩, rfl, rfl, by decide, rfl⟩, ⟨⟨rfl, rfl, rfl⟩, rfl⟩, ⟨⟨rfl, rfl, rfl⟩, rfl⟩,
    ⟨rfl, rfl, by decide, rfl⟩, by decide⟩

theorem witness_ReceivedLines_slot_B :
    (takes (receiving .idle (.held ⟨['A'], false, false, false⟩ none) [.slot false]) ∧
      (receiving .idle (.held ⟨['A'], false, false, false⟩ none) [.slot false]).line.rx = .idle ∧
      (receiving .idle (.held ⟨['A'], false, false, false⟩ none) [.slot false]).line.slotA ≠ .empty ∧
      (receiving .idle (.held ⟨['A'], false, false, false⟩ none) [.slot false]).line.slotB = .empty) ∧
    ends ready 13 ∧ ends ready 10 ∧
    (parseLine "ROUTE 0 STOP 2 FOO".toList = .unknownIn (.routeStopNone 0 2) ∧
      (takeCommand (.routeStopNone 0 2) track).2 = .no .range ∧
      parseLine "ROUTE 0 STOP 1 FOO".toList = .unknownIn (.routeStopNone 0 1) ∧
      (takeCommand (.routeStopNone 0 1) track).2 = .no .conflict) :=
  ⟨⟨⟨rfl, rfl, rfl⟩, rfl, nofun, rfl⟩, .inl rfl, .inr ⟨rfl, rfl⟩, by decide⟩

/-- No slot empty, an LF that may follow a CR, and a marker already at 65535. -/
def bothHeld : State :=
  ready.withLine { ready.line with
    slotA := .held ⟨[], false, false, false⟩ none, slotB := .held ⟨[], false, false, false⟩ none
    afterCr := true, order := [.overrun 65535] }

theorem witness_ReceivedLines_overrun :
    (runs bothHeld ∧ bothHeld.line.rx = .idle ∧ bothHeld.line.slotA ≠ .empty ∧ bothHeld.line.slotB ≠ .empty ∧
      bothHeld.line.afterCr = true) ∧
    ∀ es k, bothHeld.line.order = es ++ [.overrun k] → 65535 ≤ k := by
  refine ⟨⟨rfl, rfl, nofun, nofun, rfl⟩, fun es k h => ?_⟩
  obtain ⟨-, h⟩ := List.append_inj' (s₁ := []) (t₁ := [Entry.overrun 65535]) h rfl
  injection h with h; injection h with h; omega

/-- A line of a part not READY that is no `STATUS`, and one that is (R184). -/
theorem witness_ReceivedLines_start :
    let s := (receiving (.slot false) (.receiving ⟨"SAVE".toList, false, false, false⟩) [.slot false]).withSys
      State.reset.sys
    (runs s ∧ s.line.closed = false ∧ s.sys.ready = false ∧ s.line.rx = .slot false ∧
      s.line.slot false = .receiving ⟨"SAVE".toList, false, false, false⟩ ∧ ends s 13) ∧
    lineTokens "SAVE".toList = ["SAVE".toList] ∧ lineTokens " status\t".toList = ["STATUS".toList] :=
  ⟨⟨rfl, rfl, rfl, rfl, rfl, .inl rfl⟩, by decide⟩

/-- Tokens with blanks round them; a number with zeros up to 9 digits, a scene time without its seconds, a name of
10 digits (R184, section 1.4, log 54). -/
theorem witness_ReceivedLines_tokens :
    SpacedOut " Set\t 5 ".toList ["Set".toList, "5".toList] ∧
    (lineTokens "CLOCK RATE 000000060".toList = ["CLOCK".toList, "RATE".toList, "000000060".toList] ∧
      IsLineOf ["CLOCK".toList, "RATE".toList, "000000060".toList] (.clockRate 60)) ∧
    IsLineOf ["KEY".toList, "8:05".toList] (.keyQuery ⟨8, 5, 0⟩) ∧
    IsLineOf ["TRAIN".toList, "1".toList, "NAME".toList, "1234567890".toList] (.trainName 1 "1234567890".toList) := by
  refine ⟨.token [' '] "Set".toList "\t 5 ".toList _ (by simp) nofun (by simp) (fun c r h => ?_)
      (.token ['\t', ' '] ['5'] [' '] [] (by simp) nofun (by simp) (fun c r h => ?_) (.blanks [' '] (by simp))),
    ⟨by decide, .inl ⟨rfl, nofun, _, rfl, ?_⟩⟩, .inl ⟨rfl, nofun, _, rfl, ?_⟩,
    .inr ⟨1, "1".toList, _, rfl, by decide, .inl (by decide), by decide⟩⟩
  · injection h with h; exact .inr h.symm
  · injection h with h; exact .inl h.symm
  · exact .cons (.inl (by decide)) (.cons (.inl (by decide)) (.cons (.inr (.inl ⟨60, 7, by decide, by decide, by decide⟩)) .nil))
  · exact .cons (.inl (by decide)) (.cons (.inr (.inr ⟨⟨8, 5, 0⟩, digits 8, by decide, .inl rfl, .inr ⟨rfl, by decide⟩⟩)) .nil)

/-- A verb and second tokens that are not known; a keyword that is none of those the form needs; a token that
selects no form, before a run of 9 digits; and a run of 10 digits, which is malformed (R5, R184, R185, log 55). -/
theorem witness_ReceivedLines_refusals :
    (NotKnown "NOTHING".toList [] ∧ NotKnown "CLOCK".toList ["NOW".toList, "1234567890".toList] ∧
      NotKnown "INPUT".toList ["FOO".toList]) ∧
    (StandsNear ["SCAN".toList, "FOO".toList] (.scan .normal) ∧ ∀ j, parseLine "SCAN FOO".toList ≠ .line j) ∧
    SelectsNone ["LAMP".toList, "5".toList, "FOO".toList, "123456789".toList] (.lampQuery 5) ∧
    SelectsNone ["AXIS".toList, "0".toList, "7".toList] (.axisQuery 0) ∧
    (LongRun "1234567890".toList ∧ ¬ LongRun "123456789".toList ∧
      ¬ NotKnown "LAMP".toList ["5".toList, "FOO".toList, "1234567890".toList] ∧
      ¬ NotKnown "INPUT".toList ["FOO".toList, "1234567890".toList]) := by
  have short : ∀ t : List Char, t.length ≤ 9 → ¬ LongRun t := fun t h k => by have := k.1; omega
  have long : LongRun "1234567890".toList := ⟨by decide, List.all_eq_true.mp (by decide)⟩
  refine ⟨⟨.inl (by decide), .inr ⟨_, _, rfl, .inl ⟨rfl, ?_⟩⟩, .inr ⟨_, _, rfl, .inr (.inr (.inr ⟨rfl, ?_, ?_⟩))⟩⟩,
    ⟨⟨rfl, 1, _, .scan _, rfl, rfl, fun j t u ht hu => ?_⟩, fun j => ?_⟩,
    ⟨rfl, _, _, _, ["LAMP".toList, "5".toList], _, _, .lamp 5, rfl, rfl,
      .cons (.inl (by decide)) (.cons (.inl (by decide)) .nil), ?_, .inr ⟨_, _, rfl, by decide⟩, short _ (by decide), ?_, nofun⟩,
    ⟨rfl, _, _, _, ["AXIS".toList, "0".toList], _, _, .axis 0, rfl, rfl,
      .cons (.inl (by decide)) (.cons (.inl (by decide)) .nil), ?_, .inl rfl, short _ (by decide), nofun, nofun⟩,
    long, short _ (by decide), ?_, ?_⟩
  · unfold OneOf; decide
  · unfold OneOf; decide
  · intro t ht; rw [List.mem_singleton] at ht; subst ht; exact short _ (by decide)
  · match j with
    | 0 => injection ht with ht; injection hu with hu; subst ht hu; exact .inl (.inl rfl)
    | 1 =>
      injection ht with ht; injection hu with hu; subst ht hu
      exact .inr ⟨by decide, ⟨_, _, rfl, by decide⟩, ⟨_, _, rfl, by decide⟩⟩
    | _ + 2 => exact nomatch ht
  · rw [show parseLine "SCAN FOO".toList = .unknownIn (.scan .normal) by decide]; nofun
  · unfold OneOf; decide
  · intro x hx; rw [List.mem_singleton] at hx; subst hx; exact short _ (by decide)
  · unfold OneOf; decide
  · rintro (h | ⟨w, r, -, ⟨h, -⟩ | ⟨h, -⟩ | ⟨h, -⟩ | ⟨h, -⟩⟩)
    · exact h (by decide)
    all_goals exact absurd h (by decide)
  · rintro (h | ⟨w, r, -, ⟨h, -⟩ | ⟨h, -⟩ | ⟨h, -⟩ | ⟨-, -, h⟩⟩)
    · exact h (by decide)
    · exact absurd h (by decide)
    · exact absurd h (by decide)
    · exact absurd h (by decide)
    · exact h _ (by simp) long

/-- The transmitter with what it writes, the reply order, and what came last. -/
def writingLine (w : Option Writing) (order : List Entry) (last : Option Bool) (reports : List Report)
    (dropped : Nat) : State :=
  ready.withLine { ready.line with
    writing := w, order := order, lastReport := last, reports := reports, dropped := dropped }

theorem witness_LinesWrittenAndReports :
    (runs ready ∧ ready.line.writing = none ∧ ready.line.headReply = none ∧ ready.line.reports = []) ∧
    ((writingLine (some (.reply .ok)) [.direct .ok] none [] 0).line.order = [.direct .ok] ∧ Reply.ok ≠ .resetOk ∧
      (writingLine (some (.reply (.no .overrun))) [.overrun 2] none [] 0).line.order = [.overrun (1 + 1)] ∧
      (writingLine (some (.report .ready)) [] none [] 0).line.writing = some (.report .ready)) ∧
    ((writingLine none [.direct .ok] (some false) [.saved] 1).line.headReply = some .ok ∧
      (writingLine none [.direct .ok] (some false) [.saved] 1).line.lastReport = some false ∧
      (writingLine none [.direct .ok] none [.saved] 1).line.lastReport ≠ some false) ∧
    (State.reset.sys.ready = false ∧ (List.replicate 31 Report.saved).length < 32 ∧
      32 ≤ (writingLine none [] none (List.replicate 32 .saved) 4294967294).line.reports.length ∧
      (writingLine none [] none (List.replicate 32 .saved) 4294967294).line.dropped < 4294967295) :=
  ⟨⟨rfl, by decide⟩, by decide⟩

/-- The text of a reply on TXD, and DE round it after a gap of one character time (R181). -/
theorem test_txd :
    let s := writingLine (some (.reply (.no .range))) [.direct (.no .range)] none [] 0
    txdText s = "NO RANGE\r\n".toList ∧
    [0, 1, 10, 11].map (deOut (s.withLine { s.line with gap := true })) = [false, true, true, false] := by
  decide

theorem witness_StoreLines :
    (takes ready ∧ ready.store.state = .invalid) ∧ (takes saving ∧ saving.store.state = .saving) ∧
    (runs (ready.withStore ⟨ready.cfg, .erasing⟩) ∧
      (ready.withStore ⟨ready.cfg, .erasing⟩).store.state = .erasing) ∧
    (isLine .status ∧ (ready.withLine { ready.line with closed := true }).line.closed = true) :=
  ⟨⟨⟨rfl, rfl, rfl⟩, rfl⟩, ⟨⟨rfl, rfl, rfl⟩, rfl⟩, ⟨rfl, rfl⟩, nofun, rfl⟩

/-- A start time stands that was not saved; the store is valid. -/
def toStart : State := (ready.withStore ⟨ready.cfg, .valid⟩).withNextStart (some 86399)

theorem witness_DeviceResets :
    held.sys.rstHeld = true ∧ (ready.sys.rstHeld = false ∧ ready.sys.rstRun < 2) ∧
    2 ≤ (ready.withSys { ready.sys with rstRun := 2 }).sys.rstRun ∧
    (toStart.store.state = .valid ∧ toStart.nextStart = some 86399 ∧ ready.store.state ≠ .valid ∧
      ready.nextStart = none) := by decide

/-- Train 5 at home in section 4. -/
def homeAt (s : State) : State :=
  s.withCfg { s.cfg with trains := s.cfg.trains.modify 5 fun d => { d with home := some ⟨4, .b⟩ } }

theorem witness_SettlingEnds :
    (runs State.reset ∧ State.reset.sys.settling = true ∧ ready.sys.settling = false) ∧
    (((homeAt (occupiedAt 4)).cfg.trains.get 5).home = some ⟨4, .b⟩ ∧
      (homeAt (occupiedAt 4)).cfg.unitKey 4 = some 4 ∧
      ((homeAt (occupiedAt 4)).units.get 4).holder = none ∧ (homeAt (occupiedAt 4)).occupied 4 = true ∧
      ((homeAt (occupiedAt 4)).trains.get 5).state = .unplaced ∧
      ((homeAt (occupiedAt 4)).trains.get 5).holdings = []) ∧
    (((homeAt track).cfg.trains.get 0).home = none ∧ (homeAt track).occupied 4 = false) :=
  ⟨⟨rfl, by decide⟩, by decide⟩

/-- Settling ends with section 4 OCCUPIED and no train at home there: its only stray. -/
theorem witness_SettlingEnds_strays :
    let s := (occupiedAt 4).withSys { State.reset.sys with ready := false, settling := true }
    let u := (List.finRange 6).foldl placeHome s
    (runs s ∧ s.sys.settling = true ∧ ([4] : List Section).Pairwise fun x y => x < y) ∧
    ∀ x, x ∈ ([4] : List Section) ↔ u.cfg.sections.get x ≠ none ∧ u.occupied x = true ∧
      ∀ k, u.cfg.unitKey x = some k → (u.units.get k).holder = none :=
  ⟨⟨rfl, by decide⟩, by decide⟩

theorem witness_LightQueries :
    (takes sixteenKeys ∧ ListsOrdered sixteenKeys ∧ timeOk ⟨0, 15, 0⟩ ∧
      (∃ k ∈ sixteenKeys.cfg.keyframes, k.time = secs ⟨0, 15, 0⟩) ∧ timeOk ⟨0, 16, 0⟩ ∧
      ∀ k ∈ sixteenKeys.cfg.keyframes, k.time ≠ secs ⟨0, 16, 0⟩) ∧
    ((ready.cfg.groups.get 15).kind = .dimmed ∧ ((switchedScene 0).groups.get 0).kind = .switched) := by
  refine ⟨⟨⟨rfl, rfl, rfl⟩, sixteen_ordered, ?_⟩, ?_⟩ <;> (try simp only [timeOk, secs]) <;> decide

theorem witness_TrackQueries :
    takes track ∧ track.cfg.sections.get 19 = none ∧ track.cfg.turnouts.get 7 = none ∧
    track.cfg.runs.get 5 = none ∧ track.cfg.runs.get 1 = some [6, 7] ∧ track.cfg.marks.get 15 = none ∧
    track.cfg.marks.get 0 = some ⟨0, 900, .stop⟩ ∧ track.cfg.crossings.get 1 = none ∧
    track.cfg.crossings.get 0 = some ⟨2, 10, 11, 200, 1, true⟩ ∧ track.cfg.unitKey 7 = some 6 ∧
    track.cfg.unitKey 19 = none := by
  refine ⟨⟨rfl, rfl, rfl⟩, ?_⟩; decide

/-- Turnout 1 under its pulse, turnout 0 queued. -/
theorem witness_TrackQueries_activity :
    takes throwQueued ∧ throwQueued.driver.pulse = some ⟨⟨1, .normal, .line⟩, 50⟩ ∧
    throwQueued.driver.queue = [] ++ ⟨0, .reverse, .line⟩ :: [] ∧
    ∃ d, throwQueued.cfg.turnouts.get 0 = some d := ⟨⟨rfl, rfl, rfl⟩, rfl, rfl, _, rfl⟩

theorem witness_TrafficAndStatusQueries :
    (takes onRoute ∧ (onRoute.trains.get 0).route = some (0, 0) ∧
      (onRoute.trains.get 0).span.getLast? = some ⟨0, .a⟩ ∧ (onRoute.trains.get 5).route = none ∧
      onRoute.cfg.routes.get 11 = none ∧ (onRoute.cfg.routes.get 0).isSome = true) ∧
    (mapped.cfg.windows.get 6 = none ∧ mapped.cfg.windows.get 1 = some ⟨1020, 4, .axis, 0⟩ ∧
      1023 ≤ 1023 ∧ mapped.cfg.fixture 192 = none ∧ mapped.cfg.fixture 200 = some (.flood 0)) ∧
    (runs State.reset ∧ State.reset.line.closed = false) :=
  ⟨⟨⟨rfl, rfl, rfl⟩, by decide⟩, by decide, rfl, rfl⟩

/-! Witnesses for the clauses about notices, motion and the machine as a whole. -/

/-- Train 0 at the start of route 0, in the timetable at second 20 and train 1 at second 21; group 0
SWITCHED. -/
def scheduled (x : TrainState) : State :=
  (trainIn x).withCfg { layout with
    timetable := [⟨20, 0, 0⟩, ⟨21, 1, 0⟩], autorun := true, groups := (switchedScene 0).groups }

theorem witness_ClockCommands_timetable :
    ((⟨20, 0, 0⟩ : TimeEntry) ∈ (scheduled .parked).cfg.timetable ∧ passes 86390 20 20 = true ∧
      (scheduled .parked).cfg.autorun = true ∧ (scheduled .parked).sys.ready = true) ∧
    (ordered (scheduled .parked).cfg ∧ 86390 < 86400 ∧
      ∀ e ∈ (scheduled .parked).cfg.timetable, e.time < 86400) ∧
    (takes (scheduled .parked) ∧ ∃ d p h, (scheduled .parked).cfg.routes.get 0 = some d ∧
      (((scheduled .parked).trains.get 0).state = .parked ∨
        ((scheduled .parked).trains.get 0).state = .dwelling) ∧ d.positions.head? = some p ∧
      ((scheduled .parked).trains.get 0).span.getLast? = some h ∧ h.sec = p.sec ∧
      (h.entry = p.entry ∨ ((scheduled .parked).trains.get 0).span.length = 1)) ∧
    ¬ (((scheduled .parked).trains.get 1).state = .parked ∨
      ((scheduled .parked).trains.get 1).state = .dwelling) := by
  refine ⟨by decide, ⟨by simp only [ordered]; decide, by decide⟩,
    ⟨⟨rfl, rfl, rfl⟩, _, _, _, rfl, .inl rfl, rfl, rfl, rfl, .inl rfl⟩, by decide⟩

theorem witness_ClockCommands_notices :
    (((withTrain { TrainRun.reset with state := .dwelling, dwell := 5 }).trains.get 0).state = .dwelling ∧
      ((withTrain { TrainRun.reset with state := .dwelling, dwell := 5 }).trains.get 0).dwell = 5 ∧
      4 < 5 ∧ ((trainIn .parked).trains.get 0).state ≠ .dwelling) ∧
    ((scheduled .parked).clock.noticed = 0 ∧ ((scheduled .parked).cfg.groups.get 0).kind = .switched ∧
      ((scheduled .parked).cfg.groups.get 1).kind = .dimmed) ∧
    (claimed.sky.compose = none ∧ claimed.matrix.ready = false ∧ ready.sky.compose ≠ none ∧
      pageReady.matrix.ready = true) := by decide

/-- Group 0 SWITCHED with threshold 1, hysteresis 1, warm-up 2, the ambient always `a`. -/
def switching (a : Nat) : Scene :=
  { switchedScene a with groups := Scene.empty.groups.set 0 ⟨.switched, .linear, 1, 1, 255, 2⟩ }

theorem witness_ComposeLevels_turns :
    (((switching 0).groups.get 0).kind = .switched ∧ skyValue (switching 0) .ambient 7 < 1) ∧
    (min 255 (1 + 1) < skyValue (switching 3) .ambient 7) ∧
    (¬ skyValue (switching 1) .ambient 7 < 1 ∧ ¬ min 255 (1 + 1) < skyValue (switching 2) .ambient 7) ∧
    (((switching 0).groups.get 1).kind = .dimmed ∧ ((switching 0).lamps.get 191).group = none) ∧
    (Scene.empty.lamps.set 191 ⟨some 0, 0⟩).get 191 = ⟨some 0, 0⟩ := by decide

theorem witness_PageExchange_others :
    (∃ t, exec .walkTimer pageReady = .next t) ∧ Instr.walkTimer ≠ .frameEnd := ⟨⟨_, rfl⟩, nofun⟩

theorem witness_HaltEnds_latch :
    halted.stopc.latch = true ∧ ∃ t, exec .resume halted = .next t ∧ t.stopc.latch = false :=
  ⟨rfl, _, rfl, by decide⟩

theorem witness_CrossingsWarn_others :
    (∃ t, exec .clockRun (crossing true ⟨.protectedBy, true, none, true⟩) = .next t ∧
      (t.crossings.get 0).state = .protectedBy) ∧ Instr.clockRun ≠ .leadTimer 0 ∧
    ((10 : LampId) ≠ 11 ∧ (track.sky.lamps.get 10).claim = none ∧ (track.sky.lamps.get 11).claim = none ∧
      claimed.sky.compose = none ∧ claimed.matrix.ready = false) :=
  ⟨⟨_, rfl, by decide⟩, nofun, by decide⟩

theorem witness_StopPoints_fixes :
    (onRoute.liesAhead 0 1 = true ∧ ∀ m, m < 0 → onRoute.liesAhead m 1 = false) ∧
    (∀ n, onRoute.liesAhead n 19 = false) ∧
    ((onRoute.path 0).tail[0]?.map PathElt.sec = some 1 ∧ (onRoute.trains.get 0).route = some (0, 0) ∧
      onRoute.cfg.routes.get 0 = some ⟨[⟨0, .a, none⟩, ⟨1, .a, some ⟨0, none⟩⟩], false⟩) := by decide

/-- Train 0 moves on route 0, which stops at mark 0 in section 0. -/
def toMark (pos speed : Nat) : State :=
  let s := withTrain { TrainRun.reset with
    state := .running, route := some (0, 0), headPos := pos, speed := speed, target := 2
    authority := some ⟨300, true⟩, powered := [⟨0, .a⟩] }
  s.withCfg { layout with routes := layout.routes.set 0 (some
    ⟨[⟨0, .a, some ⟨5, some 0⟩⟩, ⟨1, .a, some ⟨0, none⟩⟩], false⟩) }

theorem witness_StopPoints_marks :
    (((toMark 0 9).trains.get 0).moving = true ∧ (toMark 0 9).holds 0 0 = true ∧
      (toMark 0 9).holds 0 1 = true ∧ ((toMark 0 9).trains.get 0).span.getLast? = some ⟨0, .a⟩ ∧
      ∀ k, k < 0 → ((toMark 0 9).trains.get k).moving = true → (toMark 0 9).holds k 0 = false) ∧
    ((toMark 0 9).headStop 0 = some (some 0) ∧ (cabTrain .running 5).headStop 0 ≠ some (some 0)) ∧
    (∀ n, (track.trains.get n).moving = true → track.holds n 4 = false) ∧
    ((0 : Section) ≠ 1 ∧ (cabTrain .running 5).liesAhead 0 1 = true ∧
      (cabTrain .running 5).liesAhead 0 0 = false) ∧
    (⟨0, .a⟩ ∈ ((toMark 0 9).trains.get 0).powered ∧ (toMark 0 9).halt = false ∧
      ((toMark 0 9).channels.get (sectionChannel 0)).state ≠ .cut) := by decide

/-- Train 0 in CAB mode over turnout 0 to section 2, whose unit it does not hold, its head at `pos`. -/
def overPoints (pos : Nat) : State :=
  ((cabTrain .waiting 1).modTrain 0 fun x => { x with headPos := pos }).withDriver
    { ready.driver with points := ready.driver.points.set 0 (some .normal) }

/-- A path over turnout 0, within the walk's reach, and a train whose path passes no turnout. -/
theorem witness_PulsesAndRecovery_paths : (overPoints 3000).passesTurnout 0 0 = true ∧
    (overPoints 3000).passesTurnout 7 0 = false ∧ track.passesTurnout 0 5 = false := by decide

/-- Turnout 0 lies NORMAL: a line throw to NORMAL is in position, and one of a train that holds unit 1. -/
theorem witness_ThrowRequests_reports :
    ((overPoints 0).driver.points.get 0 = some .normal ∧ (overPoints 0).driver.queue = [] ∧
      (overPoints 0).cfg.turnouts.get 0 ≠ none ∧ (overPoints 0).governor 0 = some 0) ∧
    Origin.train 0 ≠ .line := by decide

/-- The path's clauses: no span; a route's stop at its index unserved and served; a CAB path that ends at a
turnout not lying, and one that ends at a buffer stop. -/
theorem witness_AuthorityStaysWithin_path :
    ((track.trains.get 5).span = [] ∧ ((trainIn .parked).trains.get 0).route = none) ∧
    (((toMark 0 9).trains.get 0).served = false ∧ ((toMark 0 9).trains.get 0).route = some (0, 0) ∧
      (toMark 0 9).cfg.routes.get 0 = some ⟨[⟨0, .a, some ⟨5, some 0⟩⟩, ⟨1, .a, some ⟨0, none⟩⟩], false⟩) ∧
    (∃ d, onRoute.cfg.routes.get 0 = some d ∧ (onRoute.trains.get 0).route = some (0, 0) ∧
      (∀ p, d.positions[0]? = some p → p.stop = none) ∧ (onRoute.trains.get 0).mode = .route) ∧
    ((cabTrain .waiting 1).path 0).getLast? = some ⟨1, .a, none, none⟩ ∧
    layout.link ⟨1, .b⟩ ≠ .buffer ∧
    ((overPoints 0).path 0).getLast? = some ⟨2, .a, some (0, .normal), some none⟩ ∧
    layout.link ⟨2, .b⟩ = .buffer := by
  refine ⟨?_, ?_, ⟨_, rfl, ?_⟩, ?_⟩ <;> decide

/-- Walks that end at the stop of a later section, and at a unit that is not held; powered sets that a section
joins, keeps and leaves. -/
theorem witness_AuthorityStaysWithin_walks :
    (onRoute.walk 0 true = ⟨12500, true, [⟨0, .a, none, none⟩, ⟨1, .a, none, some none⟩], []⟩ ∧
      onRoute.path 0 = [⟨0, .a, none, none⟩, ⟨1, .a, none, some none⟩]) ∧
    ((overPoints 3000).walk 0 true = ⟨10000, false, [⟨0, .a, none, none⟩, ⟨1, .a, none, none⟩],
      [⟨2, .a, some (0, .normal), some none⟩]⟩ ∧ (overPoints 3000).holds 0 2 = false ∧
      ⟨1, .a, none, none⟩ ∈ ((overPoints 3000).walk 0 false).within.tail) ∧
    ((track.trains.get 5).state = .unplaced ∧ ((trainIn .parked).trains.get 0).state ≠ .unplaced ∧
      (trainIn .parked).halt = false ∧ halted.halt = true) ∧
    (((trainIn .parked).trains.get 0).powered = [] ∧
      ⟨0, .a⟩ ∈ ((refreshAuthority 0 (trainIn .parked)).trains.get 0).powered ∧
      ((trainIn .parked).channels.get (sectionChannel 0)).state ≠ .cut) ∧
    (∃ s : State, s = (trainIn .parked).modTrain 0 (fun x => { x with powered := [⟨0, .a⟩, ⟨1, .a⟩] }) ∧
      (∀ e ∈ ((refreshAuthority 0 s).trains.get 0).powered, e.sec ≠ 1) ∧
      (s.channels.get (sectionChannel 1)).state ≠ .cut) :=
  ⟨by decide, by decide, by decide, by decide, _, rfl, by decide⟩

/-- The head's own stop: mark 0, 9000 tenths in, seen from 0 and from beyond it. -/
theorem witness_AuthorityStaysWithin_head :
    ((toMark 0 9).path 0 = [⟨0, .a, none, some (some 0)⟩] ∧ ((toMark 0 9).walk 0 true).dist = 9000) ∧
    ((toMark 9001 9).walk 0 true).dist = 0 := by decide

/-- Train 0, its head in section 1, has passed section 3 of a unit that it does not hold (R142, log 48). -/
def passed (st : TrainState) : State := (trainIn st).modTrain 0 fun x => { x with
  span := [⟨3, .b⟩, ⟨1, .a⟩], powered := [⟨3, .b⟩, ⟨1, .a⟩] }

/-- The mark clauses: a mark in the head section, ahead, in the span behind the head, in a held unit off the
path, and in none of them. -/
theorem witness_StopPoints_events :
    (((passed .running).trains.get 0).moving = true ∧
      ((passed .running).trains.get 0).span.getLast? = some ⟨1, .a⟩ ∧
      ∀ n h, ((passed .running).trains.get n).moving = true →
        ((passed .running).trains.get n).span.getLast? = some h → h.sec = 1) ∧
    ((∃ e ∈ ((passed .running).trains.get 0).span, e.sec = 3) ∧ (passed .running).holds 0 3 = false ∧
      (∀ n, (passed .running).liesAhead n 3 = false) ∧ (passed .running).holds 0 0 = true ∧
      (∀ n, (passed .running).liesAhead n 0 = false)) ∧
    ((∀ n, (passed .running).holds n 4 = false) ∧
      ∀ n, ∀ e ∈ ((passed .running).trains.get n).span, e.sec ≠ 4) ∧
    (∀ h, ((cabTrain .running 5).trains.get 0).span.getLast? = some h → h.sec ≠ 1) := by
  refine ⟨⟨by decide, by decide, ?_⟩, by decide, by decide, ?_⟩
  · intro n h hm hg
    match n with
    | 0 => cases hg; rfl
    | 1 => cases hg
    | 2 => cases hg
    | 3 => cases hg
    | 4 => cases hg
    | 5 => cases hg
  · intro h hg; cases hg; decide

/-- R143: a mark of section 3, in the span behind the head and in a unit not held, changes nothing. -/
theorem test_mark_behind : markEvent 7 3 100 (passed .running) = passed .running := rfl

/-- R129, R148: a lift sends duty 0 to section 3, which the train had passed without its unit. -/
theorem test_lift_passed : ∃ t, exec (.trainLift 0) (passed .parked) = .next t ∧
    (t.channels.get (sectionChannel 3)).staged = some ⟨0, .plus⟩ ∧ t.trains.get 0 = TrainRun.reset :=
  ⟨_, rfl, by decide⟩

theorem witness_PlacingAndLifting_passed : (passed .parked).halt = false ∧
    ((passed .parked).channels.get (sectionChannel 3)).state ≠ .cut ∧
    (∃ f ∈ ((passed .parked).trains.get 0).powered, f.sec = 3) ∧
    (∃ f ∈ ((passed .parked).trains.get 0).span, f.sec = 3) ∧ (passed .parked).holds 0 3 = false ∧
    ReservationsAgree (passed .parked) := by
  refine ⟨rfl, by decide, by decide, by decide, by decide, ?_, ?_, ?_, ?_, ?_, ?_, ?_⟩ <;> decide

/-- Train 0 in a state with an authority of `dist` and a wanted step from CAB or route 0. -/
def tested (x : TrainState) (c : Option StopCause) (m : Mode) (dist : Int) (atStop : Bool) : State :=
  withTrain { TrainRun.reset with
    state := x, mode := m, cabStep := 5, target := 5, cause := c, authority := some ⟨dist, atStop⟩
    route := match m with | .route => some (0, 0) | .cab => none }

/-- Power and the look-ahead: D(16) is 5 and v 10 at step 1, so the next unit is asked for below 5305 tenths. -/
theorem witness_RampTicks_ahead :
    ((trainIn .parked).holds 0 1 = true ∧ (∀ e ∈ ((toMark 0 9).trains.get 0).powered, e.sec ≠ 1) ∧
      (toMark 0 9).holds 0 1 = true ∧ (toMark 0 9).halt = false ∧ halted.halt = true ∧
      ((toMark 0 9).channels.get (sectionChannel 1)).state ≠ .cut ∧
      (toMark 0 9).holds 0 2 = false) ∧
    (((overPoints 7696).walk 0 false).dist = 5304 ∧ ((overPoints 7695).walk 0 false).dist = 5305 ∧
      stoppingDistance (TrainDef.empty 0) (16 * 1) + 5000 + 30 * ((TrainDef.empty 0).step 1).2 = 5305 ∧
      (overPoints 7696).wanted 0 = 1 ∧ ((overPoints 7696).trains.get 0).state = .waiting ∧
      ((overPoints 7696).trains.get 0).request = none ∧ ((overPoints 7696).trains.get 0).deadlock = false ∧
      ((overPoints 7696).walk 0 false).atStop = false ∧ (overPoints 7696).cfg.unitKey 2 = some 2) ∧
    ((cabTrain .waiting 1).walk 0 false).rest = [] := by decide

/-- R153: at 5304 tenths train 0 asks for unit 2 and is granted it; at 5305 it asks for nothing. -/
theorem test_look_ahead : ((lookAhead 0 (overPoints 7696)).units.get 2).holder = some 0 ∧
    ((lookAhead 0 (overPoints 7695)).units.get 2).holder = none := by decide

/-- Train 0 in CAB mode stops to turn about, and a CAB line without a turn has been taken since. -/
def takenBack (dist : Int) : State :=
  (tested .stopping (some .command) .cab dist false).modTrain 0 fun x => { x with
    pending := some .rev, cabSince := true }

/-- R156: such a train returns to RUNNING at its next test, the pending orientation kept; without the line it
goes on stopping, and at 300 tenths the braking test stops it. -/
theorem test_return_to_running :
    ((stateTest 0 (takenBack 301)).trains.get 0).state = .running ∧
    ((stateTest 0 (takenBack 301)).trains.get 0).pending = some .rev ∧
    ((stateTest 0 (takenBack 300)).trains.get 0).cause = some .authority ∧
    stateTest 0 (tested .stopping (some .command) .cab 301 false) =
      tested .stopping (some .command) .cab 301 false := ⟨by decide, by decide, by decide, rfl⟩

/-- 300 mm is the margin of the tests: at it they fail, above it they hold. -/
theorem witness_RampTicks_tests :
    (testDistance (TrainDef.empty 0) 0 = 300 ∧
      ((tested .waiting none .cab 301 true).trains.get 0).authority = some ⟨301, true⟩ ∧
      (tested .waiting none .cab 301 true).wanted 0 = 5) ∧
    ((tested .waiting none .route 300 false).wanted 0 = 12 ∧
      (tested .waiting none .route 300 false).headStop 0 = none ∧
      (toMark 0 9).headStop 0 ≠ none ∧ ((toMark 0 9).trains.get 0).mode = .route) ∧
    (((tested .running none .cab 300 false).trains.get 0).state = .running ∧
      (tested .running none .cab 300 false).nextStopMark 0 = none ∧
      (toMark 0 9).nextStopMark 0 = some 0) ∧
    (((tested .stopping (some .authority) .cab 301 false).trains.get 0).cause = some .authority ∧
      ((tested .stopping (some .command) .cab 301 false).trains.get 0).cause = some .command ∧
      ((tested .stopping (some .command) .cab 301 false).trains.get 0).cabSince = false ∧
      ((takenBack 301).trains.get 0).cabSince = true ∧
      ((tested .stopping (some .stop) .cab 301 false).trains.get 0).cause = some .stop) ∧
    (((tested .waiting none .cab 301 true).modTrain 0 fun x => { x with deadlock := true }).trains.get
      0).deadlock = true := by decide

/-- The head limit of section 0 is 13500 tenths; mark 0 lies 9000 tenths into it, and 2000 past it is missed. -/
theorem witness_RampTicks_checks :
    ((toMark 13501 9).cfg.lengthOf 0 = 900 ∧ 10 * 900 + max 2000 (5 * 900) = 13500 ∧
      ((toMark 13501 9).trains.get 0).moving = true ∧ ((toMark 13501 9).trains.get 0).headPos = 13501 ∧
      ((toMark 13500 9).trains.get 0).headPos = 13500) ∧
    ((toMark 11001 9).headStop 0 = some (some 0) ∧ layout.marks.get 0 = some ⟨0, 900, .stop⟩ ∧
      10 * 900 + 2000 < 11001 ∧ ¬ 10 * 900 + 2000 < 11000) ∧
    (((tested .stopping (some .command) .cab 301 false).trains.get 0).speed = 0 ∧
      (tested .stopping (some .command) .cab 301 false).headStop 0 = none ∧
      ((toMark 11000 9).trains.get 0).speed ≠ 0) := by decide

theorem witness_FindingAndResuming_faults :
    ((trainIn .dwelling).holds 0 1 = true ∧ ((trainIn .dwelling).trains.get 0).state ≠ .unplaced ∧
      (trainIn .dwelling).holds 0 2 = false ∧ (∀ m, ((trainIn .dwelling).trains.get m).request = none) ∧
      (trainIn .dwelling).halt = false ∧
      ((trainIn .dwelling).channels.get (sectionChannel 1)).state ≠ .cut) ∧
    (⟨0, .a⟩ ∈ ((toMark 0 9).trains.get 0).powered ∧ ((toMark 0 9).trains.get 0).request = none) ∧
    ((twoTrains true).trains.get 0).request = some 2 := by decide

theorem witness_DispatchLines_stops :
    (((toMark 0 0).trains.get 0).route = some (0, 0) ∧
      (toMark 0 0).cfg.routes.get 0 = some ⟨[⟨0, .a, some ⟨5, some 0⟩⟩, ⟨1, .a, some ⟨0, none⟩⟩], false⟩ ∧
      2 ≠ 0 + 1 ∧ 2 = 1 + 1) ∧
    (ringed.cfg.routes.get 0).map RouteDef.loop = some true ∧
    (((tested .stopping (some .command) .cab 301 false).modTrain 0 fun x =>
      { x with pending := some .rev }).trains.get 0).pending = some .rev ∧
    Orientation.rev ≠ ((tested .stopping (some .command) .cab 301 false).trains.get 0).orientation := by
  decide

theorem witness_LightQueries_ranges : 192 ≤ 192 ∧ 16 ≤ 191 ∧ 6 ≤ 191 ∧ ¬ timeOk ⟨0, 0, 60⟩ := by
  simp only [timeOk]; decide

theorem witness_DispatchLines_turns :
    (ReservationsAgree (trainIn .parked) ∧ ((trainIn .parked).trains.get 0).span.head? = some ⟨0, .a⟩ ∧
      ((trainIn .parked).units.get 1).holder = some 0 ∧ ((trainIn .parked).units.get 0).holder = some 0) ∧
    (∃ p d, layout.routes.get 0 = some d ∧ d.positions.head? = some p ∧ p.entry = .a ∧
      End.b ≠ p.entry ∧ [(⟨0, .b⟩ : SpanElt)].length = 1) :=
  ⟨⟨one_agrees, by decide⟩, _, _, rfl, rfl, rfl, by decide⟩

/-- The worked sequence "A cab reversal over a joint": from 2575 in section 5 behind section 4, both 2400 mm
long, a train of 400 mm turns to 1425 in section 4. -/
theorem test_cab_reversal :
    let c : Scene := { Scene.empty with sections :=
      (Scene.empty.sections.set 4 (some ⟨2400, .buffer, .join 5 .a⟩)).set 5 (some ⟨2400, .join 4 .b, .buffer⟩) }
    let t := turnSpan c { TrainDef.empty 3 with length := 400 }
      { TrainRun.reset with span := [⟨4, .a⟩, ⟨5, .a⟩], headPos := 2575 }
    t.span = [⟨5, .b⟩, ⟨4, .b⟩] ∧ t.headPos = 1425 ∧ t.orientation = .rev := by decide

/-- Log 35: a CAB line to a train in CAB mode, with and without a turnabout, and one to a train on a route. -/
theorem witness_CabDriving_requests :
    (((cabTrain .waiting 1).trains.get 0).mode = .cab ∧ ((trainIn .parked).trains.get 0).mode = .route ∧
      Orientation.rev ≠ ((cabTrain .waiting 1).trains.get 0).orientation) ∧
    takes (cabTrain .waiting 1) := ⟨by decide, rfl, rfl, rfl⟩

/-- R156: a CAB line that names the present orientation takes a stop back; one that turns the train does not. -/
theorem test_cab_since :
    (∃ t, exec (.trainCab 0 5 none) (takenBack 301) = .next t ∧ (t.trains.get 0).cabSince = true) ∧
    ∃ t, exec (.trainCab 0 5 (some .rev)) ((takenBack 301).modTrain 0 fun x => { x with speed := 9 }) =
      .next t ∧ (t.trains.get 0).cabSince = false := ⟨⟨_, rfl, by decide⟩, _, rfl, by decide⟩

/-! The invariants hold in states the part can reach, and a step answers a next state there. -/

theorem witness_StepsKeepReservations : ReservationsAgree (twoTrains true) ∧
    ∃ t, step ((twoTrains true).withPending [.rampTick 0]) = .next t := ⟨two_agree, _, rfl⟩

theorem witness_StepsKeepHalt : HaltHolds (halted.withAxes (halted.axes.map haltAxis)) ∧
    TrainsAtRest (halted.withAxes (halted.axes.map haltAxis)) ∧
    AxesAgree (halted.withAxes (halted.axes.map haltAxis)) ∧
    (halted.withAxes (halted.axes.map haltAxis)).halt = true ∧
    ∃ t, step ((halted.withAxes (halted.axes.map haltAxis)).withPending [.resume]) = .next t := by
  refine ⟨fun _ => ?_, ?_, ?_, rfl, _, rfl⟩
  · decide
  · unfold TrainsAtRest; decide
  · unfold AxesAgree; decide

/-- No train of `twoTrains` waits for a unit it holds: train 0 waits for train 1, which waits for none. -/
theorem two_no_cycle : NoWaitCycle (twoTrains true) := by
  have h0 : (twoTrains true).nextInChain 0 = some 1 := by decide
  have h1 : ∀ n, n ≠ 0 → (twoTrains true).nextInChain n = none := by decide
  have h2 : ∀ n k, waitsOn (twoTrains true) n (k + 1) = none := by
    intro n k
    induction k with
    | zero => revert n; decide
    | succ k ih => rw [waitsOn, ih]; rfl
  refine ⟨fun n k => ?_, by decide⟩
  cases k with
  | zero => revert n; decide
  | succ k => rw [h2]; simp

theorem witness_StepsCloseNoCircle : ReservationsAgree (twoTrains true) ∧ NoWaitCycle (twoTrains true) ∧
    ∃ t, step ((twoTrains true).withPending [.rampTick 1]) = .next t := ⟨two_agree, two_no_cycle, _, rfl⟩

theorem witness_StepsKeepCrossings : ReservationsAgree track ∧ CrossingsGuard track ∧
    LeadTimersRun (crossing true ⟨.warning, false, some 1, true⟩) ∧ LeadTimersRun track ∧
    ∃ t, step (track.withPending [.rampTick 0]) = .next t := by
  refine ⟨track_agrees.1, fun k => ?_, ?_, ?_, _, rfl⟩
  · match k with
    | 0 => exact fun h => absurd h (by decide)
    | 1 => rfl
  · unfold LeadTimersRun; decide
  · unfold LeadTimersRun; decide

theorem witness_StepsKeepDrives : DutyOnlyDriving ready ∧ ConverterLegal ready ∧ DriverLegal ready ∧
    HaltHolds ready ∧ TrainsAtRest ready ∧ AxesAgree ready ∧
    ∃ t, step (ready.withPending [.updateTick 0]) = .next t := by
  refine ⟨?_, ⟨?_, ?_, ?_⟩, ⟨?_, ?_, ?_⟩, ?_, ?_, ?_, _, rfl⟩
  · unfold DutyOnlyDriving; decide
  · decide
  · decide
  · decide
  · decide
  · decide
  · intro p h; exact nomatch h
  · intro h; exact nomatch h
  · unfold TrainsAtRest; decide
  · unfold AxesAgree; decide

theorem witness_StepsKeepBounds : ListsOrdered sixteenKeys ∧ ExchangeLegal ready ∧ ScaleInRange ready ∧
    ClockInRange toStart ∧ BellFollows ready ∧ ReportsBounded ready ∧ ThresholdsInRange ready ∧
    SavedAsRun saving ∧ ∃ t, step (ready.withPending [.budgetEvaluation]) = .next t := by
  refine ⟨sixteen_ordered, ?_, ?_, ?_, ?_, ?_, ?_, fun _ => rfl, _, rfl⟩
  · exact ⟨fun _ => rfl, fun h => nomatch h⟩
  · unfold ScaleInRange; decide
  · unfold ClockInRange sceneClockOk; decide
  · unfold BellFollows; decide
  · unfold ReportsBounded; decide
  · unfold ThresholdsInRange; decide

/-! ## Grants, stops and retries that ask for throws -/

/-- Train 0 on a route from section 0 over turnout 0 to section 2, whose position 0 has a stop of 0 s where `stops`
says so. -/
def overRoute (x : TrainRun) (stops : Bool) : State :=
  (withTrain { x with route := some (0, 0) }).withCfg { layout with routes := layout.routes.set 0 (some
    ⟨[⟨0, .a, if stops then some ⟨0, none⟩ else none⟩, ⟨1, .a, none⟩, ⟨2, .a, some ⟨0, none⟩⟩], false⟩) }

/-- That train waits, refused as a deadlock, and may ask again. -/
def retrying : State := overRoute { TrainRun.reset with state := .waiting, deadlock := true, retry := true } false

/-- Turnout 0 is first used at place 1 of the path ahead, and unit 1 governs it; in CAB mode no throw is asked. -/
theorem witness_RequestsResolve_throws :
    ((retrying.trains.get 0).mode = .route ∧ ((cabTrain .waiting 1).trains.get 0).mode = .cab) ∧
    ((retrying.path 0).tail.map PathElt.via = [none, some (0, .normal)] ∧
      (retrying.cfg.turnouts.get 0).map (fun d => retrying.cfg.unitKey d.trunk.sec) = some (some 1)) ∧
    (((twoTrains true).trains.get 0).request = some 2 ∧ (retrying.trains.get 0).request = none ∧
      (twoTrains true).chainReaches 1 6 (some 0) = true ∧ waitsOn (twoTrains true) 0 0 = some 1) ∧
    ((track.cfg.crossings.get 0).map (fun d => track.cfg.unitKey d.sec) = some (some 2) ∧
      track.cfg.crossings.get 1 = none) := by decide

/-- A grant of unit 1 asks for the throw of turnout 0 and one of unit 3 for none (R117, R122). -/
theorem test_grant_asks :
    (grant false 0 1 retrying).driver.pulse.map Pulse.entry = some ⟨0, .normal, .train 0⟩ ∧
    (grant false 0 3 retrying).driver.pulse = none := by decide

/-- The retry asks again, and clears both marks (R135). -/
theorem test_retry_asks : (retryStep 0 retrying).driver.pulse.map Pulse.entry = some ⟨0, .normal, .train 0⟩ ∧
    ((retryStep 0 retrying).trains.get 0).deadlock = false ∧
    ((retryStep 0 retrying).trains.get 0).retry = false := by decide

theorem witness_RampTicks_retry :
    ((retrying.trains.get 0).deadlock = true ∧ (retrying.trains.get 0).retry = true) ∧
    ((trainIn .waiting).trains.get 0).deadlock = false ∧
    ((tested .waiting none .route 300 false).trains.get 0).mode = .route := by decide

/-- The stop at position 0, of 0 s, and the one at the last position, where the route ends. -/
theorem witness_DispatchLines_dwells :
    (((overRoute TrainRun.reset true).cfg.routes.get 0).bind fun d => d.positions[0]?.bind RoutePos.stop)
      = some ⟨0, none⟩ ∧
    (((overRoute TrainRun.reset true).trains.get 0).route = some (0, 0) ∧ 3 ≠ 0 + 1 ∧ 3 = 2 + 1) ∧
    ((toMark 0 0).cfg.routes.get 0).bind (fun d => d.positions[0]?.bind RoutePos.stop) = some ⟨5, some 0⟩ := by
  decide

/-- A stop of 0 s is over at once: the dwell left becomes 0 and the throws are asked for (R141). -/
theorem test_stop_of_0 :
    let t := serveStop 0 (overRoute { TrainRun.reset with state := .stopping, dwell := 9 } true)
    (t.trains.get 0).state = .waiting ∧ (t.trains.get 0).dwell = 0 ∧
    t.driver.pulse.map Pulse.entry = some ⟨0, .normal, .train 0⟩ := by decide

theorem witness_ReleasesHandOn_withdrawals :
    ((twoTrains true).trains.get 0).request = some 2 ∧ ((twoTrains true).trains.get 1).request = none ∧
    ((twoTrains true).units.get 2).waiting = 0 :: [] ∧ ((twoTrains false).units.get 2).waiting = [] := by decide

/-! ## The converter at a halt, crossings, and what a device reset leaves -/

/-- Train 0 runs with a turnabout pending; channels 0 and 1 have a request, a held value and a sample, and
channel 1 is CUT. -/
def haltable : State :=
  let s := (trainIn .running).modTrain 0 fun x => { x with pending := some .rev }
  (s.withChannels (s.channels.modify 1 fun ch => { ch with state := .cut })).withSense { s.sense with
    inflight := some ⟨⟨0, false⟩, 99⟩, queue := [⟨0, false⟩, ⟨1, false⟩]
    held := (s.sense.held.set 0 (some 9)).set 1 (some 8)
    slots := (s.sense.slots.set 0 (some 7)).set 1 (some 6) }

theorem witness_HaltComesIntoForce_converter :
    haltable.halt = false ∧ runs haltable ∧ takes haltable ∧ (haltable.channels.get 1).state = .cut ∧
    (haltable.channels.get 0).state ≠ .cut ∧ (haltable.trains.get 0).moving = true ∧
    (haltable.trains.get 0).pending ≠ none ∧ ∀ m, m ≠ 0 → (haltable.trains.get m).pending = none := by
  simp only [takes, runs]; decide

/-- The halt removes the request and the held value of channel 0, makes its sample 0, leaves those of channel 1
and the conversion in flight, and turns train 0 about (R75, R79, R146). -/
theorem test_halt_converter : ∃ t, exec .stopLineAssert haltable = .next t ∧ t.sense.queue = [⟨1, false⟩] ∧
    t.sense.held.get 0 = none ∧ t.sense.slots.get 0 = some 0 ∧ t.sense.slots.get 1 = some 6 ∧
    t.sense.inflight = some ⟨⟨0, false⟩, 99⟩ ∧ (t.trains.get 0).state = .halted ∧
    (t.trains.get 0).span = [⟨0, .b⟩] := ⟨_, rfl, by decide⟩

theorem witness_CrossingsWarn_notices :
    (track.cfg.unitKey 2 = some 2 ∧ (track.units.get 2).holder = none ∧
      ((crossing true ⟨.warning, false, some 1, true⟩).units.get 2).holder = some 0 ∧
      ((crossing true ⟨.warning, false, some 1, true⟩).crossings.get 0).leadTimer ≠ none) ∧
    { layout with sections := layout.sections.set 2 none }.unitKey 2 = none := by decide

/-- Group 0 SWITCHED with lamp 191 in it, stored. -/
def switchedStore : State := ready.withStore
  ⟨{ switchedScene 0 with lamps := Scene.empty.lamps.set 191 ⟨some 0, 0⟩ }, .valid⟩

theorem witness_DeviceResets_groups :
    ThresholdsInRange switchedStore ∧ (switchedStore.store.image.groups.get 0).kind = .switched ∧
    (switchedStore.store.image.lamps.get 191).group = some 0 ∧
    (switchedStore.store.image.lamps.get 190).group = none := by
  refine ⟨?_, by decide⟩; unfold ThresholdsInRange; decide

/-- A device reset settles the group at its start time, DARK, with its lamp frozen at the on-level (R25). -/
theorem test_reset_settles :
    (deviceReset ready.sys.pins switchedStore).sky.groups.get 0 = ⟨.dark, 0, true⟩ ∧
    ((deviceReset ready.sys.pins switchedStore).sky.lamps.get 191).frozen = 255 := by decide

/-- KEY G NONE on a keyframe without the pair, and the bounds of a written time and of the inputs. -/
theorem witness_KeyLinesEditTheList_no_pair :
    (∃ k ∈ sixteenKeys.cfg.keyframes, ∀ v, ((3 : GroupId), v) ∉ k.pairs) ∧
    (23 ≤ 23 ∧ 59 ≤ 59 ∧ 0 < 1) ∧ ((15 : InputId).val = (15 : MarkId).val ∧ (19 : InputId).val = 16 + 3) :=
  ⟨⟨_, .head _, by simp⟩, by decide⟩

/-- Sections in and out of runs, an end that is set, a loop, the last speed table entry and a window beyond 7. -/
theorem witness_definitions :
    (layout.runOf 6 = some 1 ∧ layout.runOf 0 = none ∧ layout.defined 19 = false ∧ layout.defined 7 = true) ∧
    (layout.turnouts.get 0 ≠ none ∧ layout.turnouts.get 7 = none) ∧
    ((31 : Fin 32).val = min 32 31 ∧ 7 < 8 ∧ retrying.path 0 ≠ [] ∧ track.path 5 = []) := by decide

/-! ## Single steps from the spec's worked sequences -/

/-- "Starting the carousel" (chapter 9): index 12775 after 10900 at target 400, duty 150, gain 32, max
duty 220 makes duty 160 and 320 tenths of a turn a minute; the first index runs it and measures nothing. -/
theorem test_carousel :
    let d : AxisDef := { AxisDef.empty with kick := 150, maxDuty := 220, gain := 32, slew := 600 }
    let a : AxisRun := { AxisRun.reset 400 false with state := .starting, target := 400, duty := 150, stallTimer := some 5000 }
    (indexAxis d 0 10900 a).state = .running ∧ (indexAxis d 0 10900 a).duty = 150 ∧
    (indexAxis d 0 10900 a).measured = 0 ∧
    (indexAxis d 0 12775 (indexAxis d 0 10900 a)).duty = 160 ∧
    (indexAxis d 0 12775 (indexAxis d 0 10900 a)).measured = 320 := by decide

/-- The first update tick of "Starting the carousel": target 60, kicked. -/
theorem test_carousel_start :
    let d : AxisDef := { AxisDef.empty with kick := 150, slew := 600 }
    let a := startOrStop d (slewAxis d 400 (AxisRun.reset 400 false))
    a.target = 60 ∧ a.state = .starting ∧ a.duty = 150 ∧ a.stallTimer = some 5000 := by decide

/-- Evaluation 5 of "a crowded evening": over-count 2, motion 3420, total 4220, so the departures are held. -/
theorem test_departures_held :
    ((Account.retest ⟨64, 64, .axesLimited, 2, 0, 3420, 0, 3200, 4220⟩ 4000).level = .departuresHeld) ∧
    (Account.retest ⟨64, 64, .axesLimited, 0, 0, 3500, 0, 3200, 4300⟩ 4000).overCount = 1 := by decide

/-- Chapter 6: an end that is a turnout leg is not joined, `NO CONFLICT`. -/
theorem test_join_leg : (takeCommand (.sectionJoin 1 .b ⟨4, .a⟩) track).2 = .no .conflict := by decide

/-- R57's on-time table at N = 64: duties 0, 3, 128, 255 give 1, 1, 32, 63 with the sense switch. -/
theorem test_on_time : ([0, 3, 128, 255].map fun d =>
    (match exec (.periodEnd 23) (withChannel (channel .off ⟨0, .plus⟩ (some ⟨d, .plus⟩))) with
      | .next t => (t.channels.get 23).onTime
      | .fault _ => 0
      | .refused _ => 0)) = [1, 1, 32, 63] := by decide

/-- `BRIGHT 20` is answered `OK CLAMPED` and brightness is 16 (R33). -/
theorem test_bright_line :
    (takeCommand (.bright 20) ready).2 = .clamped ∧ (takeCommand (.bright 20) ready).1.cfg.brightness = 16 := by
  decide

/-- The clock of the next device reset starts at a start time that was not saved, and the configuration is
as loaded (R8, R12; log 43). -/
theorem test_start_time : ∃ t, exec (.clockStart ⟨0, 0, 9⟩) ready = .next t ∧ t.nextStart = some 9 ∧
    t.store.state = .invalid ∧ (deviceReset ready.sys.pins t).clock.time = 9 ∧
    (deviceReset ready.sys.pins t).cfg.startTime = 0 ∧
    (deviceReset ready.sys.pins (deviceReset ready.sys.pins t)).clock.time = 0 := ⟨_, rfl, by decide⟩

/-- A reset that ends an RST hold reads STOP as it stands then (R65). -/
theorem test_stop_pin_at_reset : ∃ t u, exec (.stopLineSample true) held = .next t ∧
    t.stopc.latch = false ∧ exec (.rstSample false) t = .next u ∧ u.halt = true :=
  ⟨_, _, rfl, rfl, rfl, by decide⟩

/-- `ROUTE 0 STOP 2 FOO` names a position beyond the route: `RANGE` comes first (R150; log 15). -/
theorem test_unknown_keyword : (unknownKeyword (.routeStopNone 0 2) track).2 = .no .range ∧
    (unknownKeyword (.routeStopNone 0 1) track).2 = .no .unknown ∧
    (unknownKeyword (.routeStop 0 2 10 (some 4)) track).2 = .no .range := by decide

/-- From idle the first of two claims starts the compose and the second sets pending (R30, R36). -/
theorem test_two_claims :
    let s := (crossing true ⟨.idle, false, none, false⟩).withSky claimed.sky
    let t := crossingAct (s.withSky { s.sky with lamps := track.sky.lamps }) 0
    t.sky.compose ≠ none ∧ t.matrix.pending = true ∧ (t.sky.lamps.get 11).claim = some 0 := by decide

/-- A refused request shows DEADLOCK in a WAITING train at once (R116). -/
theorem test_deadlock_reason :
    (((requestUnit 1 0 ((twoTrains true).modTrain 1 fun x => { x with state := .waiting })).trains.get 1).reason)
      = some .deadlock := by decide

/-- R40: column 6 is on from the start of its lamp's slot for its level, in 255ths of the slot. -/
theorem test_column_on :
    let s := ready.withMatrix { ready.matrix with
      shown := ⟨Table.replicate 192 51, Table.replicate 6 0⟩, frameDivider := 1 }
    (columnOn s 1 6 0 = true ∧ columnOn s 1 6 50 = true ∧ columnOn s 1 6 51 = false) := by decide

/-- Before `#READY` a line is answered `NO START` (R184). -/
theorem test_start : exec .stop State.reset = replies State.reset (.no .start) := rfl
end Sys2Proof.Tests
end

section
/-! SUPPORT. Interpolation (R17, R18): the keyframe sequence of a channel, the places of keyframes A and B in
it, and the value between them. -/

namespace Sys2Proof.Proofs.Interpolation

open Sys2Proof Sys2Proof.Machine

/-! ## The keyframe sequence of a channel -/

/-- A channel that every keyframe has a value for runs over the whole keyframe list. -/
theorem keySequence_eq_map {c : SkyChannel} {f : Keyframe → Nat} (hf : ∀ k, keyframeValue k c = some (f k))
    (ks : List Keyframe) : keySequence ks c = ks.map fun k => ⟨k.time, f k, k.tr⟩ := by
  simp only [keySequence, hf, Option.map_some, List.filterMap_eq_map']

theorem keySequence_group (ks : List Keyframe) (g : GroupId) :
    keySequence ks (.group g) =
      ks.filterMap fun k => (k.pairs.find? fun p => p.1 = g).map fun p => ⟨k.time, p.2, k.tr⟩ := by
  simp only [keySequence, keyframeValue, pairLevel, Option.map_map]
  rfl

/-- A channel's sequence is in time order, as the keyframe list is. -/
theorem keySequence_pairwise {ks : List Keyframe} (hks : ks.Pairwise fun x y => x.time < y.time)
    (c : SkyChannel) : (keySequence ks c).Pairwise fun x y => x.time < y.time := by
  refine hks.filterMap _ fun x y hxy p hp q hq => ?_
  obtain ⟨v, -, rfl⟩ := Option.map_eq_some_iff.mp hp
  obtain ⟨w, -, rfl⟩ := Option.map_eq_some_iff.mp hq
  exact hxy

/-! ## Keyframes A and B (R17) -/

/-- Keyframe A of a sequence at time `t` is `a`, at place `i`: the last not after `t`, or the last of all
where every one lies after `t`. -/
def StandsAt (seq : List KeyPoint) (t i : Nat) (a : KeyPoint) : Prop :=
  seq[i]? = some a ∧
    ((a.time ≤ t ∧ ∀ k ∈ seq, k.time ≤ t → k.time ≤ a.time) ∨
      ((∀ k ∈ seq, t < k.time) ∧ i + 1 = seq.length))

/-- A sequence cut at time `t` and turned so that the part after `t` comes first: A is its last keyframe and
B its first. -/
theorem keyPair_append {before after : List KeyPoint} {t : Nat} {a b : KeyPoint}
    (hlen : 2 ≤ (before ++ after).length) (hbefore : ∀ k ∈ before, k.time ≤ t)
    (hafter : ∀ k ∈ after, t < k.time) (hA : (after ++ before).getLast? = some a)
    (hB : (after ++ before).head? = some b) : keyPair (before ++ after) t = some (a, some b) := by
  have hpast : (before ++ after).filter (fun k => k.time ≤ t) = before := by
    rw [List.filter_append, List.filter_eq_self.mpr (by simpa using hbefore),
      List.filter_eq_nil_iff.mpr (by simpa using hafter), List.append_nil]
  have hfuture : (before ++ after).filter (fun k => t < k.time) = after := by
    rw [List.filter_append, List.filter_eq_nil_iff.mpr (by simpa using hbefore),
      List.filter_eq_self.mpr (by simpa using hafter), List.nil_append]
  match hseq : before ++ after with
  | [] | [_] => simp [hseq] at hlen
  | first :: second :: rest =>
    rw [hseq] at hpast hfuture
    simp only [keyPair, hpast, hfuture]
    cases before with
    | nil =>
      obtain rfl : after = first :: second :: rest := hseq
      simp_all
    | cons p ps =>
      have hlast : (p :: ps).getLast? = some a := by simpa [List.getLast?_append] using hA
      cases after with
      | nil => simp_all
      | cons q qs => simp_all

/-- Places in a sequence in time order are ordered as their times. -/
theorem time_lt_of_lt {seq : List KeyPoint} (hord : seq.Pairwise fun x y => x.time < y.time) {i j : Nat}
    {x y : KeyPoint} (hi : seq[i]? = some x) (hj : seq[j]? = some y) (hij : i < j) : x.time < y.time := by
  obtain ⟨hilt, rfl⟩ := List.getElem?_eq_some_iff.mp hi
  obtain ⟨hjlt, rfl⟩ := List.getElem?_eq_some_iff.mp hj
  exact List.pairwise_iff_getElem.mp hord i j hilt hjlt hij

/-- What R17 chooses in a sequence of two keyframes or more: A, and the keyframe that follows it, or the
first. -/
theorem keyPair_eq_of_standsAt {seq : List KeyPoint} {t i : Nat} {a b : KeyPoint}
    (hord : seq.Pairwise fun x y => x.time < y.time) (hlen : 2 ≤ seq.length) (hA : StandsAt seq t i a)
    (hB : seq[(i + 1) % seq.length]? = some b) : keyPair seq t = some (a, some b) := by
  obtain ⟨hi, hcut⟩ := hA
  have hilt : i < seq.length := (List.getElem?_eq_some_iff.mp hi).1
  have hlast : (seq.rotate (i + 1)).getLast? = some a := by
    rw [List.getLast?_eq_getElem?, List.length_rotate, List.getElem?_rotate (by omega),
      show seq.length - 1 + (i + 1) = i + seq.length by omega, Nat.add_mod_right, Nat.mod_eq_of_lt hilt, hi]
  have hfirst : (seq.rotate (i + 1)).head? = some b := by
    rw [List.head?_eq_getElem?, List.getElem?_rotate (by omega), Nat.zero_add, hB]
  rcases hcut with ⟨hat, hmax⟩ | ⟨hall, hend⟩
  · rw [List.rotate_eq_drop_append_take hilt] at hlast hfirst
    have hbefore : ∀ k ∈ seq.take (i + 1), k.time ≤ t := by
      intro k hk
      obtain ⟨j, hj⟩ := List.mem_iff_getElem?.mp hk
      obtain ⟨hji, hj⟩ : j < i + 1 ∧ seq[j]? = some k := by simpa [List.getElem?_take] using hj
      rcases Nat.lt_succ_iff_lt_or_eq.mp hji with hlt | rfl
      · have := time_lt_of_lt hord hj hi hlt
        omega
      · simp_all
    have hafter : ∀ k ∈ seq.drop (i + 1), t < k.time := by
      intro k hk
      obtain ⟨j, hj⟩ := List.mem_iff_getElem?.mp hk
      rw [List.getElem?_drop] at hj
      have := time_lt_of_lt hord hi hj (by omega)
      have := hmax k (List.mem_of_mem_drop hk)
      omega
    simpa using keyPair_append (by simpa using hlen) hbefore hafter hlast hfirst
  · rw [hend, List.rotate_length] at hlast hfirst
    exact keyPair_append (before := []) hlen (by simp) hall (by simpa using hlast) (by simpa using hfirst)

/-- Some keyframe of a sequence that is not empty is A. -/
theorem exists_standsAt {seq : List KeyPoint} (hne : seq ≠ []) (t : Nat) : ∃ i a, StandsAt seq t i a := by
  by_cases hall : ∀ k ∈ seq, t < k.time
  · have hpos := List.length_pos_of_ne_nil hne
    exact ⟨seq.length - 1, seq[seq.length - 1], List.getElem?_eq_getElem _, .inr ⟨hall, by omega⟩⟩
  · push Not at hall
    obtain ⟨k, hk, hkt⟩ := hall
    obtain ⟨a, ha, hmax⟩ := (seq.toFinset.filter fun k => k.time ≤ t).exists_max_image KeyPoint.time
      ⟨k, by simp [hk, hkt]⟩
    simp only [Finset.mem_filter, List.mem_toFinset] at ha hmax
    obtain ⟨i, hi⟩ := List.mem_iff_getElem?.mp ha.1
    exact ⟨i, a, hi, .inl ⟨ha.2, fun k hk hkt => hmax k ⟨hk, hkt⟩⟩⟩

/-- A B is chosen only in a sequence of two keyframes or more. -/
theorem two_le_length_of_keyPair {seq : List KeyPoint} {t : Nat} {a b : KeyPoint}
    (h : keyPair seq t = some (a, some b)) : 2 ≤ seq.length := by
  match seq with
  | [] | [_] => simp [keyPair] at h
  | _ :: _ :: _ => simp

/-- A and B, where they are chosen, stand one after the other in the sequence, the first after the last. -/
theorem exists_standsAt_of_keyPair {seq : List KeyPoint} {t : Nat} {a b : KeyPoint}
    (hord : seq.Pairwise fun x y => x.time < y.time) (h : keyPair seq t = some (a, some b)) :
    ∃ i, StandsAt seq t i a ∧ seq[(i + 1) % seq.length]? = some b := by
  have hlen := two_le_length_of_keyPair h
  obtain ⟨i, x, hx⟩ := exists_standsAt (List.ne_nil_of_length_pos (l := seq) (by omega)) t
  have hy := List.getElem?_eq_getElem (Nat.mod_lt (i + 1) (show 0 < seq.length by omega))
  have hxy := keyPair_eq_of_standsAt hord hlen hx hy
  simp only [h, Option.some.injEq, Prod.mk.injEq] at hxy
  obtain ⟨rfl, rfl⟩ := hxy
  exact ⟨i, hx, hy⟩

/-- Round the day from A, time `t` comes before B: between the two, or past midnight with them. -/
theorem time_order_of_standsAt {seq : List KeyPoint} {t i : Nat} {a b : KeyPoint}
    (hord : seq.Pairwise fun x y => x.time < y.time) (hlen : 2 ≤ seq.length) (hA : StandsAt seq t i a)
    (hB : seq[(i + 1) % seq.length]? = some b) :
    (a.time ≤ t ∧ t < b.time) ∨ (b.time < a.time ∧ (a.time ≤ t ∨ t < b.time)) := by
  obtain ⟨hi, hcut⟩ := hA
  have hb := List.mem_of_getElem? hB
  have hilt : i < seq.length := (List.getElem?_eq_some_iff.mp hi).1
  rcases Nat.lt_or_ge (i + 1) seq.length with hnext | hend
  · rw [Nat.mod_eq_of_lt hnext] at hB
    have hab := time_lt_of_lt hord hi hB (by omega)
    rcases hcut with ⟨hat, hmax⟩ | ⟨-, hend⟩
    · have := hmax b hb
      omega
    · omega
  · rw [show i + 1 = seq.length by omega, Nat.mod_self] at hB
    have hba := time_lt_of_lt hord hB hi (by omega)
    rcases hcut with ⟨hat, -⟩ | ⟨hall, -⟩
    · exact .inr ⟨hba, .inl hat⟩
    · exact .inr ⟨hba, .inr (hall b hb)⟩

/-- At B's own time B is the new A (R18). -/
theorem keyPair_at_own_time {seq : List KeyPoint} {b : KeyPoint}
    (hord : seq.Pairwise fun x y => x.time < y.time) (hlen : 2 ≤ seq.length) (hb : b ∈ seq) :
    ∃ c, keyPair seq b.time = some (b, some c) := by
  obtain ⟨j, hj⟩ := List.mem_iff_getElem?.mp hb
  exact ⟨_, keyPair_eq_of_standsAt hord hlen ⟨hj, .inl ⟨le_rfl, fun _ _ h => h⟩⟩
    (List.getElem?_eq_getElem (Nat.mod_lt _ (by omega)))⟩

/-! ## The value between A and B (R18) -/

theorem between_step {a b : KeyPoint} (h : a.tr = .step) (t : Nat) : between a b t = a.value := by
  simp only [between, h]

theorem between_linear {a b : KeyPoint} (h : a.tr = .linear) (t : Nat) :
    between a b t =
      (a.value * (dayDiff b.time a.time - dayDiff t a.time) + b.value * dayDiff t a.time +
        dayDiff b.time a.time / 2) / dayDiff b.time a.time := by
  simp only [between, h]

/-- A weighted mean rounded half up lies between the two values. -/
theorem roundedMean_mem_Icc (x y : Nat) {e n : Nat} (he : e < n) :
    (x * (n - e) + y * e + n / 2) / n ∈ Set.Icc (min x y) (max x y) := by
  have hlow : min x y * n ≤ x * (n - e) + y * e :=
    calc min x y * n = min x y * (n - e) + min x y * e := by rw [← Nat.mul_add, Nat.sub_add_cancel he.le]
      _ ≤ x * (n - e) + y * e := by gcongr <;> simp
  have hhigh : x * (n - e) + y * e ≤ max x y * n :=
    calc x * (n - e) + y * e ≤ max x y * (n - e) + max x y * e := by gcongr <;> simp
      _ = max x y * n := by rw [← Nat.mul_add, Nat.sub_add_cancel he.le]
  constructor
  · rw [Nat.le_div_iff_mul_le (by omega)]
    omega
  · rw [← Nat.lt_succ_iff, Nat.div_lt_iff_lt_mul (by omega), Nat.succ_mul]
    omega

/-- With no time gone since A, the rounded mean is A's value. -/
theorem roundedMean_zero (x y : Nat) {n : Nat} (hn : 0 < n) : (x * (n - 0) + y * 0 + n / 2) / n = x := by
  rw [Nat.sub_zero, Nat.mul_zero, Nat.add_zero, Nat.mul_comm, Nat.mul_add_div hn,
    Nat.div_eq_of_lt (Nat.div_lt_self hn (by omega)), Nat.add_zero]

/-- The sum of R18 for levels of at most 255 and a span below a day. -/
theorem interpolationSum_le {x y e n : Nat} (hx : x ≤ 255) (hy : y ≤ 255) (he : e < n) (hn : n ≤ 86399) :
    x * (n - e) + y * e + n / 2 ≤ 255 * 86399 + 43199 := by
  have : x * (n - e) + y * e ≤ 255 * (n - e) + 255 * e := by gcongr
  omega

theorem between_mem_Icc {a b : KeyPoint} {t : Nat} (h : dayDiff t a.time < dayDiff b.time a.time) :
    between a b t ∈ Set.Icc (min a.value b.value) (max a.value b.value) := by
  cases htr : a.tr with
  | step => simp [between_step htr]
  | linear =>
    rw [between_linear htr]
    exact roundedMean_mem_Icc _ _ h

/-- At A's own time the value is A's. -/
theorem between_eq_left {a b : KeyPoint} {t : Nat} (hspan : 0 < dayDiff b.time a.time)
    (h : dayDiff t a.time = 0) : between a b t = a.value := by
  cases htr : a.tr with
  | step => exact between_step htr t
  | linear =>
    rw [between_linear htr, h]
    exact roundedMean_zero _ _ hspan

/-- Less time has gone since A than there is from A to B. -/
theorem elapsed_lt_span {seq : List KeyPoint} {t i : Nat} {a b : KeyPoint}
    (hord : seq.Pairwise fun x y => x.time < y.time) (hday : ∀ k ∈ seq, k.time < 86400) (ht : t < 86400)
    (hlen : 2 ≤ seq.length) (hA : StandsAt seq t i a) (hB : seq[(i + 1) % seq.length]? = some b) :
    dayDiff t a.time < dayDiff b.time a.time := by
  have ha := hday a (List.mem_of_getElem? hA.1)
  have hb := hday b (List.mem_of_getElem? hB)
  have horder := time_order_of_standsAt hord hlen hA hB
  simp only [dayDiff, Config.daySeconds]
  omega

/-! ## The value of a channel -/

theorem skyValue_of_empty {c : Scene} {ch : SkyChannel} (h : keySequence c.keyframes ch = []) (t : Nat) :
    skyValue c ch t = if ch = .ambient then 255 else 0 := by
  simp only [skyValue, h, keyPair]
  cases ch <;> simp [emptyValue]

theorem skyValue_of_single {c : Scene} {ch : SkyChannel} {a : KeyPoint}
    (h : keySequence c.keyframes ch = [a]) (t : Nat) : skyValue c ch t = a.value := by
  simp only [skyValue, h, keyPair]

theorem skyValue_of_keyPair {c : Scene} {ch : SkyChannel} {t : Nat} {a b : KeyPoint}
    (h : keyPair (keySequence c.keyframes ch) t = some (a, some b)) : skyValue c ch t = between a b t := by
  simp only [skyValue, h]

/-- Settles O6: a channel's sequence by its cases; A and B by their places in the sequence, so that time
elapsed since A stays below the span to B; the value as a rounded mean with those weights. -/
theorem interpolationLiesBetween : Obligations.InterpolationLiesBetween := by
  unfold Obligations.InterpolationLiesBetween
  refine ⟨fun ks g => ⟨?red, ?green, ?blue, ?ambient, keySequence_group ks g⟩, ?choice, ?value⟩
  case red | green | blue | ambient => exact keySequence_eq_map (fun _ => rfl) ks
  case choice =>
    rintro c ch t seq rfl hks
    refine ⟨fun h => skyValue_of_empty h t, fun a h => skyValue_of_single h t, ?_⟩
    intro i a b hi hB hlen hcut
    have hpair := keyPair_eq_of_standsAt (keySequence_pairwise hks ch) hlen ⟨hi, hcut⟩ hB
    exact ⟨hpair, skyValue_of_keyPair hpair⟩
  case value =>
    rintro seq t a b span elapsed hord hday ht hpair rfl rfl
    have hlen := two_le_length_of_keyPair hpair
    obtain ⟨i, hA, hB⟩ := exists_standsAt_of_keyPair hord hpair
    have hlt := elapsed_lt_span hord hday ht hlen hA hB
    have hspan : 0 < dayDiff b.time a.time := by omega
    have hb := List.mem_of_getElem? hB
    obtain ⟨hlow, hhigh⟩ := between_mem_Icc hlt
    exact ⟨List.mem_of_getElem? hA.1, hb, hspan, hlt, hlow, hhigh, between_eq_left hspan,
      fun h => between_step h t, fun h => between_linear h t,
      fun ha hb => interpolationSum_le ha hb hlt (Nat.le_pred_of_lt (Nat.mod_lt _ (by decide))),
      keyPair_at_own_time hord hlen hb⟩

end Sys2Proof.Proofs.Interpolation
end

section
/-! SUPPORT. Scale speed, duty and stopping distance (R133, R134): the step from a table entry to the next,
and the ramp down to 0 at the train's decel. -/

namespace Sys2Proof.Proofs.Motion

open Sys2Proof Sys2Proof.Machine

/-! ## The speed table (R131, R133) -/

/-- An entry past the last reads as the last. -/
theorem step_eq_get (d : TrainDef) {i : Nat} {k : Fin 32} (hk : k.val = min i 31) :
    d.step i = d.table.get k := by
  have hlen : min i 31 < d.table.data.length := by rw [← hk, d.table.len]; exact k.isLt
  simp only [TrainDef.step, Table.get, hk, List.getD_eq_getElem _ _ hlen]

/-! ## Between two entries (R133) -/

/-- Sixteenths of a difference, taken toward zero, stay between zero and the difference, also with a
term below 16 added for rounding. -/
theorem tdiv_sixteen_between (g : Int) {f r : Nat} (hf : f < 16) (hr : r < 16) :
    min 0 g ≤ (g * f + r).tdiv 16 ∧ (g * f + r).tdiv 16 ≤ max 0 g := by
  have hf' : (f : Int) ≤ 15 := by omega
  rcases le_total 0 g with hg | hg
  · have hlow : 0 ≤ g * f := Int.mul_nonneg hg (by omega)
    have hhigh : g * f ≤ g * 15 := Int.mul_le_mul_of_nonneg_left hf' hg
    rw [Int.tdiv_eq_ediv_of_nonneg (by omega)]
    omega
  · have hhigh : g * f ≤ 0 := Int.mul_nonpos_of_nonpos_of_nonneg hg (by omega)
    have hlow : g * 15 ≤ g * f := Int.mul_le_mul_of_nonpos_left hg hf'
    rw [Int.tdiv_eq_ediv, show Int.sign 16 = 1 from rfl]
    split <;> omega

/-- The value at `f` sixteenths from one entry to the next lies between the two, so that it is never
below 0 and the model's natural number is the spec's sum. -/
theorem interpolated_between {lo hi f r v : Nat} (hf : f < 16) (hr : r < 16)
    (hv : v = ((lo : Int) + (((hi : Int) - lo) * f + r).tdiv 16).toNat) :
    (v : Int) = lo + (((hi : Int) - lo) * f + r).tdiv 16 ∧ min lo hi ≤ v ∧ v ≤ max lo hi := by
  have hq := tdiv_sixteen_between ((hi : Int) - lo) hf hr
  omega

/-- The whole step and the sixteenths of an actual speed. -/
theorem div_mod_sixteen {i f : Nat} (hf : f < 16) : (16 * i + f) / 16 = i ∧ (16 * i + f) % 16 = f := by
  omega

theorem speedOf_between (d : TrainDef) (i : Nat) {f : Nat} (hf : f < 16) :
    (speedOf d (16 * i + f) : Int) =
      (d.step i).2 + (((d.step (i + 1)).2 - (d.step i).2 : Int) * f).tdiv 16 ∧
    min (d.step i).2 (d.step (i + 1)).2 ≤ speedOf d (16 * i + f) ∧
    speedOf d (16 * i + f) ≤ max (d.step i).2 (d.step (i + 1)).2 := by
  obtain ⟨hi, hm⟩ := div_mod_sixteen (i := i) hf
  simpa using interpolated_between (r := 0) hf (by decide)
    (show speedOf d (16 * i + f) = _ by simp only [speedOf, hi, hm, Nat.cast_zero, add_zero])

theorem dutyOf_between (d : TrainDef) (i : Nat) {f : Nat} (hf : f < 16) :
    (dutyOf d (16 * i + f) : Int) =
      (d.step i).1 + (((d.step (i + 1)).1 - (d.step i).1 : Int) * f + 8).tdiv 16 ∧
    min (d.step i).1 (d.step (i + 1)).1 ≤ dutyOf d (16 * i + f) ∧
    dutyOf d (16 * i + f) ≤ max (d.step i).1 (d.step (i + 1)).1 := by
  obtain ⟨hi, hm⟩ := div_mod_sixteen (i := i) hf
  exact interpolated_between (r := 8) hf (by decide)
    (show dutyOf d (16 * i + f) = _ by simp only [dutyOf, hi, hm, Nat.cast_ofNat])

/-- A bound of every entry's scale speed bounds the scale speed of every actual speed. -/
theorem speedOf_le {d : TrainDef} {b : Nat} (hb : ∀ i, (d.step i).2 ≤ b) (a : Nat) : speedOf d a ≤ b := by
  obtain ⟨-, -, hmax⟩ := speedOf_between d (a / 16) (Nat.mod_lt a (by decide : 0 < 16))
  rw [Nat.div_add_mod] at hmax
  exact hmax.trans (max_le (hb _) (hb _))

/-! ## The ramp down (R134) -/

@[simp] theorem rampDown_at_rest (d : TrainDef) (k : Nat) : rampDown d k 0 = 0 := by
  cases k <;> simp [rampDown]

theorem rampDown_succ (d : TrainDef) (k : Nat) {a : Nat} (ha : a ≠ 0) :
    rampDown d (k + 1) a = speedOf d (a - d.decel) + rampDown d k (a - d.decel) := if_neg ha

/-- With decel at least 1 the ramp is over within `a` steps, so that steps beyond them add nothing. -/
theorem rampDown_eq_stoppingDistance {d : TrainDef} (hd : 1 ≤ d.decel) {k a : Nat} (hak : a ≤ k) :
    rampDown d k a = stoppingDistance d a := by
  unfold stoppingDistance
  induction a using Nat.strong_induction_on generalizing k with
  | _ a ih =>
    match a, k, hak with
    | 0, _, _ => simp
    | a + 1, k + 1, hak =>
      have hlt : a + 1 - d.decel < a + 1 := by omega
      rw [rampDown_succ d k a.succ_ne_zero, rampDown_succ d a a.succ_ne_zero, ih _ hlt (k := k) (by omega),
        ih _ hlt (k := a) (by omega)]

@[simp] theorem stoppingDistance_zero (d : TrainDef) : stoppingDistance d 0 = 0 := rfl

/-- One step of the ramp: the actual speed falls by decel, and the new speed is counted. -/
theorem stoppingDistance_of_pos {d : TrainDef} (hd : 1 ≤ d.decel) {a : Nat} (ha : 1 ≤ a) :
    stoppingDistance d a = speedOf d (a - d.decel) + stoppingDistance d (a - d.decel) := by
  obtain ⟨m, rfl⟩ := Nat.exists_eq_add_of_le' ha
  calc stoppingDistance d (m + 1)
      = speedOf d (m + 1 - d.decel) + rampDown d m (m + 1 - d.decel) := rampDown_succ d m m.succ_ne_zero
    _ = speedOf d (m + 1 - d.decel) + stoppingDistance d (m + 1 - d.decel) := by
      rw [rampDown_eq_stoppingDistance hd (by omega)]

/-- Each of at most `k` steps counts at most the bound of the scale speed. -/
theorem rampDown_le {d : TrainDef} {b : Nat} (hb : ∀ a, speedOf d a ≤ b) (k a : Nat) :
    rampDown d k a ≤ k * b := by
  induction k generalizing a with
  | zero => simp [rampDown]
  | succ k ih =>
    by_cases ha : a = 0
    · simp [ha]
    · rw [rampDown_succ d k ha, Nat.succ_mul, Nat.add_comm]
      exact Nat.add_le_add (ih _) (hb _)

theorem stoppingDistance_le {d : TrainDef} {b : Nat} (hb : ∀ i, (d.step i).2 ≤ b) (a : Nat) :
    stoppingDistance d a ≤ a * b := rampDown_le (speedOf_le hb) a a

/-- Settles O31: a truncated quotient of sixteenths stays between zero and the difference of the two entries;
the ramp down by its own recursion, of at most 496 steps of at most 999 each. -/
theorem speedAndStoppingDistance : Obligations.SpeedAndStoppingDistance := by
  unfold Obligations.SpeedAndStoppingDistance
  refine ⟨fun d i k _ hk => step_eq_get d hk, fun d a ha =>
    ⟨?speed, ?duty, stoppingDistance_zero d, fun hd => stoppingDistance_of_pos hd, ?bound⟩⟩
  case speed =>
    rintro i f lo hi rfl hf rfl rfl
    exact speedOf_between d i hf
  case duty =>
    rintro i f lo hi rfl hf rfl rfl
    exact dutyOf_between d i hf
  case bound =>
    intro htable _
    calc stoppingDistance d a ≤ a * 999 := stoppingDistance_le htable a
      _ ≤ 496 * 999 := Nat.mul_le_mul_right _ ha
      _ = 495504 := by decide

end Sys2Proof.Proofs.Motion
end

section
-- One theorem after the other: side by side, waiting proofs would pile up.
set_option Elab.async false
/-! SUPPORT. The traffic controller as a sequence of moves. A `Move` is one change that the controller makes as a
whole: to trains that keep their units, a unit taken, handed on or dropped, a request queued or given up, a
notice to a crossing, a report, a throw asked for. Every operation of the controller is a sequence of moves
(`Moves`), so that an invariant which each move keeps is kept by every operation. -/

namespace Sys2Proof.Machine

open Sys2Proof.Safety

/-! ## What a move may do -/

/-- A train at rest has speed 0, a cause exactly in STOPPING, a reason only in WAITING, and under the halt it
neither waits nor moves (R132, R135, R146). -/
structure Fit (halt : Bool) (x : TrainRun) : Prop where
  speed : x.moving = false → x.speed = 0
  cause : x.cause.isSome = true ↔ x.state = .stopping
  reason : x.reason.isSome = true → x.state = .waiting
  rests : halt = true → x.state ≠ .waiting ∧ x.moving = false

/-- How much a sequence of moves is held to: `agree` where the reservations agree before it, `free` where it lets
no train that waits take a unit, and `still` where no train changes its state or speed. -/
structure Care where
  agree : Prop
  free : Prop
  still : Prop

/-- A change of one train that leaves its units and its request alone. -/
structure TrainMove (k : Care) (halt : Bool) (x y : TrainRun) : Prop where
  keeps : k.agree → (y.holdings = x.holdings ∧ y.request = x.request) ∨
    (x.placed = false ∧ y.holdings = [] ∧ y.request = none)
  placed : k.agree → y.placed = false →
    (x.placed = false ∧ y.span = x.span) ∨ (y.holdings = [] ∧ y.span = [] ∧ y.request = none)
  lost : k.free → y.state = .lost → x.state = .lost
  fit : Fit halt x → Fit halt y
  still : k.still → y.state = x.state ∧ y.speed = x.speed

/-- Only units, trains and staged pairs differ. -/
structure Shifts (s t : State) : Prop extends Traffic s t where
  driver : t.driver = s.driver
  crossings : t.crossings = s.crossings
  bell : t.bell = s.bell
  sky : t.sky = s.sky
  matrix : t.matrix = s.matrix
  line : t.line = s.line

/-- The records of a grant, before its notices and throws (R117). -/
def grantCore (n : Train) (u : Section) (s : State) : State :=
  setRetries ((s.modUnit u fun r => ⟨some n, r.waiting.erase n⟩).modTrain n fun t =>
    { t with
      holdings := t.holdings ++ [u]
      request := if t.request = some u then none else t.request })

/-- The records of a request that is queued (R115). -/
def queueCore (n : Train) (u : Section) (s : State) : State :=
  (s.modUnit u fun r => { r with waiting := r.waiting ++ [n] }).modTrain n fun t => { t with request := some u }

/-- The unit records once train n has left the waiting list of the unit that it asks for (R120). -/
def unitsWithout (n : Train) (s : State) : Table UnitRec 20 :=
  (s.trains.get n).request.elim s.units fun u => s.units.modify u fun r => { r with waiting := r.waiting.erase n }

theorem unitsWithout_of_none {n : Train} {s : State} (h : (s.trains.get n).request = none) :
    unitsWithout n s = s.units := by
  show (s.trains.get n).request.elim _ _ = _
  rw [h]; rfl

theorem unitsWithout_of_some {n : Train} {s : State} {u : Section} (h : (s.trains.get n).request = some u) :
    unitsWithout n s = s.units.modify u fun r => { r with waiting := r.waiting.erase n } := by
  show (s.trains.get n).request.elim _ _ = _
  rw [h]; rfl

/-- One move of the traffic controller. -/
inductive Move (k : Care) : State → State → Prop
  | trains {s t : State} (hs : Shifts s t) (hu : t.units = s.units)
      (hm : ∀ m, TrainMove k s.halt (s.trains.get m) (t.trains.get m)) : Move k s t
  | take {s : State} (n : Train) (u : Section) (hh : (s.units.get u).holder = none)
      (hp : (s.trains.get n).placed = true)
      (hf : k.free → (s.trains.get n).request = none ∨ (s.trains.get n).request = some u) :
      Move k s (unitNotice u (grantCore n u s))
  | hand {s : State} (n : Train) (u : Section) (hh : (s.units.get u).holder = none)
      (hw : n ∈ (s.units.get u).waiting) : Move k s (grantCore n u s)
  | drop {s : State} (n : Train) (u : Section) (hh : (s.units.get u).holder = some n)
      (hb : (s.units.get u).waiting = [] ∨ (dropUnit n u s).blocked u = true) : Move k s (dropUnit n u s)
  | pass {s : State} (n w : Train) (u : Section) (hh : (s.units.get u).holder = some n)
      (hw : w ∈ (s.units.get u).waiting) : Move k s (grantCore w u (dropUnit n u s))
  | queue {s : State} (n : Train) (u : Section) (hh : (s.units.get u).holder ≠ some n)
      (hp : (s.trains.get n).placed = true) (hr : (s.trains.get n).request = none)
      (hl : (s.trains.get n).state ≠ .lost)
      (hb : (s.units.get u).holder = none → s.blocked u = true ∨ (s.units.get u).waiting ≠ [])
      (hc : s.chainReaches n 6 (s.units.get u).holder = false) :
      Move k s (unitNotice u (queueCore n u s))
  | quit {s t : State} (n : Train) (y : TrainRun) (hs : Shifts s t) (hu : t.units = unitsWithout n s)
      (ht : ∀ m, t.trains.get m = if m = n then y else s.trains.get m)
      (hh : y.holdings = (s.trains.get n).holdings) (hr : y.request = none)
      (hp : y.placed = false → (s.trains.get n).placed = false ∧ y.span = (s.trains.get n).span)
      (hf : Fit s.halt (s.trains.get n) → Fit s.halt y)
      (hst : k.still → y.state = (s.trains.get n).state ∧ y.speed = (s.trains.get n).speed) : Move k s t
  | crossing (s : State) (c : CrossingId) : Move k s (crossingAct s c)
  | report (s : State) (r : Report) : Move k s (s.raise r)
  | throw (s : State) (e : Throw) : Move k s (requestThrow e s)

/-- A sequence of moves. -/
def Moves (k : Care) : State → State → Prop := Relation.ReflTransGen (Move k)

theorem Moves.refl {k : Care} (s : State) : Moves k s s := Relation.ReflTransGen.refl

theorem Moves.trans {k : Care} {s t u : State} (h : Moves k s t) (g : Moves k t u) : Moves k s u :=
  Relation.ReflTransGen.trans h g

theorem Move.one {k : Care} {s t : State} (h : Move k s t) : Moves k s t := Relation.ReflTransGen.single h

theorem Moves.ite {k : Care} (p : Prop) [Decidable p] {s t u : State} (h : p → Moves k s t)
    (g : ¬ p → Moves k s u) : Moves k s (if p then t else u) := by
  split
  · next hp => exact h hp
  · next hp => exact g hp

theorem Moves.foldl {k : Care} {α : Type} {f : State → α → State} (h : ∀ s x, Moves k s (f s x)) (xs : List α)
    (s : State) : Moves k s (xs.foldl f s) := foldl_frame Moves.refl Moves.trans h xs s

/-- What every move keeps, a sequence keeps. -/
theorem Moves.keeps {k : Care} {P : State → Prop} (h : ∀ {s t}, Move k s t → P s → P t) {s t : State}
    (hm : Moves k s t) (hs : P s) : P t := by
  induction hm with
  | refl => exact hs
  | tail _ hb ih => exact h hb ih

/-! ## Frames of the moves -/

/-- Only the driver, the command line, authorities, powered sets and staged pairs differ: what a throw can do. -/
structure Drives (s t : State) : Prop extends Traffic s t where
  units : t.units = s.units
  trains : TrainsRedraw s t
  crossings : t.crossings = s.crossings
  bell : t.bell = s.bell
  sky : t.sky = s.sky
  matrix : t.matrix = s.matrix

theorem Drives.refl (s : State) : Drives s s := ⟨.refl s, rfl, .refl s, rfl, rfl, rfl, rfl⟩

theorem Drives.trans {s t u : State} (h : Drives s t) (k : Drives t u) : Drives s u :=
  ⟨h.toTraffic.trans k.toTraffic, k.units.trans h.units, h.trains.trans k.trains,
    k.crossings.trans h.crossings, k.bell.trans h.bell, k.sky.trans h.sky, k.matrix.trans h.matrix⟩

theorem Redraws.drives {s t : State} (h : Redraws s t) : Drives s t :=
  ⟨h.toTraffic, h.units, h.trains, h.crossings, h.bell, h.sky, h.matrix⟩

theorem withDriver_drives (d : Driver) (s : State) : Drives s (s.withDriver d) :=
  ⟨withDriver_traffic d s, rfl, fun _ => rfl, rfl, rfl, rfl, rfl⟩

theorem raise_drives (r : Report) (s : State) : Drives s (s.raise r) := by
  have h := raise_traffic r s
  rw [State.raise_eq] at h ⊢
  exact ⟨h, rfl, fun _ => rfl, rfl, rfl, rfl, rfl⟩

theorem driverNotice_drives (t : TurnoutId) (d : Driver) (s : State) : Drives s (driverNotice t d s) :=
  (withDriver_drives d s).trans (turnoutNotice_redraws ..).drives

theorem takeEntries_drives (es : List Throw) (s : State) : Drives s (takeEntries es s) := by
  induction es generalizing s with
  | nil => exact withDriver_drives ..
  | cons e es ih =>
    unfold takeEntries; split
    · exact ih s
    · split
      · exact (driverNotice_drives ..).trans (ih _)
      · exact driverNotice_drives ..

theorem reportThrow_drives (e : Throw) (s : State) : Drives s (reportThrow e s) := by
  unfold reportThrow; split
  · exact raise_drives ..
  · exact .refl s

theorem requestThrow_drives (e : Throw) (s : State) : Drives s (requestThrow e s) := by
  unfold requestThrow; split
  · exact .refl s
  · split
    · exact withDriver_drives ..
    · split
      · exact (driverNotice_drives ..).trans (reportThrow_drives ..)
      · dsimp only; split
        · exact (withDriver_drives ..).trans (takeEntries_drives ..)
        · exact withDriver_drives ..

theorem pulseEnd_drives (s : State) : Drives s (pulseEnd s) := by
  unfold pulseEnd; split
  · exact .refl s
  · exact (driverNotice_drives ..).trans (reportThrow_drives ..)

theorem recoveryExpiry_drives (s : State) : Drives s (recoveryExpiry s) := by
  unfold recoveryExpiry; split
  · exact (withDriver_drives ..).trans (takeEntries_drives ..)
  · exact .refl s

theorem Shifts.refl (s : State) : Shifts s s := ⟨.refl s, rfl, rfl, rfl, rfl, rfl, rfl⟩

theorem Shifts.trans {s t u : State} (h : Shifts s t) (k : Shifts t u) : Shifts s u :=
  ⟨h.toTraffic.trans k.toTraffic, k.driver.trans h.driver, k.crossings.trans h.crossings,
    k.bell.trans h.bell, k.sky.trans h.sky, k.matrix.trans h.matrix, k.line.trans h.line⟩

theorem modTrain_shifts (n : Train) (f : TrainRun → TrainRun) (s : State) : Shifts s (s.modTrain n f) :=
  ⟨modTrain_traffic n f s, rfl, rfl, rfl, rfl, rfl, rfl⟩

theorem withTrains_shifts (x : Table TrainRun 6) (s : State) : Shifts s (s.withTrains x) :=
  ⟨withTrains_traffic x s, rfl, rfl, rfl, rfl, rfl, rfl⟩

theorem modUnit_shifts (u : Section) (f : UnitRec → UnitRec) (s : State) : Shifts s (s.modUnit u f) :=
  ⟨modUnit_traffic u f s, rfl, rfl, rfl, rfl, rfl, rfl⟩

theorem Redraws.shifts {s t : State} (h : Redraws s t) : Shifts s t :=
  ⟨h.toTraffic, h.driver, h.crossings, h.bell, h.sky, h.matrix, h.line⟩

theorem Traffic.halt {s t : State} (h : Traffic s t) : t.halt = s.halt := by simp [State.halt, h.stopc]

theorem Traffic.occupied {s t : State} (h : Traffic s t) : t.occupied = s.occupied := by
  funext x; simp [State.occupied, h.sense]

theorem grantCore_shifts (n : Train) (u : Section) (s : State) : Shifts s (grantCore n u s) :=
  ((modUnit_shifts u _ s).trans (modTrain_shifts n _ _)).trans (withTrains_shifts _ _)

theorem queueCore_shifts (n : Train) (u : Section) (s : State) : Shifts s (queueCore n u s) :=
  (modUnit_shifts u _ s).trans (modTrain_shifts n _ _)

theorem dropUnit_shifts (n : Train) (u : Section) (s : State) : Shifts s (dropUnit n u s) := by
  unfold dropUnit
  exact (((modUnit_shifts u _ s).trans (modTrain_shifts n _ _)).trans
    (Redraws.shifts (restSections_asks ..).toRedraws)).trans (withTrains_shifts _ _)

/-! ## The records after a grant, a drop and a queued request -/

@[simp] theorem State.modTrain_units (s : State) (n : Train) (f : TrainRun → TrainRun) :
    (s.modTrain n f).units = s.units := rfl

@[simp] theorem State.modTrain_cfg (s : State) (n : Train) (f : TrainRun → TrainRun) :
    (s.modTrain n f).cfg = s.cfg := rfl

@[simp] theorem State.modTrain_halt (s : State) (n : Train) (f : TrainRun → TrainRun) :
    (s.modTrain n f).halt = s.halt := rfl

@[simp] theorem State.modTrain_self (s : State) (n : Train) (f : TrainRun → TrainRun) :
    (s.modTrain n f).trains.get n = f (s.trains.get n) := Table.get_modify_self ..

theorem State.modTrain_get (s : State) (n m : Train) (f : TrainRun → TrainRun) :
    (s.modTrain n f).trains.get m = if m = n then f (s.trains.get m) else s.trains.get m :=
  Table.get_modify ..

@[simp] theorem setRetries_units (s : State) : (setRetries s).units = s.units := rfl

@[simp] theorem setRetries_get (s : State) (m : Train) :
    (setRetries s).trains.get m =
      { s.trains.get m with retry := (s.trains.get m).retry || (s.trains.get m).deadlock } :=
  Table.get_map ..

theorem modTrain_modTrain (s : State) (n : Train) (f g : TrainRun → TrainRun) :
    (s.modTrain n f).modTrain n g = s.modTrain n fun t => g (f t) := by
  have : ((s.trains.modify n f).modify n g) = s.trains.modify n fun t => g (f t) := by
    ext m; simp only [Table.get_modify]; split <;> rfl
  simp only [State.modTrain, State.withTrains, this]

theorem grantCore_unit (n : Train) (u v : Section) (s : State) :
    (grantCore n u s).units.get v =
      if v = u then ⟨some n, (s.units.get v).waiting.erase n⟩ else s.units.get v := Table.get_modify ..

theorem grantCore_train (n m : Train) (u : Section) (s : State) :
    (grantCore n u s).trains.get m =
      { s.trains.get m with
        holdings := if m = n then (s.trains.get m).holdings ++ [u] else (s.trains.get m).holdings
        request := if m = n ∧ (s.trains.get m).request = some u then none else (s.trains.get m).request
        retry := (s.trains.get m).retry || (s.trains.get m).deadlock } := by
  show (setRetries _).trains.get m = _
  rw [setRetries_get, State.modTrain_get]
  by_cases h : m = n
  · simp only [h, if_true, true_and]; rfl
  · simp only [h, if_false, false_and]; rfl

theorem queueCore_unit (n : Train) (u v : Section) (s : State) :
    (queueCore n u s).units.get v =
      if v = u then { s.units.get v with waiting := (s.units.get v).waiting ++ [n] } else s.units.get v :=
  Table.get_modify ..

theorem queueCore_train (n m : Train) (u : Section) (s : State) :
    (queueCore n u s).trains.get m =
      if m = n then { s.trains.get m with request := some u } else s.trains.get m := Table.get_modify ..

theorem dropUnit_unit (n : Train) (u v : Section) (s : State) :
    (dropUnit n u s).units.get v =
      if v = u then { s.units.get v with holder := none } else s.units.get v := by
  unfold dropUnit; dsimp only
  rw [setRetries_units, (restSections_asks ..).units]
  exact Table.get_modify ..

/-- What a dropped unit leaves of train m: the train that held it loses it. -/
theorem dropUnit_train (n m : Train) (u : Section) (s : State) :
    ∃ p, (dropUnit n u s).trains.get m =
      { s.trains.get m with
        holdings := if m = n then (s.trains.get m).holdings.erase u else (s.trains.get m).holdings
        powered := p
        retry := (s.trains.get m).retry || (s.trains.get m).deadlock } := by
  unfold dropUnit; dsimp only
  rw [setRetries_get, (restSections_asks ..).same, State.modTrain_get]
  by_cases h : m = n
  · simp only [h, if_true]; exact ⟨_, rfl⟩
  · simp only [h, if_false]; exact ⟨_, rfl⟩

/-! ## Moves of trains alone -/

/-- A train that differs in fields no invariant of trains reads. -/
theorem TrainMove.of_same {k : Care} {h : Bool} {x y : TrainRun} (hh : y.holdings = x.holdings)
    (hr : y.request = x.request) (hs : y.span = x.span) (hst : y.state = x.state) (hsp : y.speed = x.speed)
    (hc : y.cause = x.cause) (hre : y.reason = x.reason) : TrainMove k h x y where
  keeps _ := .inl ⟨hh, hr⟩
  placed _ hp := .inl ⟨by simpa [TrainRun.placed, hst] using hp, hs⟩
  lost _ hl := hst ▸ hl
  fit f := by
    have hm : y.moving = x.moving := by simp [TrainRun.moving, hst]
    exact ⟨by rw [hm, hsp]; exact f.speed, by rw [hc, hst]; exact f.cause, by rw [hre, hst]; exact f.reason,
      by rw [hm, hst]; exact f.rests⟩
  still _ := ⟨hst, hsp⟩

theorem TrainMove.refl {k : Care} {h : Bool} (x : TrainRun) : TrainMove k h x x :=
  .of_same rfl rfl rfl rfl rfl rfl rfl

/-- A train that keeps its place and its reservations, in a placed state other than LOST. -/
theorem TrainMove.of_placed {k : Care} {h : Bool} {x y : TrainRun} (hh : y.holdings = x.holdings)
    (hr : y.request = x.request) (hp : y.placed = true) (hl : y.state ≠ .lost) (hf : Fit h x → Fit h y)
    (hk : k.still → y.state = x.state ∧ y.speed = x.speed) : TrainMove k h x y where
  keeps _ := .inl ⟨hh, hr⟩
  placed _ h := by simp [hp] at h
  lost _ h := absurd h hl
  fit := hf
  still := hk

theorem modTrain_move {k : Care} {n : Train} {f : TrainRun → TrainRun} {s : State}
    (h : TrainMove k s.halt (s.trains.get n) (f (s.trains.get n))) : Moves k s (s.modTrain n f) := by
  refine (Move.trains (modTrain_shifts n f s) rfl fun m => ?_).one
  rw [State.modTrain_get]
  split
  · next e => rw [e]; exact h
  · exact .refl _

theorem redraws_moves {k : Care} {s t : State} (h : Redraws s t) : Moves k s t := by
  refine (Move.trains (Redraws.shifts h) h.units fun m => ?_).one
  rw [h.trains m]
  exact .of_same rfl rfl rfl rfl rfl rfl rfl

theorem asks_moves {k : Care} {s t : State} (h : Asks s t) : Moves k s t := redraws_moves h.toRedraws

theorem raise_moves {k : Care} (r : Report) (s : State) : Moves k s (s.raise r) := (Move.report s r).one

theorem requestThrow_moves {k : Care} (e : Throw) (s : State) : Moves k s (requestThrow e s) :=
  (Move.throw s e).one

theorem crossingAct_moves {k : Care} (s : State) (c : CrossingId) : Moves k s (crossingAct s c) :=
  (Move.crossing s c).one

theorem refreshAuthority_moves {k : Care} (n : Train) (s : State) : Moves k s (refreshAuthority n s) :=
  redraws_moves (refreshAuthority_redraws n s)

theorem unitNotice_moves {k : Care} (u : Section) (s : State) : Moves k s (unitNotice u s) :=
  Moves.foldl crossingAct_moves _ s

theorem askThrows_moves {k : Care} (n : Train) (s : State) (u : Section) : Moves k s (askThrows n s u) := by
  unfold askThrows; split
  · exact .refl s
  · exact Moves.foldl (fun s p => requestThrow_moves _ s) _ s

theorem askAllThrows_moves {k : Care} (n : Train) (s : State) : Moves k s (askAllThrows n s) :=
  Moves.foldl (askThrows_moves n) _ s

theorem reportStrays_moves {k : Care} (xs : List Section) (s : State) : Moves k s (reportStrays xs s) :=
  Moves.foldl (fun s _ => raise_moves _ s) xs s

/-! ## Grants, releases, requests, withdrawals -/

theorem grant_eq (quiet : Bool) (n : Train) (u : Section) (s : State) :
    grant quiet n u s = refreshAuthority n (askThrows n
      (if quiet then grantCore n u s else unitNotice u (grantCore n u s)) u) := rfl

/-- A grant with its unit notice (R117). -/
theorem grant_moves {k : Care} {n : Train} {u : Section} {s : State} (hh : (s.units.get u).holder = none)
    (hp : (s.trains.get n).placed = true)
    (hf : k.free → (s.trains.get n).request = none ∨ (s.trains.get n).request = some u) :
    Moves k s (grant false n u s) := by
  rw [grant_eq]
  exact ((Move.take n u hh hp hf).one.trans (askThrows_moves ..)).trans (refreshAuthority_moves ..)

/-- A grant to a waiter, its unit notice left to the caller or not (R117, R119). -/
theorem grant_waiter_moves {k : Care} (quiet : Bool) {n : Train} {u : Section} {s t : State}
    (h : Moves k s (grantCore n u t)) : Moves k s (grant quiet n u t) := by
  rw [grant_eq]
  refine Moves.trans (Moves.trans ?_ (askThrows_moves ..)) (refreshAuthority_moves ..)
  split
  · exact h
  · exact h.trans (unitNotice_moves ..)

theorem releaseHeld_moves {k : Care} (quiet : Bool) {n : Train} {u : Section} {s : State}
    (hh : (s.units.get u).holder = some n) : Moves k s (releaseHeld quiet n u s) := by
  have hw : ((dropUnit n u s).units.get u).waiting = (s.units.get u).waiting := by simp [dropUnit_unit]
  have strayed : ∀ xs t, Moves k t (if quiet then reportStrays xs t else unitNotice u (reportStrays xs t)) :=
    fun xs t => Moves.ite _ (fun _ => reportStrays_moves ..)
      (fun _ => (reportStrays_moves ..).trans (unitNotice_moves ..))
  unfold releaseHeld; dsimp only
  split
  · next hnil => exact (Move.drop n u hh (.inl (hw ▸ hnil))).one.trans (strayed ..)
  · next w ws hcons =>
    refine Moves.ite _ (fun hb => (Move.drop n u hh (.inr hb)).one.trans (strayed ..)) fun _ => ?_
    exact grant_waiter_moves quiet (Move.pass n w u hh (by rw [← hw, hcons]; simp)).one

theorem release_moves {k : Care} (quiet : Bool) (n : Train) (s : State) (u : Section) :
    Moves k s (release quiet n s u) :=
  Moves.ite _ (fun h => releaseHeld_moves quiet h) fun _ => .refl s

theorem deadlocked_move {k : Care} {h : Bool} (x : TrainRun) : TrainMove k h x x.deadlocked where
  keeps _ := .inl ⟨rfl, rfl⟩
  placed _ hp := .inl ⟨hp, rfl⟩
  lost _ hl := hl
  fit f := ⟨f.speed, f.cause, fun hr => by
    by_cases hw : x.state = .waiting
    · exact hw
    · exact f.reason (by simpa [TrainRun.deadlocked, hw] using hr), f.rests⟩
  still _ := ⟨rfl, rfl⟩

theorem requestUnit_moves {k : Care} {n : Train} {u : Section} {s : State}
    (hp : (s.trains.get n).placed = true) (hr : (s.trains.get n).request = none)
    (hl : (s.trains.get n).state ≠ .lost) : Moves k s (requestUnit n u s) := by
  unfold requestUnit; dsimp only
  refine Moves.ite _ (fun _ => .refl s) fun hh => Moves.ite _ ?_ fun hfree => ?_
  · rintro ⟨hn, -, -⟩
    exact grant_moves hn hp fun _ => .inl hr
  · have queued : s.chainReaches n 6 (s.units.get u).holder = false →
        Moves k s (unitNotice u (queueCore n u s)) := fun hc =>
      (Move.queue n u hh hp hr hl (fun hn => by
        rw [Decidable.or_iff_not_not_and_not]
        exact fun ⟨hb, hw⟩ => hfree ⟨hn, by simpa using hb, by simpa using hw⟩) hc).one
    split
    · exact (modTrain_move (deadlocked_move _)).trans (raise_moves ..)
    · next hne =>
      apply queued
      cases hu : (s.units.get u).holder with
      | none => simp [State.chainReaches]
      | some h =>
        cases hc : s.chainReaches n 6 (some h) with
        | false => rfl
        | true => rw [hu] at hne; exact absurd hc (hne h rfl)

/-- The trains after a withdrawal, which sends a train its request back and nothing else. -/
theorem withdrawn_fit {h : Bool} {x : TrainRun} (f : Fit h x) : Fit h x.withdrawn :=
  ⟨f.speed, f.cause, fun hr => f.reason (by
    by_cases hd : x.reason = some .deadlock
    · simp [hd]
    · simpa [TrainRun.withdrawn, hd] using hr), f.rests⟩

/-- A withdrawal that follows another change of the train (R120, R144, R145). -/
theorem withdraw_moves_of {k : Care} {n : Train} {s t : State} (f : TrainRun → TrainRun)
    (h : Asks (s.modTrain n f) t) (hh : (f (s.trains.get n)).holdings = (s.trains.get n).holdings)
    (hr : (f (s.trains.get n)).request = (s.trains.get n).request)
    (hp : (f (s.trains.get n)).placed = false →
      (s.trains.get n).placed = false ∧ (f (s.trains.get n)).span = (s.trains.get n).span)
    (hf : Fit s.halt (s.trains.get n) → Fit s.halt (f (s.trains.get n)))
    (hk : k.still → (f (s.trains.get n)).state = (s.trains.get n).state ∧
      (f (s.trains.get n)).speed = (s.trains.get n).speed) : Moves k s (withdraw n t) := by
  have hs : Shifts s t := (modTrain_shifts n f s).trans (Redraws.shifts h.toRedraws)
  have ht : ∀ m, (t.modTrain n TrainRun.withdrawn).trains.get m =
      if m = n then (f (s.trains.get n)).withdrawn else s.trains.get m := by
    intro m
    rw [State.modTrain_get, h.same, State.modTrain_get]
    split
    · next e => subst e; rfl
    · rfl
  have hreq : (t.trains.get n).request = (s.trains.get n).request := by
    rw [h.same, State.modTrain_self, hr]
  have core : ∀ v : State, Shifts t v → v.trains = (t.modTrain n TrainRun.withdrawn).trains →
      v.units = unitsWithout n s → Moves k s v := by
    intro v hv hvt hvu
    refine (Move.quit n (f (s.trains.get n)).withdrawn (hs.trans hv) hvu (fun m => ?_) hh rfl hp
      (fun g => withdrawn_fit (hf g)) hk).one
    rw [hvt]; exact ht m
  unfold withdraw
  rw [hreq]
  cases hq : (s.trains.get n).request with
  | none =>
    exact core _ (modTrain_shifts ..) rfl (by rw [unitsWithout_of_none hq]; exact h.units)
  | some u =>
    refine (core _ ((modUnit_shifts u _ t).trans (modTrain_shifts n _ _)) rfl ?_).trans (unitNotice_moves ..)
    rw [unitsWithout_of_some hq]
    show (t.units.modify u fun r => { r with waiting := r.waiting.erase n }) =
      s.units.modify u fun r => { r with waiting := r.waiting.erase n }
    rw [h.units, State.modTrain_units]

/-- A withdrawal (R120). -/
theorem withdraw_moves {k : Care} (n : Train) (s : State) : Moves k s (withdraw n s) := by
  have he : s.modTrain n (fun t => t) = s := by
    simp [State.modTrain, State.withTrains, Table.modify]
  exact withdraw_moves_of (fun t => t) (by rw [he]; exact .refl s) rfl rfl (fun h => ⟨h, rfl⟩) id
    fun _ => ⟨rfl, rfl⟩

theorem freeSection_moves {k : Care} {n : Train} (x : Section) {s : State}
    (hp : (s.trains.get n).placed = true) : Moves k s (freeSection n x s) := by
  have start : Moves k s (restSection (s.modTrain n fun t =>
      { t with span := unspan x t.span, powered := t.powered.filter fun e => e.sec != x }) x) := by
    refine (modTrain_move ?_).trans (asks_moves (restSection_asks ..))
    exact ⟨fun _ => .inl ⟨rfl, rfl⟩, fun _ h => by simp [TrainRun.placed] at h hp; split at h <;> simp_all,
      fun _ h => h, fun f => ⟨f.speed, f.cause, f.reason, f.rests⟩, fun _ => ⟨rfl, rfl⟩⟩
  unfold freeSection; dsimp only
  refine Moves.trans ?_ (refreshAuthority_moves ..)
  split
  · exact start
  · exact Moves.ite _ (fun _ => start) fun _ => start.trans (release_moves ..)

theorem freeOnClear_moves {k : Care} (x : Section) (s : State) : Moves k s (freeOnClear x s) := by
  unfold freeOnClear; split
  · exact .refl s
  · next n hn =>
    have := List.find?_some hn
    simp only [Bool.and_eq_true] at this
    exact freeSection_moves x this.1

theorem grantOnClear_moves {k : Care} (x : Section) (s : State) : Moves k s (grantOnClear x s) := by
  unfold grantOnClear; split
  · exact .refl s
  · split
    · next w ws hh hw =>
      exact Moves.ite _ (fun _ => .refl s) fun _ =>
        grant_waiter_moves true (Move.hand w _ hh (by rw [hw]; simp)).one
    · exact .refl s

/-! ## Trains at rest, stops and turnabouts -/

/-- A train at rest, or one whose speed is 0. -/
def Rests (x : TrainRun) : Prop := x.moving = false ∨ x.speed = 0

theorem Rests.speed {h : Bool} {x : TrainRun} (hr : Rests x) (f : Fit h x) : x.speed = 0 :=
  hr.elim f.speed id

/-- The state of a train that enters WAITING, or under the halt HALTED (R146). -/
def waitingRun (halt : Bool) (r : Option WaitReason) (t : TrainRun) : TrainRun :=
  if halt then { t with state := .halted, cause := none, reason := none }
  else { t with state := .waiting, cause := none, reason := t.waitReason r }

theorem enterWaitingFor_eq (r : Option WaitReason) (n : Train) (s : State) :
    enterWaitingFor r n s = s.modTrain n (waitingRun s.halt r) := rfl

theorem waitingRun_move {k : Care} {h : Bool} {x y : TrainRun} (r : Option WaitReason)
    (hh : y.holdings = x.holdings) (hr : y.request = x.request) (hs : Fit h x → y.speed = 0) (hk : ¬ k.still) :
    TrainMove k h x (waitingRun h r y) := by
  cases h
  · show TrainMove k false x { y with state := .waiting, cause := none, reason := y.waitReason r }
    refine .of_placed hh hr rfl (by simp) (fun f => ⟨fun _ => hs f, by simp, by simp, by simp⟩)
      (fun hc => absurd hc hk)
  · show TrainMove k true x { y with state := .halted, cause := none, reason := none }
    refine .of_placed hh hr rfl (by simp) (fun f => ⟨fun _ => hs f, by simp, by simp, ?_⟩)
      (fun hc => absurd hc hk)
    simp [TrainRun.moving]

theorem enterWaitingFor_moves {k : Care} (hk : ¬ k.still) (r : Option WaitReason) {n : Train} {s : State}
    (h : Rests (s.trains.get n)) : Moves k s (enterWaitingFor r n s) := by
  rw [enterWaitingFor_eq]
  exact modTrain_move (waitingRun_move r rfl rfl h.speed hk)

theorem enterWaiting_moves {k : Care} (hk : ¬ k.still) {n : Train} {s : State}
    (h : Rests (s.trains.get n)) : Moves k s (enterWaiting n s) := enterWaitingFor_moves hk none h

theorem park_moves {k : Care} (hk : ¬ k.still) {n : Train} {s : State} (h : Rests (s.trains.get n)) :
    Moves k s (park n s) :=
  modTrain_move (.of_placed rfl rfl rfl (by simp) (fun f => ⟨fun _ => h.speed f, by simp, by simp,
    by simp [TrainRun.moving]⟩) fun hc => absurd hc hk)

/-- Serving a stop (R141). -/
theorem serveStop_moves {k : Care} (hk : ¬ k.still) (n : Train) (s : State) : Moves k s (serveStop n s) := by
  unfold serveStop; dsimp only
  refine Moves.trans ?_ (refreshAuthority_moves ..)
  split
  · rw [modTrain_modTrain]
    exact modTrain_move (.of_placed rfl rfl rfl (by simp) (fun _ => ⟨fun _ => rfl, by simp, by simp,
      by simp [TrainRun.moving]⟩) fun hc => absurd hc hk)
  · rw [modTrain_modTrain, enterWaiting, enterWaitingFor_eq, modTrain_modTrain]
    refine Moves.trans (modTrain_move ?_) (askAllThrows_moves ..)
    exact waitingRun_move none rfl rfl (fun _ => rfl) hk
  · rw [modTrain_modTrain]
    exact modTrain_move (.of_placed rfl rfl rfl (by simp) (fun _ => ⟨fun _ => rfl, by simp, by simp,
      by simp [TrainRun.moving]⟩) fun hc => absurd hc hk)

theorem restPowered_moves {k : Care} (n : Train) (s : State) : Moves k s (restPowered n s) :=
  asks_moves (restPowered_asks n s)

theorem stopAtMark_moves {k : Care} (hk : ¬ k.still) (n : Train) (s : State) :
    Moves k s (stopAtMark n s) := by
  refine ((modTrain_move ?_).trans (restPowered_moves ..)).trans (serveStop_moves hk ..)
  exact ⟨fun _ => .inl ⟨rfl, rfl⟩, fun _ h => .inl ⟨h, rfl⟩, fun _ h => h,
    fun f => ⟨fun _ => rfl, f.cause, f.reason, f.rests⟩, fun hc => absurd hc hk⟩

theorem endDwell_moves {k : Care} (hk : ¬ k.still) {n : Train} {s : State} (h : Rests (s.trains.get n)) :
    Moves k s (endDwell n s) := by
  unfold endDwell
  rw [enterWaiting, enterWaitingFor_eq, modTrain_modTrain]
  refine Moves.trans (modTrain_move ?_) (askAllThrows_moves ..)
  exact waitingRun_move none rfl rfl h.speed hk

theorem rests_of_state {x : TrainRun} {st : TrainState} (h : x.state = st) (hr : st ≠ .running)
    (hs : st ≠ .stopping) : Rests x := by
  refine .inl ?_
  unfold TrainRun.moving
  rw [h]
  cases st <;> simp_all

theorem takeDwell_moves {k : Care} (hk : ¬ k.still) (d : Nat) (s : State) (n : Train) :
    Moves k s (takeDwell d s n) := by
  unfold takeDwell; dsimp only
  refine Moves.ite _ (fun h => Moves.ite _ (fun _ => ?_) fun _ => ?_) fun _ => .refl s
  · exact endDwell_moves hk (rests_of_state h (by simp) (by simp))
  · exact modTrain_move (.of_same rfl rfl rfl rfl rfl rfl rfl)

theorem dwellEnd_moves {k : Care} (hk : ¬ k.still) (n : Train) (s : State) : Moves k s (dwellEnd n s) :=
  Moves.ite _ (fun h => endDwell_moves hk (rests_of_state h (by simp) (by simp))) fun _ => .refl s

/-- A turnabout keeps every train's state and speed (R157). -/
theorem turnabout_moves {k : Care} {n : Train} {s : State} (hp : (s.trains.get n).placed = true) :
    Moves k s (turnabout n s) := by
  unfold turnabout; dsimp only
  refine Moves.trans ?_ (refreshAuthority_moves ..)
  refine Moves.trans ?_ (withdraw_moves ..)
  refine Moves.trans (modTrain_move ?_) (Moves.foldl (release_moves false n) _ _)
  exact ⟨fun _ => .inl ⟨rfl, rfl⟩, fun _ h => by
      have : (s.trains.get n).placed = false := h
      simp [this] at hp,
    fun _ h => h, fun f => ⟨f.speed, f.cause, f.reason, f.rests⟩, fun _ => ⟨rfl, rfl⟩⟩

/-- In a sequence that keeps trains still, state and speed of every train are as they were. -/
theorem Move.still {k : Care} (hk : k.still) {s t : State} (h : Move k s t) (m : Train) :
    (t.trains.get m).state = (s.trains.get m).state ∧ (t.trains.get m).speed = (s.trains.get m).speed := by
  have calls : ∀ {v w : State}, Calls v w →
      (w.trains.get m).state = (v.trains.get m).state ∧ (w.trains.get m).speed = (v.trains.get m).speed :=
    fun h => by rw [h.trains m]; exact ⟨rfl, rfl⟩
  have granted : ∀ n u v, ((grantCore n u v).trains.get m).state = (v.trains.get m).state ∧
      ((grantCore n u v).trains.get m).speed = (v.trains.get m).speed :=
    fun n u v => by rw [grantCore_train]; exact ⟨rfl, rfl⟩
  have dropped : ∀ n u v, ((dropUnit n u v).trains.get m).state = (v.trains.get m).state ∧
      ((dropUnit n u v).trains.get m).speed = (v.trains.get m).speed := fun n u v => by
    obtain ⟨p, hp⟩ := dropUnit_train n m u v
    rw [hp]; exact ⟨rfl, rfl⟩
  cases h with
  | trains hs hu hm => exact (hm m).still hk
  | take n u => rw [(calls (unitNotice_calls ..)).1, (calls (unitNotice_calls ..)).2]; exact granted ..
  | hand n u => exact granted ..
  | drop n u => exact dropped ..
  | pass n w u => rw [(granted ..).1, (granted ..).2]; exact dropped ..
  | queue n u =>
    rw [(calls (unitNotice_calls ..)).1, (calls (unitNotice_calls ..)).2, queueCore_train]
    split <;> exact ⟨rfl, rfl⟩
  | quit n y hs hu ht hh hr hp hf hst =>
    rw [ht]
    split
    · next e => subst e; exact hst hk
    · exact ⟨rfl, rfl⟩
  | crossing c => exact calls (crossingAct_calls ..)
  | report r => rw [State.raise_eq]; exact ⟨rfl, rfl⟩
  | throw e => rw [(requestThrow_drives e _).trains m]; exact ⟨rfl, rfl⟩

theorem Moves.still {k : Care} (hk : k.still) {s t : State} (h : Moves k s t) (m : Train) :
    (t.trains.get m).state = (s.trains.get m).state ∧ (t.trains.get m).speed = (s.trains.get m).speed := by
  induction h with
  | refl => exact ⟨rfl, rfl⟩
  | tail _ hb ih => rw [(Move.still hk hb m).1, (Move.still hk hb m).2]; exact ih

end Sys2Proof.Machine
end

section
-- One theorem after the other: side by side, waiting proofs would pile up.
set_option Elab.async false
/-! SUPPORT. The operations of train motion and service as sequences of moves. -/

namespace Sys2Proof.Machine

open Sys2Proof.Safety

/-! ## Sequences over lists of trains -/

theorem Move.mono {k j : Care} (ha : j.agree → k.agree) (hf : j.free → k.free) (hk : j.still → k.still)
    {s t : State} (h : Move k s t) : Move j s t := by
  cases h with
  | trains hs hu hm =>
    exact .trains hs hu fun m => ⟨fun g => (hm m).keeps (ha g), fun g => (hm m).placed (ha g),
      fun g => (hm m).lost (hf g), (hm m).fit, fun g => (hm m).still (hk g)⟩
  | take n u hh hp hr => exact .take n u hh hp fun g => hr (hf g)
  | hand n u hh hw => exact .hand n u hh hw
  | drop n u hh hb => exact .drop n u hh hb
  | pass n w u hh hw => exact .pass n w u hh hw
  | queue n u hh hp hr hl hb hc => exact .queue n u hh hp hr hl hb hc
  | quit n y hs hu ht hh hr hp hg hst => exact .quit n y hs hu ht hh hr hp hg fun g => hst (hk g)
  | crossing c => exact .crossing _ c
  | report r => exact .report _ r
  | throw e => exact .throw _ e

theorem Moves.mono {k : Care} (j : Care) (ha : j.agree → k.agree) (hf : j.free → k.free)
    (hk : j.still → k.still) {s t : State} (h : Moves k s t) : Moves j s t := by
  induction h with
  | refl => exact .refl s
  | tail _ hb ih => exact ih.trans (hb.mono ha hf hk).one

/-- A sequence in which no train changes its state or speed is one in which trains may. -/
theorem Moves.of_still {k : Care} {s t : State} (h : Moves ⟨k.agree, k.free, True⟩ s t) : Moves k s t :=
  Moves.mono (k := ⟨k.agree, k.free, True⟩) k (fun g => g) (fun g => g) (fun _ => trivial) h

theorem Moves.foldl_mem {k : Care} {α : Type} {f : State → α → State} {Q : α → State → Prop}
    (h : ∀ x s, Q x s → Moves k s (f s x)) (hq : ∀ x y s, Q x s → Q y s → Q y (f s x)) (xs : List α) (s : State)
    (hs : ∀ x ∈ xs, Q x s) : Moves k s (xs.foldl f s) := by
  induction xs generalizing s with
  | nil => exact .refl s
  | cons x xs ih =>
    have hx := hs x (by simp)
    exact (h x s hx).trans (ih _ fun y hy => hq x y s hx (hs y (by simp [hy])))

/-! ## Departing, braking and stopping (R137 to R140) -/

theorem placed_of_state {x : TrainRun} {st : TrainState} (h : x.state = st) (hu : st ≠ .unplaced) :
    x.placed = true := by
  unfold TrainRun.placed
  rw [h]
  cases st <;> simp_all

theorem moving_of_running {x : TrainRun} (h : x.state = .running) : x.moving = true := by
  simp [TrainRun.moving, h]

theorem moving_of_stopping {x : TrainRun} (h : x.state = .stopping) : x.moving = true := by
  simp [TrainRun.moving, h]

theorem moving_iff {x : TrainRun} : x.moving = true ↔ x.state = .running ∨ x.state = .stopping := by
  unfold TrainRun.moving
  cases x.state <;> simp

theorem placed_iff {x : TrainRun} : x.placed = true ↔ x.state ≠ .unplaced := by
  unfold TrainRun.placed
  cases x.state <;> simp

theorem Fit.reason_none {h : Bool} {x : TrainRun} (f : Fit h x) (hw : x.state ≠ .waiting) : x.reason = none := by
  cases hr : x.reason with
  | none => rfl
  | some r => exact absurd (f.reason (by rw [hr]; rfl)) hw

theorem Fit.cause_none {h : Bool} {x : TrainRun} (f : Fit h x) (hw : x.state ≠ .stopping) : x.cause = none := by
  cases hr : x.cause with
  | none => rfl
  | some r => exact absurd (f.cause.mp (by rw [hr]; rfl)) hw

/-- A train that moves, or whose speed is not 0. -/
def Rolls (x : TrainRun) : Prop := x.moving = true ∨ x.speed ≠ 0

theorem Rolls.moving {h : Bool} {x : TrainRun} (hr : Rolls x) (f : Fit h x) : x.moving = true := by
  rcases hr with hm | hs
  · exact hm
  · by_contra hm
    exact hs (f.speed (by simpa using hm))

section

variable {k : Care} (hk : ¬ k.still)

include hk

theorem startStopping_moves (c : StopCause) {n : Train} {s : State} (h : Rolls (s.trains.get n)) :
    Moves k s (startStopping c n s) := by
  refine modTrain_move (.of_placed rfl rfl rfl (by simp) (fun f => ?_) fun hc => absurd hc hk)
  have hm := h.moving f
  have hw : (s.trains.get n).state ≠ .waiting := fun e => by simp [TrainRun.moving, e] at hm
  refine ⟨fun g => ?_, by simp, fun g => ?_, fun g => ?_⟩
  · simp [TrainRun.moving] at g
  · rw [f.reason_none hw] at g; simp at g
  · rw [(f.rests g).2] at hm; simp at hm

theorem stayWaiting_moves (r : WaitReason) {n : Train} {s : State} (h : (s.trains.get n).state = .waiting) :
    Moves k s (stayWaiting r n s) :=
  modTrain_move ⟨fun _ => .inl ⟨rfl, rfl⟩, fun _ g => .inl ⟨g, rfl⟩, fun _ g => g,
    fun f => ⟨f.speed, f.cause, fun _ => h, f.rests⟩, fun hc => absurd hc hk⟩

theorem depart_moves (w : Nat) {n : Train} {s : State} (h : (s.trains.get n).state = .waiting) :
    Moves k s (depart w n s) := by
  refine Moves.ite _ (fun _ => stayWaiting_moves hk _ h) fun _ => ?_
  refine modTrain_move (.of_placed rfl rfl rfl (by simp) (fun f => ?_) fun hc => absurd hc hk)
  have hc := f.cause_none (by simp [h])
  refine ⟨fun g => ?_, by simp [hc], by simp, fun g => absurd h (f.rests g).1⟩
  simp [TrainRun.moving] at g

theorem departureTest_moves {n : Train} (a : Authority) {s : State} (h : (s.trains.get n).state = .waiting) :
    Moves k s (departureTest n a s) := by
  unfold departureTest; dsimp only
  refine Moves.ite _ (fun _ => park_moves hk (rests_of_state h (by simp) (by simp))) fun _ => ?_
  refine Moves.ite _ (fun _ => stayWaiting_moves hk _ h) fun _ => ?_
  refine Moves.ite _ (fun _ => depart_moves hk _ h) fun _ => ?_
  refine Moves.ite _ (fun _ => depart_moves hk _ h) fun _ => ?_
  exact Moves.ite _ (fun _ => serveStop_moves hk ..) fun _ => stayWaiting_moves hk _ h

theorem brakingTest_moves {n : Train} (a : Authority) {s : State} (h : (s.trains.get n).moving = true) :
    Moves k s (brakingTest n a s) :=
  Moves.ite _ (fun _ => .refl s) fun _ => startStopping_moves hk _ (.inl h)

omit hk in
theorem creepTest_moves (n : Train) (a : Authority) (s : State) : Moves k s (creepTest n a s) := by
  unfold creepTest; dsimp only
  exact Moves.ite _ (fun _ => modTrain_move (.of_same rfl rfl rfl rfl rfl rfl rfl)) fun _ => .refl s

theorem runningTest_moves {n : Train} (a : Authority) {s : State} (h : (s.trains.get n).state = .running) :
    Moves k s (runningTest n a s) := by
  have hm := moving_of_running h
  unfold runningTest; dsimp only
  refine Moves.ite _ (fun _ => startStopping_moves hk _ (.inl hm)) fun _ => ?_
  refine Moves.ite _ (fun _ => ?_) fun _ => ?_
  · exact (modTrain_move (.of_same rfl rfl rfl rfl rfl rfl rfl)).trans (creepTest_moves ..)
  · refine (modTrain_move (.of_same rfl rfl rfl rfl rfl rfl rfl)).trans (brakingTest_moves hk _ ?_)
    rw [State.modTrain_self]; exact hm

theorem returnToRunning_moves {n : Train} {s : State} (h : (s.trains.get n).state = .stopping) :
    Moves k s (returnToRunning n s) := by
  refine modTrain_move (.of_placed rfl rfl rfl (by simp) (fun f => ?_) fun hc => absurd hc hk)
  refine ⟨fun g => ?_, by simp, fun g => ?_, fun g => ?_⟩
  · simp [TrainRun.moving] at g
  · rw [f.reason_none (by simp [h])] at g; simp at g
  · have := (f.rests g).2; rw [moving_of_stopping h] at this; simp at this

theorem stoppingTest_moves {n : Train} (a : Authority) {s : State} (h : (s.trains.get n).state = .stopping) :
    Moves k s (stoppingTest n a s) := by
  unfold stoppingTest; dsimp only
  split
  · exact Moves.ite _ (fun _ => returnToRunning_moves hk h) fun _ => .refl s
  · refine Moves.ite _ (fun _ => ?_) fun _ => .refl s
    refine (returnToRunning_moves hk h).trans (brakingTest_moves hk _ ?_)
    rw [returnToRunning, State.modTrain_self]; rfl
  · exact .refl s
  · exact .refl s

theorem stateTest_moves (n : Train) (s : State) : Moves k s (stateTest n s) := by
  unfold stateTest
  split
  · exact .refl s
  · split
    · next h => exact departureTest_moves hk _ h
    · next h => exact runningTest_moves hk _ h
    · next h => exact stoppingTest_moves hk _ h
    all_goals exact .refl s

theorem moveTrain_moves (n : Train) (s : State) : Moves k s (moveTrain n s) := by
  unfold moveTrain; dsimp only
  refine Moves.ite _ (fun h => ?_) fun _ => .refl s
  exact modTrain_move ⟨fun _ => .inl ⟨rfl, rfl⟩, fun _ g => .inl ⟨g, rfl⟩, fun _ g => g,
    fun f => ⟨fun g => absurd g (by simpa [TrainRun.moving] using h), f.cause, f.reason, f.rests⟩,
    fun hc => absurd hc hk⟩

/-! ## Coming to rest, and the checks (R139, R140, R144) -/

omit hk in
/-- A turnabout, of which nothing else is needed but that it keeps the train's state and speed. -/
theorem turnabout_still {n : Train} {s : State} (hp : (s.trains.get n).placed = true) (m : Train) :
    ((turnabout n s).trains.get m).state = (s.trains.get m).state ∧
      ((turnabout n s).trains.get m).speed = (s.trains.get m).speed :=
  Moves.still (k := ⟨False, False, True⟩) trivial (turnabout_moves hp) m

theorem restByCommand_moves {n : Train} {s : State} (hp : (s.trains.get n).placed = true)
    (h : (s.trains.get n).speed = 0) : Moves k s (restByCommand n s) := by
  have hr : Rests ((turnabout n s).trains.get n) := .inr ((turnabout_still hp n).2.trans h)
  unfold restByCommand; dsimp only
  refine Moves.ite _ (fun _ => ?_) fun _ => park_moves hk (.inr h)
  exact (turnabout_moves hp).trans
    (Moves.ite _ (fun _ => park_moves hk hr) fun _ => enterWaiting_moves hk hr)

theorem comeToRest_moves {n : Train} {s : State} (hp : (s.trains.get n).placed = true)
    (h : (s.trains.get n).speed = 0) : Moves k s (comeToRest n s) := by
  unfold comeToRest
  split
  · exact Moves.ite _ (fun _ => serveStop_moves hk ..) fun _ => enterWaitingFor_moves hk _ (.inr h)
  · exact enterWaitingFor_moves hk _ (.inr h)
  · exact restByCommand_moves hk hp h
  · exact enterWaitingFor_moves hk _ (.inr h)

theorem overshootCheck_moves (n : Train) (s : State) : Moves k s (overshootCheck n s) := by
  unfold overshootCheck
  split
  · exact .refl s
  · exact Moves.ite _ (fun _ => (raise_moves ..).trans (stopAtMark_moves hk ..)) fun _ => .refl s

theorem loseTrain_moves {n : Train} {s : State} (h : (s.trains.get n).moving = true) :
    Moves k s (loseTrain n s) := by
  unfold loseTrain; dsimp only
  refine Moves.trans (withdraw_moves_of _ (restPowered_asks ..) rfl rfl (by simp [TrainRun.placed])
    (fun f => ?_) fun hc => absurd hc hk) (raise_moves ..)
  have hw : (s.trains.get n).state ≠ .waiting := fun e => by simp [TrainRun.moving, e] at h
  exact ⟨fun _ => rfl, by simp, fun g => by rw [f.reason_none hw] at g; simp at g, by simp [TrainRun.moving]⟩

theorem checkTrain_moves (n : Train) (s : State) : Moves k s (checkTrain n s) := by
  unfold checkTrain
  split
  · exact .refl s
  · dsimp only
    refine Moves.trans ?_ (Moves.ite _ (fun h => comeToRest_moves hk (placed_of_state h.1 (by simp)) h.2)
      fun _ => .refl _)
    refine Moves.trans ?_ (Moves.ite _ (fun _ => overshootCheck_moves hk ..) fun _ => .refl _)
    exact Moves.ite _ (fun h => Moves.ite _ (fun _ => loseTrain_moves hk h) fun _ => .refl _) fun _ => .refl _

/-! ## The ramp tick (R135) -/

omit hk in
theorem looksAhead_placed {x : TrainRun} (h : x.looksAhead = true) : x.placed = true ∧ x.state ≠ .lost := by
  unfold TrainRun.looksAhead at h
  rw [placed_iff]
  cases hx : x.state <;> simp_all

omit hk in
theorem lookAhead_moves (n : Train) (s : State) : Moves k s (lookAhead n s) := by
  unfold lookAhead; dsimp only
  refine Moves.ite _ (fun h => ?_) fun _ => .refl s
  obtain ⟨hl, hr, -⟩ := h
  obtain ⟨hp, hlost⟩ := looksAhead_placed hl
  split
  · exact .refl s
  · refine Moves.ite _ (fun _ => .refl s) fun _ => ?_
    split
    · exact .refl s
    · exact requestUnit_moves hp hr hlost

omit hk in
theorem retryStep_moves (n : Train) (s : State) : Moves k s (retryStep n s) := by
  unfold retryStep; dsimp only
  exact Moves.ite _ (fun _ => (modTrain_move (.of_same rfl rfl rfl rfl rfl rfl rfl)).trans
    (askAllThrows_moves ..)) fun _ => .refl s

theorem rampTick_moves (n : Train) (s : State) : Moves k s (rampTick n s) := by
  refine Moves.ite _ (fun _ => ?_) fun _ => .refl s
  exact ((((((retryStep_moves ..).trans (refreshAuthority_moves ..)).trans (stateTest_moves hk ..)).trans
    (moveTrain_moves hk ..)).trans (checkTrain_moves hk ..)).trans (asks_moves (sendPower_asks ..))).trans
    (lookAhead_moves ..)

/-! ## Marks and occupancy (R123, R142, R143) -/

omit hk in
theorem fixHead_moves {n : Train} (x : Section) {s : State} (hp : (s.trains.get n).placed = true) :
    Moves k s (fixHead n x s) := by
  unfold fixHead; dsimp only
  refine Moves.trans (modTrain_move ?_) (refreshAuthority_moves ..)
  exact ⟨fun _ => .inl ⟨rfl, rfl⟩, fun _ h => by
      have : (s.trains.get n).placed = false := h
      simp [this] at hp,
    fun _ h => h, fun f => ⟨f.speed, f.cause, f.reason, f.rests⟩, fun _ => ⟨rfl, rfl⟩⟩

omit hk in
theorem placed_of_liesAhead {s : State} {n : Train} {x : Section} (h : s.liesAhead n x = true) :
    (s.trains.get n).placed = true := by
  unfold State.liesAhead at h
  simp only [Bool.and_eq_true] at h
  obtain ⟨⟨⟨hp, -⟩, -⟩, -⟩ := h
  exact hp

omit hk in
theorem positionFix_moves (x : Section) (s : State) : Moves k s (positionFix x s) := by
  unfold positionFix
  split
  · exact .refl s
  · next n hn => exact fixHead_moves x (placed_of_liesAhead (List.find?_some (p := fun n => s.liesAhead n x) hn))

theorem fixAtMark_moves (n : Train) (m : MarkId) (x : Section) (offset : Nat) (s : State) :
    Moves k s (fixAtMark n m x offset s) := by
  unfold fixAtMark
  split
  · exact .refl s
  · dsimp only
    refine Moves.trans (modTrain_move ?_)
      (Moves.ite _ (fun _ => stopAtMark_moves hk ..) fun _ => refreshAuthority_moves ..)
    exact .of_same rfl rfl rfl rfl rfl rfl rfl

theorem markEvent_moves (m : MarkId) (x : Section) (offset : Nat) (s : State) :
    Moves k s (markEvent m x offset s) := by
  unfold markEvent
  split
  · exact fixAtMark_moves hk ..
  · split
    · next n hn =>
      have h := List.find?_some hn
      simp only [Bool.and_eq_true] at h
      exact (fixHead_moves x (placed_of_liesAhead h.2)).trans (fixAtMark_moves hk ..)
    · exact Moves.ite _ (fun _ => .refl s) fun _ => raise_moves ..

omit hk in
theorem occupancyNotice_moves (x : Section) (s : State) : Moves k s (occupancyNotice x s) := by
  unfold occupancyNotice
  refine Moves.ite _ (fun _ => ?_) fun _ => .refl s
  dsimp only
  refine Moves.trans (Moves.ite _ (fun _ => ?_) fun _ => ?_) (Moves.foldl crossingAct_moves _ _)
  · exact Moves.trans (Moves.ite _ (fun _ => raise_moves ..) fun _ => .refl s) (positionFix_moves ..)
  · exact (freeOnClear_moves ..).trans (grantOnClear_moves ..)

/-! ## Out of service, the halt and its end (R145, R146) -/

theorem faultTrain_moves (s : State) (n : Train) : Moves k s (faultTrain s n) := by
  unfold faultTrain; dsimp only
  exact withdraw_moves_of _ (restSections_asks ..) rfl rfl (by simp [TrainRun.placed])
    (fun _ => ⟨fun _ => rfl, by simp, by simp, by simp [TrainRun.moving]⟩) fun hc => absurd hc hk

theorem sectionCutNotice_moves (x : Section) (s : State) : Moves k s (sectionCutNotice x s) :=
  Moves.foldl (faultTrain_moves hk) _ s

omit hk in
theorem haltTrain_cases (x : TrainRun) : haltTrain x = x ∨
    ((x.state = .waiting ∨ x.moving = true) ∧
      haltTrain x =
        { x with state := .halted, speed := 0, target := 0, duty := 0, cause := none, reason := none }) := by
  unfold haltTrain TrainRun.moving
  split <;> simp_all

theorem haltTrain_move {h : Bool} (x : TrainRun) : TrainMove k h x (haltTrain x) := by
  rcases haltTrain_cases x with e | ⟨-, e⟩
  · rw [e]; exact .refl x
  · rw [e]
    exact .of_placed rfl rfl rfl (by simp) (fun _ => ⟨fun _ => rfl, by simp, by simp,
      by simp [TrainRun.moving]⟩) fun hc => absurd hc hk

omit hk in
/-- The turnabouts that a halt lets take place (R146). -/
theorem pendingTurns_moves (s : State) :
    Moves k s (((ids 6).filter fun n => decide ((s.trains.get n).state = .halted) &&
      (s.trains.get n).pending.isSome).foldl (fun s n => turnabout n s) s) := by
  refine Moves.of_still (Moves.foldl_mem (Q := fun n s => (s.trains.get n).state = .halted)
    (fun n s h => turnabout_moves (placed_of_state h (by simp))) (fun n m s h g => ?_) _ s fun n hn => ?_)
  · rw [(turnabout_still (placed_of_state h (by simp)) m).1]; exact g
  · simp only [List.mem_filter, Bool.and_eq_true, decide_eq_true_eq] at hn
    exact hn.2.1

theorem haltTrains_moves (s : State) : Moves k s (haltTrains s) := by
  refine Moves.trans (Move.trains (withTrains_shifts (s.trains.map haltTrain) s) rfl fun m => ?_).one
    (pendingTurns_moves _)
  rw [State.withTrains_trains, Table.get_map]
  exact haltTrain_move hk _

theorem comeBack_moves {n : Train} {s : State} (h : Rests (s.trains.get n)) : Moves k s (comeBack s n) :=
  Moves.ite _ (fun _ => enterWaiting_moves hk h) fun _ => park_moves hk h

omit hk in
theorem waitingRun_placed (h : Bool) (r : Option WaitReason) (x : TrainRun) :
    (waitingRun h r x).placed = true := by
  cases h <;> rfl

omit hk in
theorem waitingRun_rests (h : Bool) (r : Option WaitReason) (x : TrainRun) : Rests (waitingRun h r x) := by
  cases h <;> exact .inl rfl

omit hk in
theorem comeBack_rests (n m : Train) (s : State) (h : Rests (s.trains.get m)) :
    Rests ((comeBack s n).trains.get m) := by
  unfold comeBack
  split
  · rw [enterWaiting, enterWaitingFor_eq, State.modTrain_get]
    split
    · exact waitingRun_rests ..
    · exact h
  · rw [park, State.modTrain_get]
    split
    · exact .inl rfl
    · exact h

theorem resumeTrains_moves (s : State) : Moves k s (resumeTrains s) := by
  refine Moves.foldl_mem (Q := fun n s => Rests (s.trains.get n)) (fun n s h => comeBack_moves hk h)
    (fun n m s _ g => comeBack_rests n m s g) _ s fun n hn => ?_
  simp only [List.mem_filter, decide_eq_true_eq] at hn
  exact rests_of_state hn.2 (by simp) (by simp)

/-! ## Lines about a train (R147, R148, R151, R152, R156) -/

omit hk in
theorem restartCabTimer_moves (n : Train) (s : State) : Moves k s (restartCabTimer n s) := by
  unfold restartCabTimer
  split
  · exact .refl s
  · exact modTrain_move (.of_same rfl rfl rfl rfl rfl rfl rfl)

theorem placeTrain_moves {n : Train} (x : Section) (e : End) {u : Section} {s : State}
    (hp : (s.trains.get n).placed = false) (hh : (s.units.get u).holder = none) :
    Moves k s (placeTrain n x e u s) := by
  unfold placeTrain
  refine (modTrain_move ?_).trans (grant_moves hh ?_ fun _ => .inl ?_)
  · exact ⟨fun _ => .inr ⟨hp, rfl, rfl⟩, fun _ h => by simp [TrainRun.placed, TrainRun.placedIn] at h,
      fun _ h => by simp [TrainRun.placedIn] at h,
      fun _ => ⟨fun _ => rfl, by simp [TrainRun.placedIn, TrainRun.reset], by simp [TrainRun.placedIn, TrainRun.reset],
        by simp [TrainRun.placedIn, TrainRun.moving]⟩,
      fun hc => absurd hc hk⟩
  · rw [State.modTrain_self]; rfl
  · rw [State.modTrain_self]; rfl

theorem findTrain_moves {n : Train} (x : Section) (e : End) {u : Section} {s : State}
    (hl : (s.trains.get n).state = .lost) (hh : (s.units.get u).holder = none ∨ (s.units.get u).holder = some n)
    (hf : k.free → (s.trains.get n).request = none) : Moves k s (findTrain n x e u s) := by
  unfold findTrain; dsimp only
  refine Moves.trans ?_ (refreshAuthority_moves ..)
  refine Moves.trans ?_ (Moves.foldl (release_moves false n) _ _)
  refine Moves.trans (modTrain_move ?_) (Moves.ite _ (fun _ => .refl _) fun hn => grant_moves ?_ ?_ fun g => .inl ?_)
  · have hm : (s.trains.get n).moving = false := by simp [TrainRun.moving, hl]
    exact .of_placed rfl rfl rfl (by simp [TrainRun.foundIn]) (fun f => ⟨fun _ => f.speed hm,
      by simp [TrainRun.foundIn], by simp [TrainRun.foundIn], by simp [TrainRun.foundIn, TrainRun.moving]⟩)
      fun hc => absurd hc hk
  · exact hh.resolve_right hn
  · rw [State.modTrain_self]; rfl
  · rw [State.modTrain_self]; exact hf g

omit hk in
theorem startable_cases {x : TrainRun} (h : x.startable = true) : x.state = .parked ∨ x.state = .dwelling := by
  simpa [TrainRun.startable] using h

omit hk in
theorem startable_placed {x : TrainRun} (h : x.startable = true) : x.placed = true := by
  rcases startable_cases h with e | e <;> exact placed_of_state e (by simp)

omit hk in
theorem startable_rests {x : TrainRun} (h : x.startable = true) : Rests x := by
  rcases startable_cases h with e | e <;> exact rests_of_state e (by simp) (by simp)

omit hk in
theorem Rests.of_still {x y : TrainRun} (h : Rests x) (hs : y.state = x.state ∧ y.speed = x.speed) : Rests y := by
  refine h.imp (fun hm => ?_) fun hsp => hs.2.trans hsp
  rw [← hm, TrainRun.moving, hs.1]
  rfl

theorem startRoute_moves {n : Train} (r : RouteId) (turn : Bool) {s : State}
    (h : (s.trains.get n).startable = true) : Moves k s (startRoute n r turn s) := by
  unfold startRoute; dsimp only
  have start : ∀ j : Care, Moves j s (refreshAuthority n (askAllThrows n ((withdraw n
      (if turn then turnabout n s else s)).modTrain n fun t =>
        { t with mode := .route, route := some (r, 0), served := true, dwell := 0, cabTimer := none }))) := by
    intro j
    refine Moves.trans (Moves.trans (Moves.trans (Moves.trans ?_ (withdraw_moves ..)) (modTrain_move ?_))
      (askAllThrows_moves ..)) (refreshAuthority_moves ..)
    · exact Moves.ite _ (fun _ => turnabout_moves (startable_placed h)) fun _ => .refl s
    · exact .of_same rfl rfl rfl rfl rfl rfl rfl
  refine (start k).trans (enterWaiting_moves hk ?_)
  exact (startable_rests h).of_still (Moves.still (k := ⟨False, False, True⟩) trivial (start _) n)

omit hk in
/-- The part of becoming a CAB train that keeps its state and speed (R156). -/
theorem cabFields_moves (n : Train) (step : Nat) (s : State) :
    Moves k s ((if (s.trains.get n).mode = .route then withdraw n s else s).modTrain n fun t =>
      { t with mode := .cab, cabStep := step, route := none, served := false, dwell := 0, cabSince := true }) :=
  Moves.trans (Moves.ite _ (fun _ => withdraw_moves ..) fun _ => .refl s)
    (modTrain_move (.of_same rfl rfl rfl rfl rfl rfl rfl))

theorem enterCab_moves (n : Train) (step : Nat) (s : State) : Moves k s (enterCab n step s) := by
  unfold enterCab; dsimp only
  refine (cabFields_moves n step s).trans (Moves.ite _ (fun h => enterWaiting_moves hk ?_) fun _ => .refl _)
  exact (startable_rests h).of_still
    (Moves.still (k := ⟨False, False, True⟩) trivial (cabFields_moves n step s) n)

omit hk in
theorem enterCab_placed {n : Train} (step : Nat) {s : State} (h : (s.trains.get n).placed = true) :
    ((enterCab n step s).trains.get n).placed = true := by
  have hst := (Moves.still (k := ⟨False, False, True⟩) trivial (cabFields_moves n step s) n).1
  unfold enterCab; dsimp only
  split
  · rw [enterWaiting, enterWaitingFor_eq, State.modTrain_self]
    exact waitingRun_placed ..
  · rw [placed_iff] at h ⊢
    rw [hst]; exact h

theorem cabTurn_moves {n : Train} (o : Orientation) {s : State} (h : (s.trains.get n).placed = true) :
    Moves k s (cabTurn n o s) := by
  unfold cabTurn
  refine Moves.ite _ (fun _ => turnabout_moves h) fun hv => ?_
  have start : ∀ j : Care, Moves j s (withdraw n (s.modTrain n fun t => { t with pending := some o })) :=
    fun j => (modTrain_move (.of_same rfl rfl rfl rfl rfl rfl rfl)).trans (withdraw_moves ..)
  refine (start k).trans (startStopping_moves hk _ (.inr ?_))
  rw [(Moves.still (k := ⟨False, False, True⟩) trivial (start _) n).2]
  exact hv

theorem cabZero_moves (n : Train) (s : State) : Moves k s (cabZero n s) :=
  Moves.ite _ (fun h => startStopping_moves hk _ (.inl h)) fun h => park_moves hk (.inl (by simpa using h))

theorem driveCab_moves {n : Train} (step : Nat) (o : Option Orientation) {s : State}
    (h : (s.trains.get n).placed = true) : Moves k s (driveCab n step o s) := by
  unfold driveCab; dsimp only
  refine (enterCab_moves hk n step s).trans (Moves.trans ?_
    (Moves.ite _ (fun _ => cabZero_moves hk ..) fun _ => .refl _))
  split
  · exact .refl _
  · exact Moves.ite _ (fun _ => .refl _) fun _ => cabTurn_moves hk _ (enterCab_placed step h)

theorem parkRoute_moves (n : Train) (s : State) : Moves k s (parkRoute n s) := by
  unfold parkRoute; dsimp only
  refine Moves.trans ((withdraw_moves n s).trans (modTrain_move ?_)) (Moves.ite _
    (fun h => startStopping_moves hk _ (.inl h)) fun h => park_moves hk (.inl (by simpa using h)))
  exact .of_same rfl rfl rfl rfl rfl rfl rfl

theorem cabExpiry_moves (n : Train) (s : State) : Moves k s (cabExpiry n s) := by
  unfold cabExpiry
  split
  · exact .refl s
  · dsimp only
    have stopped : Moves k s (s.modTrain n fun t => { t with cabTimer := none }) :=
      modTrain_move (.of_same rfl rfl rfl rfl rfl rfl rfl)
    refine stopped.trans (Moves.ite _ (fun _ => .refl _) fun _ => Moves.trans ?_ (raise_moves ..))
    generalize s.modTrain n (fun t => { t with cabTimer := none }) = v
    have zeroed : Moves k v (v.modTrain n fun t => { t with cabStep := 0 }) :=
      modTrain_move (.of_same rfl rfl rfl rfl rfl rfl rfl)
    refine zeroed.trans (Moves.ite _ (fun h => startStopping_moves hk _ (.inl h)) fun _ => ?_)
    exact Moves.ite _ (fun h => park_moves hk (rests_of_state h (by simp) (by simp))) fun _ => .refl _

/-! ## The timetable (R155) -/

theorem fireEntry_moves (s : State) (e : TimeEntry) : Moves k s (fireEntry s e) := by
  unfold fireEntry; dsimp only
  split
  · exact raise_moves ..
  · refine Moves.ite _ (fun h => ?_) fun _ => raise_moves ..
    split
    · exact raise_moves ..
    · exact startRoute_moves hk _ _ h

theorem trafficStep_moves (t0 t1 d : Nat) (s : State) : Moves k s (trafficStep t0 t1 d s) :=
  Moves.trans (Moves.ite _ (fun _ => Moves.foldl (fireEntry_moves hk) _ s) fun _ => .refl s)
    (Moves.foldl (takeDwell_moves hk d) _ _)

end

end Sys2Proof.Machine
end

section
-- One theorem after the other: side by side, waiting proofs would pile up.
set_option Elab.async false
/-! SUPPORT. What every move keeps of the reservations (R112, R115, R116): the books of holders and waiters
agree, and no train waits for itself. -/

namespace Sys2Proof.Machine

open Sys2Proof.Safety

/-! ## The books of holders, holdings, waiting lists and requests -/

/-- Holders and holdings agree, and waiting lists and requests; a free unit with waiters is crowded (R112, R113,
R115). -/
structure Books (hold : Train → List Section) (req : Train → Option Section) (holder : Section → Option Train)
    (wait : Section → List Train) (crowd : Section → Prop) : Prop where
  holds : ∀ n u, u ∈ hold n ↔ holder u = some n
  holdOnce : ∀ n, (hold n).Nodup
  waits : ∀ n u, n ∈ wait u ↔ req n = some u
  waitOnce : ∀ u, (wait u).Nodup
  apart : ∀ n u, n ∈ wait u → holder u ≠ some n
  crowded : ∀ u, holder u = none → wait u ≠ [] → crowd u

section

variable {hold : Train → List Section} {req : Train → Option Section} {holder : Section → Option Train}
  {wait : Section → List Train} {crowd : Section → Prop}

/-- A free unit is entered as train n's. -/
theorem Books.grant (h : Books hold req holder wait crowd) {n : Train} {u : Section} (hu : holder u = none) :
    Books (fun m => if m = n then hold m ++ [u] else hold m)
      (fun m => if m = n ∧ req m = some u then none else req m)
      (fun v => if v = u then some n else holder v)
      (fun v => if v = u then (wait v).erase n else wait v) crowd where
  holds m v := by
    have := h.holds m v
    by_cases hm : m = n <;> by_cases hv : v = u <;> grind
  holdOnce m := by
    have hn : u ∉ hold m := fun hc => by rw [(h.holds m u).mp hc] at hu; cases hu
    have := h.holdOnce m
    by_cases hm : m = n
    · simp only [hm, if_true] at *
      exact List.nodup_append.mpr ⟨this, by simp, by grind⟩
    · simpa [hm] using this
  waits m v := by
    have hw := h.waits m v
    have hmem := (h.waitOnce u).mem_erase_iff (a := n) (b := m)
    by_cases hm : m = n <;> by_cases hv : v = u <;> grind
  waitOnce v := by
    split
    · exact (h.waitOnce v).erase n
    · exact h.waitOnce v
  apart m v := by
    have := h.apart m v
    have hmem := (h.waitOnce u).mem_erase_iff (a := n) (b := m)
    by_cases hv : v = u <;> grind
  crowded v := by
    have := h.crowded v
    by_cases hv : v = u <;> grind

/-- Train n gives a unit up; the unit's record shows no holder. -/
theorem Books.drop (h : Books hold req holder wait crowd) {n : Train} {u : Section} (hu : holder u = some n)
    (hc : wait u ≠ [] → crowd u) :
    Books (fun m => if m = n then (hold m).erase u else hold m) req
      (fun v => if v = u then none else holder v) wait crowd where
  holds m v := by
    have := h.holds m v
    have hmem := (h.holdOnce m).mem_erase_iff (a := u) (b := v)
    by_cases hm : m = n <;> by_cases hv : v = u <;> grind
  holdOnce m := by
    split
    · exact (h.holdOnce m).erase u
    · exact h.holdOnce m
  waits := h.waits
  waitOnce := h.waitOnce
  apart m v hm := by
    have := h.apart m v hm
    split
    · simp
    · exact this
  crowded v := by
    have := h.crowded v
    by_cases hv : v = u <;> grind

/-- A unit passes from its holder to one of its waiters. -/
theorem Books.pass (h : Books hold req holder wait crowd) {n w : Train} {u : Section} (hu : holder u = some n)
    (hw : w ∈ wait u) :
    Books (fun m => if m = w then (if m = n then (hold m).erase u else hold m) ++ [u]
        else if m = n then (hold m).erase u else hold m)
      (fun m => if m = w ∧ req m = some u then none else req m)
      (fun v => if v = u then some w else if v = u then none else holder v)
      (fun v => if v = u then (wait v).erase w else wait v) crowd := by
  have hb : Books hold req holder wait (fun v => v = u ∨ crowd v) :=
    ⟨h.holds, h.holdOnce, h.waits, h.waitOnce, h.apart, fun v a b => .inr (h.crowded v a b)⟩
  have hd := (hb.drop hu fun _ => .inl rfl).grant (n := w) (u := u) (by simp)
  refine ⟨hd.holds, hd.holdOnce, hd.waits, hd.waitOnce, hd.apart, fun v a b => ?_⟩
  rcases hd.crowded v a b with e | e
  · subst e; simp at a
  · exact e

/-- A train without a request joins a waiting list. -/
theorem Books.queue (h : Books hold req holder wait crowd) {n : Train} {u : Section} (hu : holder u ≠ some n)
    (hr : req n = none) (hc : holder u = none → crowd u) :
    Books hold (fun m => if m = n then some u else req m) holder
      (fun v => if v = u then wait v ++ [n] else wait v) crowd where
  holds := h.holds
  holdOnce := h.holdOnce
  waits m v := by
    have := h.waits m v
    by_cases hm : m = n <;> by_cases hv : v = u <;> grind
  waitOnce v := by
    have := h.waits n v
    have := h.waitOnce v
    by_cases hv : v = u
    · simp only [hv, if_true] at *
      exact List.nodup_append.mpr ⟨this, by simp, by grind⟩
    · simpa [hv] using this
  apart m v := by
    have := h.apart m v
    by_cases hv : v = u <;> grind
  crowded v := by
    have := h.crowded v
    by_cases hv : v = u <;> grind

/-- A train gives up its request. -/
theorem Books.quit (h : Books hold req holder wait crowd) (n : Train) :
    Books hold (fun m => if m = n then none else req m) holder
      (fun v => if req n = some v then (wait v).erase n else wait v) crowd where
  holds := h.holds
  holdOnce := h.holdOnce
  waits m v := by
    have := h.waits m v
    have := h.waits n v
    have hmem := (h.waitOnce v).mem_erase_iff (a := n) (b := m)
    by_cases hm : m = n <;> by_cases hv : req n = some v <;> grind
  waitOnce v := by
    split
    · exact (h.waitOnce v).erase n
    · exact h.waitOnce v
  apart m v hm := by
    refine h.apart m v ?_
    split at hm
    · exact List.mem_of_mem_erase hm
    · exact hm
  crowded v hv hw := by
    refine h.crowded v hv fun e => hw ?_
    rw [e]; split <;> simp

end

/-! ## The books of a state -/

/-- A section of the unit is OCCUPIED: what blocks a unit without a holder (R112). -/
def State.crowded (s : State) (u : Section) : Prop := (s.cfg.unitSections u).any s.occupied = true

theorem State.crowded_iff (s : State) (u : Section) :
    s.crowded u ↔ (s.cfg.unitSections u).any s.occupied = true := Iff.rfl

theorem State.blocked_iff (s : State) (u : Section) :
    s.blocked u = true ↔ (s.units.get u).holder = none ∧ s.crowded u := by
  simp [State.blocked, State.crowded_iff]

theorem Traffic.crowded {s t : State} (h : Traffic s t) : t.crowded = s.crowded := by
  funext u; simp [State.crowded_iff, h.cfg, h.occupied]

/-- The books of a state's reservations; the units of `ex` may be free with waiters though no section of theirs
is OCCUPIED, as between a CLEAR and the grant that follows it (R119, R123). -/
def StateBooks (ex : Section → Prop) (s : State) : Prop :=
  Books (fun n => (s.trains.get n).holdings) (fun n => (s.trains.get n).request)
    (fun u => (s.units.get u).holder) (fun u => (s.units.get u).waiting) fun u => ex u ∨ s.crowded u

/-- An UNPLACED train holds, stands on and asks for nothing (R147). -/
def UnplacedBare (s : State) : Prop :=
  ∀ n, (s.trains.get n).placed = false →
    (s.trains.get n).holdings = [] ∧ (s.trains.get n).span = [] ∧ (s.trains.get n).request = none

theorem stateBooks_iff (ex : Section → Prop) (s : State) : StateBooks ex s ↔
    Books (fun n => (s.trains.get n).holdings) (fun n => (s.trains.get n).request)
      (fun u => (s.units.get u).holder) (fun u => (s.units.get u).waiting) fun u => ex u ∨ s.crowded u := Iff.rfl

/-- The reservations agree, but for the units of `ex`. -/
structure AgreeBut (ex : Section → Prop) (s : State) : Prop where
  books : StateBooks ex s
  bare : UnplacedBare s

theorem reservationsAgree_iff (s : State) : ReservationsAgree s ↔ AgreeBut (fun _ => False) s := by
  constructor
  · rintro ⟨a, b, c, d, e, f, g⟩
    exact ⟨⟨a, b, c, d, e, fun u hn hw => .inr ((s.blocked_iff u).mp (f u hn hw)).2⟩, g⟩
  · rintro ⟨h, g⟩
    exact ⟨h.holds, h.holdOnce, h.waits, h.waitOnce, h.apart,
      fun u hn hw => (s.blocked_iff u).mpr ⟨hn, (h.crowded u hn hw).resolve_left id⟩, g⟩

section

variable {ex : Section → Prop}

/-- A state with the same units, requests and holdings has the same books. -/
theorem StateBooks.congr {s t : State} (hc : t.crowded = s.crowded)
    (hu : ∀ u, (t.units.get u).holder = (s.units.get u).holder ∧ (t.units.get u).waiting = (s.units.get u).waiting)
    (ht : ∀ n, (t.trains.get n).holdings = (s.trains.get n).holdings ∧
      (t.trains.get n).request = (s.trains.get n).request) (h : StateBooks ex s) : StateBooks ex t := by
  rw [stateBooks_iff] at *
  simpa only [hc, (hu _).1, (hu _).2, (ht _).1, (ht _).2] using h

/-- A frame that leaves units and, of trains, all but authorities and powered sets. -/
theorem agree_of_redraw {s t : State} (hr : TrainsRedraw s t) (hu : t.units = s.units) (ht : Traffic s t)
    (h : AgreeBut ex s) : AgreeBut ex t := by
  obtain ⟨hb, hp⟩ := h
  refine ⟨hb.congr ht.crowded (fun u => by rw [hu]; exact ⟨rfl, rfl⟩) fun n => by rw [hr n]; exact ⟨rfl, rfl⟩,
    fun n hn => ?_⟩
  rw [hr n] at hn ⊢
  exact hp n hn

theorem Calls.agree {s t : State} (h : Calls s t) (g : AgreeBut ex s) : AgreeBut ex t :=
  agree_of_redraw h.trains h.units h.toTraffic g

theorem grantCore_agree {n : Train} {u : Section} {s : State} (hh : (s.units.get u).holder = none)
    (hp : (s.trains.get n).placed = true) (h : AgreeBut ex s) : AgreeBut ex (grantCore n u s) := by
  obtain ⟨hb, hu⟩ := h
  constructor
  · have := hb.grant (n := n) hh
    rw [stateBooks_iff]
    simp only [(grantCore_shifts n u s).crowded, grantCore_unit, grantCore_train]
    convert this using 2 <;> split <;> rfl
  · intro m hm
    rw [grantCore_train] at hm ⊢
    have hne : m ≠ n := fun e => by subst e; rw [show (s.trains.get m).placed = false from hm] at hp; cases hp
    simpa [hne] using hu m hm

theorem dropUnit_holdings (n m : Train) (u : Section) (s : State) :
    ((dropUnit n u s).trains.get m).holdings =
      if m = n then (s.trains.get m).holdings.erase u else (s.trains.get m).holdings := by
  obtain ⟨p, hp⟩ := dropUnit_train n m u s
  rw [hp]

theorem dropUnit_request (n m : Train) (u : Section) (s : State) :
    ((dropUnit n u s).trains.get m).request = (s.trains.get m).request := by
  obtain ⟨p, hp⟩ := dropUnit_train n m u s
  rw [hp]

theorem dropUnit_bare {n : Train} {u : Section} {s : State} (h : UnplacedBare s) :
    UnplacedBare (dropUnit n u s) := by
  intro m
  obtain ⟨p, hp⟩ := dropUnit_train n m u s
  rw [hp]
  intro hm
  obtain ⟨ha, hb, hc⟩ := h m hm
  refine ⟨?_, hb, hc⟩
  dsimp only
  rw [ha]; split <;> rfl

theorem dropUnit_agree {n : Train} {u : Section} {s : State} (hh : (s.units.get u).holder = some n)
    (hb : (s.units.get u).waiting = [] ∨ (dropUnit n u s).blocked u = true) (h : AgreeBut ex s) :
    AgreeBut ex (dropUnit n u s) := by
  obtain ⟨hbk, hu⟩ := h
  refine ⟨?_, dropUnit_bare hu⟩
  have hc : (s.units.get u).waiting ≠ [] → ex u ∨ s.crowded u := fun hw => .inr (by
    rw [← (dropUnit_shifts n u s).crowded]
    exact ((State.blocked_iff _ u).mp (hb.resolve_left hw)).2)
  have := hbk.drop hh hc
  rw [stateBooks_iff]
  simp only [(dropUnit_shifts n u s).crowded, dropUnit_unit, dropUnit_holdings, dropUnit_request]
  convert this using 2 <;> split <;> rfl

theorem pass_agree {n w : Train} {u : Section} {s : State} (hh : (s.units.get u).holder = some n)
    (hw : w ∈ (s.units.get u).waiting) (h : AgreeBut ex s) :
    AgreeBut ex (grantCore w u (dropUnit n u s)) := by
  obtain ⟨hbk, hu⟩ := h
  have hreq := (hbk.waits w u).mp hw
  constructor
  · have := hbk.pass hh hw
    rw [stateBooks_iff]
    simp only [((dropUnit_shifts n u s).trans (grantCore_shifts w u _)).crowded, grantCore_unit, grantCore_train,
      dropUnit_unit, dropUnit_holdings, dropUnit_request]
    convert this using 2 <;> split <;> rfl
  · intro m hm
    rw [grantCore_train] at hm ⊢
    have hd := dropUnit_bare (n := n) (u := u) hu m hm
    have hne : m ≠ w := fun e => by
      subst e
      rw [dropUnit_request, hreq] at hd
      simp at hd
    simpa [hne] using hd

theorem queueCore_agree {n : Train} {u : Section} {s : State} (hh : (s.units.get u).holder ≠ some n)
    (hp : (s.trains.get n).placed = true) (hr : (s.trains.get n).request = none)
    (hb : (s.units.get u).holder = none → s.blocked u = true ∨ (s.units.get u).waiting ≠ [])
    (h : AgreeBut ex s) : AgreeBut ex (queueCore n u s) := by
  obtain ⟨hbk, hu⟩ := h
  constructor
  · have hc : (s.units.get u).holder = none → ex u ∨ s.crowded u := fun hn =>
      (hb hn).elim (fun g => .inr ((s.blocked_iff u).mp g).2) (hbk.crowded u hn)
    have := hbk.queue hh hr hc
    rw [stateBooks_iff]
    simp only [(queueCore_shifts n u s).crowded, queueCore_unit, queueCore_train]
    convert this using 2 <;> split <;> rfl
  · intro m hm
    rw [queueCore_train] at hm ⊢
    split at hm
    · next e => subst e; rw [show (s.trains.get m).placed = false from hm] at hp; cases hp
    · next hne => rw [if_neg hne]; exact hu m hm

theorem unitsWithout_get (n : Train) (s : State) (v : Section) :
    (unitsWithout n s).get v =
      if (s.trains.get n).request = some v then
        { s.units.get v with waiting := (s.units.get v).waiting.erase n }
      else s.units.get v := by
  cases h : (s.trains.get n).request with
  | none => simp [unitsWithout_of_none h]
  | some u =>
    rw [unitsWithout_of_some h, Table.get_modify]
    simp only [Option.some.injEq, eq_comm]

/-- What every move keeps of the reservations. -/
theorem Move.agree {k : Care} (hk : k.agree) {s t : State} (hm : Move k s t) (h : AgreeBut ex s) :
    AgreeBut ex t := by
  cases hm with
  | trains hs hu ht =>
    obtain ⟨hb, hp⟩ := h
    have same : ∀ n, (t.trains.get n).holdings = (s.trains.get n).holdings ∧
        (t.trains.get n).request = (s.trains.get n).request := fun n => by
      rcases (ht n).keeps hk with e | ⟨hu, hh, hr⟩
      · exact e
      · obtain ⟨ha, -, hc⟩ := hp n hu
        exact ⟨hh.trans ha.symm, hr.trans hc.symm⟩
    refine ⟨hb.congr hs.crowded (fun u => by rw [hu]; exact ⟨rfl, rfl⟩) same, fun n hn => ?_⟩
    rcases (ht n).placed hk hn with ⟨hx, hsp⟩ | e
    · obtain ⟨ha, hb, hc⟩ := hp n hx
      exact ⟨(same n).1.trans ha, hsp.trans hb, (same n).2.trans hc⟩
    · exact e
  | take n u hh hp hf => exact (unitNotice_calls ..).agree (grantCore_agree hh hp h)
  | hand n u hh hw =>
    refine grantCore_agree hh ?_ h
    by_contra hp
    have hr := h.bare n (by simpa using hp)
    have hreq := (h.books.waits n u).mp hw
    rw [hr.2.2] at hreq; cases hreq
  | drop n u hh hb => exact dropUnit_agree hh hb h
  | pass n w u hh hw => exact pass_agree hh hw h
  | queue n u hh hp hr hl hb hc => exact (unitNotice_calls ..).agree (queueCore_agree hh hp hr hb h)
  | quit n y hs hu ht hh hr hp hf hst =>
    obtain ⟨hb, hbare⟩ := h
    constructor
    · have hq := hb.quit n
      have hold : ∀ m, (t.trains.get m).holdings = (s.trains.get m).holdings := fun m => by
        rw [ht]; split
        · next e => subst e; exact hh
        · rfl
      have req : ∀ m, (t.trains.get m).request = if m = n then none else (s.trains.get m).request := fun m => by
        rw [ht]; split
        · exact hr
        · rfl
      rw [stateBooks_iff]
      simp only [hs.crowded, hu, unitsWithout_get, hold, req]
      convert hq using 2 <;> split <;> rfl
    · intro m hm
      rw [ht] at hm ⊢
      split at hm
      · next e =>
        subst e
        obtain ⟨hx, hsp⟩ := hp hm
        obtain ⟨ha, hb, -⟩ := hbare m hx
        rw [if_pos rfl]
        exact ⟨hh.trans ha, hsp.trans hb, hr⟩
      · next hne => rw [if_neg hne]; exact hbare m hm
  | crossing c => exact (crossingAct_calls ..).agree h
  | report r => exact agree_of_redraw (raise_drives r s).trains (raise_drives r s).units (raise_traffic ..) h
  | throw e =>
    exact agree_of_redraw (requestThrow_drives e s).trains (requestThrow_drives e s).units
      (requestThrow_traffic ..) h

theorem Moves.agreeBut {k : Care} (hk : k.agree) {s t : State} (hm : Moves k s t) (h : AgreeBut ex s) :
    AgreeBut ex t := hm.keeps (fun m => m.agree hk) h

end

theorem Moves.agree {k : Care} (hk : k.agree) {s t : State} (hm : Moves k s t) (h : ReservationsAgree s) :
    ReservationsAgree t := by
  rw [reservationsAgree_iff] at *
  exact hm.agreeBut hk h

/-! ## Who waits on whom (R116) -/

/-- Train n asks for a unit that train m holds. -/
def WaitsOn (s : State) (n m : Train) : Prop := s.nextInChain n = some m

theorem waitsOn_iff (s : State) (n m : Train) :
    (∃ k, waitsOn s n k = some m) ↔ Relation.TransGen (WaitsOn s) n m := by
  constructor
  · rintro ⟨k, hk⟩
    induction k generalizing m with
    | zero => exact .single hk
    | succ k ih =>
      obtain ⟨x, hx, hm⟩ := Option.bind_eq_some_iff.mp hk
      exact .tail (ih x hx) hm
  · intro h
    induction h with
    | single h => exact ⟨0, h⟩
    | tail _ hb ih =>
      obtain ⟨k, hk⟩ := ih
      exact ⟨k + 1, by rw [waitsOn, hk]; exact hb⟩

/-- The reservations agree, no train waits for itself and no LOST train has a request. -/
def NoCircle (s : State) : Prop := ∀ n, ¬ Relation.TransGen (WaitsOn s) n n

theorem noWaitCycle_iff (s : State) : NoWaitCycle s ↔
    NoCircle s ∧ ∀ n, (s.trains.get n).state = .lost → (s.trains.get n).request = none := by
  refine and_congr_left fun _ => forall_congr' fun n => ?_
  rw [← waitsOn_iff]
  simp

/-- Links may be lost, and new ones lead only to a train that waits on nobody. -/
theorem noCircle_of_ends {s t : State} (h : ∀ n m, WaitsOn t n m → WaitsOn s n m ∨ ∀ x, ¬ WaitsOn t m x)
    (hs : NoCircle s) : NoCircle t := by
  have key : ∀ a b, Relation.TransGen (WaitsOn t) a b →
      Relation.TransGen (WaitsOn s) a b ∨ ∀ x, ¬ WaitsOn t b x := by
    intro a b hab
    induction hab with
    | single hb => exact (h _ _ hb).imp .single id
    | tail _ hbc ih =>
      refine (h _ _ hbc).imp (fun e => ?_) id
      exact (ih.resolve_right fun hx => hx _ hbc).tail e
  intro n hn
  rcases key n n hn with e | e
  · exact hs n e
  · obtain ⟨x, hx, -⟩ := Relation.TransGen.head'_iff.mp hn
    exact e x hx

/-- One new link, from n, whose end does not lead back to n. -/
theorem noCircle_of_link {s t : State} {n : Train}
    (h : ∀ a b, WaitsOn t a b → WaitsOn s a b ∨ (a = n ∧ ¬ Relation.ReflTransGen (WaitsOn s) b n))
    (hs : NoCircle s) : NoCircle t := by
  have key : ∀ a b, Relation.TransGen (WaitsOn t) a b → Relation.TransGen (WaitsOn s) a b ∨
      (Relation.ReflTransGen (WaitsOn s) a n ∧ ∃ c, ¬ Relation.ReflTransGen (WaitsOn s) c n ∧
        Relation.ReflTransGen (WaitsOn s) c b) := by
    intro a b hab
    induction hab with
    | single hb =>
      rcases h _ _ hb with e | ⟨e, hc⟩
      · exact .inl (.single e)
      · subst e; exact .inr ⟨.refl, _, hc, .refl⟩
    | tail _ hbc ih =>
      rcases h _ _ hbc with e | ⟨e, hc⟩
      · rcases ih with g | ⟨g, c, hc, hcb⟩
        · exact .inl (g.tail e)
        · exact .inr ⟨g, c, hc, hcb.tail e⟩
      · subst e
        rcases ih with g | ⟨-, c, hc', hcb⟩
        · exact .inr ⟨g.to_reflTransGen, _, hc, .refl⟩
        · exact absurd hcb hc'
  intro m hm
  rcases key m m hm with e | ⟨hmn, c, hc, hcm⟩
  · exact hs m e
  · exact hc (hcm.trans hmn)

/-- The train reached from h after j links. -/
def chainAt (s : State) (h : Train) : Nat → Option Train
  | 0 => some h
  | j + 1 => (chainAt s h j).bind s.nextInChain

theorem chainAt_zero (s : State) (h : Train) : chainAt s h 0 = some h := rfl

theorem chainAt_next (s : State) (h : Train) (j : Nat) :
    chainAt s h (j + 1) = (chainAt s h j).bind s.nextInChain := rfl

theorem chainAt_succ (s : State) (h : Train) (j : Nat) :
    chainAt s h (j + 1) = (s.nextInChain h).bind fun x => chainAt s x j := by
  induction j with
  | zero => cases e : s.nextInChain h <;> simp [chainAt_next, chainAt_zero, e]
  | succ j ih =>
    rw [chainAt_next, ih]
    cases e : s.nextInChain h <;> simp [chainAt_next]

theorem chainReaches_of_chainAt {s : State} {n h : Train} {j k : Nat} (hj : chainAt s h j = some n) (hk : j ≤ k) :
    s.chainReaches n k (some h) = true := by
  induction j generalizing h k with
  | zero =>
    have : h = n := Option.some.inj hj
    subst this
    cases k <;> simp [State.chainReaches]
  | succ j ih =>
    obtain ⟨k, rfl⟩ := Nat.exists_eq_add_of_le' (Nat.succ_le_of_lt (Nat.lt_of_lt_of_le j.succ_pos hk))
    rw [chainAt_succ] at hj
    obtain ⟨x, hx, hxj⟩ := Option.bind_eq_some_iff.mp hj
    simp only [State.chainReaches, Bool.or_eq_true]
    exact .inr (by rw [hx]; exact ih hxj (by omega))

theorem exists_chainAt {s : State} {h n : Train} (hr : Relation.ReflTransGen (WaitsOn s) h n) :
    ∃ j, chainAt s h j = some n := by
  induction hr with
  | refl => exact ⟨0, rfl⟩
  | tail _ hb ih =>
    obtain ⟨j, hj⟩ := ih
    exact ⟨j + 1, by rw [chainAt_next, hj]; exact hb⟩

/-- Two places of a chain with the same train: the chain goes on alike from both. -/
theorem chainAt_shift {s : State} {h : Train} {a b : Nat} (e : chainAt s h a = chainAt s h b) (d : Nat) :
    chainAt s h (a + d) = chainAt s h (b + d) := by
  induction d with
  | zero => exact e
  | succ d ih => rw [← Nat.add_assoc, ← Nat.add_assoc, chainAt_next, chainAt_next, ih]

/-- Six links reach every train that a chain reaches at all: a shortest chain meets no train twice. -/
theorem chainReaches_of_reaches {s : State} {n h : Train} (hr : Relation.ReflTransGen (WaitsOn s) h n) :
    s.chainReaches n 6 (some h) = true := by
  classical
  have hex := exists_chainAt hr
  set j := Nat.find hex with hj
  have hjn : chainAt s h j = some n := Nat.find_spec hex
  have hmin : ∀ i, i < j → chainAt s h i ≠ some n := fun i hi => Nat.find_min hex hi
  refine chainReaches_of_chainAt hjn ?_
  have some_below : ∀ i, i ≤ j → ∃ x, chainAt s h i = some x := by
    intro i hi
    obtain ⟨d, hd⟩ := Nat.exists_eq_add_of_le hi
    cases e : chainAt s h i with
    | some x => exact ⟨x, rfl⟩
    | none =>
      have stays : ∀ d, chainAt s h (i + d) = none := fun d => by
        induction d with
        | zero => exact e
        | succ d ih => rw [← Nat.add_assoc, chainAt_next, ih]; rfl
      rw [hd, stays d] at hjn; cases hjn
  have inj : ∀ a b, a < b → b ≤ j → chainAt s h a ≠ chainAt s h b := by
    intro a b hab hb e
    obtain ⟨d, hd⟩ := Nat.exists_eq_add_of_le hb
    refine hmin (a + d) (by omega) ?_
    rw [chainAt_shift e d, ← hd]; exact hjn
  choose! f hf using some_below
  have hcard : Fintype.card (Fin (j + 1)) ≤ Fintype.card Train := by
    refine Fintype.card_le_of_injective (fun i : Fin (j + 1) => f i.val) fun a b hab => ?_
    have hab' : f a.val = f b.val := hab
    by_contra hne
    have hv : a.val ≠ b.val := fun e => hne (Fin.ext e)
    rcases Nat.lt_or_gt_of_ne hv with hlt | hlt
    · exact inj _ _ hlt (by omega) (by rw [hf _ (by omega), hf _ (by omega), hab'])
    · exact inj _ _ hlt (by omega) (by rw [hf _ (by omega), hf _ (by omega), hab'])
  simp only [Fintype.card_fin] at hcard
  omega

theorem nextInChain_eq_some (s : State) (n m : Train) : s.nextInChain n = some m ↔
    ∃ u, (s.trains.get n).request = some u ∧ (s.units.get u).holder = some m := by
  unfold State.nextInChain
  split <;> simp_all

/-- A move that changes no holder and no request but to take some away. -/
theorem noCircle_of_fewer {s t : State}
    (hr : ∀ n u, (t.trains.get n).request = some u → (s.trains.get n).request = some u)
    (hh : ∀ n u, (t.units.get u).holder = some n → (s.units.get u).holder = some n) (hs : NoCircle s) :
    NoCircle t := by
  refine noCircle_of_ends (fun n m h => .inl ?_) hs
  obtain ⟨u, hu, hm⟩ := (nextInChain_eq_some t n m).mp h
  exact (nextInChain_eq_some s n m).mpr ⟨u, hr n u hu, hh m u hm⟩

theorem Calls.noCircle {s t : State} (h : Calls s t) (g : NoCircle s) : NoCircle t :=
  noCircle_of_fewer (fun n u => by rw [h.trains n]; exact id) (fun n u => by rw [h.units]; exact id) g

/-- A unit goes to a train that then asks for nothing. -/
theorem noCircle_of_grant {n : Train} {u : Section} {s v : State}
    (hr : ∀ m w, (v.trains.get m).request = some w → (s.trains.get m).request = some w)
    (hh : ∀ m w, w ≠ u → (v.units.get w).holder = some m → (s.units.get w).holder = some m)
    (hf : (v.trains.get n).request = none ∨ (v.trains.get n).request = some u) (hs : NoCircle s) :
    NoCircle (grantCore n u v) := by
  have sink : ∀ x, ¬ WaitsOn (grantCore n u v) n x := fun x hx => by
    obtain ⟨w, hw, -⟩ := (nextInChain_eq_some _ n x).mp hx
    rw [grantCore_train] at hw
    rcases hf with e | e <;> simp [e] at hw
  refine noCircle_of_ends (fun a b hab => ?_) hs
  by_cases hb : b = n
  · subst hb; exact .inr sink
  · refine .inl ?_
    obtain ⟨w, hw, hx⟩ := (nextInChain_eq_some _ a b).mp hab
    rw [grantCore_train] at hw
    rw [grantCore_unit] at hx
    have hwu : w ≠ u := fun e => by
      rw [if_pos e] at hx
      exact hb (Option.some.inj hx).symm
    rw [if_neg hwu] at hx
    have hw' : (v.trains.get a).request = some w := by
      dsimp only at hw
      split at hw
      · cases hw
      · exact hw
    exact (nextInChain_eq_some s a b).mpr ⟨w, hr a w hw', hh b w hwu hx⟩

/-- What every move keeps of the circles (R116): a grant only to a train that then waits for nothing, a queued
request only after the check of six links. -/
theorem Move.noWaitCycle {ex : Section → Prop} {k : Care} (hk : k.agree) (hfr : k.free) {s t : State} (hm : Move k s t)
    (h : AgreeBut ex s) (hn : NoWaitCycle s) : NoWaitCycle t := by
  rw [noWaitCycle_iff] at *
  obtain ⟨hc, hl⟩ := hn
  have calls : ∀ {v w : State}, Calls v w → (NoCircle v ∧
      ∀ n, (v.trains.get n).state = .lost → (v.trains.get n).request = none) →
      NoCircle w ∧ ∀ n, (w.trains.get n).state = .lost → (w.trains.get n).request = none := by
    rintro v w hvw ⟨a, b⟩
    exact ⟨hvw.noCircle a, fun n => by rw [hvw.trains n]; exact b n⟩
  have drives : ∀ {w : State}, Drives s w →
      NoCircle w ∧ ∀ n, (w.trains.get n).state = .lost → (w.trains.get n).request = none := by
    intro w hw
    exact ⟨noCircle_of_fewer (fun n u => by rw [hw.trains n]; exact id) (fun n u => by rw [hw.units]; exact id) hc,
      fun n => by rw [hw.trains n]; exact hl n⟩
  have granted : ∀ n u v, (∀ m, (v.trains.get m).state = .lost → (v.trains.get m).request = none) →
      ∀ m, ((grantCore n u v).trains.get m).state = .lost → ((grantCore n u v).trains.get m).request = none := by
    intro n u v hv m
    rw [grantCore_train]
    intro hm
    dsimp only
    rw [hv m hm]; simp
  have dropped : ∀ n u, ∀ m, ((dropUnit n u s).trains.get m).state = .lost →
      ((dropUnit n u s).trains.get m).request = none := by
    intro n u m
    obtain ⟨p, hp⟩ := dropUnit_train n m u s
    rw [hp]; exact hl m
  cases hm with
  | trains hs hu ht =>
    have same : ∀ n, (t.trains.get n).request = (s.trains.get n).request := fun n => by
      rcases (ht n).keeps hk with ⟨-, e⟩ | ⟨hp, -, e⟩
      · exact e
      · rw [e, (h.bare n hp).2.2]
    exact ⟨noCircle_of_fewer (fun n u => by rw [same]; exact id) (fun n u => by rw [hu]; exact id) hc,
      fun n hn => (same n).trans (hl n ((ht n).lost hfr hn))⟩
  | take n u hh hp hf =>
    exact calls (unitNotice_calls ..) ⟨noCircle_of_grant (fun _ _ => id) (fun _ _ _ => id) (hf hfr) hc,
      granted n u s hl⟩
  | hand n u hh hw =>
    exact ⟨noCircle_of_grant (fun _ _ => id) (fun _ _ _ => id) (.inr ((h.books.waits n u).mp hw)) hc,
      granted n u s hl⟩
  | drop n u hh hb =>
    refine ⟨noCircle_of_fewer (fun m v => by rw [dropUnit_request]; exact id) (fun m v hv => ?_) hc, dropped n u⟩
    rw [dropUnit_unit] at hv
    split at hv
    · cases hv
    · exact hv
  | pass n w u hh hw =>
    refine ⟨noCircle_of_grant (fun m v => by rw [dropUnit_request]; exact id) (fun m v hv => ?_) (.inr ?_) hc,
      granted w u _ (dropped n u)⟩
    · rw [dropUnit_unit, if_neg hv]; exact id
    · rw [dropUnit_request]; exact (h.books.waits w u).mp hw
  | queue n u hh hp hr hlost hb hch =>
    refine calls (unitNotice_calls ..) ⟨noCircle_of_link (n := n) (fun a b hab => ?_) hc, fun m => ?_⟩
    · obtain ⟨w, hw, hx⟩ := (nextInChain_eq_some _ a b).mp hab
      rw [queueCore_train] at hw
      have hx' : (s.units.get w).holder = some b := by
        rw [queueCore_unit] at hx
        split at hx <;> exact hx
      split at hw
      · next e =>
        have : u = w := Option.some.inj hw
        subst this
        refine .inr ⟨e, fun hrt => ?_⟩
        rw [hx', chainReaches_of_reaches hrt] at hch
        cases hch
      · exact .inl ((nextInChain_eq_some s a b).mpr ⟨w, hw, hx'⟩)
    · rw [queueCore_train]
      split
      · next e => subst e; exact fun g => absurd g hlost
      · exact hl m
  | quit n y hs hu ht hh hr hp hf hst =>
    refine ⟨noCircle_of_fewer (fun m v => ?_) (fun m v => ?_) hc, fun m => ?_⟩
    · rw [ht]; split
      · rw [hr]; simp
      · exact id
    · rw [hu, unitsWithout_get]; split <;> exact id
    · rw [ht]; split
      · exact fun _ => hr
      · exact hl m
  | crossing c => exact calls (crossingAct_calls ..) ⟨hc, hl⟩
  | report r => exact drives (raise_drives ..)
  | throw e => exact drives (requestThrow_drives ..)

theorem Moves.noWaitCycle {ex : Section → Prop} {k : Care} (hk : k.agree) (hfr : k.free) {s t : State}
    (hm : Moves k s t) (h : AgreeBut ex s) (hn : NoWaitCycle s) : NoWaitCycle t :=
  (hm.keeps (P := fun s => AgreeBut ex s ∧ NoWaitCycle s)
    (fun m ⟨ha, hc⟩ => ⟨m.agree hk ha, m.noWaitCycle hk hfr ha hc⟩) ⟨h, hn⟩).2

end Sys2Proof.Machine
end

section
-- One theorem after the other: side by side, waiting proofs would pile up.
set_option Elab.async false
/-! SUPPORT. What a release leaves of the train that makes it, and the lifting of a train as a sequence of moves
(R119, R148). -/

namespace Sys2Proof.Machine

open Sys2Proof.Safety

theorem Drives.foldl {α : Type} {f : State → α → State} (h : ∀ s x, Drives s (f s x)) (xs : List α) (s : State) :
    Drives s (xs.foldl f s) := foldl_frame Drives.refl Drives.trans h xs s

theorem askThrows_drives (n : Train) (s : State) (u : Section) : Drives s (askThrows n s u) := by
  unfold askThrows; split
  · exact .refl s
  · exact Drives.foldl (fun s p => requestThrow_drives _ s) _ s

theorem askAllThrows_drives (n : Train) (s : State) : Drives s (askAllThrows n s) :=
  Drives.foldl (askThrows_drives n) _ s

theorem reportStrays_drives (xs : List Section) (s : State) : Drives s (reportStrays xs s) :=
  Drives.foldl (fun s _ => raise_drives _ s) xs s

/-- What a grant leaves of the trains, but for authorities and powered sets. -/
theorem grant_redraws (quiet : Bool) (n : Train) (u : Section) (s : State) :
    TrainsRedraw (grantCore n u s) (grant quiet n u s) := by
  rw [grant_eq]
  refine TrainsRedraw.trans (TrainsRedraw.trans ?_ (askThrows_drives ..).trains)
    (refreshAuthority_redraws ..).trains
  split
  · exact .refl _
  · exact (unitNotice_calls ..).trains

theorem grant_units (quiet : Bool) (n : Train) (u : Section) (s : State) :
    (grant quiet n u s).units = (grantCore n u s).units := by
  rw [grant_eq, (refreshAuthority_redraws ..).units, (askThrows_drives ..).units]
  split
  · rfl
  · exact (unitNotice_calls ..).units

/-- A release leaves the trains as its drop does, but for authorities and powered sets, unless a waiter is
granted the unit at once (R119). -/
theorem releaseHeld_cases (quiet : Bool) (n : Train) (u : Section) (s : State) :
    (TrainsRedraw (dropUnit n u s) (releaseHeld quiet n u s) ∧
      (releaseHeld quiet n u s).units = (dropUnit n u s).units) ∨
    ∃ w, w ∈ (s.units.get u).waiting ∧ releaseHeld quiet n u s = grant quiet w u (dropUnit n u s) := by
  have hw : ((dropUnit n u s).units.get u).waiting = (s.units.get u).waiting := by simp [dropUnit_unit]
  have strayed : ∀ xs t, TrainsRedraw t (if quiet then reportStrays xs t else unitNotice u (reportStrays xs t)) ∧
      (if quiet then reportStrays xs t else unitNotice u (reportStrays xs t)).units = t.units := by
    intro xs t
    split
    · exact ⟨(reportStrays_drives ..).trains, (reportStrays_drives ..).units⟩
    · exact ⟨(reportStrays_drives ..).trains.trans (unitNotice_calls ..).trains,
        (unitNotice_calls ..).units.trans (reportStrays_drives ..).units⟩
  unfold releaseHeld; dsimp only
  split
  · exact .inl (strayed ..)
  · next w ws hcons =>
    split
    · exact .inl (strayed ..)
    · exact .inr ⟨w, by rw [← hw, hcons]; simp, rfl⟩

/-- A train without a request that releases a unit loses it and gets none (R119). -/
theorem release_self {n : Train} (quiet : Bool) (u : Section) {s : State} (ha : ReservationsAgree s)
    (hr : (s.trains.get n).request = none) :
    ((release quiet n s u).trains.get n).holdings = (s.trains.get n).holdings.erase u ∧
      ((release quiet n s u).trains.get n).request = none := by
  have hb := ((reservationsAgree_iff s).mp ha).books
  have dropped : ((dropUnit n u s).trains.get n).holdings = (s.trains.get n).holdings.erase u ∧
      ((dropUnit n u s).trains.get n).request = none := by
    rw [dropUnit_holdings, dropUnit_request, if_pos rfl]; exact ⟨rfl, hr⟩
  unfold release
  split
  · rcases releaseHeld_cases quiet n u s with ⟨h, -⟩ | ⟨w, hw, e⟩
    · rw [h n]; exact dropped
    · have hne : n ≠ w := fun e => by
        have := (hb.waits w u).mp hw
        rw [← e, hr] at this; cases this
      rw [e, grant_redraws quiet w u _ n, grantCore_train]
      simpa [hne] using dropped
  · next h =>
    have : u ∉ (s.trains.get n).holdings := fun g => h ((hb.holds n u).mp g)
    rw [List.erase_of_not_mem this]; exact ⟨rfl, hr⟩

/-- A train without a request that releases every unit it holds is left with none (R148). -/
theorem releaseAll_self {n : Train} (us : List Section) {s : State} (ha : ReservationsAgree s)
    (hr : (s.trains.get n).request = none) :
    ((us.foldl (release false n) s).trains.get n).holdings =
        us.foldl List.erase (s.trains.get n).holdings ∧
      ((us.foldl (release false n) s).trains.get n).request = none := by
  induction us generalizing s with
  | nil => exact ⟨rfl, hr⟩
  | cons u us ih =>
    obtain ⟨hh, hq⟩ := release_self false u ha hr
    have := ih (Moves.agree (k := ⟨True, False, False⟩) trivial (release_moves false n s u) ha) hq
    rwa [hh] at this

theorem foldl_erase_self (us : List Section) : us.foldl List.erase us = [] := by
  induction us with
  | nil => rfl
  | cons u us ih => simpa using ih

/-- A withdrawal leaves every train's units, and no request of the train that makes it (R120). -/
theorem withdraw_self (n : Train) (s : State) :
    ((withdraw n s).trains.get n).holdings = (s.trains.get n).holdings ∧
      ((withdraw n s).trains.get n).request = none := by
  unfold withdraw
  split
  · rw [State.modTrain_self]; exact ⟨rfl, rfl⟩
  · rw [(unitNotice_calls ..).trains n, State.modTrain_self]; exact ⟨rfl, rfl⟩

/-- Lifting a train (R148): once it holds nothing and asks for nothing it is UNPLACED. -/
theorem liftTrain_moves {k : Care} (hk : ¬ k.still) {n : Train} {s : State} (ha : k.agree → ReservationsAgree s) :
    Moves k s (liftTrain n s) := by
  unfold liftTrain; dsimp only
  have start := ((withdraw_moves (k := k) n s).trans (Moves.foldl (release_moves false n)
    ((withdraw n s).trains.get n).holdings _)).trans (restPowered_moves n _)
  refine start.trans (modTrain_move ?_)
  rw [(restPowered_asks ..).same]
  have bare : k.agree → ((((withdraw n s).trains.get n).holdings.foldl (release false n) (withdraw n s)).trains.get
      n).holdings = [] ∧ ((((withdraw n s).trains.get n).holdings.foldl (release false n) (withdraw n s)).trains.get
      n).request = none := by
    intro hg
    have hw := Moves.agree (k := ⟨True, False, False⟩) trivial (withdraw_moves n s) (ha hg)
    obtain ⟨h1, h2⟩ := releaseAll_self ((withdraw n s).trains.get n).holdings hw (withdraw_self n s).2
    exact ⟨h1.trans (foldl_erase_self _), h2⟩
  exact ⟨fun hg => .inl ⟨(bare hg).1.symm, (bare hg).2.symm⟩, fun _ _ => .inr ⟨rfl, rfl, rfl⟩,
    fun _ h => by simp [TrainRun.reset] at h,
    fun _ => ⟨fun _ => rfl, by simp [TrainRun.reset], by simp [TrainRun.reset],
      by simp [TrainRun.reset, TrainRun.moving]⟩,
    fun hc => absurd hc hk⟩

end Sys2Proof.Machine
end
section
/-! SUPPORT. What every move keeps of trains, the turnout driver, crossings, bell, pages and reports. -/

namespace Sys2Proof.Machine

open Sys2Proof.Safety

/-! ## Trains (R132, R135, R146) -/

/-- Every train is fit for its state, and under the halt neither waits nor moves. -/
def TrainsFit (s : State) : Prop := ∀ n, Fit s.halt (s.trains.get n)

theorem Fit.congr {h : Bool} {x y : TrainRun} (f : Fit h x) (hst : y.state = x.state)
    (hsp : y.speed = x.speed) (hc : y.cause = x.cause) (hr : y.reason = x.reason) : Fit h y := by
  have hm : y.moving = x.moving := by simp [TrainRun.moving, hst]
  exact ⟨by rw [hm, hsp]; exact f.speed, by rw [hc, hst]; exact f.cause, by rw [hr, hst]; exact f.reason,
    by rw [hm, hst]; exact f.rests⟩

theorem TrainsRedraw.fit {s t : State} (h : TrainsRedraw s t) (hh : t.halt = s.halt) (hs : TrainsFit s) :
    TrainsFit t := fun n => by
  rw [h n, hh]; exact (hs n).congr rfl rfl rfl rfl

theorem grantCore_fit {n : Train} {u : Section} {s : State} (hs : TrainsFit s) :
    TrainsFit (grantCore n u s) := fun m => by
  rw [grantCore_train, Traffic.halt (grantCore_shifts n u s).toTraffic]
  exact (hs m).congr rfl rfl rfl rfl

theorem dropUnit_fit {n : Train} {u : Section} {s : State} (hs : TrainsFit s) :
    TrainsFit (dropUnit n u s) := fun m => by
  obtain ⟨p, hp⟩ := dropUnit_train n m u s
  rw [hp, Traffic.halt (dropUnit_shifts n u s).toTraffic]
  exact (hs m).congr rfl rfl rfl rfl

theorem Calls.fit {s t : State} (h : Calls s t) (hs : TrainsFit s) : TrainsFit t :=
  h.trains.fit (Traffic.halt h.toTraffic) hs

theorem Drives.fit {s t : State} (h : Drives s t) (hs : TrainsFit s) : TrainsFit t :=
  h.trains.fit (Traffic.halt h.toTraffic) hs

theorem Move.fit {k : Care} {s t : State} (hm : Move k s t) (h : TrainsFit s) : TrainsFit t := by
  cases hm with
  | trains hs hu ht => intro n; rw [Traffic.halt hs.toTraffic]; exact (ht n).fit (h n)
  | take n u hh hp hf => exact (unitNotice_calls ..).fit (grantCore_fit h)
  | hand n u hh hw => exact grantCore_fit h
  | drop n u hh hb => exact dropUnit_fit h
  | pass n w u hh hw => exact grantCore_fit (dropUnit_fit h)
  | queue n u hh hp hr hl hb hc =>
    refine (unitNotice_calls ..).fit fun m => ?_
    rw [queueCore_train, Traffic.halt (queueCore_shifts n u s).toTraffic]
    split
    · exact (h m).congr rfl rfl rfl rfl
    · exact h m
  | quit n y hs hu ht hh hr hp hf hst =>
    intro m
    rw [ht, Traffic.halt hs.toTraffic]
    split
    · exact hf (h n)
    · exact h m
  | crossing c => exact (crossingAct_calls ..).fit h
  | report r => exact (raise_drives ..).fit h
  | throw e => exact (requestThrow_drives ..).fit h

theorem Moves.fit {k : Care} {s t : State} (hm : Moves k s t) (h : TrainsFit s) : TrainsFit t :=
  hm.keeps (fun m => m.fit) h

/-! ## The four kinds of change that a move makes -/

/-- One change outside the units and trains. -/
inductive Touch : State → State → Prop
  | shift {s t : State} (h : Shifts s t) : Touch s t
  | crossing (s : State) (c : CrossingId) : Touch s (crossingAct s c)
  | report (s : State) (r : Report) : Touch s (s.raise r)
  | throw (s : State) (e : Throw) : Touch s (requestThrow e s)

/-- A property that every change keeps, a unit notice keeps. -/
theorem unitNotice_keeps {P : State → Prop} (h : ∀ {s t}, Touch s t → P s → P t) (u : Section) {s : State}
    (hs : P s) : P (unitNotice u s) :=
  foldl_frame (R := fun a b => P a → P b) (fun _ => id) (fun f g => g ∘ f)
    (fun b c => h (Touch.crossing b c)) _ s hs

theorem Moves.keeps_touch {k : Care} {P : State → Prop} (h : ∀ {s t}, Touch s t → P s → P t) {s t : State}
    (hm : Moves k s t) (hs : P s) : P t := by
  refine hm.keeps (fun {s t} m hs => ?_) hs
  cases m with
  | trains hs' => exact h (.shift hs') hs
  | take n u => exact unitNotice_keeps h u (h (.shift (grantCore_shifts ..)) hs)
  | hand n u => exact h (.shift (grantCore_shifts ..)) hs
  | drop n u => exact h (.shift (dropUnit_shifts ..)) hs
  | pass n w u => exact h (.shift (grantCore_shifts ..)) (h (.shift (dropUnit_shifts ..)) hs)
  | queue n u => exact unitNotice_keeps h u (h (.shift (queueCore_shifts ..)) hs)
  | quit n y hs' => exact h (.shift hs') hs
  | crossing c => exact h (.crossing s c) hs
  | report r => exact h (.report s r) hs
  | throw e => exact h (.throw s e) hs

/-! ## The turnout driver (R100 to R102) -/

/-- At most one entry a turnout, none while the driver is idle, UNKNOWN points under a pulse. -/
def Driver.Legal (d : Driver) : Prop :=
  (d.queue.map Throw.t).Nodup ∧ (d.idle = true → d.queue = []) ∧
  ∀ p, d.pulse = some p → d.recovery = false ∧ d.points.get p.entry.t = none

theorem driverLegal_iff (s : State) : DriverLegal s ↔ s.driver.Legal := Iff.rfl

@[simp] theorem driverNotice_driver (t : TurnoutId) (d : Driver) (s : State) : (driverNotice t d s).driver = d :=
  (turnoutNotice_redraws ..).driver

theorem Driver.idle_iff (d : Driver) : d.idle = true ↔ d.pulse = none ∧ d.recovery = false := by
  simp [Driver.idle]

theorem startPulse_legal {e : Throw} {es : List Throw} {s : State} (hi : s.driver.idle = true)
    (hn : (es.map Throw.t).Nodup) : (startPulse e es s).driver.Legal := by
  rw [startPulse, driverNotice_driver]
  refine ⟨hn, fun h => by simp [Driver.idle] at h, fun p hp => ?_⟩
  cases hp
  exact ⟨(s.driver.idle_iff.mp hi).2, Table.get_set_self ..⟩

theorem takeEntries_legal {es : List Throw} {s : State} (hi : s.driver.idle = true)
    (hn : (es.map Throw.t).Nodup) : (takeEntries es s).driver.Legal := by
  induction es generalizing s with
  | nil =>
    refine ⟨by simp [takeEntries], fun _ => rfl, fun p hp => ?_⟩
    have := (s.driver.idle_iff.mp hi).1
    rw [show s.driver.pulse = some p from hp] at this; cases this
  | cons e es ih =>
    have hes : (es.map Throw.t).Nodup := (List.nodup_cons.mp hn).2
    unfold takeEntries
    split
    · exact ih hi hes
    · split
      · exact ih (by rw [driverNotice_driver]; exact hi) hes
      · exact startPulse_legal hi hes

theorem reportThrow_driver (e : Throw) (s : State) : (reportThrow e s).driver = s.driver := by
  unfold reportThrow
  split
  · rw [State.raise_eq]; rfl
  · rfl

theorem replaceEntry_map (e : Throw) (q : List Throw) : (replaceEntry e q).map Throw.t = q.map Throw.t := by
  rw [replaceEntry, List.map_map]
  refine List.map_congr_left fun x _ => ?_
  simp only [Function.comp]
  split
  · next h => exact h.symm
  · rfl

theorem requestThrow_legal (e : Throw) {s : State} (h : s.driver.Legal) : (requestThrow e s).driver.Legal := by
  obtain ⟨hn, hi, hp⟩ := h
  unfold requestThrow
  split
  · exact ⟨hn, hi, hp⟩
  · split
    · refine ⟨?_, fun h => ?_, hp⟩
      · rw [State.withDriver_driver, replaceEntry_map]; exact hn
      · rw [State.withDriver_driver, hi h]; rfl
    · next hq =>
      split
      · rw [reportThrow_driver, driverNotice_driver]; exact ⟨hn, hi, hp⟩
      · have hn' : ((s.driver.queue ++ [e]).map Throw.t).Nodup := by
          rw [List.map_append]
          refine List.nodup_append.mpr ⟨hn, by simp, ?_⟩
          simp only [List.any_eq_true, beq_iff_eq, not_exists, not_and] at hq
          intro a ha b hb
          obtain ⟨x, hx, rfl⟩ := List.mem_map.mp ha
          obtain rfl : b = e.t := by simpa using hb
          exact hq x hx
        dsimp only
        split
        · next hidle => exact takeEntries_legal hidle hn'
        · next hidle => exact ⟨hn', fun g => absurd g hidle, hp⟩

theorem pulseEnd_legal {s : State} (h : s.driver.Legal) : (pulseEnd s).driver.Legal := by
  obtain ⟨hn, hi, hp⟩ := h
  unfold pulseEnd
  split
  · exact ⟨hn, hi, hp⟩
  · rw [reportThrow_driver, driverNotice_driver]
    exact ⟨hn, fun g => by simp [Driver.idle] at g, fun p g => by cases g⟩

theorem recoveryExpiry_legal {s : State} (h : s.driver.Legal) : (recoveryExpiry s).driver.Legal := by
  obtain ⟨hn, hi, hp⟩ := h
  unfold recoveryExpiry
  split
  · next hr =>
    refine takeEntries_legal ((Driver.idle_iff _).mpr ⟨?_, rfl⟩) hn
    show s.driver.pulse = none
    cases hpl : s.driver.pulse with
    | none => rfl
    | some p =>
      have := (hp p hpl).1
      rw [hr] at this; cases this
  · exact ⟨hn, hi, hp⟩

theorem Moves.driverLegal {k : Care} {s t : State} (hm : Moves k s t) (h : DriverLegal s) : DriverLegal t := by
  refine hm.keeps_touch (P := DriverLegal) (fun {s t} c h => ?_) h
  rw [driverLegal_iff] at *
  cases c with
  | shift hs => rw [hs.driver]; exact h
  | crossing c => rw [(crossingAct_calls ..).driver]; exact h
  | report r => rw [State.raise_eq]; exact h
  | throw e => exact requestThrow_legal e h

/-! ## Pages (R36, R45) -/

/-- A state with the same compose in flight and the same matrix. -/
theorem exchangeLegal_congr {s t : State} (hc : t.sky.compose = s.sky.compose) (hm : t.matrix = s.matrix)
    (h : ExchangeLegal s) : ExchangeLegal t := by
  unfold ExchangeLegal at *
  rw [hc, hm]; exact h

theorem requestRecompose_exchange {s : State} (h : ExchangeLegal s) : ExchangeLegal (requestRecompose s) := by
  obtain ⟨h1, h2⟩ := h
  unfold requestRecompose
  split
  · next hc =>
    exact ⟨h1, fun _ => by simpa using hc⟩
  · next hc =>
    simp only [Bool.or_eq_true, not_or, Bool.not_eq_true] at hc
    exact ⟨fun _ => hc.2, fun _ => .inl rfl⟩

theorem requestForClaim_exchange (old : Table LampRun 192) (i : LampId) {s : State} (h : ExchangeLegal s) :
    ExchangeLegal (requestForClaim old i s) := by
  unfold requestForClaim
  split
  · exact h
  · exact requestRecompose_exchange h

theorem changeClaims_exchange (d : CrossingDef) (f : LampRun → LampRun) {s : State} (h : ExchangeLegal s) :
    ExchangeLegal (changeClaims d f s) :=
  requestForClaim_exchange _ _ (requestForClaim_exchange _ _ (exchangeLegal_congr rfl rfl h))

theorem bellUpdate_eq (s : State) : bellUpdate s = s.withBell (bellUpdate s).bell := by
  unfold bellUpdate
  split
  · split <;> rfl
  · rfl

theorem bellUpdate_exchange {s : State} (h : ExchangeLegal s) : ExchangeLegal (bellUpdate s) := by
  rw [bellUpdate_eq]
  exact exchangeLegal_congr rfl rfl h

theorem Redraws.exchange {s t : State} (hr : Redraws s t) (h : ExchangeLegal s) : ExchangeLegal t :=
  exchangeLegal_congr (by rw [hr.sky]) hr.matrix h

/-- What a notice does to a crossing (R107): nothing, a warning where it is called, or IDLE where it is not
demanded. -/
theorem crossingAct_cases (s : State) (c : CrossingId) : crossingAct s c = s ∨
    ∃ d, s.cfg.crossings.get c = some d ∧
      ((s.called d = true ∧ (s.crossings.get c).state = .idle ∧ crossingAct s c = enterWarning c d s) ∨
        (s.demanded d = false ∧ (s.crossings.get c).state ≠ .idle ∧ crossingAct s c = enterIdle c d s)) := by
  unfold crossingAct
  split
  · exact .inl rfl
  · next d hd =>
    split
    · next hst =>
      split
      · next hc => exact .inr ⟨d, hd, .inl ⟨hc, hst, rfl⟩⟩
      · exact .inl rfl
    all_goals
      next hst =>
      split
      · exact .inl rfl
      · next hc => exact .inr ⟨d, hd, .inr ⟨by simpa using hc, by simp [hst], rfl⟩⟩

theorem crossingAct_exchange (c : CrossingId) {s : State} (h : ExchangeLegal s) :
    ExchangeLegal (crossingAct s c) := by
  have entered : ∀ r d f, ExchangeLegal (crossingNotice c (bellUpdate (changeClaims d f (s.modCrossing c r)))) :=
    fun r d f => (crossingNotice_redraws ..).exchange (bellUpdate_exchange
      (changeClaims_exchange _ _ (exchangeLegal_congr rfl rfl h)))
  rcases crossingAct_cases s c with e | ⟨d, -, ⟨-, -, e⟩ | ⟨-, -, e⟩⟩ <;> rw [e]
  · exact h
  · exact entered ..
  · exact entered ..

theorem Moves.exchange {k : Care} {s t : State} (hm : Moves k s t) (h : ExchangeLegal s) : ExchangeLegal t := by
  refine hm.keeps_touch (P := ExchangeLegal) (fun {s t} c h => ?_) h
  cases c with
  | shift hs => exact exchangeLegal_congr (by rw [hs.sky]) hs.matrix h
  | crossing c => exact crossingAct_exchange c h
  | report r => rw [State.raise_eq]; exact exchangeLegal_congr rfl rfl h
  | throw e =>
    exact exchangeLegal_congr (by rw [(requestThrow_drives ..).sky]) (requestThrow_drives ..).matrix h

/-! ## Crossings and the bell (R106, R107, R110) -/

theorem changeClaims_lights (d : CrossingDef) (f : LampRun → LampRun) (s : State) :
    Lights s (changeClaims d f s) :=
  (Lights.ofSky ..).trans ((requestForClaim_lights ..).trans (requestForClaim_lights ..))

/-- The crossings after a crossing's fields are replaced and its claims, the bell and the notice follow. -/
theorem entered_crossings (c : CrossingId) (x : CrossingRun) (d : CrossingDef) (f : LampRun → LampRun)
    (s : State) :
    (crossingNotice c (bellUpdate (changeClaims d f (s.modCrossing c fun _ => x)))).crossings =
      s.crossings.set c x := by
  rw [(crossingNotice_redraws ..).crossings, bellUpdate_eq, State.withBell_crossings,
    (changeClaims_lights ..).crossings]
  rfl

theorem enterWarning_crossings (c : CrossingId) (d : CrossingDef) (s : State) :
    (enterWarning c d s).crossings = s.crossings.set c ⟨.warning, false, some d.lead, true⟩ :=
  entered_crossings ..

theorem enterIdle_crossings (c : CrossingId) (d : CrossingDef) (s : State) :
    (enterIdle c d s).crossings = s.crossings.set c ⟨.idle, false, none, false⟩ := entered_crossings ..

theorem called_congr {s t : State} (hc : t.cfg.unitKey = s.cfg.unitKey) (hu : t.units = s.units)
    (d : CrossingDef) : t.called d = s.called d := by
  unfold State.called
  rw [hc, hu]

/-- What the rules ask of one crossing: undefined it is IDLE, and called it is not (R106, R107). -/
def Guarded (s : State) (c : CrossingId) : Prop :=
  (s.cfg.crossings.get c = none → (s.crossings.get c).state = .idle) ∧
  ∀ d, s.cfg.crossings.get c = some d → s.called d = true → (s.crossings.get c).state ≠ .idle

theorem guarded_iff (s : State) (c : CrossingId) : Guarded s c ↔
    (s.cfg.crossings.get c = none → (s.crossings.get c).state = .idle) ∧
    ∀ d, s.cfg.crossings.get c = some d → s.called d = true → (s.crossings.get c).state ≠ .idle := Iff.rfl

theorem crossingsGuard_iff (s : State) : CrossingsGuard s ↔ ∀ c, Guarded s c := by
  unfold CrossingsGuard
  refine forall_congr' fun c => ?_
  rw [guarded_iff]
  split <;> simp_all

theorem Guarded.congr {s t : State} (hc : t.cfg = s.cfg) (hu : t.units = s.units)
    (hx : t.crossings = s.crossings) {c : CrossingId} (h : Guarded s c) : Guarded t c := by
  rw [guarded_iff] at *
  rw [hc, hx]
  exact ⟨h.1, fun d hd hcalled => h.2 d hd (by rwa [called_congr (by rw [hc]) hu] at hcalled)⟩

/-- A notice keeps each crossing guarded, and leaves its own guarded. -/
theorem crossingAct_guarded (s : State) (c j : CrossingId)
    (h : (s.cfg.crossings.get j = none → (s.crossings.get j).state = .idle) ∧ (j ≠ c → Guarded s j)) :
    Guarded (crossingAct s c) j := by
  have hcalls := crossingAct_calls s c
  have called : ∀ d, (crossingAct s c).called d = s.called d := fun d =>
    called_congr (by rw [hcalls.cfg]) hcalls.units d
  by_cases hj : j = c
  · subst hj
    rcases crossingAct_cases s j with e | ⟨d, hd, ⟨hcd, -, e⟩ | ⟨hnd, -, e⟩⟩
    · rw [e]
      refine ⟨h.1, fun d hd hcd hst => ?_⟩
      have : crossingAct s j = enterWarning j d s := by simp [crossingAct, hd, hst, hcd]
      have hx := enterWarning_crossings j d s
      rw [← this, e] at hx
      have := congrArg (fun t => (t.get j).state) hx
      simp [hst] at this
    · refine ⟨fun g => ?_, fun _ _ _ => ?_⟩
      · rw [hcalls.cfg, hd] at g; cases g
      · rw [e, enterWarning_crossings, Table.get_set_self]; simp
    · refine ⟨fun g => ?_, fun d' hd' hcd => ?_⟩
      · rw [hcalls.cfg, hd] at g; cases g
      · rw [hcalls.cfg, hd] at hd'
        cases hd'
        rw [called] at hcd
        simp [State.demanded, hcd] at hnd
  · have hg := h.2 hj
    have hx : (crossingAct s c).crossings.get j = s.crossings.get j := by
      rcases crossingAct_cases s c with e | ⟨d, -, ⟨-, -, e⟩ | ⟨-, -, e⟩⟩ <;> rw [e]
      · rw [enterWarning_crossings, Table.get_set_of_ne _ _ hj]
      · rw [enterIdle_crossings, Table.get_set_of_ne _ _ hj]
    rw [guarded_iff]
    rw [hcalls.cfg, hx]
    exact ⟨hg.1, fun d hd hcd => hg.2 d hd (by rwa [called] at hcd)⟩

/-- Notices to a list of crossings guard every crossing of the list. -/
theorem crossingActs_guarded (cs : List CrossingId) (s : State)
    (hidle : ∀ j, s.cfg.crossings.get j = none → (s.crossings.get j).state = .idle)
    (h : ∀ j, j ∉ cs → Guarded s j) : ∀ j, Guarded (cs.foldl crossingAct s) j := by
  induction cs generalizing s with
  | nil => exact fun j => h j (by simp)
  | cons c cs ih =>
    have acted : ∀ j, (j ∉ cs → Guarded (crossingAct s c) j) ∧
        ((crossingAct s c).cfg.crossings.get j = none → ((crossingAct s c).crossings.get j).state = .idle) := by
      intro j
      refine ⟨fun hj => crossingAct_guarded s c j ⟨hidle j, fun hne => h j (by simp [hne, hj])⟩, fun hn => ?_⟩
      have hn' : s.cfg.crossings.get j = none := by rwa [(crossingAct_calls s c).cfg] at hn
      exact (crossingAct_guarded s c j ⟨hidle j, fun _ => ⟨fun _ => hidle j hn',
        fun d hd => by rw [hn'] at hd; cases hd⟩⟩).1 hn
    exact ih _ (fun j => (acted j).2) fun j => (acted j).1

/-- A unit record that changes calls no crossing but those of its unit, which the unit notice reaches. -/
theorem unitNotice_guards {u : Section} {s t : State} (hcfg : t.cfg = s.cfg) (hx : t.crossings = s.crossings)
    (hu : ∀ v, v ≠ u → t.units.get v = s.units.get v) (h : CrossingsGuard s) :
    CrossingsGuard (unitNotice u t) := by
  rw [crossingsGuard_iff] at *
  refine crossingActs_guarded _ t (fun j hj => ?_) fun j hj => ?_
  · rw [hx]; exact (h j).1 (by rwa [hcfg] at hj)
  · rw [guarded_iff]
    rw [hcfg, hx]
    refine ⟨(h j).1, fun d hd hcalled => (h j).2 d hd ?_⟩
    have hout : s.cfg.unitKey d.sec ≠ some u := fun e => hj (by
      simp only [List.mem_filter, mem_ids, true_and, Scene.crossingIn, hcfg, hd]
      simpa using e)
    unfold State.called at *
    rw [hcfg] at hcalled
    split at hcalled
    · exact hcalled
    · next v hv => rw [hu v fun e => hout (e ▸ hv)] at hcalled; exact hcalled

/-- A unit that was held or waited for may change hands. -/
theorem guard_of_called {u : Section} {s t : State} (hcfg : t.cfg = s.cfg) (hx : t.crossings = s.crossings)
    (hu : ∀ v, v ≠ u → t.units.get v = s.units.get v)
    (hc : (s.units.get u).holder ≠ none ∨ (s.units.get u).waiting ≠ []) (h : CrossingsGuard s) :
    CrossingsGuard t := by
  rw [crossingsGuard_iff] at *
  intro j
  rw [guarded_iff]
  rw [hcfg, hx]
  refine ⟨(h j).1, fun d hd hcalled => (h j).2 d hd ?_⟩
  unfold State.called at *
  rw [hcfg] at hcalled
  split at hcalled
  · exact hcalled
  · next v hv =>
    by_cases hvu : v = u
    · subst hvu
      rcases hc with g | g
      · cases e : (s.units.get v).holder with
        | none => exact absurd e g
        | some n => simp
      · cases e : (s.units.get v).waiting with
        | nil => exact absurd e g
        | cons w ws => simp
    · rw [hu v hvu] at hcalled; exact hcalled

theorem crossingAct_guard (c : CrossingId) {s : State} (h : CrossingsGuard s) :
    CrossingsGuard (crossingAct s c) := by
  rw [crossingsGuard_iff] at *
  exact fun j => crossingAct_guarded s c j ⟨(h j).1, fun _ => h j⟩

theorem guard_congr {s t : State} (hc : t.cfg = s.cfg) (hu : t.units = s.units)
    (hx : t.crossings = s.crossings) (h : CrossingsGuard s) : CrossingsGuard t := by
  rw [crossingsGuard_iff] at *
  exact fun c => (h c).congr hc hu hx

/-- What every move keeps of the crossings: a unit is called afresh only with its notice (R106, R123). -/
theorem Move.guard {k : Care} {s t : State} (hm : Move k s t) (h : CrossingsGuard s) : CrossingsGuard t := by
  have others : ∀ (n : Train) (u v : Section) (w : State), v ≠ u →
      (grantCore n u w).units.get v = w.units.get v := fun n u v w hv => by rw [grantCore_unit, if_neg hv]
  have dropped : ∀ (n : Train) (u v : Section), v ≠ u → (dropUnit n u s).units.get v = s.units.get v :=
    fun n u v hv => by rw [dropUnit_unit, if_neg hv]
  cases hm with
  | trains hs hu ht => exact guard_congr hs.cfg hu hs.crossings h
  | take n u hh hp hf =>
    exact unitNotice_guards (grantCore_shifts ..).cfg (grantCore_shifts ..).crossings
      (fun v hv => others n u v s hv) h
  | hand n u hh hw =>
    exact guard_of_called (grantCore_shifts ..).cfg (grantCore_shifts ..).crossings
      (fun v hv => others n u v s hv) (.inr (List.ne_nil_of_mem hw)) h
  | drop n u hh hb =>
    exact guard_of_called (dropUnit_shifts ..).cfg (dropUnit_shifts ..).crossings (dropped n u)
      (.inl (by rw [hh]; simp)) h
  | pass n w u hh hw =>
    exact guard_of_called ((dropUnit_shifts n u s).trans (grantCore_shifts ..)).cfg
      ((dropUnit_shifts n u s).trans (grantCore_shifts ..)).crossings
      (fun v hv => (others w u v _ hv).trans (dropped n u v hv)) (.inl (by rw [hh]; simp)) h
  | queue n u hh hp hr hl hb hc =>
    exact unitNotice_guards (queueCore_shifts ..).cfg (queueCore_shifts ..).crossings
      (fun v hv => by rw [queueCore_unit, if_neg hv]) h
  | quit n y hs hu ht hh hr hp hf hst =>
    rw [crossingsGuard_iff] at *
    intro j
    rw [guarded_iff]
    rw [hs.cfg, hs.crossings]
    refine ⟨(h j).1, fun d hd hcalled => (h j).2 d hd ?_⟩
    unfold State.called at *
    rw [hs.cfg] at hcalled
    split at hcalled
    · exact hcalled
    · next v hv =>
      rw [hu, unitsWithout_get] at hcalled
      split at hcalled
      · simp only [Bool.or_eq_true, Bool.not_eq_true', List.isEmpty_eq_false_iff] at hcalled ⊢
        exact hcalled.imp id fun g e => g (by rw [e]; rfl)
      · exact hcalled
  | crossing c => exact crossingAct_guard c h
  | report r => exact guard_congr (raise_drives ..).cfg (raise_drives ..).units (raise_drives ..).crossings h
  | throw e =>
    exact guard_congr (requestThrow_drives ..).cfg (requestThrow_drives ..).units
      (requestThrow_drives ..).crossings h

theorem Moves.guard {k : Care} {s t : State} (hm : Moves k s t) (h : CrossingsGuard s) : CrossingsGuard t :=
  hm.keeps (fun m => m.guard) h

theorem leadTimersRun_congr {s t : State} (hc : t.cfg.crossings = s.cfg.crossings)
    (hx : t.crossings = s.crossings) (h : LeadTimersRun s) : LeadTimersRun t := by
  unfold LeadTimersRun at *
  rw [hc, hx]; exact h

theorem crossingAct_leadTimers (c : CrossingId) {s : State} (h : LeadTimersRun s) :
    LeadTimersRun (crossingAct s c) := by
  rcases crossingAct_cases s c with e | ⟨d, hd, hcase⟩
  · rw [e]; exact h
  · intro j
    rw [(crossingAct_calls s c).cfg]
    rcases hcase with ⟨-, -, e⟩ | ⟨-, -, e⟩
    · rw [e, enterWarning_crossings, Table.get_set]
      split
      · next hj => exact fun _ => ⟨rfl, by rw [hj, hd]; simp⟩
      · exact h j
    · rw [e, enterIdle_crossings, Table.get_set]
      split
      · exact fun g => absurd rfl g
      · exact h j

theorem Moves.leadTimers {k : Care} {s t : State} (hm : Moves k s t) (h : LeadTimersRun s) : LeadTimersRun t := by
  refine hm.keeps_touch (P := LeadTimersRun) (fun {s t} c h => ?_) h
  cases c with
  | shift hs => exact leadTimersRun_congr (by rw [hs.cfg]) hs.crossings h
  | crossing c => exact crossingAct_leadTimers c h
  | report r => exact leadTimersRun_congr (by rw [(raise_drives ..).cfg]) (raise_drives ..).crossings h
  | throw e =>
    exact leadTimersRun_congr (by rw [(requestThrow_drives ..).cfg]) (requestThrow_drives ..).crossings h

/-! ## The bell (R110, R111) -/

/-- The bell's timer runs while it sounds, and silent its output is low. -/
def BellWired (s : State) : Prop :=
  s.bell.halfPeriod.isSome = s.bell.sounding ∧ (s.bell.sounding = false → s.bell.output = false)

theorem bellDue_congr {s t : State} (hq : t.bell.quiet = s.bell.quiet) (hc : t.cfg.crossings = s.cfg.crossings)
    (hx : t.crossings = s.crossings) : t.bellDue = s.bellDue := by
  unfold State.bellDue
  rw [hq, hc, hx]

theorem bellUpdate_quiet (s : State) : (bellUpdate s).bell.quiet = s.bell.quiet := by
  unfold bellUpdate
  split
  · split <;> rfl
  · rfl

theorem bellUpdate_due (s : State) : (bellUpdate s).bellDue = s.bellDue := by
  refine bellDue_congr (bellUpdate_quiet s) ?_ ?_ <;> rw [bellUpdate_eq] <;> rfl

/-- The test of the bell's condition sets it right (R110). -/
theorem bellUpdate_follows {s : State} (h : BellWired s) : BellFollows (bellUpdate s) := by
  refine ⟨?_, ?_⟩
  · rw [bellUpdate_due]
    unfold bellUpdate
    split
    · next hd =>
      split
      · next hs => rw [hs, hd]
      · exact hd.symm
    · next hd => exact (by simpa using hd : s.bellDue = false).symm
  · unfold bellUpdate
    split
    · split
      · exact h
      · exact ⟨rfl, fun g => by cases g⟩
    · exact ⟨rfl, fun _ => rfl⟩

theorem bellWired_of_follows {s : State} (h : BellFollows s) : BellWired s := h.2

theorem bellFollows_congr {s t : State} (hb : t.bell = s.bell) (hc : t.cfg.crossings = s.cfg.crossings)
    (hx : t.crossings = s.crossings) (h : BellFollows s) : BellFollows t := by
  unfold BellFollows at *
  rw [bellDue_congr (by rw [hb]) hc hx, hb]; exact h

theorem BellWired.congr {s t : State} (hb : t.bell = s.bell) (h : BellWired s) : BellWired t := by
  obtain ⟨a, b⟩ := h
  exact ⟨by rw [hb]; exact a, by rw [hb]; exact b⟩

theorem Redraws.bellFollows {s t : State} (hr : Redraws s t) (h : BellFollows s) : BellFollows t :=
  bellFollows_congr hr.bell (by rw [hr.cfg]) hr.crossings h

theorem crossingAct_bell (c : CrossingId) {s : State} (h : BellFollows s) : BellFollows (crossingAct s c) := by
  have entered : ∀ r d f,
      BellFollows (crossingNotice c (bellUpdate (changeClaims d f (s.modCrossing c r)))) := fun r d f =>
    (crossingNotice_redraws ..).bellFollows (bellUpdate_follows ((bellWired_of_follows h).congr (changeClaims_lights ..).bell))
  rcases crossingAct_cases s c with e | ⟨d, -, ⟨-, -, e⟩ | ⟨-, -, e⟩⟩ <;> rw [e]
  · exact h
  · exact entered ..
  · exact entered ..

theorem Moves.bell {k : Care} {s t : State} (hm : Moves k s t) (h : BellFollows s) : BellFollows t := by
  refine hm.keeps_touch (P := BellFollows) (fun {s t} c h => ?_) h
  cases c with
  | shift hs => exact bellFollows_congr hs.bell (by rw [hs.cfg]) hs.crossings h
  | crossing c => exact crossingAct_bell c h
  | report r =>
    exact bellFollows_congr (raise_drives ..).bell (by rw [(raise_drives ..).cfg]) (raise_drives ..).crossings h
  | throw e =>
    exact bellFollows_congr (requestThrow_drives ..).bell (by rw [(requestThrow_drives ..).cfg])
      (requestThrow_drives ..).crossings h

/-! ## Reports (R188) -/

/-- The report queue keeps its bounds through a raised report. -/
theorem raise_reports (r : Report) {s : State} (h : ReportsBounded s) : ReportsBounded (s.raise r) := by
  obtain ⟨h1, h2, h3⟩ := h
  unfold State.raise
  split
  · next hr =>
    exact ⟨s.line.push_reports_le r h1, s.line.push_dropped_le r h2, fun g => by
      rw [State.withLine_sys, hr] at g; cases g⟩
  · exact ⟨h1, h2, h3⟩

theorem reports_congr {s t : State} (hl : t.line = s.line) (hs : t.sys = s.sys) (h : ReportsBounded s) :
    ReportsBounded t := by
  unfold ReportsBounded at *
  rw [hl, hs]; exact h

theorem reportThrow_reports (e : Throw) {s : State} (h : ReportsBounded s) : ReportsBounded (reportThrow e s) := by
  unfold reportThrow
  split
  · exact raise_reports _ h
  · exact h

theorem driverNotice_reports (t : TurnoutId) (d : Driver) {s : State} (h : ReportsBounded s) :
    ReportsBounded (driverNotice t d s) :=
  reports_congr (turnoutNotice_redraws ..).line (turnoutNotice_redraws ..).sys (reports_congr rfl rfl h)

theorem takeEntries_reports (es : List Throw) {s : State} (h : ReportsBounded s) :
    ReportsBounded (takeEntries es s) := by
  induction es generalizing s with
  | nil => exact reports_congr rfl rfl h
  | cons e es ih =>
    unfold takeEntries
    split
    · exact ih h
    · split
      · exact ih (driverNotice_reports _ _ h)
      · exact driverNotice_reports _ _ h

theorem requestThrow_reports (e : Throw) {s : State} (h : ReportsBounded s) :
    ReportsBounded (requestThrow e s) := by
  unfold requestThrow
  split
  · exact h
  · split
    · exact reports_congr rfl rfl h
    · split
      · exact reportThrow_reports e (driverNotice_reports _ _ h)
      · dsimp only
        split
        · exact takeEntries_reports _ (reports_congr rfl rfl h)
        · exact reports_congr rfl rfl h

theorem pulseEnd_reports {s : State} (h : ReportsBounded s) : ReportsBounded (pulseEnd s) := by
  unfold pulseEnd
  split
  · exact h
  · exact reportThrow_reports _ (driverNotice_reports _ _ h)

theorem recoveryExpiry_reports {s : State} (h : ReportsBounded s) : ReportsBounded (recoveryExpiry s) := by
  unfold recoveryExpiry
  split
  · exact takeEntries_reports _ (reports_congr rfl rfl h)
  · exact h

theorem Moves.reports {k : Care} {s t : State} (hm : Moves k s t) (h : ReportsBounded s) : ReportsBounded t := by
  refine hm.keeps_touch (P := ReportsBounded) (fun {s t} c h => ?_) h
  cases c with
  | shift hs => exact reports_congr hs.line hs.sys h
  | crossing c => exact reports_congr (crossingAct_calls ..).line (crossingAct_calls ..).sys h
  | report r => exact raise_reports r h
  | throw e => exact requestThrow_reports e h

theorem Move.traffic {k : Care} {s t : State} (hm : Move k s t) : Traffic s t := by
  cases hm with
  | trains hs => exact hs.toTraffic
  | take n u => exact (grantCore_shifts ..).toTraffic.trans (unitNotice_traffic ..)
  | hand n u => exact (grantCore_shifts ..).toTraffic
  | drop n u => exact dropUnit_traffic ..
  | pass n w u => exact (dropUnit_traffic ..).trans (grantCore_shifts ..).toTraffic
  | queue n u => exact (queueCore_shifts ..).toTraffic.trans (unitNotice_traffic ..)
  | quit n y hs => exact hs.toTraffic
  | crossing c => exact (crossingAct_calls ..).toTraffic
  | report r => exact raise_traffic ..
  | throw e => exact requestThrow_traffic ..

theorem Moves.traffic {k : Care} {s t : State} (hm : Moves k s t) : Traffic s t := by
  induction hm with
  | refl => exact .refl s
  | tail _ hb ih => exact ih.trans hb.traffic

end Sys2Proof.Machine
end

section
-- One theorem after the other: side by side, waiting proofs would pile up.
set_option Elab.async false
/-! SUPPORT. What a step keeps. `Keeps s t` says that every invariant of the part goes from s to t; it is
reflexive and transitive, so that a command keeps the invariants as soon as each of its operations does. -/

namespace Sys2Proof.Machine

open Sys2Proof.Safety

/-! ## The relation -/

/-- Under the halt every channel is OFF or CUT and every axis HALTED or STALLED (R66, R167). -/
def Braked (s : State) : Prop :=
  s.halt = true →
    (∀ c, (s.channels.get c).state = .off ∨ (s.channels.get c).state = .cut) ∧
    ∀ n, (s.axes.get n).state = .halted ∨ (s.axes.get n).state = .stalled

/-- The trains' part of the halt stands in `TrainsFit` (R132, R146). -/
theorem trainsFit_iff (s : State) : TrainsFit s ↔ TrainsAtRest s ∧
    (s.halt = true → ∀ n, (s.trains.get n).state ≠ .waiting ∧ (s.trains.get n).moving = false) :=
  ⟨fun h => ⟨fun n => ⟨(h n).speed, (h n).cause, (h n).reason⟩, fun hh n => (h n).rests hh⟩,
    fun ⟨h, g⟩ n => ⟨(h n).1, (h n).2.1, (h n).2.2, fun hh => g hh n⟩⟩

/-- Who waits on whom is read off units and trains. -/
theorem noWaitCycle_congr {s t : State} (hu : t.units = s.units) (ht : t.trains = s.trains) (h : NoWaitCycle s) :
    NoWaitCycle t := by
  have hn : t.nextInChain = s.nextInChain := by funext n; simp [State.nextInChain, hu, ht]
  have hw : ∀ n k, waitsOn t n k = waitsOn s n k := fun n k => by
    induction k with
    | zero => exact congrFun hn n
    | succ k ih => simp only [waitsOn, ih, hn]
  exact ⟨fun n k => hw n k ▸ h.1 n k, ht ▸ h.2⟩

/-- What is kept of the halt and of trains and axes at rest. -/
structure KeepsHalt (s t : State) : Prop where
  fit : TrainsFit s → TrainsFit t := by exact fun h => h
  axes : AxesAgree s → AxesAgree t := by exact fun h => h
  braked : AxesAgree s → Braked s → Braked t := by exact fun _ h => h

/-- What is kept of the reservations and of the crossings they call. -/
structure KeepsBooks (s t : State) : Prop where
  lead : LeadTimersRun s → LeadTimersRun t := by exact fun h => h
  agree : ReservationsAgree s → ReservationsAgree t := by exact fun h => h
  circle : ReservationsAgree s → NoWaitCycle s → NoWaitCycle t := by exact fun _ => noWaitCycle_congr rfl rfl
  guard : LeadTimersRun s → ReservationsAgree s → CrossingsGuard s → CrossingsGuard t := by exact fun _ _ h => h

/-- What is kept of each block by itself. -/
structure KeepsBlocks (s t : State) : Prop where
  duty : DutyOnlyDriving s → DutyOnlyDriving t := by exact fun h => h
  converter : ConverterLegal s → ConverterLegal t := by exact fun h => h
  driver : DriverLegal s → DriverLegal t := by exact fun h => h
  lists : ListsOrdered s → ListsOrdered t := by exact fun h => h
  exchange : ExchangeLegal s → ExchangeLegal t := by exact fun h => h
  scale : ScaleInRange s → ScaleInRange t := by exact fun h => h
  clock : ClockInRange s → ClockInRange t := by exact fun h => h
  thresholds : ThresholdsInRange s → ThresholdsInRange t := by exact fun h => h
  bell : BellFollows s → BellFollows t := by exact fun h => h
  reports : ReportsBounded s → ReportsBounded t := by exact fun h => h
  saved : SavedAsRun s → SavedAsRun t := by exact fun h => h

/-- Every invariant is kept. -/
structure Keeps (s t : State) : Prop extends KeepsHalt s t, KeepsBooks s t, KeepsBlocks s t

theorem KeepsHalt.trans {s t u : State} (h : KeepsHalt s t) (k : KeepsHalt t u) : KeepsHalt s u :=
  ⟨fun a => k.fit (h.fit a), fun a => k.axes (h.axes a), fun a b => k.braked (h.axes a) (h.braked a b)⟩

theorem KeepsBooks.trans {s t u : State} (h : KeepsBooks s t) (k : KeepsBooks t u) : KeepsBooks s u :=
  ⟨fun a => k.lead (h.lead a), fun a => k.agree (h.agree a), fun a b => k.circle (h.agree a) (h.circle a b),
    fun a b c => k.guard (h.lead a) (h.agree b) (h.guard a b c)⟩

theorem KeepsBlocks.trans {s t u : State} (h : KeepsBlocks s t) (k : KeepsBlocks t u) : KeepsBlocks s u :=
  ⟨fun a => k.duty (h.duty a), fun a => k.converter (h.converter a),
    fun a => k.driver (h.driver a), fun a => k.lists (h.lists a), fun a => k.exchange (h.exchange a),
    fun a => k.scale (h.scale a), fun a => k.clock (h.clock a), fun a => k.thresholds (h.thresholds a),
    fun a => k.bell (h.bell a), fun a => k.reports (h.reports a), fun a => k.saved (h.saved a)⟩

theorem Keeps.refl (s : State) : Keeps s s := { }

theorem Keeps.trans {s t u : State} (h : Keeps s t) (k : Keeps t u) : Keeps s u :=
  ⟨h.toKeepsHalt.trans k.toKeepsHalt, h.toKeepsBooks.trans k.toKeepsBooks, h.toKeepsBlocks.trans k.toKeepsBlocks⟩

theorem Keeps.ite (p : Prop) [Decidable p] {s t u : State} (h : p → Keeps s t) (k : ¬ p → Keeps s u) :
    Keeps s (if p then t else u) := by
  split
  · next hp => exact h hp
  · next hp => exact k hp

theorem Keeps.foldl {α : Type} {f : State → α → State} (h : ∀ s x, Keeps s (f s x)) (xs : List α) (s : State) :
    Keeps s (xs.foldl f s) := foldl_frame Keeps.refl Keeps.trans h xs s

/-! ## The traffic controller -/

theorem Traffic.duty {s t : State} (h : Traffic s t) (hs : DutyOnlyDriving s) : DutyOnlyDriving t := by
  intro c hc
  rw [h.asks c] at hc ⊢
  exact hs c hc

theorem Traffic.braked {s t : State} (h : Traffic s t) (hs : Braked s) : Braked t := by
  intro ht
  obtain ⟨hc, ha⟩ := hs (h.halt ▸ ht)
  refine ⟨fun c => ?_, fun n => by rw [h.axes]; exact ha n⟩
  rw [h.asks c]
  exact hc c

/-- What a sequence of moves keeps of the blocks. -/
theorem Moves.blocks {k : Care} {s t : State} (hm : Moves k s t) : KeepsBlocks s t := by
  have h := hm.traffic
  exact {
    duty := h.duty, driver := hm.driverLegal, exchange := hm.exchange, bell := hm.bell
    reports := hm.reports
    converter := by unfold ConverterLegal; rw [h.sense]; exact id
    lists := by unfold ListsOrdered; rw [h.cfg, h.store]; exact id
    scale := by unfold ScaleInRange; rw [h.account]; exact id
    clock := by unfold ClockInRange; rw [h.cfg, h.store, h.clock, h.nextStart]; exact id
    thresholds := by unfold ThresholdsInRange; rw [h.cfg, h.store]; exact id
    saved := by unfold SavedAsRun; rw [h.cfg, h.store]; exact id }

theorem Moves.keepsHalt {k : Care} {s t : State} (hm : Moves k s t) : KeepsHalt s t where
  fit := hm.fit
  axes := by unfold AxesAgree; rw [hm.traffic.axes]; exact id
  braked _ := hm.traffic.braked

/-- A state reached by moves that need no more than the reservations' invariants keeps everything. -/
theorem keeps_of_moves {s t : State} (hm : ∀ k : Care, ¬ k.still → (k.agree → ReservationsAgree s) →
    (k.free → NoWaitCycle s) → Moves k s t) : Keeps s t := by
  have h := hm ⟨False, False, False⟩ id False.elim False.elim
  exact {
    toKeepsHalt := h.keepsHalt
    toKeepsBlocks := h.blocks
    agree := fun ha => (hm ⟨True, False, False⟩ id (fun _ => ha) False.elim).agree trivial ha
    circle := fun ha hn =>
      (hm ⟨True, True, False⟩ id (fun _ => ha) fun _ => hn).noWaitCycle trivial trivial
        ((reservationsAgree_iff s).mp ha) hn
    lead := h.leadTimers
    guard := fun _ _ => h.guard }

/-- A state reached by moves that need nothing keeps everything. -/
theorem keeps_of_moves_any {s t : State} (hm : ∀ k : Care, ¬ k.still → Moves k s t) : Keeps s t :=
  keeps_of_moves fun k hk _ _ => hm k hk

theorem keeps_of_redraws {s t : State} (h : Redraws s t) : Keeps s t :=
  keeps_of_moves_any fun _ _ => redraws_moves h

theorem keeps_raise (r : Report) (s : State) : Keeps s (s.raise r) := keeps_of_moves_any fun _ _ => raise_moves r s

/-! ## Configuration, books and crossings where nothing but settings change -/

/-- The reservations read the units, the trains, the keys of the units and the filters. -/
theorem agreeBut_congr {ex : Section → Prop} {s t : State} (hk : t.cfg.unitKey = s.cfg.unitKey)
    (ho : t.occupied = s.occupied) (hu : t.units = s.units) (ht : t.trains = s.trains) (h : AgreeBut ex s) :
    AgreeBut ex t := by
  have hc : t.crowded = s.crowded := by funext u; simp [State.crowded_iff, Scene.unitSections, hk, ho]
  obtain ⟨hb, hp⟩ := h
  exact ⟨by rw [stateBooks_iff, hc, hu, ht]; exact hb, fun n => by rw [ht]; exact hp n⟩

theorem agree_congr {s t : State} (hk : t.cfg.unitKey = s.cfg.unitKey) (ho : t.occupied = s.occupied)
    (hu : t.units = s.units) (ht : t.trains = s.trains) (h : ReservationsAgree s) : ReservationsAgree t :=
  (reservationsAgree_iff t).mpr (agreeBut_congr hk ho hu ht ((reservationsAgree_iff s).mp h))

/-- A crossing's guard reads the units, the keys of the units and the crossings. -/
theorem crossingsGuard_congr {s t : State} (hk : t.cfg.unitKey = s.cfg.unitKey)
    (hc : t.cfg.crossings = s.cfg.crossings) (hu : t.units = s.units) (hx : t.crossings = s.crossings)
    (h : CrossingsGuard s) : CrossingsGuard t := by
  intro k
  have hs := h k
  rw [hc, hx]
  cases hd : s.cfg.crossings.get k with
  | none => simpa only [hd] using hs
  | some d =>
    simp only [hd] at hs ⊢
    rwa [called_congr hk hu]

/-- What a change of the configuration keeps of its own ranges. -/
structure Tidy (c d : Scene) : Prop where
  ordered : ordered c → ordered d := by exact fun h => h
  clock : sceneClockOk c → sceneClockOk d := by exact fun h => h
  thresholds : (∀ g, (c.groups.get g).threshold ≤ 255) → ∀ g, (d.groups.get g).threshold ≤ 255 := by
    exact fun h => h

/-- A change of the configuration that touches neither units nor crossings. -/
structure Sets (c d : Scene) : Prop extends Tidy c d where
  unitKey : d.unitKey = c.unitKey := by rfl
  crossings : d.crossings = c.crossings := by rfl

theorem not_saving {s : State} (hb : s.busy = false) : s.store.state ≠ .saving := by
  simpa [State.busy] using hb

/-- A new configuration, as long as no SAVE is in flight. -/
theorem Tidy.blocks {s : State} {c : Scene} (hb : s.busy = false) (h : Tidy s.cfg c)
    (hbell : BellFollows s → BellFollows (s.withCfg c)) :
    KeepsBlocks s (s.withCfg c) where
  bell := hbell
  lists hl := ⟨h.ordered hl.1, hl.2⟩
  clock := fun ⟨a, b, c, d⟩ => ⟨a, b, h.clock c, d⟩
  thresholds ht g := ⟨h.thresholds (fun g => (ht g).1) g, (ht g).2⟩
  saved _ he := absurd he (not_saving hb)

theorem keeps_settings {s : State} {c : Scene} (hb : s.busy = false) (h : Sets s.cfg c) : Keeps s (s.withCfg c) where
  toKeepsHalt := { }
  toKeepsBooks := {
    lead := leadTimersRun_congr h.crossings rfl
    agree := agree_congr h.unitKey rfl rfl rfl
    guard := fun _ _ => crossingsGuard_congr h.unitKey h.crossings rfl rfl }
  toKeepsBlocks := h.toTidy.blocks hb (bellFollows_congr rfl h.crossings rfl)

theorem keeps_nextStart {s : State} {v : Nat} (hv : v < 86400) : Keeps s (s.withNextStart (some v)) where
  toKeepsHalt := { }
  toKeepsBooks := { }
  toKeepsBlocks := {
    clock := fun ⟨a, b, c, d, _⟩ => ⟨a, b, c, d, fun w hw => by cases hw; exact hv⟩ }

/-! ## A layout change -/

theorem anyPlaced_false {s : State} (h : s.anyPlaced = false) (n : Train) : (s.trains.get n).placed = false := by
  by_contra hn
  have : s.anyPlaced = true := (Table.any_iff ..).mpr ⟨n, by simpa using hn⟩
  rw [h] at this; cases this

/-- With every train UNPLACED, no unit has a holder or a waiter (R112, R147). -/
theorem units_free {s : State} (hp : s.anyPlaced = false) (h : ReservationsAgree s) (u : Section) :
    (s.units.get u).holder = none ∧ (s.units.get u).waiting = [] := by
  obtain ⟨hold, -, wait, -, -, -, bare⟩ := h
  constructor
  · by_contra hn
    obtain ⟨n, hn⟩ := Option.ne_none_iff_exists'.mp hn
    have hm := (hold n u).mpr hn
    rw [(bare n (anyPlaced_false hp n)).1] at hm; cases hm
  · by_contra hn
    obtain ⟨n, hn⟩ := List.exists_mem_of_ne_nil _ hn
    have hm := (wait n u).mp hn
    rw [(bare n (anyPlaced_false hp n)).2.2] at hm; cases hm

theorem not_called {s : State} (h : ∀ u, (s.units.get u).holder = none ∧ (s.units.get u).waiting = [])
    (d : CrossingDef) : s.called d = false := by
  unfold State.called; split
  · rfl
  · simp [h]

/-- Where every unit is free and every train without units or request, the reservations agree. -/
theorem agree_of_free {s : State} (hu : ∀ u, (s.units.get u).holder = none ∧ (s.units.get u).waiting = [])
    (ht : ∀ n, (s.trains.get n).holdings = [] ∧ (s.trains.get n).request = none)
    (hs : ∀ n, (s.trains.get n).placed = false → (s.trains.get n).span = []) : ReservationsAgree s := by
  refine ⟨?_, ?_, ?_, ?_, ?_, ?_, fun n hp => ⟨(ht n).1, hs n hp, (ht n).2⟩⟩ <;> intros <;> simp_all

/-- Without a request there is no circle. -/
theorem noWaitCycle_of_no_request {s : State} (h : ∀ n, (s.trains.get n).request = none) : NoWaitCycle s := by
  have hn : ∀ m, s.nextInChain m = none := fun m => by simp [State.nextInChain, h]
  refine ⟨fun n k e => ?_, fun n _ => h n⟩
  cases k with
  | zero => rw [waitsOn, hn] at e; cases e
  | succ k =>
    obtain ⟨m, -, e⟩ := Option.bind_eq_some_iff.mp e
    rw [hn] at e; cases e

/-- The layout changes and every unit starts free (R97): no train is placed. -/
theorem keeps_rebuild {s : State} {c : Scene} (hb : s.busy = false) (hp : s.anyPlaced = false)
    (hc : c.crossings = s.cfg.crossings) (h : Tidy s.cfg c) : Keeps s (rebuildUnits c s) := by
  refine Keeps.trans ⟨{ }, ?_, ?_⟩ (keeps_of_moves_any fun _ _ => reportStrays_moves ..)
  · have free : ∀ u, (((s.withCfg c).withUnits (Table.replicate 20 UnitRec.free)).units.get u).holder = none ∧
        (((s.withCfg c).withUnits (Table.replicate 20 UnitRec.free)).units.get u).waiting = [] := fun u => by
      simp [UnitRec.free]
    have bare := fun (ha : ReservationsAgree s) n => ha.2.2.2.2.2.2 n (anyPlaced_false hp n)
    exact {
      agree := fun ha => agree_of_free free (fun n => ⟨(bare ha n).1, (bare ha n).2.2⟩) fun n _ => (bare ha n).2.1
      circle := fun ha _ => noWaitCycle_of_no_request fun n => (bare ha n).2.2
      lead := leadTimersRun_congr hc rfl
      guard := fun _ _ hg k => by
        have hk := hg k
        show match c.crossings.get k with | none => _ | some d => _
        rw [hc]
        cases hd : s.cfg.crossings.get k with
        | none => simp only [hd] at hk; exact hk
        | some d => intro hcall; rw [not_called free] at hcall; cases hcall }
  · exact (h.blocks hb (bellFollows_congr rfl hc rfl)).trans { }

end Sys2Proof.Machine
end

section
-- One theorem after the other: side by side, waiting proofs would pile up.
set_option Elab.async false
/-! SUPPORT. What the acts of each block keep: channels and converter, axes, sky and pages, bell and crossings, the
clock, the command line, the store. -/

namespace Sys2Proof.Machine

open Sys2Proof.Safety

/-! ## Channels and the converter -/

/-- A change of one channel: duty 0 but in DRIVING (R55), and under the halt OFF or CUT (R66). -/
structure ChannelMove (halt : Bool) (x y : ChannelRun) : Prop where
  duty : (x.state ≠ .driving → x.applied.duty = 0) → y.state ≠ .driving → y.applied.duty = 0
  stays : halt = true → x.state = .off ∨ x.state = .cut → y.state = .off ∨ y.state = .cut

theorem keeps_channel {c : Channel} {f : ChannelRun → ChannelRun} {s : State}
    (h : ChannelMove s.halt (s.channels.get c) (f (s.channels.get c))) : Keeps s (s.modChannel c f) where
  toKeepsHalt := {
    braked := fun _ hs hh => by
      refine ⟨fun d => ?_, (hs hh).2⟩
      show (((s.channels.modify c f).get d).state = .off) ∨ ((s.channels.modify c f).get d).state = .cut
      rw [Table.get_modify]; split
      · next e => subst e; exact h.stays hh ((hs hh).1 d)
      · exact (hs hh).1 d }
  toKeepsBooks := { }
  toKeepsBlocks := {
    duty := fun hs d => by
      show ((s.channels.modify c f).get d).state ≠ .driving → ((s.channels.modify c f).get d).applied.duty = 0
      rw [Table.get_modify]; split
      · next e => subst e; exact h.duty (hs d)
      · exact hs d }

theorem applyStaged_move (halt : Bool) (d : ChannelDef) (x : ChannelRun) : ChannelMove halt x (applyStaged halt d x) := by
  constructor
  · unfold applyStaged
    split <;> rename_i hs <;> intro hx
    · exact hx
    · split
      · exact hx
      · dsimp only; split
        · exact fun _ => rfl
        · exact fun h => absurd rfl h
    · split
      · exact hx
      · split
        · exact fun h => absurd hs h
        · exact fun _ => rfl
    · exact fun h => absurd rfl h
  · intro hh hx
    unfold applyStaged
    rcases hx with hx | hx <;> simp [hx, hh]

theorem startPeriod_move {halt : Bool} {x y : ChannelRun} (d : ChannelDef) (h : ChannelMove halt x y) :
    ChannelMove halt x (startPeriod d y) := ⟨h.duty, h.stays⟩

theorem periodEnd_keeps (c : Channel) (s : State) : Keeps s (periodEnd c s) :=
  keeps_channel (startPeriod_move _ (applyStaged_move ..))

/-- A converter that keeps the filters. -/
theorem keeps_sense {s : State} {q : Sense} (hf : q.filters = s.sense.filters)
    (hl : ConverterLegal s → ConverterLegal (s.withSense q)) : Keeps s (s.withSense q) where
  toKeepsHalt := { }
  toKeepsBooks := {
    agree := agree_congr rfl (by funext x; simp [State.occupied, hf]) rfl rfl }
  toKeepsBlocks := { converter := hl }

theorem dropRequest_legal (c : Channel) {s : State} (h : ConverterLegal s) :
    ConverterLegal (s.withSense (dropRequest c s.sense)) := by
  obtain ⟨hn, hh, hi⟩ := h
  refine ⟨?_, fun d => ?_, fun h => ?_⟩
  · exact hn.sublist (List.filter_sublist.map _)
  · have := hh d
    simp only [State.withSense_sense, dropRequest, Table.get_set, List.mem_map, List.mem_filter] at this ⊢
    split
    · next e => subst e; simp
    · next e =>
      rw [this]
      constructor
      · rintro ⟨r, hr, rfl⟩; exact ⟨r, ⟨hr, by simpa using e⟩, rfl⟩
      · rintro ⟨r, ⟨hr, -⟩, e⟩; exact ⟨r, hr, e⟩
  · simp only [State.withSense_sense, dropRequest] at h ⊢
    rw [hi h]; rfl

theorem startConversion_legal {s : State} {q : Sense} (h : (q.queue.map Request.ch).Nodup)
    (hh : ∀ c, (q.held.get c).isSome = true ↔ c ∈ q.queue.map Request.ch) :
    ConverterLegal (s.withSense (startConversion q)) := by
  unfold startConversion
  split
  · next e => exact ⟨h, hh, fun _ => e⟩
  · next r rs e =>
    rw [e, List.map_cons] at h
    refine ⟨(List.nodup_cons.mp h).2, fun c => ?_, by simp⟩
    have := hh c
    rw [e] at this
    simp only [State.withSense_sense, Table.get_set, List.map_cons, List.mem_cons] at this ⊢
    split
    · next e => subst e; simpa using (List.nodup_cons.mp h).1
    · next e => rw [this]; simp [e]

theorem joinRequests_map (r : Request) (q : List Request) :
    (joinRequests r q).map Request.ch =
      if r.ch ∈ q.map Request.ch then q.map Request.ch else q.map Request.ch ++ [r.ch] := by
  unfold joinRequests
  by_cases h : r.ch ∈ q.map Request.ch
  · have ha : (q.any fun x => x.ch = r.ch) = true := by
      obtain ⟨x, hx, e⟩ := List.mem_map.mp h
      exact List.any_eq_true.mpr ⟨x, hx, by simp [e]⟩
    rw [if_pos ha, if_pos h, List.map_map]
    refine List.map_congr_left fun x _ => ?_
    simp only [Function.comp]; split <;> rfl
  · have ha : ¬ (q.any fun x => x.ch = r.ch) = true := by
      intro ha
      obtain ⟨x, hx, e⟩ := List.any_eq_true.mp ha
      exact h (List.mem_map.mpr ⟨x, hx, by simpa using e⟩)
    rw [if_neg ha, if_neg h]; simp

theorem arrive_legal (r : Request) (mA : Nat) {s : State} (h : ConverterLegal s) :
    ConverterLegal (s.withSense (arrive r mA s.sense)) := by
  obtain ⟨hn, hh, hi⟩ := h
  have nodup : ((joinRequests r s.sense.queue).map Request.ch).Nodup := by
    rw [joinRequests_map]; split
    · exact hn
    · next h => exact List.nodup_append.mpr ⟨hn, by simp, fun a ha b hb => by
        simp only [List.mem_singleton] at hb; rintro rfl; subst hb; exact h ha⟩
  have held : ∀ c, ((s.sense.held.set r.ch (some mA)).get c).isSome = true ↔
      c ∈ (joinRequests r s.sense.queue).map Request.ch := fun c => by
    have := hh c
    rw [joinRequests_map, Table.get_set]
    by_cases e : c = r.ch
    · subst e; simp only [if_true, Option.isSome_some, true_iff]; split
      · assumption
      · simp
    · simp only [e, if_false]; rw [this]; split
      · rfl
      · simp [e]
  unfold arrive
  dsimp only
  split
  · exact startConversion_legal nodup held
  · next v e => exact ⟨nodup, held, fun h => by
      simp only [State.withSense_sense] at h; rw [e] at h; cases h⟩

theorem arrive_filters (r : Request) (mA : Nat) (q : Sense) : (arrive r mA q).filters = q.filters := by
  unfold arrive startConversion
  dsimp only
  split
  · split <;> rfl
  · rfl

theorem conversionRequest_keeps (c : Channel) (mA : Nat) (s : State) : Keeps s (conversionRequest c mA s) := by
  unfold conversionRequest
  refine .ite _ (fun _ => .trans ?_ (keeps_sense (arrive_filters ..) fun h => arrive_legal (s := s) _ _ h)) fun _ => .refl s
  exact keeps_channel ⟨fun h => h, fun _ h => h⟩

theorem writeSlot_keeps (c : Channel) (mA : Nat) (s : State) : Keeps s (writeSlot c mA s) := by
  have h : Keeps s (s.withSense { s.sense with slots := s.sense.slots.set c (some mA) }) :=
    keeps_sense rfl fun h => h
  unfold writeSlot
  split
  · exact h
  · exact h
  · exact .refl s
  · exact .refl s

theorem startNext_keeps (s : State) : Keeps s (s.withSense (startConversion s.sense)) := by
  refine keeps_sense ?_ fun h => startConversion_legal h.1 h.2.1
  unfold startConversion; split <;> rfl

/-- A channel goes OFF or CUT at once, and the converter drops its request (R62, R66, R75). -/
theorem releaseChannel_keeps {st : ChannelState} (hs : st = .off ∨ st = .cut) (c : Channel) (s : State) :
    Keeps s (releaseChannel st c s) := by
  refine .trans ?_ (keeps_sense (s := s.modChannel c _) rfl (dropRequest_legal c))
  exact keeps_channel ⟨fun _ _ => rfl, fun _ _ => hs⟩

/-! ## Axes -/

/-- The timers, the cause and the duty of an axis are those of its state (R159, R165, R169). -/
structure AxisFit (a : AxisRun) : Prop where
  stall : a.stallTimer.isSome = true ↔ a.state = .starting ∨ a.state = .running
  stop : a.stopTimer = true ↔ a.state = .stopping
  cause : a.cause.isSome = true ↔ a.state = .stalled
  duty : a.duty ≠ 0 → a.state = .starting ∨ a.state = .running

/-- A HALTED or STALLED axis (R167). -/
def AxisRun.still (a : AxisRun) : Prop := a.state = .halted ∨ a.state = .stalled

theorem AxisRun.still_iff (a : AxisRun) : a.still ↔ a.state = .halted ∨ a.state = .stalled := Iff.rfl

/-- A change of an axis: it stays fit, and under the halt it stays still. -/
structure AxisMove (halt : Bool) (a b : AxisRun) : Prop where
  fit : AxisFit a → AxisFit b
  stays : halt = true → AxisFit a → a.still → b.still

theorem axesAgree_iff (s : State) : AxesAgree s ↔ ∀ n, AxisFit (s.axes.get n) :=
  ⟨fun h n => ⟨(h n).1, (h n).2.1, (h n).2.2.1, (h n).2.2.2⟩,
    fun h n => ⟨(h n).stall, (h n).stop, (h n).cause, (h n).duty⟩⟩

theorem AxisMove.refl {h : Bool} (a : AxisRun) : AxisMove h a a := ⟨id, fun _ _ h => h⟩

theorem keeps_axes {s : State} {x : Table AxisRun 4} (h : ∀ n, AxisMove s.halt (s.axes.get n) (x.get n)) :
    Keeps s (s.withAxes x) where
  toKeepsHalt := {
    axes := fun ha => by
      rw [axesAgree_iff] at ha ⊢
      exact fun n => (h n).fit (ha n)
    braked := fun ha hb hh => ⟨(hb hh).1, fun n =>
      (h n).stays hh ((axesAgree_iff s).mp ha n) ((hb hh).2 n)⟩ }
  toKeepsBooks := { }
  toKeepsBlocks := { }

theorem keeps_axis {n : Axis} {f : AxisRun → AxisRun} {s : State}
    (h : AxisMove s.halt (s.axes.get n) (f (s.axes.get n))) : Keeps s (s.modAxis n f) := by
  refine keeps_axes fun m => ?_
  rw [Table.get_modify]; split
  · next e => subst e; exact h
  · exact .refl _

/-- An axis that changes in fields that no invariant reads. -/
theorem AxisMove.of_same {h : Bool} {a b : AxisRun} (hs : b.state = a.state) (ht : b.stallTimer = a.stallTimer)
    (hp : b.stopTimer = a.stopTimer) (hc : b.cause = a.cause) (hd : b.duty = a.duty) : AxisMove h a b where
  fit f := ⟨by rw [ht, hs]; exact f.stall, by rw [hp, hs]; exact f.stop, by rw [hc, hs]; exact f.cause,
    by rw [hd, hs]; exact f.duty⟩
  stays _ _ hst := by rwa [AxisRun.still_iff, hs]

theorem sendAxisDuty_keeps (n : Axis) (s : State) : Keeps s (sendAxisDuty n s) :=
  keeps_of_redraws (dutyRequest_asks ..).toRedraws

theorem AxisMove.trans {h : Bool} {a b c : AxisRun} (m : AxisMove h a b) (k : AxisMove h b c) : AxisMove h a c :=
  ⟨fun f => k.fit (m.fit f), fun hh f hs => k.stays hh (m.fit f) (m.stays hh f hs)⟩

/-- An axis that leaves a state of the turning figure: under the halt there is none. -/
theorem AxisMove.of_turning {h : Bool} {a b : AxisRun} (hs : ¬ a.still) (hf : AxisFit a → AxisFit b) :
    AxisMove h a b := ⟨hf, fun _ _ hst => absurd hst hs⟩

theorem slewAxis_move {h : Bool} (d : AxisDef) (cmd : Nat) (a : AxisRun) : AxisMove h a (slewAxis d cmd a) := by
  unfold slewAxis
  split <;> exact .of_same rfl rfl rfl rfl rfl

theorem beginStop_move {h : Bool} {a : AxisRun} (hs : a.state = .starting ∨ a.state = .running) :
    AxisMove h a a.beginStop := by
  refine .of_turning (by rintro (e | e) <;> rw [e] at hs <;> rcases hs with hs | hs <;> cases hs) fun f => ?_
  have hc := f.cause
  refine ⟨by simp [AxisRun.beginStop], by simp [AxisRun.beginStop], ?_, by simp [AxisRun.beginStop]⟩
  rcases hs with e | e <;> simp only [e] at hc <;> simpa [AxisRun.beginStop] using hc

theorem startOrStop_move {h : Bool} (d : AxisDef) (a : AxisRun) : AxisMove h a (startOrStop d a) := by
  unfold startOrStop
  split <;> rename_i e
  · split
    · refine .of_turning (by rintro (x | x) <;> rw [e] at x <;> cases x) fun f => ?_
      have hc := f.cause
      have hp := f.stop
      rw [e] at hc hp
      exact ⟨by simp, by simpa using hp, by simpa using hc, by simp⟩
    · exact .refl a
  · split
    · exact beginStop_move (.inl e)
    · exact .refl a
  · split
    · exact beginStop_move (.inr e)
    · exact .refl a
  all_goals exact .refl a

theorem updateTick_keeps (n : Axis) (s : State) : Keeps s (updateTick n s) :=
  .ite _ (fun _ => .trans (keeps_axis (.trans (slewAxis_move ..) (startOrStop_move ..)))
    (sendAxisDuty_keeps ..)) fun _ => .refl s

theorem indexAxis_move {h : Bool} (d : AxisDef) (draw stamp : Nat) (a : AxisRun) :
    AxisMove h a (indexAxis d draw stamp a) := by
  unfold indexAxis
  split <;> rename_i e
  · refine .of_turning (by rintro (x | x) <;> rw [e] at x <;> cases x) fun f => ?_
    have hc := f.cause
    have hp := f.stop
    rw [e] at hc hp
    exact ⟨by simp, by simpa using hp, by simpa using hc, by simp⟩
  · refine .of_turning (by rintro (x | x) <;> rw [e] at x <;> cases x) fun f => ?_
    exact ⟨by simp [e], f.stop, f.cause, fun _ => .inr e⟩
  · refine .of_turning (by rintro (x | x) <;> rw [e] at x <;> cases x) fun f => ?_
    exact ⟨f.stall, by simp [e], f.cause, f.duty⟩
  all_goals exact .of_same rfl rfl rfl rfl rfl

theorem indexEvent_keeps (n : Axis) (stamp : Nat) (s : State) : Keeps s (indexEvent n stamp s) := by
  have hm : Keeps s (s.modAxis n (indexAxis (s.axisDef n) s.freeDraws stamp)) := keeps_axis (indexAxis_move ..)
  unfold indexEvent
  dsimp only
  have hd : ∀ t, Keeps s t → Keeps s (if (s.axes.get n).measuresFree then t.withFreeDraws (s.freeDraws + 1) else t) :=
    fun t ht => .ite _ (fun _ => ht.trans { }) fun _ => ht
  exact .ite _ (fun _ => hd _ hm) fun _ => (hd _ hm).trans (sendAxisDuty_keeps ..)

theorem stalled_fit {a : AxisRun} (hp : a.stopTimer = false) (c : StallCause) (m : Nat) :
    AxisFit { a with state := .stalled, cause := some c, duty := 0, measured := m, stallTimer := none } :=
  ⟨by simp, by simp [hp], by simp, by simp⟩

theorem stallExpiry_keeps (n : Axis) (s : State) : Keeps s (stallExpiry n s) := by
  unfold stallExpiry
  split
  · exact .refl s
  · next w e =>
    refine .trans (.trans (keeps_axis ⟨fun f => ?_, fun _ _ _ => .inr rfl⟩) (sendAxisDuty_keeps ..)) (keeps_raise ..)
    have ht := f.stall.mp (by rw [e]; rfl)
    have hp : (s.axes.get n).stopTimer = false := by
      by_contra hn
      have := f.stop.mp (by simpa using hn)
      rw [this] at ht; rcases ht with ht | ht <;> cases ht
    exact stalled_fit hp ..

theorem stopExpiry_keeps (n : Axis) (s : State) : Keeps s (stopExpiry n s) := by
  refine .ite _ (fun h => keeps_axis ⟨fun f => ?_, fun _ f hs => ?_⟩) fun _ => .refl s
  · have hst := f.stop.mp h
    have ht := f.stall; have hc := f.cause; have hd := f.duty
    rw [hst] at ht hc hd
    exact ⟨by simpa using ht, by simp, by simpa using hc, by simpa using hd⟩
  · have hst := f.stop.mp h
    rcases hs with hs | hs <;> rw [hst] at hs <;> cases hs

theorem axisCutNotice_keeps (n : Axis) (s : State) : Keeps s (axisCutNotice n s) :=
  keeps_axis ⟨fun _ => ⟨by simp, by simp, by simp, by simp⟩, fun _ _ _ => .inr rfl⟩

/-- The halt makes every axis still, from every state. -/
theorem haltAxis_still (a : AxisRun) : (haltAxis a).still := by
  unfold haltAxis
  split <;> rename_i e
  · exact .inr e
  all_goals exact .inl rfl

theorem haltAxis_fit {a : AxisRun} (f : AxisFit a) : AxisFit (haltAxis a) := by
  have hc := f.cause
  unfold haltAxis
  split <;> rename_i e
  · exact f
  all_goals
    rw [e] at hc
    exact ⟨by simp, by simp, by simpa using hc, by simp⟩

theorem resumeAxis_fit {a : AxisRun} (f : AxisFit a) : AxisFit (resumeAxis a) := by
  unfold resumeAxis
  split <;> rename_i e
  · have ht := f.stall; have hp := f.stop; have hc := f.cause; have hd := f.duty
    rw [e] at ht hp hc hd
    exact ⟨by simpa using ht, by simpa using hp, by simpa using hc, by simpa using hd⟩
  all_goals exact f

theorem setProgramValues_keeps (t : Nat) (s : State) : Keeps s (setProgramValues t s) :=
  keeps_axes fun n => by rw [Table.get_mapIdx]; exact .of_same rfl rfl rfl rfl rfl

/-! ## The sky engine and the lamp matrix -/

/-- A sky that keeps the compose in flight. -/
theorem keeps_sky {s : State} {x : Sky} (h : x.compose = s.sky.compose) : Keeps s (s.withSky x) where
  toKeepsHalt := { }
  toKeepsBooks := { }
  toKeepsBlocks := { exchange := exchangeLegal_congr h rfl }

theorem keeps_of_lights {s t : State} (h : Lights s t) (he : ExchangeLegal s → ExchangeLegal t) : Keeps s t := by
  have ht := h.same
  have hu := h.units
  exact {
    fit := fun hs n => by rw [h.halt, ht]; exact hs n
    axes := by unfold AxesAgree; rw [h.axes]; exact id
    braked := fun _ => h.toTraffic.braked
    agree := agree_congr (by rw [h.cfg]) h.occupied hu ht
    circle := fun _ => noWaitCycle_congr hu ht
    guard := fun _ _ => guard_congr h.cfg hu h.crossings
    lead := leadTimersRun_congr (by rw [h.cfg]) h.crossings
    duty := h.toTraffic.duty
    converter := by unfold ConverterLegal; rw [h.sense]; exact id
    driver := by unfold DriverLegal; rw [h.driver]; exact id
    lists := by unfold ListsOrdered; rw [h.cfg, h.store]; exact id
    exchange := he
    scale := by unfold ScaleInRange; rw [h.account]; exact id
    clock := by unfold ClockInRange; rw [h.cfg, h.store, h.clock, h.nextStart]; exact id
    thresholds := by unfold ThresholdsInRange; rw [h.cfg, h.store]; exact id
    bell := bellFollows_congr h.bell (by rw [h.cfg]) h.crossings
    reports := reports_congr h.line h.sys
    saved := by unfold SavedAsRun; rw [h.cfg, h.store]; exact id }

theorem requestRecompose_keeps (s : State) : Keeps s (requestRecompose s) :=
  keeps_of_lights (requestRecompose_lights s) requestRecompose_exchange

theorem setGroups_compose {α : Type} (f : Sky → α → Sky) (h : ∀ k g, (f k g).compose = k.compose) (xs : List α)
    (k : Sky) : (xs.foldl f k).compose = k.compose := by
  induction xs generalizing k with
  | nil => rfl
  | cons x xs ih => exact (ih _).trans (h k x)

theorem settleGroup_compose (c : Scene) (t : Nat) (k : Sky) (g : GroupId) :
    (settleGroup c t k g).compose = k.compose := by
  unfold settleGroup; dsimp only; split <;> rfl

theorem settleAll_compose (c : Scene) (t : Nat) (k : Sky) : (settleAll c t k).compose = k.compose :=
  setGroups_compose _ (settleGroup_compose c t) _ k

theorem skyStep_keeps (t0 t1 : Nat) (s : State) : Keeps s (skyStep t0 t1 s) :=
  .trans (keeps_sky (x := expireOverrides (passes t0 t1) s.sky) rfl) (requestRecompose_keeps _)

theorem skyJump_keeps (new : Nat) (s : State) : Keeps s (skyJump new s) :=
  .trans (keeps_sky (x := expireOverrides (fun _ => true) (settleAll s.cfg new s.sky)) (settleAll_compose ..))
    (requestRecompose_keeps _)

theorem walkExpiry_keeps (s : State) : Keeps s (walkExpiry s) :=
  .ite _ (fun _ => .trans (keeps_sky (x := { s.sky with walkPos := s.sky.walkPos + 1 }) rfl)
    (requestRecompose_keeps _)) fun _ => .refl s

theorem completeCompose_keeps (s : State) : Keeps s (completeCompose s) := by
  unfold completeCompose
  split
  · exact .refl s
  · exact {
      toKeepsHalt := { }
      toKeepsBooks := { }
      toKeepsBlocks := { exchange := fun _ => ⟨by simp, fun _ => .inr rfl⟩ } }

theorem frameEnd_exchange {s : State} (h : ExchangeLegal s) : ExchangeLegal (frameEnd s) := by
  obtain ⟨ha, hb⟩ := h
  by_cases hr : s.matrix.ready = true
  · have hc : s.sky.compose = none := by
      by_contra hn
      have := ha (Option.isSome_iff_ne_none.mpr hn)
      rw [hr] at this; cases this
    cases hp : s.matrix.pending
    · simp [frameEnd, nextFrame, exchangePages, ExchangeLegal, hr, hp, hc]
    · simp [frameEnd, nextFrame, exchangePages, startCompose, ExchangeLegal, hr, hp]
  · have e : frameEnd s = nextFrame s := by simp only [frameEnd, hr]; rfl
    rw [e]
    exact ⟨ha, hb⟩

/-- A frame end touches sky, matrix and floods alone. -/
theorem frameEnd_eq (s : State) :
    frameEnd s = ((s.withFloods (frameEnd s).floods).withMatrix (frameEnd s).matrix).withSky (frameEnd s).sky := by
  unfold frameEnd
  dsimp only
  split
  · split <;> rfl
  · rfl

theorem frameEnd_keeps (s : State) : Keeps s (frameEnd s) := by
  have he := frameEnd_exchange (s := s)
  rw [frameEnd_eq] at he ⊢
  exact { toKeepsHalt := { }, toKeepsBooks := { }, toKeepsBlocks := { exchange := he } }

end Sys2Proof.Machine
end

section
-- One theorem after the other: side by side, waiting proofs would pile up.
set_option Elab.async false
/-! SUPPORT. What the halt, the delivery of a sample, the inputs, the clock, the store, the device reset and the
command line keep. -/

namespace Sys2Proof.Machine

open Sys2Proof.Safety

/-! ## The bell and the crossings -/

theorem keeps_bell {s : State} {b : Bell} (h : BellFollows s → BellFollows (s.withBell b)) : Keeps s (s.withBell b) where
  toKeepsHalt := { }
  toKeepsBooks := { }
  toKeepsBlocks := { bell := h }

theorem bellExpiry_keeps (s : State) : Keeps s (bellExpiry s) := by
  unfold bellExpiry
  split
  · exact .refl s
  · next p e =>
    refine keeps_bell fun ⟨a, b, _⟩ => ⟨a, ?_, fun h => ?_⟩
    · rw [e] at b; exact b
    · rw [e] at b
      have : s.bell.sounding = false := h
      rw [this] at b; cases b

theorem setQuietFrom_keeps (t : Nat) (s : State) : Keeps s (setQuietFrom t s) := by
  have hb : BellFollows s → BellFollows (setQuietFrom t s) := fun h =>
    bellUpdate_follows (show BellWired (s.withBell _) from bellWired_of_follows (s := s) h)
  have e : setQuietFrom t s = s.withBell (setQuietFrom t s).bell := by
    unfold setQuietFrom; rw [bellUpdate_eq]; rfl
  rw [e] at hb ⊢
  exact keeps_bell hb

/-- A crossing's record and the bell that follows it: what that keeps but for the crossings' own invariants. -/
theorem keeps_crossings {s : State} {x : Table CrossingRun 2} (hl : LeadTimersRun s → LeadTimersRun (s.withCrossings x))
    (hg : LeadTimersRun s → CrossingsGuard s → CrossingsGuard (s.withCrossings x)) :
    Keeps s (bellUpdate (s.withCrossings x)) := by
  have hb : BellFollows s → BellFollows (bellUpdate (s.withCrossings x)) := fun h =>
    bellUpdate_follows ((bellWired_of_follows h).congr rfl)
  rw [bellUpdate_eq] at hb ⊢
  exact {
    toKeepsHalt := { }
    lead := hl
    guard := fun a _ => hg a
    agree := fun h => h
    circle := fun _ => noWaitCycle_congr rfl rfl
    toKeepsBlocks := { bell := hb } }

theorem leadExpiry_keeps (k : CrossingId) (s : State) : Keeps s (leadExpiry k s) := by
  unfold leadExpiry
  split
  · exact .refl s
  · next w e =>
    refine .trans (keeps_crossings (fun h j hj => ?_) fun hl hg j => ?_) (keeps_of_redraws (crossingNotice_redraws ..))
    · simp only [State.withCrossings_crossings, Table.get_modify] at hj ⊢
      split
      · next e => rw [if_pos e] at hj; exact absurd rfl hj
      · next e => rw [if_neg e] at hj; exact h j hj
    · have hs := hg j
      show match s.cfg.crossings.get j with
        | none => ((s.crossings.modify k _).get j).state = .idle
        | some d => s.called d = true → ((s.crossings.modify k _).get j).state ≠ .idle
      rw [Table.get_modify]
      by_cases h : j = k
      · subst h
        cases hd : s.cfg.crossings.get j with
        | none => exact absurd hd (hl j (by rw [e]; exact Option.some_ne_none _)).2
        | some d => simp
      · rw [if_neg h]; exact hs

theorem flashExpiry_keeps (k : CrossingId) (s : State) : Keeps s (flashExpiry k s) := by
  refine .ite _ (fun _ => .trans ?_ (requestRecompose_keeps _)) fun _ => .refl s
  have same : ∀ j, ((s.crossings.modify k fun r => { r with phase := !r.phase }).get j).state =
      (s.crossings.get j).state ∧ ((s.crossings.modify k fun r => { r with phase := !r.phase }).get j).leadTimer =
      (s.crossings.get j).leadTimer := fun j => by
    rw [Table.get_modify]; split <;> exact ⟨rfl, rfl⟩
  have warns : ∀ j, ((s.crossings.modify k fun r => { r with phase := !r.phase }).get j).warns =
      (s.crossings.get j).warns := fun j => by unfold CrossingRun.warns; rw [(same j).1]
  exact {
    toKeepsHalt := { }
    agree := fun h => h
    circle := fun _ => noWaitCycle_congr rfl rfl
    lead := fun h j => by
      show ((s.crossings.modify k _).get j).leadTimer ≠ none → ((s.crossings.modify k _).get j).state = _ ∧ _
      rw [(same j).1, (same j).2]; exact h j
    guard := fun _ _ h j => by
      have hs := h j
      show match s.cfg.crossings.get j with
        | none => ((s.crossings.modify k _).get j).state = .idle
        | some d => s.called d = true → ((s.crossings.modify k _).get j).state ≠ .idle
      rw [(same j).1]; exact hs
    toKeepsBlocks := {
      bell := fun ⟨a, b⟩ => by
        refine ⟨a.trans ?_, b⟩
        simp only [State.bellDue, State.modCrossing, State.withCrossings_crossings, State.withCrossings_cfg,
          State.withCrossings_bell, warns] } }

/-! ## The turnout driver -/

theorem keeps_of_drives {s t : State} (h : Drives s t) (hd : DriverLegal s → DriverLegal t)
    (hr : ReportsBounded s → ReportsBounded t) : Keeps s t := by
  have ha : ∀ {ex}, AgreeBut ex s → AgreeBut ex t := fun ha => by
    obtain ⟨hb, hp⟩ := ha
    have ht := h.trains
    refine ⟨?_, fun n hn => ?_⟩
    · rw [stateBooks_iff, h.units, h.crowded]
      have h1 : ∀ n, (t.trains.get n).holdings = (s.trains.get n).holdings := fun n => by rw [ht n]
      have h2 : ∀ n, (t.trains.get n).request = (s.trains.get n).request := fun n => by rw [ht n]
      simp only [h1, h2]
      exact hb
    · rw [ht n] at hn ⊢; exact hp n hn
  have hreq : ∀ n, (t.trains.get n).request = (s.trains.get n).request := fun n => by rw [h.trains n]
  have hst : ∀ n, (t.trains.get n).state = (s.trains.get n).state := fun n => by rw [h.trains n]
  exact {
    fit := h.fit
    axes := by unfold AxesAgree; rw [h.axes]; exact id
    braked := fun _ => h.toTraffic.braked
    agree := fun g => (reservationsAgree_iff t).mpr (ha ((reservationsAgree_iff s).mp g))
    circle := fun _ hc => by
      rw [noWaitCycle_iff] at hc ⊢
      exact ⟨noCircle_of_fewer (fun n u e => hreq n ▸ e) (fun n u e => h.units ▸ e) hc.1,
        fun n hn => by rw [hreq]; exact hc.2 n (hst n ▸ hn)⟩
    guard := fun _ _ => guard_congr h.cfg h.units h.crossings
    lead := leadTimersRun_congr (by rw [h.cfg]) h.crossings
    duty := h.toTraffic.duty
    converter := by unfold ConverterLegal; rw [h.sense]; exact id
    driver := hd
    lists := by unfold ListsOrdered; rw [h.cfg, h.store]; exact id
    exchange := exchangeLegal_congr (by rw [h.sky]) h.matrix
    scale := by unfold ScaleInRange; rw [h.account]; exact id
    clock := by unfold ClockInRange; rw [h.cfg, h.store, h.clock, h.nextStart]; exact id
    thresholds := by unfold ThresholdsInRange; rw [h.cfg, h.store]; exact id
    bell := bellFollows_congr h.bell (by rw [h.cfg]) h.crossings
    reports := hr
    saved := by unfold SavedAsRun; rw [h.cfg, h.store]; exact id }

theorem pulseEnd_keeps (s : State) : Keeps s (pulseEnd s) :=
  keeps_of_drives (pulseEnd_drives s) pulseEnd_legal pulseEnd_reports

theorem recoveryExpiry_keeps (s : State) : Keeps s (recoveryExpiry s) :=
  keeps_of_drives (recoveryExpiry_drives s) recoveryExpiry_legal recoveryExpiry_reports

/-! ## The halt -/

/-- A channel released at once into a state (R62, R66). -/
def ChannelRun.released (st : ChannelState) (x : ChannelRun) : ChannelRun :=
  { x with state := st, applied := ⟨0, x.applied.pol⟩, staged := none, armed := false, onTime := 0 }

theorem ChannelRun.released_released (st : ChannelState) (x : ChannelRun) :
    (x.released st).released st = x.released st := rfl

theorem releaseChannel_channel (st : ChannelState) (c d : Channel) (s : State) :
    (releaseChannel st c s).channels.get d =
      if d = c then (s.channels.get d).released st else s.channels.get d := Table.get_modify ..

theorem releases_channel (cs : List Channel) (s : State) (d : Channel) :
    (cs.foldl (fun s c => releaseChannel .off c s) s).channels.get d =
      if d ∈ cs then (s.channels.get d).released .off else s.channels.get d := by
  induction cs generalizing s with
  | nil => rfl
  | cons c cs ih =>
    rw [List.foldl_cons, ih, releaseChannel_channel]
    by_cases h : d = c
    · subst h; by_cases h2 : d ∈ cs <;> simp [h2, ChannelRun.released_released]
    · simp [h]

/-- Every channel that is not CUT is released into OFF (R66). -/
theorem releaseAll_channel (s : State) (d : Channel) :
    (releaseAll s).channels.get d =
      if (s.channels.get d).state = .cut then s.channels.get d else (s.channels.get d).released .off := by
  unfold releaseAll
  rw [releases_channel]
  by_cases h : (s.channels.get d).state = .cut <;> simp [h]

theorem releaseAll_keeps (s : State) : Keeps s (releaseAll s) :=
  .foldl (fun s c => releaseChannel_keeps (.inl rfl) c s) _ s

/-- Releasing channels touches the channels and the converter alone. -/
theorem releases_eq (cs : List Channel) (s : State) :
    cs.foldl (fun s c => releaseChannel .off c s) s =
      (s.withChannels (cs.foldl (fun s c => releaseChannel .off c s) s).channels).withSense
        (cs.foldl (fun s c => releaseChannel .off c s) s).sense := by
  induction cs generalizing s with
  | nil => rfl
  | cons c cs ih => rw [List.foldl_cons, ih]; rfl

theorem releaseAll_eq (s : State) :
    releaseAll s = (s.withChannels (releaseAll s).channels).withSense (releaseAll s).sense := releases_eq _ s

theorem haltTrain_fit {x : TrainRun} (f : Fit false x) : Fit true (haltTrain x) := by
  rcases haltTrain_cases x with e | ⟨-, e⟩
  · have hw : x.state ≠ .waiting := fun h => by
      rw [haltTrain, h] at e; exact absurd (congrArg TrainRun.state e) (by simp [h])
    have hm : x.moving = false := by
      by_contra hn
      rcases moving_iff.mp (by simpa using hn) with h | h <;>
        · rw [haltTrain, h] at e; exact absurd (congrArg TrainRun.state e) (by simp [h])
    rw [e]
    exact ⟨f.speed, f.cause, f.reason, fun _ => ⟨hw, hm⟩⟩
  · rw [e]
    exact ⟨fun _ => rfl, by simp, by simp, fun _ => ⟨by simp, rfl⟩⟩

/-- The state in which the halt has released the channels and taken every train to HALTED (R66, R146). -/
def haltedAtOnce (s : State) : State := (releaseAll s).withTrains ((releaseAll s).trains.map haltTrain)

/-- The turnabouts that the halt finds pending are moves on it. -/
theorem haltTrains_after {k : Care} (s : State) : Moves k (haltedAtOnce s) (haltTrains (releaseAll s)) :=
  pendingTurns_moves (haltedAtOnce s)

theorem enterHalt_keepsHalt {s : State} {x : StopControl} (r : Report) (hn : s.halt = false) :
    KeepsHalt s (enterHalt r (s.withStopc x)) := by
  have hm := haltTrains_after (k := ⟨False, False, False⟩) (s.withStopc x)
  have ht := hm.traffic
  have hfirst : (haltedAtOnce (s.withStopc x)).axes = s.axes := by
    show (releaseAll (s.withStopc x)).axes = s.axes
    rw [releaseAll_eq]; rfl
  have hr : (haltAxes (haltTrains (releaseAll (s.withStopc x)))).axes = s.axes.map haltAxis := by
    show ((haltTrains (releaseAll (s.withStopc x))).axes).map haltAxis = _
    rw [ht.axes, hfirst]
  have hraise := raise_traffic r (haltAxes (haltTrains (releaseAll (s.withStopc x))))
  have haxes : (enterHalt r (s.withStopc x)).axes = s.axes.map haltAxis := hraise.axes.trans hr
  refine ⟨fun hs => ?_, fun ha => ?_, fun _ _ _ => ⟨fun c => ?_, fun n => ?_⟩⟩
  · have h1 : TrainsFit (haltedAtOnce (s.withStopc x)) := fun n => by
      have he : (haltedAtOnce (s.withStopc x)).trains.get n = haltTrain (s.trains.get n) := by
        show ((releaseAll (s.withStopc x)).trains.map haltTrain).get n = _
        rw [Table.get_map, releaseAll_eq]; rfl
      rw [he]
      have f := haltTrain_fit (hn ▸ hs n)
      exact ⟨f.speed, f.cause, f.reason, fun _ => f.rests rfl⟩
    exact (raise_moves (k := ⟨False, False, False⟩) r _).fit
      (s := haltAxes (haltTrains (releaseAll (s.withStopc x)))) (hm.fit h1)
  · rw [axesAgree_iff] at ha ⊢
    intro n
    rw [haxes, Table.get_map]
    exact haltAxis_fit (ha n)
  · show ((State.raise _ r).channels.get c).state = _ ∨ ((State.raise _ r).channels.get c).state = _
    rw [hraise.asks c]
    show ((haltTrains (releaseAll (s.withStopc x))).channels.get c).state = _ ∨
      ((haltTrains (releaseAll (s.withStopc x))).channels.get c).state = _
    rw [ht.asks c]
    show ((releaseAll (s.withStopc x)).channels.get c).state = _ ∨
      ((releaseAll (s.withStopc x)).channels.get c).state = _
    rw [releaseAll_channel]
    split
    · next h => exact .inr h
    · exact .inl rfl
  · rw [haxes, Table.get_map]
    exact haltAxis_still _

theorem haltAxes_books (s : State) : KeepsBooks s (haltAxes s) := { }

theorem haltAxes_blocks (s : State) : KeepsBlocks s (haltAxes s) := { }

theorem enterHalt_keeps {s : State} {x : StopControl} (r : Report) (hn : s.halt = false) :
    Keeps s (enterHalt r (s.withStopc x)) := by
  have h1 : Keeps (s.withStopc x) (haltTrains (releaseAll (s.withStopc x))) :=
    (releaseAll_keeps _).trans (keeps_of_moves_any fun _ hk => haltTrains_moves hk _)
  have h2 := keeps_raise r (haltAxes (haltTrains (releaseAll (s.withStopc x))))
  exact ⟨enterHalt_keepsHalt r hn,
    .trans { } ((h1.toKeepsBooks.trans (haltAxes_books _)).trans h2.toKeepsBooks),
    .trans { } ((h1.toKeepsBlocks.trans (haltAxes_blocks _)).trans h2.toKeepsBlocks)⟩

/-- Stop control changes, and the halt does not come into force. -/
theorem keeps_stopc {s : State} {x : StopControl} (h : (s.withStopc x).halt = true → s.halt = true) :
    Keeps s (s.withStopc x) where
  toKeepsHalt := {
    fit := fun hs n => ⟨(hs n).speed, (hs n).cause, (hs n).reason, fun hh => (hs n).rests (h hh)⟩
    braked := fun _ hs hh => hs (h hh) }
  toKeepsBooks := { }
  toKeepsBlocks := { }

theorem setLatch_keeps (line : Bool) (r : Report) (s : State) : Keeps s (setLatch line r s) :=
  .ite _ (fun h => keeps_stopc fun _ => h) fun h => enterHalt_keeps r (by simpa using h)

theorem acceptAssert_keeps (s : State) : Keeps s (acceptAssert s) :=
  .ite _ (fun _ => .refl s) fun _ => setLatch_keeps ..

theorem acceptRelease_keeps (s : State) : Keeps s (acceptRelease s) :=
  .ite _ (fun h => .trans (keeps_stopc fun _ => by simp [State.halt, h]) (keeps_raise ..)) fun _ => .refl s

theorem stopSample_keeps (b : Bool) (s : State) : Keeps s (stopSample b s) := by
  have run : ∀ k, Keeps s (s.withStopc { s.stopc with run := k }) := fun k => keeps_stopc fun h => h
  refine .ite _ (fun _ => run 0) fun _ => .ite _ (fun _ => run _) fun _ => .ite _ (fun _ => ?_) fun _ => ?_
  · exact acceptAssert_keeps s
  · exact acceptRelease_keeps s

theorem withStopPin_keeps (b : Bool) (s : State) : Keeps s (withStopPin b s) where
  toKeepsHalt := { }
  toKeepsBooks := { }
  toKeepsBlocks := { }

/-! ## The delivery of a sample -/

theorem cutNotice_keeps (c : Channel) (s : State) : Keeps s (cutNotice c s) := by
  unfold cutNotice
  split
  · exact keeps_of_moves_any fun _ hk => sectionCutNotice_moves hk ..
  · exact axisCutNotice_keeps ..
  · exact .refl s

theorem tripTest_keeps (c : Channel) (mA : Nat) (s : State) : Keeps s (tripTest c mA s) :=
  .ite _ (fun _ => .refl s) fun _ =>
    .trans (.trans (releaseChannel_keeps (.inr rfl) c s) (cutNotice_keeps ..)) (keeps_raise ..)

/-- Crossings told of a transition change no reservation. -/
theorem crossingActs_agree {ex : Section → Prop} (ks : List CrossingId) {s : State} (h : AgreeBut ex s) :
    AgreeBut ex (ks.foldl crossingAct s) :=
  (Moves.foldl (k := ⟨True, False, False⟩) crossingAct_moves ks s).agreeBut trivial h

/-- The CLEAR that unblocks a free unit grants it, so that no exception is left (R112, R119). -/
theorem grantOnClear_agree {x u : Section} {s : State} (hu : s.cfg.unitKey x = some u)
    (h : AgreeBut (fun v => v = u) s) : ReservationsAgree (grantOnClear x s) := by
  have lift : ∀ {t}, AgreeBut (fun v => v = u) t →
      ((t.units.get u).holder = none → (t.units.get u).waiting ≠ [] → t.crowded u) → ReservationsAgree t := by
    intro t ⟨hb, hp⟩ hc
    refine (reservationsAgree_iff t).mpr ⟨⟨hb.holds, hb.holdOnce, hb.waits, hb.waitOnce, hb.apart,
      fun v hn hw => .inr ?_⟩, hp⟩
    rcases hb.crowded v hn hw with e | e
    · subst e; exact hc hn hw
    · exact e
  have ht : AgreeBut (fun v => v = u) (grantOnClear x s) :=
    (grantOnClear_moves (k := ⟨True, False, False⟩) x s).agreeBut trivial h
  unfold grantOnClear at ht ⊢
  simp only [hu] at ht ⊢
  split at ht
  · next w ws hh hw =>
    by_cases hb : s.blocked u = true
    · simp only [hb, if_true] at ht ⊢
      exact lift ht fun _ _ => ((s.blocked_iff u).mp hb).2
    · simp only [hb] at ht ⊢
      refine lift ht fun hn => ?_
      exfalso
      simp [grant_units, grantCore_unit] at hn
  · next hne =>
    refine lift ht fun hn hw => ?_
    obtain ⟨w, ws, e⟩ := List.exists_cons_of_ne_nil hw
    exact absurd e (hne w ws hn)

/-- A section's filter changes: the books still agree, but for a unit that it no longer blocks. -/
theorem filter_agree {s : State} {x : Section} {f : Occupancy} {ex : Section → Prop}
    (hex : ∀ u, s.cfg.unitKey x = some u → f.occupied = true ∨ (s.sense.filters.get x).occupied = false ∨ ex u)
    (h : ReservationsAgree s) :
    AgreeBut ex (s.withSense { s.sense with filters := s.sense.filters.set x f }) := by
  obtain ⟨hb, hp⟩ := (reservationsAgree_iff s).mp h
  refine ⟨⟨hb.holds, hb.holdOnce, hb.waits, hb.waitOnce, hb.apart, fun u hn hw => ?_⟩, hp⟩
  have hc := (hb.crowded u hn hw).resolve_left id
  obtain ⟨y, hy, ho⟩ := List.any_eq_true.mp hc
  by_cases e : y = x
  · subst e
    have hk : s.cfg.unitKey y = some u := by simpa [Scene.unitSections] using hy
    rcases hex u hk with hf | hf | hf
    · exact .inr (List.any_eq_true.mpr ⟨y, hy, by simpa [State.occupied] using hf⟩)
    · rw [State.occupied, hf] at ho; cases ho
    · exact .inl hf
  · exact .inr (List.any_eq_true.mpr ⟨y, hy, by simpa [State.occupied, Table.get_set, e] using ho⟩)

/-- A transition of a section's filter, and the traffic controller's answer to it (R82, R123). -/
theorem transition_keeps (s : State) (x : Section) (f : Occupancy) :
    Keeps s (occupancyNotice x (s.withSense { s.sense with filters := s.sense.filters.set x f })) := by
  have moves : ∀ k : Care, Moves k _ (occupancyNotice x (s.withSense { s.sense with filters := s.sense.filters.set x f })) :=
    fun k => occupancyNotice_moves x _
  have hm := moves ⟨False, False, False⟩
  have first : ReservationsAgree s → AgreeBut (fun u => s.cfg.unitKey x = some u ∧ f.occupied = false)
      (s.withSense { s.sense with filters := s.sense.filters.set x f }) :=
    filter_agree fun u hu => by
      cases ho : f.occupied
      · exact .inr (.inr ⟨hu, rfl⟩)
      · exact .inl rfl
  have occupied : (s.withSense { s.sense with filters := s.sense.filters.set x f }).occupied x = f.occupied := by
    simp [State.occupied]
  refine ⟨.trans { } hm.keepsHalt, ?_, .trans { } hm.blocks⟩
  refine ⟨fun h => hm.leadTimers h, fun ha => ?_, fun ha hn => (moves ⟨True, True, False⟩).noWaitCycle trivial trivial
    (first ha) (noWaitCycle_congr (s := s) rfl rfl hn), fun _ _ h => hm.guard h⟩
  cases hu : s.cfg.unitKey x with
  | none =>
    have := (moves ⟨True, False, False⟩).agree trivial
      ((reservationsAgree_iff _).mpr (filter_agree (f := f) (fun u e => by rw [hu] at e; cases e) ha))
    exact this
  | some u =>
    have hd : s.cfg.defined x = true := by
      unfold Scene.unitKey at hu; unfold Scene.defined
      cases h : s.cfg.sections.get x with
      | none => rw [h] at hu; cases hu
      | some _ => rfl
    cases ho : f.occupied
    · have h2 : AgreeBut (fun v => v = u) (freeOnClear x
          (s.withSense { s.sense with filters := s.sense.filters.set x f })) :=
        (freeOnClear_moves (k := ⟨True, False, False⟩) x _).agreeBut trivial
          (filter_agree (fun v hv => .inr (.inr (Option.some.inj (hv.symm.trans hu)))) ha)
      unfold occupancyNotice
      simp only [State.withSense_cfg, hd, if_true, occupied, ho, Bool.false_eq_true, if_false]
      have h3 := grantOnClear_agree (x := x)
        (by rw [(freeOnClear_moves (k := ⟨True, False, False⟩) x _).traffic.cfg]; exact hu) h2
      exact (reservationsAgree_iff _).mpr (crossingActs_agree _ ((reservationsAgree_iff _).mp h3))
    · exact (moves ⟨True, False, False⟩).agree trivial
        ((reservationsAgree_iff _).mpr (filter_agree (fun _ _ => .inl ho) ha))

theorem occupancyStep_keeps (c : Channel) (mA : Nat) (s : State) : Keeps s (occupancyStep c mA s) := by
  unfold occupancyStep
  split
  · exact .refl s
  · next x e =>
    dsimp only
    split
    · next h =>
      refine ⟨{ }, { agree := agree_congr rfl ?_ rfl rfl }, { }⟩
      funext y
      by_cases hy : y = x
      · subst hy; simpa [State.occupied] using h
      · simp [State.occupied, Table.get_set, hy]
    · exact transition_keeps s x _

theorem conversionEnd_keeps (s : State) : Keeps s (conversionEnd s) := by
  unfold conversionEnd
  split
  · exact .refl s
  · refine .trans (.ite _ (fun _ => .refl s) fun _ => ?_) (startNext_keeps _)
    exact .trans (.trans (writeSlot_keeps ..) (tripTest_keeps ..)) (occupancyStep_keeps ..)

/-! ## Mark and index inputs -/

theorem modInput_keeps (i : InputId) (f : InputRun → InputRun) (s : State) : Keeps s (s.modInput i f) where
  toKeepsHalt := { }
  toKeepsBooks := { }
  toKeepsBlocks := { }

theorem edgeEvent_keeps (i : InputId) (stamp : Nat) (s : State) : Keeps s (edgeEvent i stamp s) := by
  unfold edgeEvent
  split
  · split
    · exact .refl s
    · exact keeps_of_moves_any fun _ hk => markEvent_moves hk ..
  · exact indexEvent_keeps ..
  · exact .refl s

theorem acceptActive_keeps (i : InputId) (stamp : Nat) (s : State) : Keeps s (acceptActive i stamp s) :=
  .ite _ (fun _ => modInput_keeps ..) fun _ => .trans (modInput_keeps ..) (edgeEvent_keeps ..)

theorem acceptInactive_keeps (i : InputId) (s : State) : Keeps s (acceptInactive i s) :=
  .ite _ (fun _ => .trans (modInput_keeps ..) (keeps_raise ..)) fun _ => modInput_keeps ..

theorem sampleInput_keeps (i : InputId) (level : Bool) (s : State) : Keeps s (sampleInput i level s) := by
  unfold sampleInput
  refine .ite _ (fun _ => modInput_keeps ..) fun _ => .ite _ (fun _ => modInput_keeps ..) fun _ => ?_
  have counted : ∀ k, Keeps s (s.modInput i fun f => { f with run := f.run + 1, runStart := k }) := fun k =>
    modInput_keeps ..
  exact .ite _ (fun _ => counted _) fun _ => .ite _ (fun _ => (counted _).trans (acceptActive_keeps ..)) fun _ =>
    (counted _).trans (acceptInactive_keeps ..)

theorem inputSample_keeps (levels : BitVec 20) (s : State) : Keeps s (inputSample levels s) :=
  .foldl (fun s i => sampleInput_keeps i _ s) _ s

theorem edgeActive_keeps (i : InputId) (s : State) : Keeps s (edgeActive i s) :=
  .ite _ (fun _ => .refl s) fun _ => acceptActive_keeps ..

theorem edgeInactive_keeps (i : InputId) (s : State) : Keeps s (edgeInactive i s) :=
  .ite _ (fun _ => acceptInactive_keeps ..) fun _ => .refl s

theorem stuckExpiry_keeps (i : InputId) (s : State) : Keeps s (stuckExpiry i s) :=
  .ite _ (fun _ => .trans (modInput_keeps ..) (keeps_raise ..)) fun _ => .refl s

/-! ## The clock and the budget -/

theorem keeps_clock {s : State} {x : Clock} (ht : x.time < 86400) (ha : s.clock.acc < 16 → x.acc < 16) :
    Keeps s (s.withClock x) where
  toKeepsHalt := { }
  toKeepsBooks := { }
  toKeepsBlocks := { clock := fun ⟨_, b, c⟩ => ⟨ht, ha b, c⟩ }

theorem stepNotice_keeps (t0 t1 d : Nat) (s : State) : Keeps s (stepNotice t0 t1 d s) :=
  .trans (.trans (.trans (skyStep_keeps ..) (keeps_of_moves_any fun _ hk => trafficStep_moves hk ..))
    (setProgramValues_keeps ..)) (setQuietFrom_keeps ..)

theorem jumpNotice_keeps (old new : Nat) (s : State) : Keeps s (jumpNotice old new s) :=
  .trans (.trans (.trans (skyJump_keeps ..) (keeps_raise ..)) (setProgramValues_keeps ..)) (setQuietFrom_keeps ..)

theorem clockStep_keeps (s : State) : Keeps s (clockStep s) := by
  refine .ite _ (fun _ => ?_) fun _ => .refl s
  unfold runStep
  dsimp only
  refine .ite _ (fun _ => ?_) fun _ => .trans (keeps_clock ?_ fun _ => ?_) (stepNotice_keeps ..)
  · exact ⟨{ }, { }, { clock := fun ⟨a, _, c⟩ => ⟨a, Nat.mod_lt _ (by decide), c⟩ }⟩
  · exact Nat.mod_lt _ (by decide)
  · exact Nat.mod_lt _ (by decide)

theorem targetScale_range (c m f d : Nat) : 64 ≤ targetScale c m f d ∧ targetScale c m f d ≤ 256 := by
  unfold targetScale
  dsimp only
  split
  · omega
  · next h =>
    have : (c - m - f) * 256 / d ≤ 256 := Nat.div_le_of_le_mul (by omega)
    omega

theorem evaluate_scale {s : State} (h : ScaleInRange s) : ScaleInRange (s.withAccount (evaluate s)) := by
  obtain ⟨a, b, -, -⟩ := h
  have ht := targetScale_range s.cfg.ceiling (motionTerm s) (fixedTerm s.cfg s.sky.sums) (demandTerm s.cfg s.sky.sums)
  have hn : 64 ≤ (evaluate s).scale ∧ (evaluate s).scale ≤ 256 := by
    show 64 ≤ nextScale _ _ ∧ nextScale _ _ ≤ 256
    unfold nextScale; split <;> omega
  exact ⟨hn.1, hn.2, ht.1, ht.2⟩

/-- The test of the pressure level leaves the scales. -/
theorem retest_scale (a : Account) (c : Nat) : (a.retest c).scale = a.scale ∧ (a.retest c).target = a.target := by
  unfold Account.retest
  split
  · split <;> exact ⟨rfl, rfl⟩
  · split
    · exact ⟨rfl, rfl⟩
    · split <;> exact ⟨rfl, rfl⟩
  · split
    · split <;> exact ⟨rfl, rfl⟩
    · split
      · split <;> exact ⟨rfl, rfl⟩
      · exact ⟨rfl, rfl⟩
  · split
    · split <;> exact ⟨rfl, rfl⟩
    · exact ⟨rfl, rfl⟩

theorem budgetEvaluation_keeps (s : State) : Keeps s (budgetEvaluation s) := by
  refine .ite _ (fun _ => ?_) fun _ => .refl s
  have ha : Keeps s (s.withAccount ((evaluate s).retest s.cfg.ceiling)) := by
    refine ⟨{ }, { }, { scale := fun h => ?_ }⟩
    have he := evaluate_scale h
    obtain ⟨h1, h2⟩ := retest_scale (evaluate s) s.cfg.ceiling
    unfold ScaleInRange at he ⊢
    simp only [State.withAccount_account, h1, h2] at he ⊢
    exact he
  have hb : Keeps s (if (evaluate s).scale = s.account.scale then s.withAccount ((evaluate s).retest s.cfg.ceiling)
      else requestRecompose (s.withAccount ((evaluate s).retest s.cfg.ceiling))) :=
    .ite _ (fun _ => ha) fun _ => ha.trans (requestRecompose_keeps _)
  exact .ite _ (fun _ => hb) fun _ => hb.trans (keeps_raise ..)

end Sys2Proof.Machine
end

section
-- One theorem after the other: side by side, waiting proofs would pile up.
set_option Elab.async false
/-! SUPPORT. Lists kept in order of a key: the keyframes and their pairs, the axis programs, the timetable (R13, R14,
R15, R154, R160). -/

namespace Sys2Proof.Machine

open Sys2Proof.Safety

/-! ## An element put in its place -/

section
variable {α κ : Type} [LinearOrder κ]

/-- An element put in order of its key, in place of the one with the same key. -/
def putKey (key : α → κ) (k : α) : List α → List α
  | [] => [k]
  | x :: xs =>
    if key k < key x then k :: x :: xs
    else if key k = key x then k :: xs
    else x :: putKey key k xs

variable (key : α → κ) (k : α)

theorem putKey_nil : putKey key k [] = [k] := rfl

theorem putKey_cons (x : α) (xs : List α) : putKey key k (x :: xs) =
    if key k < key x then k :: x :: xs else if key k = key x then k :: xs else x :: putKey key k xs := rfl

theorem mem_putKey {xs : List α} (h : xs.Pairwise fun x y => key x < key y) (y : α) :
    y ∈ putKey key k xs ↔ (y ∈ xs ∧ key y ≠ key k) ∨ y = k := by
  induction xs with
  | nil => simp [putKey_nil]
  | cons x xs ih =>
    obtain ⟨hx, hxs⟩ := List.pairwise_cons.mp h
    rw [putKey_cons]
    split
    · next hlt =>
      have : ∀ z ∈ x :: xs, key z ≠ key k := by
        rintro z (_ | ⟨_, hz⟩) e
        · exact absurd e hlt.ne'
        · exact absurd e (hlt.trans (hx z hz)).ne'
      simp only [List.mem_cons] at this ⊢
      grind
    · split
      · next heq =>
        have : ∀ z ∈ xs, key z ≠ key k := fun z hz e => (heq ▸ hx z hz).ne' e
        simp only [List.mem_cons]
        grind
      · next hne =>
        rw [List.mem_cons, ih hxs, List.mem_cons]
        grind

theorem putKey_sorted {xs : List α} (h : xs.Pairwise fun x y => key x < key y) :
    (putKey key k xs).Pairwise fun x y => key x < key y := by
  induction xs with
  | nil => simp [putKey_nil]
  | cons x xs ih =>
    obtain ⟨hx, hxs⟩ := List.pairwise_cons.mp h
    rw [putKey_cons]
    split
    · next hlt =>
      refine List.pairwise_cons.mpr ⟨fun y hy => ?_, h⟩
      rcases List.mem_cons.mp hy with e | hy
      · exact e ▸ hlt
      · exact hlt.trans (hx y hy)
    · split
      · next heq => exact List.pairwise_cons.mpr ⟨fun y hy => heq ▸ hx y hy, hxs⟩
      · next hlt hne =>
        refine List.pairwise_cons.mpr ⟨fun y hy => ?_, ih hxs⟩
        rcases (mem_putKey key k hxs y).mp hy with ⟨hy, -⟩ | e
        · exact hx y hy
        · exact e ▸ lt_of_le_of_ne (not_lt.mp hlt) (Ne.symm hne)

theorem putKey_length (xs : List α) : (putKey key k xs).length ≤ xs.length + 1 := by
  induction xs with
  | nil => simp [putKey_nil]
  | cons x xs ih =>
    rw [putKey_cons]
    split
    · simp
    · split
      · simp
      · simpa using ih

/-- In place of an element with its key, the list grows no longer. -/
theorem putKey_length_of_mem {xs : List α} (h : xs.Pairwise fun x y => key x < key y)
    (hm : ∃ x ∈ xs, key x = key k) : (putKey key k xs).length = xs.length := by
  induction xs with
  | nil => simp at hm
  | cons x xs ih =>
    obtain ⟨hx, hxs⟩ := List.pairwise_cons.mp h
    obtain ⟨z, hz, e⟩ := hm
    rw [putKey_cons]
    split
    · next hlt =>
      rcases List.mem_cons.mp hz with rfl | hz
      · exact absurd e hlt.ne'
      · exact absurd e (hlt.trans (hx z hz)).ne'
    · split
      · rfl
      · next hne =>
        rw [List.length_cons, List.length_cons, ih hxs]
        rcases List.mem_cons.mp hz with rfl | hz
        · exact absurd e.symm hne
        · exact ⟨z, hz, e⟩

/-- What is put in place of an element with its key is put in that element's place. -/
theorem putKey_eq_map {xs : List α} (h : xs.Pairwise fun x y => key x < key y) (hm : ∃ x ∈ xs, key x = key k)
    {f : α → α} (hf : ∀ x ∈ xs, f x = if key x = key k then k else x) : putKey key k xs = xs.map f := by
  induction xs with
  | nil => simp at hm
  | cons x xs ih =>
    obtain ⟨hx, hxs⟩ := List.pairwise_cons.mp h
    obtain ⟨z, hz, e⟩ := hm
    have hfx := hf x List.mem_cons_self
    have hfs : ∀ y ∈ xs, f y = if key y = key k then k else y := fun y hy => hf y (List.mem_cons_of_mem _ hy)
    rw [putKey_cons]
    split
    · next hlt =>
      rcases List.mem_cons.mp hz with rfl | hz
      · exact absurd e hlt.ne'
      · exact absurd e (hlt.trans (hx z hz)).ne'
    · split
      · next heq =>
        rw [List.map_cons, hfx, if_pos heq.symm]
        congr 1
        rw [List.map_congr_left (g := id) fun y hy => by
          rw [hfs y hy, if_neg (heq ▸ (hx y hy).ne')]; rfl]
        simp
      · next hne =>
        rw [List.map_cons, hfx, if_neg (Ne.symm hne)]
        congr 1
        refine ih hxs ?_ hfs
        rcases List.mem_cons.mp hz with rfl | hz
        · exact absurd e.symm hne
        · exact ⟨z, hz, e⟩

end

/-! ## Keyframes -/

theorem putKeyframe_eq (k : Keyframe) (xs : List Keyframe) : putKeyframe k xs = putKey Keyframe.time k xs := by
  induction xs with
  | nil => rfl
  | cons x xs ih => simp only [putKeyframe, putKey_cons, ih]

theorem putPair_eq (g : GroupId) (v : Nat) (xs : List (GroupId × Nat)) : putPair g v xs = putKey Prod.fst (g, v) xs := by
  induction xs with
  | nil => rfl
  | cons x xs ih => simp only [putPair, putKey_cons, ih]

theorem putPoint_eq (t v : Nat) (xs : List (Nat × Nat)) : putPoint t v xs = putKey Prod.fst (t, v) xs := by
  induction xs with
  | nil => rfl
  | cons x xs ih => simp only [putPoint, putKey_cons, ih]

/-- The keyframe at a scene time. -/
theorem keyframeAt_eq_some {ks : List Keyframe} (h : ks.Pairwise fun x y => x.time < y.time) {t : Nat} {k : Keyframe} :
    keyframeAt ks t = some k ↔ k ∈ ks ∧ k.time = t := by
  unfold keyframeAt
  induction ks with
  | nil => simp
  | cons x xs ih =>
    obtain ⟨hx, hxs⟩ := List.pairwise_cons.mp h
    rw [List.find?_cons, List.mem_cons]
    by_cases e : x.time = t
    · simp only [e, beq_self_eq_true, Option.some.injEq]
      constructor
      · rintro rfl; exact ⟨.inl rfl, e⟩
      · rintro ⟨rfl | hk, he⟩
        · rfl
        · exact absurd (hx k hk) (by omega)
    · rw [show (x.time == t) = false by simpa using e]
      simp only [ih hxs]
      constructor
      · rintro ⟨a, b⟩; exact ⟨.inr a, b⟩
      · rintro ⟨rfl | a, b⟩
        · exact absurd b e
        · exact ⟨a, b⟩

theorem keyframeAt_eq_none {ks : List Keyframe} {t : Nat} : keyframeAt ks t = none ↔ ∀ k ∈ ks, k.time ≠ t := by
  simp [keyframeAt, List.find?_eq_none]

/-- Pairs put one after another, each in its place. -/
theorem putPairs_sorted (ps acc : List (GroupId × Nat)) (h : acc.Pairwise fun x y => x.1 < y.1) :
    (ps.foldl (fun acc p => putPair p.1 p.2 acc) acc).Pairwise fun x y => x.1 < y.1 := by
  induction ps generalizing acc with
  | nil => exact h
  | cons p ps ih => exact ih _ (by dsimp only; rw [putPair_eq]; exact putKey_sorted _ _ h)

theorem sortPairs_sorted (ps : List (GroupId × Nat)) : (sortPairs ps).Pairwise fun x y => x.1 < y.1 :=
  putPairs_sorted ps [] List.Pairwise.nil

/-- A keyframe with its pairs in order, put into a list that is in order and has place for it. -/
theorem ordered_putKeyframe {c : Scene} {k : Keyframe} (h : ordered c) (hk : k.pairs.Pairwise fun x y => x.1 < y.1)
    (hl : (∃ x ∈ c.keyframes, x.time = k.time) ∨ c.keyframes.length < 16) :
    ordered { c with keyframes := putKeyframe k c.keyframes } := by
  obtain ⟨hs, hn, hp, rest⟩ := h
  refine ⟨?_, ?_, fun x hx => ?_, rest⟩ <;> dsimp only at * <;> rw [putKeyframe_eq] at *
  · exact putKey_sorted _ _ hs
  · rcases hl with hm | hl
    · rw [putKey_length_of_mem _ _ hs hm]; exact hn
    · have := putKey_length Keyframe.time k c.keyframes; omega
  · rcases (mem_putKey _ _ hs x).mp hx with ⟨hx, -⟩ | rfl
    · exact hp x hx
    · exact hk

theorem ordered_filterKeyframes {c : Scene} (p : Keyframe → Bool) (h : ordered c) :
    ordered { c with keyframes := c.keyframes.filter p } := by
  obtain ⟨hs, hn, hp, rest⟩ := h
  exact ⟨hs.filter p, (List.length_filter_le ..).trans hn, fun x hx => hp x (List.mem_filter.mp hx).1, rest⟩

/-! ## The timetable -/

/-- The place of an entry in the timetable. -/
def TimeEntry.key (e : TimeEntry) : Nat ×ₗ Train := toLex (e.time, e.train)

theorem TimeEntry.key_lt (x y : TimeEntry) :
    x.key < y.key ↔ x.time < y.time ∨ (x.time = y.time ∧ x.train < y.train) := Prod.Lex.lt_iff ..

theorem TimeEntry.key_eq (x y : TimeEntry) : x.key = y.key ↔ x.time = y.time ∧ x.train = y.train := by
  show toLex (x.time, x.train) = toLex (y.time, y.train) ↔ _
  simp

theorem insertEntry_eq {e : TimeEntry} {xs : List TimeEntry} (h : ∀ x ∈ xs, e.key ≠ x.key) :
    insertEntry e xs = putKey TimeEntry.key e xs := by
  induction xs with
  | nil => rfl
  | cons x xs ih =>
    have hb : e.before x = true ↔ e.key < x.key := by
      rw [TimeEntry.key_lt]; simp [TimeEntry.before]
    rw [insertEntry, putKey_cons, ih fun y hy => h y (List.mem_cons_of_mem _ hy), if_neg (h x List.mem_cons_self)]
    simp only [hb]

theorem timetable_sorted_iff (es : List TimeEntry) :
    (es.Pairwise fun x y => x.time < y.time ∨ (x.time = y.time ∧ x.train < y.train)) ↔
      es.Pairwise fun x y => x.key < y.key := by
  simp only [TimeEntry.key_lt]

theorem ordered_insertEntry {c : Scene} {e : TimeEntry} (h : ordered c) (he : ∀ x ∈ c.timetable, e.key ≠ x.key)
    (hl : c.timetable.length < 48) : ordered { c with timetable := insertEntry e c.timetable } := by
  obtain ⟨ha, hb, hp, ht, hn, rest⟩ := h
  refine ⟨ha, hb, hp, ?_, ?_, rest⟩ <;> dsimp only <;> rw [insertEntry_eq he]
  · rw [timetable_sorted_iff] at ht ⊢; exact putKey_sorted _ _ ht
  · have := putKey_length TimeEntry.key e c.timetable; omega

theorem ordered_filterTimetable {c : Scene} (p : TimeEntry → Bool) (h : ordered c) :
    ordered { c with timetable := c.timetable.filter p } := by
  obtain ⟨ha, hb, hp, ht, hn, rest⟩ := h
  exact ⟨ha, hb, hp, ht.filter p, (List.length_filter_le ..).trans hn, rest⟩

/-! ## Axis programs -/

/-- A definition field of an axis changes, its program in order. -/
theorem ordered_modifyAxis {c : Scene} {n : Axis} {f : AxisDef → AxisDef} (h : ordered c)
    (hf : ((c.axes.get n).program.Pairwise fun x y => x.1 < y.1) → (c.axes.get n).program.length ≤ 8 →
      ((f (c.axes.get n)).program.Pairwise fun x y => x.1 < y.1) ∧ (f (c.axes.get n)).program.length ≤ 8) :
    ordered { c with axes := c.axes.modify n f } := by
  obtain ⟨ha, hb, hp, ht, hn, hx⟩ := h
  refine ⟨ha, hb, hp, ht, hn, fun m => ?_⟩
  dsimp only
  rw [Table.get_modify]
  split
  · next e => subst e; exact hf (hx m).1 (hx m).2
  · exact hx m

end Sys2Proof.Machine
end

section
-- One theorem after the other: side by side, waiting proofs would pile up.
set_option Elab.async false
/-! SUPPORT. What the line commands and the events keep, the device reset, and a step. -/

namespace Sys2Proof.Machine

open Sys2Proof.Safety

/-! ## Lines of settings -/

theorem unlessBusy_keeps {s : State} {f : State → Ans} (h : s.busy = false → Keeps s (f s).1) :
    Keeps s (unlessBusy s f).1 := by
  unfold unlessBusy
  split
  · exact .refl s
  · next hb => exact h (by simpa using hb)

theorem layoutEdit_keeps {s : State} {f : State → Ans} (h : s.busy = false → s.anyPlaced = false → Keeps s (f s).1) :
    Keeps s (layoutEdit s f).1 := by
  unfold layoutEdit
  split
  · exact .refl s
  · split
    · exact .refl s
    · next hb hp => exact h (by simpa using hb) (by simpa using hp)

/-- A definition that a range test guards. -/
theorem guarded_keeps {s : State} (p : Prop) [Decidable p] {r : Reason} {a : Ans} (h : ¬ p → Keeps s a.1) :
    Keeps s (if p then refuse r s else a).1 := by
  split
  · exact .refl s
  · next hp => exact h hp

theorem recomposed_keeps {s : State} {c : Scene} (hb : s.busy = false) (h : Sets s.cfg c) :
    Keeps s (requestRecompose (s.withCfg c)) := .trans (keeps_settings hb h) (requestRecompose_keeps _)

/-! ## CLOCK -/

theorem timeValue_lt {t : TimeTok} {v : Nat} (h : timeValue t = some v) : v < 86400 := by
  by_cases ht : timeOk t
  · rw [timeValue_of_ok ht] at h; cases h; exact secs_lt ht
  · rw [timeValue_of_not_ok ht] at h; cases h

theorem takeClockRate_keeps (n : Nat) (s : State) : Keeps s (takeClockRate n s).1 := by
  refine unlessBusy_keeps fun hb => keeps_settings hb { clock := fun ⟨_, _, c⟩ => ?_ }
  refine ⟨?_, ?_, c⟩ <;> simp only [clampNat] <;> omega

theorem takeClockStart_keeps (t : TimeTok) (s : State) : Keeps s (takeClockStart t s).1 := by
  unfold takeClockStart
  split
  · exact .refl s
  · next v e =>
    refine unlessBusy_keeps fun hb => .trans (keeps_settings hb { clock := fun ⟨a, b, _⟩ => ?_ })
      (keeps_nextStart (timeValue_lt e))
    exact ⟨a, b, timeValue_lt e⟩

theorem takeClockSet_keeps (t : TimeTok) (s : State) : Keeps s (takeClockSet t s).1 := by
  unfold takeClockSet
  split
  · exact .refl s
  · next v e => exact .trans (keeps_clock (timeValue_lt e) fun _ => (show (0 : Nat) < 16 by decide)) (jumpNotice_keeps ..)

theorem keeps_running (b : Bool) (s : State) : Keeps s (s.withClock { s.clock with running := b }) :=
  ⟨{ }, { }, { }⟩

/-! ## KEY, GROUP, LAMP, BRIGHT, SCAN, MATRIX, FLOOD -/

theorem setKeyframes_keeps {s : State} {ks : List Keyframe} (hb : s.busy = false)
    (h : ordered s.cfg → ordered { s.cfg with keyframes := ks }) : Keeps s (setKeyframes s ks) :=
  recomposed_keeps hb { ordered := h }

/-- The keyframe found at a scene time stands in the list at that time. -/
theorem keyframeAt_mem {ks : List Keyframe} {t : Nat} {k : Keyframe} (h : keyframeAt ks t = some k) :
    k ∈ ks ∧ k.time = t := by
  refine ⟨List.mem_of_find?_eq_some h, ?_⟩
  simpa using List.find?_some h

theorem takeKey_keeps (t : TimeTok) (tr : Transition) (r g b a : Nat) (pairs : List (Nat × Nat)) (s : State) :
    Keeps s (takeKey t tr r g b a pairs s).1 := by
  unfold takeKey
  split
  · next time ps _ _ =>
    refine guarded_keeps _ fun _ => unlessBusy_keeps fun hb => guarded_keeps _ fun _ => guarded_keeps _ fun hf => ?_
    refine setKeyframes_keeps hb fun h => ordered_putKeyframe h (sortPairs_sorted ps) ?_
    cases hk : keyframeAt s.cfg.keyframes time with
    | none =>
      rw [hk] at hf
      exact .inr (by simpa [Config.maxKeyframes] using hf)
    | some k => exact .inl ⟨k, keyframeAt_mem hk⟩
  · exact .refl s

theorem takeKeyG_keeps (t : TimeTok) (g v : Nat) (s : State) : Keeps s (takeKeyG t g v s).1 := by
  unfold takeKeyG
  split
  · refine guarded_keeps _ fun _ => unlessBusy_keeps fun hb => ?_
    split
    · exact .refl s
    · next k hk =>
      obtain ⟨hm, ht⟩ := keyframeAt_mem hk
      refine setKeyframes_keeps hb fun h => ordered_putKeyframe h ?_ (.inl ⟨k, hm, rfl⟩)
      rw [putPair_eq]
      exact putKey_sorted _ _ (h.2.2.1 k hm)
  · exact .refl s

theorem takeKeyGNone_keeps (t : TimeTok) (g : Nat) (s : State) : Keeps s (takeKeyGNone t g s).1 := by
  unfold takeKeyGNone
  split
  · refine unlessBusy_keeps fun hb => ?_
    split
    · exact .refl s
    · next k hk =>
      obtain ⟨hm, ht⟩ := keyframeAt_mem hk
      split
      · exact .refl s
      · exact setKeyframes_keeps hb fun h => ordered_putKeyframe h ((h.2.2.1 k hm).filter _) (.inl ⟨k, hm, rfl⟩)
  · exact .refl s

theorem takeKeyDrop_keeps (t : TimeTok) (s : State) : Keeps s (takeKeyDrop t s).1 := by
  unfold takeKeyDrop
  split
  · exact .refl s
  · exact unlessBusy_keeps fun hb => guarded_keeps _ fun _ => setKeyframes_keeps hb (ordered_filterKeyframes _)

theorem takeGroupDimmed_keeps (g : Nat) (c : Curve) (s : State) : Keeps s (takeGroupDimmed g c s).1 := by
  unfold takeGroupDimmed
  split
  · exact .refl s
  · refine unlessBusy_keeps fun hb => recomposed_keeps hb { thresholds := fun h j => ?_ }
    dsimp only
    rw [Table.get_modify]
    split
    · exact h j
    · exact h j

theorem takeGroupSwitched_keeps (g th hy on wu : Nat) (s : State) : Keeps s (takeGroupSwitched g th hy on wu s).1 := by
  unfold takeGroupSwitched
  split
  · exact .refl s
  · refine guarded_keeps _ fun hr => unlessBusy_keeps fun hb => ?_
    refine .trans (.trans (keeps_settings hb { thresholds := fun h j => ?_ })
      (keeps_sky (settleGroup_compose ..))) (requestRecompose_keeps _)
    dsimp only
    rw [Table.get_modify]
    split
    · dsimp only; omega
    · exact h j

theorem setLampGroup_keeps (i : LampId) (g : Option GroupId) {s : State} (hb : s.busy = false) :
    Keeps s (setLampGroup i g s) := by
  have h : Keeps s (s.withCfg { s.cfg with lamps := s.cfg.lamps.modify i fun d => { d with group := g } }) :=
    keeps_settings hb { }
  exact .ite _ (fun _ => h.trans (keeps_sky rfl)) fun _ => h

theorem setLampStagger_keeps (i : LampId) (st : Nat) {s : State} (hb : s.busy = false) :
    Keeps s (setLampStagger i st s) := keeps_settings hb { }

theorem setLampGroup_busy (i : LampId) (g : Option GroupId) (s : State) : (setLampGroup i g s).busy = s.busy := by
  unfold setLampGroup; dsimp only; split <;> rfl

theorem setLampRange_keeps (n m : Nat) (g : Option GroupId) (st k : Nat) {s : State} (hb : s.busy = false) :
    Keeps s (setLampRange n m g st k s) := by
  have h : ∀ (s : State) (i : LampId), (s.busy = false → Keeps s
      (if n ≤ i.val ∧ i.val ≤ m then setLampStagger i (st + (i.val - n) * k) (setLampGroup i g s) else s)) ∧
      (if n ≤ i.val ∧ i.val ≤ m then setLampStagger i (st + (i.val - n) * k) (setLampGroup i g s) else s).busy =
        s.busy := fun s i => by
    split
    · exact ⟨fun hb => .trans (setLampGroup_keeps i g hb) (setLampStagger_keeps _ _ ((setLampGroup_busy ..).trans hb)),
        setLampGroup_busy ..⟩
    · exact ⟨fun _ => .refl s, rfl⟩
  unfold setLampRange
  induction ids 192 generalizing s with
  | nil => exact .refl s
  | cons i is ih => exact .trans ((h s i).1 hb) (ih ((h s i).2.trans hb))

theorem takeLampGroup_keeps (n : Nat) (g : Option Nat) (s : State) : Keeps s (takeLampGroup n g s).1 := by
  unfold takeLampGroup
  split
  · exact unlessBusy_keeps fun hb => .trans (setLampGroup_keeps _ _ hb) (requestRecompose_keeps _)
  · exact .refl s

theorem takeLampStagger_keeps (n st : Nat) (s : State) : Keeps s (takeLampStagger n st s).1 := by
  unfold takeLampStagger
  split
  · exact .refl s
  · exact guarded_keeps _ fun _ => unlessBusy_keeps fun hb =>
      .trans (setLampStagger_keeps _ _ hb) (requestRecompose_keeps _)

theorem takeLampGroupStagger_keeps (n : Nat) (g : Option Nat) (st : Nat) (s : State) :
    Keeps s (takeLampGroupStagger n g st s).1 := by
  unfold takeLampGroupStagger
  split
  · exact guarded_keeps _ fun _ => unlessBusy_keeps fun hb => .trans (.trans (setLampGroup_keeps _ _ hb)
      (setLampStagger_keeps _ _ ((setLampGroup_busy ..).trans hb))) (requestRecompose_keeps _)
  · exact .refl s

theorem takeLampRange_keeps (n m : Nat) (g : Option Nat) (st k : Nat) (s : State) :
    Keeps s (takeLampRange n m g st k s).1 := by
  unfold takeLampRange
  split
  · exact .refl s
  · exact guarded_keeps _ fun _ => unlessBusy_keeps fun hb =>
      .trans (setLampRange_keeps _ _ _ _ _ hb) (requestRecompose_keeps _)

theorem setLampOverride_keeps (i : LampId) (o : Option Override) (s : State) : Keeps s (setLampOverride i o s) := by
  refine .trans (keeps_sky ?_) (requestRecompose_keeps _)
  rfl

theorem freeLamp_keeps (i : LampId) (s : State) : Keeps s (freeLamp i s) :=
  .ite _ (fun _ => .refl s) fun _ => setLampOverride_keeps ..

theorem takeLampLevel_keeps (n v : Nat) (u : Option TimeTok) (s : State) : Keeps s (takeLampLevel n v u s).1 := by
  unfold takeLampLevel
  split
  · exact setLampOverride_keeps ..
  · exact .refl s

theorem takeLampFree_keeps (n : Nat) (s : State) : Keeps s (takeLampFree n s).1 := by
  unfold takeLampFree
  split
  · exact .refl s
  · exact freeLamp_keeps ..

theorem takeBright_keeps (n : Nat) (s : State) : Keeps s (takeBright n s).1 :=
  unlessBusy_keeps fun hb => recomposed_keeps hb { }

theorem takeScan_keeps (m : ScanMode) (s : State) : Keeps s (takeScan m s).1 := by
  refine unlessBusy_keeps fun hb => .trans (.trans (keeps_settings hb (c := { s.cfg with scan := m }) { })
    (keeps_sky ?_)) (requestRecompose_keeps _)
  cases m <;> rfl

theorem takeMatrixDivider_keeps (d : Nat) (s : State) : Keeps s (takeMatrixDivider d s).1 :=
  guarded_keeps _ fun _ => unlessBusy_keeps fun hb => keeps_settings hb { }

theorem takeMatrixRows_keeps (m : Mirror) (s : State) : Keeps s (takeMatrixRows m s).1 :=
  unlessBusy_keeps fun hb => keeps_settings hb { }

theorem takeMatrixCols_keeps (m : Mirror) (s : State) : Keeps s (takeMatrixCols m s).1 :=
  unlessBusy_keeps fun hb => keeps_settings hb { }

theorem takeFloodSource_keeps (n : Nat) (src : FloodSource) (s : State) : Keeps s (takeFloodSource n src s).1 := by
  unfold takeFloodSource
  split
  · exact .refl s
  · refine unlessBusy_keeps fun hb => ?_
    dsimp only
    split
    · exact .refl s
    · exact recomposed_keeps hb { }

/-! ## BRIDGE, SENSE, INPUT, RESTORE, STOP, RESUME -/

theorem takeRestore_keeps (n : Nat) (s : State) : Keeps s (takeRestore n s).1 := by
  unfold takeRestore
  split
  · exact .refl s
  · split
    · exact keeps_channel ⟨fun _ _ => rfl, fun _ _ => .inl rfl⟩
    · exact .refl s

theorem setBridge_keeps (c : Channel) (f : ChannelDef → ChannelDef) {s : State} (hb : s.busy = false) :
    Keeps s (setBridge c f s) := keeps_settings hb { }

theorem takeBridgePwm_keeps (n res p : Nat) (s : State) : Keeps s (takeBridgePwm n res p s).1 := by
  unfold takeBridgePwm
  split
  · exact .refl s
  · exact guarded_keeps _ fun _ => unlessBusy_keeps fun hb => setBridge_keeps _ _ hb

theorem takeBridgeSense_keeps (n : Nat) (on : Bool) (s : State) : Keeps s (takeBridgeSense n on s).1 := by
  unfold takeBridgeSense
  split
  · exact .refl s
  · exact unlessBusy_keeps fun hb => setBridge_keeps _ _ hb

theorem takeBridgeTrip_keeps (n mA : Nat) (s : State) : Keeps s (takeBridgeTrip n mA s).1 := by
  unfold takeBridgeTrip
  split
  · exact .refl s
  · exact guarded_keeps _ fun _ => unlessBusy_keeps fun hb => setBridge_keeps _ _ hb

theorem takeSenseThreshold_keeps (n mA : Nat) (s : State) : Keeps s (takeSenseThreshold n mA s).1 := by
  unfold takeSenseThreshold
  split
  · exact .refl s
  · exact guarded_keeps _ fun _ => unlessBusy_keeps fun hb => keeps_settings hb { }

theorem setFilter_keeps (i : Option InputId) (f : Nat) (s : State) : Keeps s (setFilter i f s).1 := by
  unfold setFilter
  split
  · exact .refl s
  · exact guarded_keeps _ fun _ => unlessBusy_keeps fun hb => keeps_settings hb { }

theorem takeStop_keeps (s : State) : Keeps s (takeStop s).1 :=
  .ite _ (fun h => keeps_stopc fun _ => h) fun h => enterHalt_keeps _ (by simpa using h)

theorem resumeAxes_keeps {s : State} (h : s.halt = false) : Keeps s (resumeAxes s) :=
  keeps_axes fun n => by
    rw [Table.get_map]
    exact ⟨resumeAxis_fit, fun hh => by rw [h] at hh; cases hh⟩

theorem takeResume_keeps (s : State) : Keeps s (takeResume s).1 := by
  unfold takeResume
  split
  · exact .refl s
  · next hl =>
    split
    · next hla =>
      have hm := fun k hk => resumeTrains_moves (k := k) hk (s.withStopc { s.stopc with latch := false })
      refine .trans (.trans (keeps_stopc fun h => ?_) (keeps_of_moves_any hm)) (resumeAxes_keeps ?_)
      · simp [State.halt, hl] at h
      · have := (hm ⟨False, False, False⟩ id).traffic.halt
        rw [this]; simpa [State.halt] using hl
    · exact .refl s

/-! ## SECTION, TURNOUT, RUN, MARK, CROSSING, BELL -/

theorem layoutTaken_keeps {s : State} {c : Scene} (hb : s.busy = false) (h : Sets s.cfg c) :
    Keeps s (layoutTaken c s).1 := by
  unfold layoutTaken
  split
  · exact keeps_settings hb h
  · exact .refl s

theorem layoutRebuilt_keeps {s : State} {c : Scene} (hb : s.busy = false) (hp : s.anyPlaced = false)
    (hc : c.crossings = s.cfg.crossings) (h : Tidy s.cfg c) : Keeps s (layoutRebuilt c s).1 := by
  unfold layoutRebuilt
  split
  · exact keeps_rebuild hb hp hc h
  · exact .refl s

/-- The key of a unit reads which sections are defined, and the runs. -/
theorem unitKey_congr {c d : Scene} (hd : ∀ x, (d.sections.get x).isSome = (c.sections.get x).isSome)
    (hr : d.runs = c.runs) : d.unitKey = c.unitKey := by
  funext x
  have h := hd x
  have hrun : d.runOf x = c.runOf x := by simp [Scene.runOf, hr]
  unfold Scene.unitKey
  rw [hrun, hr]
  cases h1 : c.sections.get x <;> cases h2 : d.sections.get x <;> simp_all

theorem setLink_defined (c : Scene) (y : SecEnd) (l : EndLink) (x : Section) :
    ((c.setLink y l).sections.get x).isSome = (c.sections.get x).isSome := by
  simp only [Scene.setLink, Table.get_modify]
  split <;> simp

theorem setLink_sets {b c : Scene} (y : SecEnd) (l : EndLink) (h : Sets b c) : Sets b (c.setLink y l) where
  ordered := h.ordered
  clock := h.clock
  thresholds := h.thresholds
  unitKey := (unitKey_congr (setLink_defined c y l) rfl).trans h.unitKey
  crossings := h.crossings

theorem Sets.refl (c : Scene) : Sets c c := { }

theorem releaseLegs_sets (c : Scene) (t : TurnoutId) : Sets c (c.releaseLegs t) := by
  unfold Scene.releaseLegs
  split
  · exact .refl c
  · exact setLink_sets _ _ (setLink_sets _ _ (setLink_sets _ _ (.refl c)))

theorem setTurnouts_sets {b c : Scene} (x : Table (Option TurnoutDef) 8) (h : Sets b c) :
    Sets b { c with turnouts := x } := ⟨⟨h.ordered, h.clock, h.thresholds⟩, h.unitKey, h.crossings⟩

theorem attachLegs_sets {b c : Scene} (t : TurnoutId) (d : TurnoutDef) (h : Sets b c) : Sets b (c.attachLegs t d) :=
  setLink_sets _ _ (setLink_sets _ _ (setLink_sets _ _ (setTurnouts_sets _ h)))

theorem takeSectionLength_keeps (n mm : Nat) (s : State) : Keeps s (takeSectionLength n mm s).1 := by
  unfold takeSectionLength
  split
  · exact .refl s
  · next x _ =>
    refine guarded_keeps _ fun _ => layoutEdit_keeps fun hb hp => guarded_keeps _ fun _ => ?_
    split
    · exact layoutRebuilt_keeps hb hp rfl { }
    · next d e =>
      refine layoutTaken_keeps hb { unitKey := unitKey_congr (fun y => ?_) rfl }
      dsimp only
      rw [Table.get_set]
      split
      · next h => subst h; rw [e]; rfl
      · rfl

theorem takeSectionDrop_keeps (n : Nat) (s : State) : Keeps s (takeSectionDrop n s).1 := by
  unfold takeSectionDrop
  split
  · exact .refl s
  · refine layoutEdit_keeps fun hb hp => ?_
    dsimp only
    split
    · exact .refl s
    · exact guarded_keeps _ fun _ => layoutRebuilt_keeps hb hp rfl { }

theorem takeSectionJoin_keeps (n : Nat) (e : End) (u : EndTok) (s : State) : Keeps s (takeSectionJoin n e u s).1 := by
  unfold takeSectionJoin
  split
  · exact layoutEdit_keeps fun hb _ => guarded_keeps _ fun _ => guarded_keeps _ fun _ =>
      layoutTaken_keeps hb (setLink_sets _ _ (setLink_sets _ _ (.refl _)))
  · exact .refl s

theorem takeSectionBuffer_keeps (n : Nat) (e : End) (s : State) : Keeps s (takeSectionBuffer n e s).1 := by
  unfold takeSectionBuffer
  split
  · exact .refl s
  · refine layoutEdit_keeps fun hb _ => guarded_keeps _ fun _ => ?_
    split
    · exact .refl s
    · exact layoutTaken_keeps hb (setLink_sets _ _ (setLink_sets _ _ (.refl _)))
    · exact .refl s

theorem takeTurnoutLegs_keeps (t : Nat) (p q r : EndTok) (s : State) : Keeps s (takeTurnoutLegs t p q r s).1 := by
  unfold takeTurnoutLegs
  split
  · exact layoutEdit_keeps fun hb _ => guarded_keeps _ fun _ => guarded_keeps _ fun _ => guarded_keeps _ fun _ =>
      layoutTaken_keeps hb (attachLegs_sets _ _ (releaseLegs_sets ..))
  · exact .refl s

/-- The points of a turnout are forgotten (R95). -/
theorem keeps_points (t : TurnoutId) (s : State) :
    Keeps s (s.withDriver { s.driver with points := s.driver.points.set t none }) := by
  refine ⟨{ }, { }, { driver := fun ⟨a, b, c⟩ => ⟨a, b, fun p hp => ⟨(c p hp).1, ?_⟩⟩ }⟩
  simp only [State.withDriver_driver, Table.get_set]
  split
  · rfl
  · exact (c p hp).2

theorem takeTurnoutDrop_keeps (t : Nat) (s : State) : Keeps s (takeTurnoutDrop t s).1 := by
  unfold takeTurnoutDrop
  split
  · exact .refl s
  · refine layoutEdit_keeps fun hb _ => ?_
    dsimp only
    split
    · exact .refl s
    · refine guarded_keeps _ fun _ => ?_
      split
      · exact .trans (keeps_settings hb (setTurnouts_sets _ (releaseLegs_sets ..))) (keeps_points ..)
      · exact .refl s

theorem takeRunDefine_keeps (r : Nat) (secs : List Nat) (s : State) : Keeps s (takeRunDefine r secs s).1 := by
  unfold takeRunDefine
  split
  · exact guarded_keeps _ fun _ => layoutEdit_keeps fun hb hp => guarded_keeps _ fun _ => guarded_keeps _ fun _ =>
      layoutRebuilt_keeps hb hp rfl { }
  · exact .refl s

theorem takeRunDrop_keeps (r : Nat) (s : State) : Keeps s (takeRunDrop r s).1 := by
  unfold takeRunDrop
  split
  · exact .refl s
  · refine layoutEdit_keeps fun hb hp => ?_
    dsimp only
    split
    · exact .refl s
    · exact layoutRebuilt_keeps hb hp rfl { }

theorem takeMarkDefine_keeps (m sec mm : Nat) (kind : MarkKind) (s : State) :
    Keeps s (takeMarkDefine m sec mm kind s).1 := by
  unfold takeMarkDefine
  split
  · exact guarded_keeps _ fun _ => layoutEdit_keeps fun hb _ => guarded_keeps _ fun _ => layoutTaken_keeps hb { }
  · exact .refl s

theorem takeMarkDrop_keeps (m : Nat) (s : State) : Keeps s (takeMarkDrop m s).1 := by
  unfold takeMarkDrop
  split
  · exact .refl s
  · exact layoutEdit_keeps fun hb _ => layoutTaken_keeps hb { }

theorem takeTurnoutThrow_keeps (t : Nat) (p : Branch) (s : State) : Keeps s (takeTurnoutThrow t p s).1 := by
  unfold takeTurnoutThrow
  split
  · exact .refl s
  · split
    · exact .refl s
    · exact guarded_keeps _ fun _ => keeps_of_moves_any fun _ _ => requestThrow_moves ..

theorem takeTurnoutPulse_keeps (t ms : Nat) (s : State) : Keeps s (takeTurnoutPulse t ms s).1 := by
  unfold takeTurnoutPulse
  split
  · exact .refl s
  · exact guarded_keeps _ fun _ => unlessBusy_keeps fun hb => keeps_settings hb { }

/-- The definition of an IDLE crossing changes while no train is placed (R105). -/
theorem keeps_crossingDef {s : State} {k : CrossingId} (o : Option CrossingDef) (hb : s.busy = false)
    (hp : s.anyPlaced = false) (hi : s.crossingIdle k = true) :
    Keeps s (bellUpdate (s.withCfg { s.cfg with crossings := s.cfg.crossings.set k o })) := by
  have hbell : BellFollows s → BellFollows (bellUpdate (s.withCfg { s.cfg with crossings := s.cfg.crossings.set k o })) :=
    fun h => bellUpdate_follows ((bellWired_of_follows h).congr rfl)
  have idle : (s.crossings.get k).state = .idle := by simpa [State.crossingIdle] using hi
  have lead : LeadTimersRun s → LeadTimersRun (s.withCfg { s.cfg with crossings := s.cfg.crossings.set k o }) := by
    intro h j hj
    obtain ⟨h1, h2⟩ := h j hj
    refine ⟨h1, ?_⟩
    dsimp only [State.withCfg_cfg]
    rw [Table.get_set_of_ne _ _ (by rintro rfl; rw [idle] at h1; cases h1)]
    exact h2
  have guard : ReservationsAgree s → CrossingsGuard s →
      CrossingsGuard (s.withCfg { s.cfg with crossings := s.cfg.crossings.set k o }) := by
    intro ha h j
    have hs := h j
    show match (s.cfg.crossings.set k o).get j with
      | none => (s.crossings.get j).state = .idle
      | some d => s.called d = true → (s.crossings.get j).state ≠ .idle
    rw [Table.get_set]
    split
    · next e =>
      split at e
      · next hjk => exact hjk ▸ idle
      · rw [e] at hs; exact hs
    · intro hc
      rw [not_called (units_free hp ha)] at hc; cases hc
  rw [bellUpdate_eq] at hbell ⊢
  exact {
    toKeepsHalt := { }
    lead := lead
    agree := fun h => h
    circle := fun _ => noWaitCycle_congr rfl rfl
    guard := fun _ => guard
    toKeepsBlocks := { saved := fun _ he => absurd he (not_saving hb), bell := hbell } }

theorem takeCrossingDefine_keeps (c sec a b v lead : Nat) (bell : Bool) (s : State) :
    Keeps s (takeCrossingDefine c sec a b v lead bell s).1 := by
  unfold takeCrossingDefine
  split
  · exact guarded_keeps _ fun _ => layoutEdit_keeps fun hb hp => guarded_keeps _ fun _ => guarded_keeps _ fun hi =>
      guarded_keeps _ fun _ => keeps_crossingDef _ hb hp (by simpa using hi)
  · exact .refl s

theorem takeCrossingDrop_keeps (c : Nat) (s : State) : Keeps s (takeCrossingDrop c s).1 := by
  unfold takeCrossingDrop
  split
  · exact .refl s
  · exact layoutEdit_keeps fun hb hp => guarded_keeps _ fun hi => keeps_crossingDef _ hb hp (by simpa using hi)

theorem takeBellTone_keeps (hz : Nat) (s : State) : Keeps s (takeBellTone hz s).1 :=
  guarded_keeps _ fun _ => unlessBusy_keeps fun hb => keeps_settings hb { }

theorem setQuietWindow_keeps (w : Option (Nat × Nat)) {s : State} (hb : s.busy = false) :
    Keeps s (setQuietWindow w s) :=
  .trans (keeps_settings hb (c := { s.cfg with quietWindow := w }) { }) (setQuietFrom_keeps ..)

theorem takeBellQuiet_keeps (f t : TimeTok) (s : State) : Keeps s (takeBellQuiet f t s).1 := by
  unfold takeBellQuiet
  split
  · exact guarded_keeps _ fun _ => unlessBusy_keeps fun hb => setQuietWindow_keeps _ hb
  · exact .refl s

theorem takeBellQuietNone_keeps (s : State) : Keeps s (takeBellQuietNone s).1 :=
  unlessBusy_keeps fun hb => setQuietWindow_keeps _ hb

end Sys2Proof.Machine
end

section
-- One theorem after the other: side by side, waiting proofs would pile up.
set_option Elab.async false
/-! SUPPORT. What the lines of trains, routes, axes, the budget and the map keep, what a device reset leaves, and what
the command line keeps. -/

namespace Sys2Proof.Machine

open Sys2Proof.Safety

/-! ## Lines about one train -/

theorem trainLine_keeps {f : Train → State → Ans} {s : State} (n : Nat) (h : ∀ n, Keeps s (f n s).1) :
    Keeps s (trainLine n f s).1 := by
  unfold trainLine
  split
  · exact .refl s
  · next n _ =>
    have hn := h n
    split
    · next e => rw [e] at hn; exact hn
    · next e => rw [e] at hn; exact hn.trans (keeps_of_moves_any fun _ _ => restartCabTimer_moves ..)

theorem placeAct_keeps (sec : Nat) (e : End) (n : Train) (s : State) : Keeps s (placeAct sec e n s).1 := by
  unfold placeAct
  split
  · exact .refl s
  · split
    · exact .refl s
    · refine guarded_keeps _ fun hp => guarded_keeps _ fun hh => keeps_of_moves_any fun _ hk => ?_
      obtain ⟨hp, -⟩ := not_or.mp hp
      exact placeTrain_moves hk _ _ (by simpa using hp) (by simpa using hh)

theorem liftAct_keeps (n : Train) (s : State) : Keeps s (liftAct n s).1 := by
  unfold liftAct
  split
  · exact keeps_of_moves fun _ hk ha _ => liftTrain_moves hk ha
  · exact .refl s

theorem findAct_keeps (sec : Nat) (e : End) (n : Train) (s : State) : Keeps s (findAct sec e n s).1 := by
  unfold findAct
  split
  · exact .refl s
  · split
    · exact .refl s
    · refine guarded_keeps _ fun hl => guarded_keeps _ fun hh => keeps_of_moves fun _ hk _ hf => ?_
      obtain ⟨hl, -⟩ := not_or.mp hl
      have hl : (s.trains.get n).state = .lost := by simpa using hl
      exact findTrain_moves hk _ _ hl (by by_contra hn; exact hh (not_or.mp hn)) fun hfr => (hf hfr).2 n hl

theorem resumeAct_keeps (n : Train) (s : State) : Keeps s (resumeAct n s).1 := by
  unfold resumeAct
  refine guarded_keeps _ fun hs => guarded_keeps _ fun _ => keeps_of_moves_any fun _ hk => comeBack_moves hk ?_
  exact rests_of_state (st := .faulted) (by simpa using hs) (by simp) (by simp)

theorem goAct_keeps (r : Nat) (n : Train) (s : State) : Keeps s (goAct r n s).1 := by
  unfold goAct
  split
  · exact .refl s
  · split
    · exact .refl s
    · refine guarded_keeps _ fun h => ?_
      split
      · exact .refl s
      · exact keeps_of_moves_any fun _ hk => startRoute_moves hk _ _ (by simpa using h)

theorem drivable_placed {x : TrainRun} (h : x.drivable = true) : x.placed = true := by
  rw [placed_iff]
  intro e
  simp [TrainRun.drivable, e] at h

theorem cabAct_keeps (step : Nat) (o : Option Orientation) (n : Train) (s : State) : Keeps s (cabAct step o n s).1 := by
  unfold cabAct
  split
  · next h => exact keeps_of_moves_any fun _ hk => driveCab_moves hk _ _ (drivable_placed h)
  · exact .refl s

theorem parkAct_keeps (n : Train) (s : State) : Keeps s (parkAct n s).1 := by
  unfold parkAct
  refine guarded_keeps _ fun h => ?_
  split
  · exact keeps_of_moves_any (t := driveCab n 0 none s) fun _ hk =>
      driveCab_moves hk _ _ (drivable_placed (by simpa using h))
  · split
    · exact .refl s
    · exact keeps_of_moves_any fun _ hk => parkRoute_moves hk ..

theorem defineTrain_keeps (n : Train) (f : TrainDef → TrainDef) (s : State) : Keeps s (defineTrain n f s).1 :=
  unlessBusy_keeps fun hb => keeps_settings hb { }

theorem tableQueryAct_fst (st : Nat) (n : Train) (s : State) : (tableQueryAct st n s).1 = s := by
  unfold tableQueryAct; split <;> rfl

theorem homeAct_keeps (sec : Nat) (e : End) (n : Train) (s : State) : Keeps s (homeAct sec e n s).1 := by
  unfold homeAct
  split
  · exact .refl s
  · exact defineTrain_keeps ..

theorem queryAct_keeps (n : Train) (s : State) : Keeps s (queryAct n s).1 :=
  .ite _ (fun _ => ⟨{ }, { }, { }⟩) fun _ => .refl s

/-! ## Routes and the timetable -/

theorem setRoute_keeps (r : RouteId) (d : Option RouteDef) {s : State} (hb : s.busy = false) :
    Keeps s (setRoute r d s) := keeps_settings hb { }

theorem takeRouteDefine_keeps (r : Nat) (secs : List Nat) (s : State) : Keeps s (takeRouteDefine r secs s).1 := by
  unfold takeRouteDefine
  split
  · refine guarded_keeps _ fun _ => unlessBusy_keeps fun hb => guarded_keeps _ fun _ => guarded_keeps _ fun _ => ?_
    split
    · exact .refl s
    · exact setRoute_keeps _ _ hb
  · exact .refl s

theorem takeRouteAdd_keeps (r : Nat) (secs : List Nat) (s : State) : Keeps s (takeRouteAdd r secs s).1 := by
  unfold takeRouteAdd
  split
  · refine guarded_keeps _ fun _ => unlessBusy_keeps fun hb => ?_
    split
    · exact .refl s
    · refine guarded_keeps _ fun _ => guarded_keeps _ fun _ => ?_
      split
      · exact .refl s
      · exact guarded_keeps _ fun _ => guarded_keeps _ fun _ => setRoute_keeps _ _ hb
  · exact .refl s

theorem takeRouteStop_keeps (r i dwell : Nat) (mark : Option Nat) (s : State) :
    Keeps s (takeRouteStop r i dwell mark s).1 := by
  unfold takeRouteStop
  split
  · refine guarded_keeps _ fun _ => unlessBusy_keeps fun hb => ?_
    split
    · exact .refl s
    · refine guarded_keeps _ fun _ => ?_
      dsimp only
      split
      · exact setRoute_keeps _ _ hb
      · exact .refl s
  · exact .refl s

theorem takeRouteStopNone_keeps (r i : Nat) (s : State) : Keeps s (takeRouteStopNone r i s).1 := by
  unfold takeRouteStopNone
  split
  · exact .refl s
  · refine guarded_keeps _ fun _ => unlessBusy_keeps fun hb => ?_
    split
    · exact .refl s
    · exact guarded_keeps _ fun _ => guarded_keeps _ fun _ => setRoute_keeps _ _ hb

theorem takeRouteLoop_keeps (r : Nat) (on : Bool) (s : State) : Keeps s (takeRouteLoop r on s).1 := by
  unfold takeRouteLoop
  split
  · exact .refl s
  · refine unlessBusy_keeps fun hb => ?_
    split
    · exact .refl s
    · exact guarded_keeps _ fun _ => guarded_keeps _ fun _ => setRoute_keeps _ _ hb

theorem takeRouteDrop_keeps (r : Nat) (s : State) : Keeps s (takeRouteDrop r s).1 := by
  unfold takeRouteDrop
  split
  · exact .refl s
  · exact unlessBusy_keeps fun hb => guarded_keeps _ fun _ => setRoute_keeps _ _ hb

theorem setTimetable_keeps {es : List TimeEntry} {s : State} (hb : s.busy = false)
    (h : ordered s.cfg → ordered { s.cfg with timetable := es }) : Keeps s (setTimetable es s) :=
  keeps_settings hb { ordered := h }

/-- No entry has a time and a train exactly where none has their place. -/
theorem no_entry_at {es : List TimeEntry} {t : Nat} {n : Train} {r : RouteId}
    (h : ¬ (es.any fun e => e.isAt t n) = true) : ∀ x ∈ es, (TimeEntry.mk t n r).key ≠ x.key := by
  intro x hx e
  rw [TimeEntry.key_eq] at e
  exact h (List.any_eq_true.mpr ⟨x, hx, by simp [TimeEntry.isAt, ← e.1, ← e.2]⟩)

theorem takeTimetableAdd_keeps (t : TimeTok) (n r : Nat) (s : State) : Keeps s (takeTimetableAdd t n r s).1 := by
  unfold takeTimetableAdd
  split
  · refine unlessBusy_keeps fun hb => guarded_keeps _ fun ha => guarded_keeps _ fun hl => setTimetable_keeps hb fun h => ?_
    exact ordered_insertEntry h (no_entry_at ha) (by simpa [Config.maxTimetable] using hl)
  · exact .refl s

theorem takeTimetableDrop_keeps (t : TimeTok) (n : Nat) (s : State) : Keeps s (takeTimetableDrop t n s).1 := by
  unfold takeTimetableDrop
  split
  · refine unlessBusy_keeps fun hb => ?_
    split
    · exact setTimetable_keeps hb (ordered_filterTimetable _)
    · exact .refl s
  · exact .refl s

theorem takeTimetableAutorun_keeps (on : Bool) (s : State) : Keeps s (takeTimetableAutorun on s).1 :=
  unlessBusy_keeps fun hb => keeps_settings hb { }

/-! ## AXIS, BUDGET, MAP, SET, FREE -/

theorem setAxisDef_keeps {n : Axis} {f : AxisDef → AxisDef} {s : State} (hb : s.busy = false)
    (h : ordered s.cfg → ordered { s.cfg with axes := s.cfg.axes.modify n f }) : Keeps s (setAxisDef n f s) :=
  keeps_settings hb { ordered := h }

theorem setProgram_keeps {n : Axis} {ps : List (Nat × Nat)} {s : State} (hb : s.busy = false)
    (h : ordered s.cfg → (ps.Pairwise fun x y => x.1 < y.1) ∧ ps.length ≤ 8) : Keeps s (setProgram n ps s) :=
  .trans (setAxisDef_keeps hb fun ho => ordered_modifyAxis ho fun _ _ => h ho)
    (keeps_axis (.of_same rfl rfl rfl rfl rfl))

theorem takeAxisProgram_keeps (n : Nat) (t : TimeTok) (v : Nat) (s : State) : Keeps s (takeAxisProgram n t v s).1 := by
  unfold takeAxisProgram
  split
  · next n t _ _ =>
    refine guarded_keeps _ fun _ => unlessBusy_keeps fun hb => guarded_keeps _ fun hf => setProgram_keeps hb fun h => ?_
    obtain ⟨hs, hl⟩ : ((s.axisDef n).program.Pairwise fun x y => x.1 < y.1) ∧ (s.axisDef n).program.length ≤ 8 :=
      h.2.2.2.2.2 n
    rw [putPoint_eq]
    refine ⟨putKey_sorted _ _ hs, ?_⟩
    by_cases hm : ∃ p ∈ (s.axisDef n).program, p.1 = t
    · rw [putKey_length_of_mem Prod.fst (t, v) hs hm]; exact hl
    · have := putKey_length Prod.fst (t, v) (s.axisDef n).program
      have hlt : (s.axisDef n).program.length < 8 := by
        by_contra hge
        refine hf ⟨by simpa [Config.maxProgramPoints] using hge, fun ha => hm ?_⟩
        simpa using ha
      omega
  · exact .refl s

theorem takeAxisProgramDrop_keeps (n : Nat) (t : TimeTok) (s : State) : Keeps s (takeAxisProgramDrop n t s).1 := by
  unfold takeAxisProgramDrop
  split
  · next n t _ _ =>
    refine unlessBusy_keeps fun hb => ?_
    dsimp only
    split
    · refine setProgram_keeps hb fun h => ?_
      obtain ⟨hs, hl⟩ := h.2.2.2.2.2 n
      exact ⟨hs.filter _, (List.length_filter_le ..).trans hl⟩
    · exact .refl s
  · exact .refl s

theorem takeAxisProgramNone_keeps (n : Nat) (s : State) : Keeps s (takeAxisProgramNone n s).1 := by
  unfold takeAxisProgramNone
  split
  · exact .refl s
  · exact unlessBusy_keeps fun hb => setProgram_keeps hb fun _ => ⟨.nil, Nat.zero_le _⟩

theorem setAxisOverride_keeps (n : Axis) (v : Option Nat) (s : State) : Keeps s (setAxisOverride n v s) :=
  keeps_axis (.of_same rfl rfl rfl rfl rfl)

theorem takeAxisSpeed_keeps (n v : Nat) (s : State) : Keeps s (takeAxisSpeed n v s).1 := by
  unfold takeAxisSpeed
  split
  · exact .refl s
  · exact setAxisOverride_keeps ..

theorem takeAxisFree_keeps (n : Nat) (s : State) : Keeps s (takeAxisFree n s).1 := by
  unfold takeAxisFree
  split
  · exact .refl s
  · exact setAxisOverride_keeps ..

/-- A stall is cleared (R166). -/
theorem clearStall_move (h : Bool) {a : AxisRun} (e : a.state = .stalled) :
    AxisMove h a { a with state := if h then .halted else .stopped, cause := none, target := 0 } := by
  refine ⟨fun f => ?_, fun hh _ _ => .inl (by simp [hh])⟩
  have ht := f.stall; have hp := f.stop; have hd := f.duty
  rw [e] at ht hp hd
  cases h <;> exact ⟨by simpa using ht, by simpa using hp, by simp, by simpa using hd⟩

theorem takeAxisClear_keeps (n : Nat) (s : State) : Keeps s (takeAxisClear n s).1 := by
  unfold takeAxisClear
  split
  · exact .refl s
  · exact guarded_keeps _ fun h => guarded_keeps _ fun _ => keeps_axis (clearStall_move _ (by simpa using h))

theorem takeAxisDirection_keeps (n : Nat) (p : Polarity) (s : State) : Keeps s (takeAxisDirection n p s).1 := by
  unfold takeAxisDirection
  split
  · exact .refl s
  · refine unlessBusy_keeps fun hb => ?_
    split
    · exact setAxisDef_keeps hb fun h => ordered_modifyAxis h fun a b => ⟨a, b⟩
    · exact .refl s

theorem defineAxis_keeps {f : AxisDef → AxisDef} (n lo hi v : Nat) (s : State) (hf : ∀ d, (f d).program = d.program) :
    Keeps s (defineAxis n lo hi v f s).1 := by
  unfold defineAxis
  split
  · exact .refl s
  · exact guarded_keeps _ fun _ => unlessBusy_keeps fun hb => setAxisDef_keeps hb fun h =>
      ordered_modifyAxis h fun a b => by rw [hf]; exact ⟨a, b⟩

theorem takeBudgetCeiling_keeps (n : Nat) (s : State) : Keeps s (takeBudgetCeiling n s).1 :=
  unlessBusy_keeps fun hb => guarded_keeps _ fun _ => keeps_settings hb { }

theorem takeBudgetLamp_keeps (mA : Nat) (s : State) : Keeps s (takeBudgetLamp mA s).1 :=
  guarded_keeps _ fun _ => unlessBusy_keeps fun hb => keeps_settings hb { }

theorem takeBudgetFlood_keeps (mA : Nat) (s : State) : Keeps s (takeBudgetFlood mA s).1 :=
  guarded_keeps _ fun _ => unlessBusy_keeps fun hb => keeps_settings hb { }

theorem takeMapDefine_keeps (w base count : Nat) (kind : FixtureKind) (first : Nat) (s : State) :
    Keeps s (takeMapDefine w base count kind first s).1 := by
  unfold takeMapDefine
  split
  · exact .refl s
  · exact guarded_keeps _ fun _ => unlessBusy_keeps fun hb => guarded_keeps _ fun _ => keeps_settings hb { }

theorem takeMapNone_keeps (w : Nat) (s : State) : Keeps s (takeMapNone w s).1 := by
  unfold takeMapNone
  split
  · exact .refl s
  · exact unlessBusy_keeps fun hb => keeps_settings hb { }

theorem setFloodOverride_keeps (f : FloodId) (o : Option Override) (s : State) : Keeps s (setFloodOverride f o s) := by
  refine .trans (keeps_sky ?_) (requestRecompose_keeps _)
  rfl

theorem takeSet_keeps (f v : Nat) (u : Option TimeTok) (s : State) : Keeps s (takeSet f v u s).1 := by
  refine guarded_keeps _ fun _ => ?_
  split
  · exact guarded_keeps _ fun _ => setAxisOverride_keeps ..
  · exact .refl s
  · exact .refl s
  · exact setLampOverride_keeps ..
  · exact setFloodOverride_keeps ..

theorem takeFree_keeps (f : Nat) (s : State) : Keeps s (takeFree f s).1 := by
  refine guarded_keeps _ fun _ => ?_
  split
  · exact .refl s
  · exact freeLamp_keeps ..
  · exact .ite _ (fun _ => .refl s) fun _ => setFloodOverride_keeps ..
  · exact setAxisOverride_keeps ..

/-! ## The store -/

theorem takeSave_keeps (s : State) : Keeps s (takeSave s).1 := by
  unfold takeSave
  split
  · exact ⟨{ }, { }, {
      lists := fun h => ⟨h.1, h.1⟩
      clock := fun ⟨a, b, c, _, d⟩ => ⟨a, b, c, c, d⟩
      thresholds := fun h g => ⟨(h g).1, (h g).1⟩
      saved := fun _ _ => rfl }⟩
  · exact .refl s

theorem takeErase_keeps (s : State) : Keeps s (takeErase s).1 := by
  unfold takeErase
  split
  · exact ⟨{ }, { }, { saved := fun _ h => by cases h }⟩
  · exact .refl s

theorem saveEnd_keeps (s : State) : Keeps s (saveEnd s) := by
  have h : Keeps s (s.withStore { s.store with state := .valid }) := ⟨{ }, { }, { saved := fun _ h => by cases h }⟩
  exact .ite _ (fun _ => h.trans (keeps_raise ..)) fun _ => .refl s

theorem empty_ordered : ordered Scene.empty := by
  simp [ordered, Scene.empty, AxisDef.empty]

theorem empty_clockOk : sceneClockOk Scene.empty := by
  simp [sceneClockOk, Scene.empty]

theorem empty_thresholds (g : GroupId) : (Scene.empty.groups.get g).threshold ≤ 255 := by
  simp [Scene.empty, GroupDef.empty]

theorem eraseEnd_keeps (s : State) : Keeps s (eraseEnd s) := by
  have h : Keeps s (s.withStore ⟨Scene.empty, .invalid⟩) :=
    ⟨{ }, { }, {
      lists := fun h => ⟨h.1, empty_ordered⟩
      clock := fun ⟨a, b, c, _, d⟩ => ⟨a, b, c, empty_clockOk, d⟩
      thresholds := fun h g => ⟨(h g).1, empty_thresholds g⟩
      saved := fun _ h => by cases h }⟩
  exact .ite _ (fun _ => h.trans (keeps_raise ..)) fun _ => .refl s

/-! ## A device reset -/

/-- Every block but the configuration stands as a device reset leaves it (R196). -/
structure Started (s : State) : Prop where
  trains : ∀ n, s.trains.get n = TrainRun.reset
  units : ∀ u, s.units.get u = UnitRec.free
  crossings : ∀ k, s.crossings.get k = CrossingRun.reset
  channels : ∀ c, ∃ d, s.channels.get c = ChannelRun.reset d
  axes : ∀ n, ∃ v, s.axes.get n = AxisRun.reset v s.halt
  sense : s.sense = Sense.reset
  driver : s.driver = Driver.reset
  bell : s.bell.sounding = false ∧ s.bell.output = false ∧ s.bell.halfPeriod = none
  reports : s.line.reports = [] ∧ s.line.dropped = 0
  account : s.account = Account.reset
  store : s.store.state ≠ .saving
  pending : s.matrix.pending = false ∧ s.matrix.ready = false

theorem Started.fit {s : State} (h : Started s) : TrainsFit s := fun n => by
  rw [h.trains]
  exact ⟨fun _ => rfl, by simp [TrainRun.reset], by simp [TrainRun.reset], fun _ => ⟨by simp [TrainRun.reset], rfl⟩⟩

theorem Started.axesAgree {s : State} (h : Started s) : AxesAgree s := by
  rw [axesAgree_iff]
  intro n
  obtain ⟨v, e⟩ := h.axes n
  rw [e]
  cases s.halt <;> exact ⟨by simp [AxisRun.reset], by simp [AxisRun.reset], by simp [AxisRun.reset], by simp [AxisRun.reset]⟩

theorem Started.braked {s : State} (h : Started s) : Braked s := by
  intro hh
  refine ⟨fun c => ?_, fun n => ?_⟩
  · obtain ⟨d, e⟩ := h.channels c; rw [e]; exact .inl rfl
  · obtain ⟨v, e⟩ := h.axes n; rw [e, hh]; exact .inl rfl

theorem Started.agree {s : State} (h : Started s) : ReservationsAgree s :=
  agree_of_free (fun u => by rw [h.units]; exact ⟨rfl, rfl⟩) (fun n => by rw [h.trains]; exact ⟨rfl, rfl⟩)
    fun n _ => by rw [h.trains]; rfl

theorem Started.circle {s : State} (h : Started s) : NoWaitCycle s :=
  noWaitCycle_of_no_request fun n => by rw [h.trains]; rfl

theorem Started.lead {s : State} (h : Started s) : LeadTimersRun s := by
  intro k hk
  rw [h.crossings] at hk
  exact absurd rfl hk

theorem Started.guard {s : State} (h : Started s) : CrossingsGuard s := by
  intro k
  rw [h.crossings]
  split
  · rfl
  · intro hc
    rw [not_called fun u => by rw [h.units]; exact ⟨rfl, rfl⟩] at hc; cases hc

theorem Started.duty {s : State} (h : Started s) : DutyOnlyDriving s := fun c _ => by
  obtain ⟨d, e⟩ := h.channels c; rw [e]; rfl

theorem Started.converter {s : State} (h : Started s) : ConverterLegal s := by
  unfold ConverterLegal
  rw [h.sense]
  exact ⟨.nil, fun c => by simp [Sense.reset], fun _ => rfl⟩

theorem Started.driverLegal {s : State} (h : Started s) : DriverLegal s := by
  unfold DriverLegal
  rw [h.driver]
  exact ⟨.nil, fun _ => rfl, fun p hp => by cases hp⟩

theorem Started.exchange {s : State} (h : Started s) : ExchangeLegal s :=
  ⟨fun _ => h.pending.2, fun hp => by rw [h.pending.1] at hp; cases hp⟩

theorem Started.scale {s : State} (h : Started s) : ScaleInRange s := by
  unfold ScaleInRange; rw [h.account]; decide

theorem Started.bellFollows {s : State} (h : Started s) : BellFollows s := by
  obtain ⟨ha, hb, hc⟩ := h.bell
  refine ⟨?_, by rw [hc, ha]; rfl, fun _ => hb⟩
  have hw : ∀ k, (s.crossings.get k).warns = false := fun k => by rw [h.crossings]; rfl
  rw [ha, State.bellDue, eq_comm, Bool.and_eq_false_iff, List.any_eq_false]
  refine .inr fun k _ => ?_
  split
  · simp
  · simp [hw]

theorem Started.reportsBounded {s : State} (h : Started s) : ReportsBounded s := by
  obtain ⟨ha, hb⟩ := h.reports
  refine ⟨?_, ?_, fun _ => ⟨ha, hb⟩⟩
  · rw [ha]; simp
  · rw [hb]; simp

theorem Started.saved {s : State} (h : Started s) : SavedAsRun s := fun e => absurd e h.store

theorem afterReset_state (x : Store) : x.afterReset.state ≠ .saving := by
  unfold Store.afterReset
  split
  · next e => rw [e]; simp
  all_goals simp

theorem afterReset_image (x : Store) : x.afterReset.image = x.image := by
  unfold Store.afterReset; split <;> rfl

/-- What holds of the empty and of the saved configuration holds of the one loaded. -/
theorem loaded_of {P : Scene → Prop} {x : Store} (he : P Scene.empty) (hi : P x.image) : P x.loaded := by
  unfold Store.loaded; split
  · exact hi
  all_goals exact he

theorem resetState_started (pins : ResetPins) (s : State) : Started (resetState pins s) where
  trains n := Table.get_replicate ..
  units u := Table.get_replicate ..
  crossings k := Table.get_replicate ..
  channels c := ⟨_, Table.get_map ..⟩
  axes n := by
    refine ⟨programValue (s.store.loaded.axes.get n).program s.resetTime, (Table.get_map ..).trans ?_⟩
    rw [show (resetState pins s).halt = pins.stop from Bool.or_self _]
  sense := rfl
  driver := rfl
  bell := ⟨rfl, rfl, rfl⟩
  reports := ⟨rfl, rfl⟩
  account := rfl
  store := afterReset_state _
  pending := ⟨rfl, rfl⟩

theorem keeps_of_started {s t : State} (h : Started t) (hl : ListsOrdered s → ListsOrdered t)
    (hc : ClockInRange s → ClockInRange t) (ht : ThresholdsInRange s → ThresholdsInRange t) : Keeps s t where
  fit _ := h.fit
  axes _ := h.axesAgree
  braked _ _ := h.braked
  lead _ := h.lead
  agree _ := h.agree
  circle _ _ := h.circle
  guard _ _ _ := h.guard
  duty _ := h.duty
  converter _ := h.converter
  driver _ := h.driverLegal
  lists := hl
  exchange _ := h.exchange
  scale _ := h.scale
  clock := hc
  thresholds := ht
  bell _ := h.bellFollows
  reports _ := h.reportsBounded
  saved _ := h.saved

theorem resetState_keeps (pins : ResetPins) (s : State) : Keeps s (resetState pins s) := by
  refine keeps_of_started (resetState_started pins s) (fun h => ⟨?_, ?_⟩) (fun ⟨_, _, _, h, hn⟩ => ?_) fun h g => ⟨?_, ?_⟩
  · exact loaded_of empty_ordered h.2
  · show ordered s.store.afterReset.image
    rw [afterReset_image]; exact h.2
  · have hl := loaded_of (x := s.store) empty_clockOk h
    have ht : s.resetTime < 86400 := by
      unfold State.resetTime
      cases hv : s.nextStart with
      | none => exact hl.2.2
      | some v => exact hn v hv
    refine ⟨ht, Nat.zero_lt_succ _, hl, ?_, fun v hv => by cases hv⟩
    show sceneClockOk s.store.afterReset.image
    rw [afterReset_image]; exact h
  · exact loaded_of (P := fun c => (c.groups.get g).threshold ≤ 255) (empty_thresholds g) (h g).2
  · show (s.store.afterReset.image.groups.get g).threshold ≤ 255
    rw [afterReset_image]; exact (h g).2

theorem resetState_compose (pins : ResetPins) (s : State) : (resetState pins s).sky.compose = none :=
  settleAll_compose ..

/-- A device reset ends with a recompose request, which starts the first compose (R38). -/
theorem deviceReset_eq (pins : ResetPins) (s : State) : deviceReset pins s = requestRecompose (resetState pins s) := by
  have h : ((resetState pins s).sky.compose.isSome || (resetState pins s).matrix.ready) = false := by
    rw [resetState_compose]; rfl
  unfold deviceReset requestRecompose
  rw [h]; rfl

theorem deviceReset_keeps (pins : ResetPins) (s : State) : Keeps s (deviceReset pins s) := by
  rw [deviceReset_eq]
  exact (resetState_keeps pins s).trans (requestRecompose_keeps _)

theorem keeps_freeDraws (k : Nat) (s : State) : Keeps s (s.withFreeDraws k) := ⟨{ }, { }, { }⟩

theorem freeReset_keeps (s : State) : Keeps s (freeReset s) := .trans (keeps_freeDraws _ s) (deviceReset_keeps ..)

theorem holdPart_keeps (s : State) : Keeps s (holdPart s) := ⟨{ }, { }, { }⟩

theorem rstSample_keeps (b : Bool) (s : State) : Keeps s (rstSample b s) := by
  have run : ∀ k, Keeps s (s.withSys { s.sys with rstRun := k }) := fun k => ⟨{ }, { }, { }⟩
  exact .ite _ (fun _ => .ite _ (fun _ => .refl s) fun _ => freeReset_keeps s) fun _ =>
    .ite _ (fun _ => .ite _ (fun _ => run _) fun _ => holdPart_keeps s) fun _ => run 0

theorem placeHome_keeps (s : State) (n : Train) : Keeps s (placeHome s n) := by
  unfold placeHome
  split
  · exact .refl s
  · exact placeAct_keeps ..

theorem keeps_ready (s : State) : Keeps s (s.withSys { s.sys with ready := true, settling := false }) :=
  ⟨{ }, { }, { reports := fun ⟨a, b, _⟩ => ⟨a, b, fun h => by cases h⟩ }⟩

theorem settlingExpiry_keeps (s : State) : Keeps s (settlingExpiry s) :=
  .ite _ (fun _ => .trans (.trans (.trans (.foldl placeHome_keeps _ s) (keeps_ready _)) (keeps_raise ..))
    (keeps_of_moves_any fun _ _ => reportStrays_moves ..)) fun _ => .refl s

end Sys2Proof.Machine
end

section
-- One theorem after the other: side by side, waiting proofs would pile up.
set_option Elab.async false
/-! SUPPORT. What a command keeps and what a step keeps. -/

namespace Sys2Proof.Machine

open Sys2Proof.Safety

/-! ## Lines -/

theorem keeps_of_eq {s t : State} (h : t = s) : Keeps s t := h ▸ .refl s

theorem takeGroupQuery_fst (g : Nat) (s : State) : (takeGroupQuery g s).1 = s := by
  unfold takeGroupQuery
  split <;> rfl

theorem takeLampQuery_fst (n : Nat) (s : State) : (takeLampQuery n s).1 = s := by
  unfold takeLampQuery
  split <;> rfl

theorem takeFloodQuery_fst (n : Nat) (s : State) : (takeFloodQuery n s).1 = s := by
  unfold takeFloodQuery
  split <;> rfl

theorem takeBridgeQuery_fst (n : Nat) (s : State) : (takeBridgeQuery n s).1 = s := by
  unfold takeBridgeQuery
  split <;> rfl

theorem takeSenseSectionQuery_fst (n : Nat) (s : State) : (takeSenseSectionQuery n s).1 = s := by
  unfold takeSenseSectionQuery
  split <;> rfl

theorem takeInputMarkQuery_fst (m : Nat) (s : State) : (takeInputMarkQuery m s).1 = s := by
  unfold takeInputMarkQuery
  split <;> rfl

theorem takeInputIndexQuery_fst (n : Nat) (s : State) : (takeInputIndexQuery n s).1 = s := by
  unfold takeInputIndexQuery
  split <;> rfl

theorem takeAxisProgramQuery_fst (n : Nat) (s : State) : (takeAxisProgramQuery n s).1 = s := by
  unfold takeAxisProgramQuery
  split <;> rfl

theorem takeAxisQuery_fst (n : Nat) (s : State) : (takeAxisQuery n s).1 = s := by
  unfold takeAxisQuery
  split <;> rfl

theorem takeGet_fst (f : Nat) (s : State) : (takeGet f s).1 = s := by
  unfold takeGet
  split <;> rfl

theorem takeKeyQuery_fst (t : TimeTok) (s : State) : (takeKeyQuery t s).1 = s := by
  unfold takeKeyQuery
  split
  · rfl
  · split <;> rfl

theorem takeSectionQuery_fst (n : Nat) (s : State) : (takeSectionQuery n s).1 = s := by
  unfold takeSectionQuery
  split
  · rfl
  · split <;> rfl

theorem takeRunQuery_fst (r : Nat) (s : State) : (takeRunQuery r s).1 = s := by
  unfold takeRunQuery
  split
  · rfl
  · split <;> rfl

theorem takeMarkQuery_fst (m : Nat) (s : State) : (takeMarkQuery m s).1 = s := by
  unfold takeMarkQuery
  split
  · rfl
  · split <;> rfl

theorem takeTurnoutQuery_fst (t : Nat) (s : State) : (takeTurnoutQuery t s).1 = s := by
  unfold takeTurnoutQuery
  split
  · rfl
  · split <;> rfl

theorem takeCrossingQuery_fst (c : Nat) (s : State) : (takeCrossingQuery c s).1 = s := by
  unfold takeCrossingQuery
  split
  · rfl
  · split <;> rfl

theorem takeUnitQuery_fst (sec : Nat) (s : State) : (takeUnitQuery sec s).1 = s := by
  unfold takeUnitQuery
  split
  · rfl
  · split <;> rfl

theorem takeRouteQuery_fst (r : Nat) (s : State) : (takeRouteQuery r s).1 = s := by
  unfold takeRouteQuery
  split
  · rfl
  · split <;> rfl

theorem takeMapQuery_fst (w : Nat) (s : State) : (takeMapQuery w s).1 = s := by
  unfold takeMapQuery
  split
  · rfl
  · split <;> rfl

/-- What a line keeps, whatever it says. -/
theorem takeCommand_keeps (i : Instr) (s : State) : Keeps s (takeCommand i s).1 := by
  cases i with
  | clockRun => exact keeps_running ..
  | clockHold => exact keeps_running ..
  | clockRate _ => exact takeClockRate_keeps ..
  | clockStart _ => exact takeClockStart_keeps ..
  | clockSet _ => exact takeClockSet_keeps ..
  | key _ _ _ _ _ _ _ => exact takeKey_keeps ..
  | keyG _ _ _ => exact takeKeyG_keeps ..
  | keyGNone _ _ => exact takeKeyGNone_keeps ..
  | keyDrop _ => exact takeKeyDrop_keeps ..
  | keyQuery _ => exact keeps_of_eq (takeKeyQuery_fst ..)
  | groupDimmed _ _ => exact takeGroupDimmed_keeps ..
  | groupSwitched _ _ _ _ _ => exact takeGroupSwitched_keeps ..
  | groupQuery _ => exact keeps_of_eq (takeGroupQuery_fst ..)
  | lampGroup _ _ => exact takeLampGroup_keeps ..
  | lampStagger _ _ => exact takeLampStagger_keeps ..
  | lampGroupStagger _ _ _ => exact takeLampGroupStagger_keeps ..
  | lampRange _ _ _ _ _ => exact takeLampRange_keeps ..
  | lampLevel _ _ _ => exact takeLampLevel_keeps ..
  | lampFree _ => exact takeLampFree_keeps ..
  | lampQuery _ => exact keeps_of_eq (takeLampQuery_fst ..)
  | bright _ => exact takeBright_keeps ..
  | scan _ => exact takeScan_keeps ..
  | matrixDivider _ => exact takeMatrixDivider_keeps ..
  | matrixRows _ => exact takeMatrixRows_keeps ..
  | matrixCols _ => exact takeMatrixCols_keeps ..
  | floodSource _ _ => exact takeFloodSource_keeps ..
  | floodQuery _ => exact keeps_of_eq (takeFloodQuery_fst ..)
  | restore _ => exact takeRestore_keeps ..
  | bridgePwm _ _ _ => exact takeBridgePwm_keeps ..
  | bridgeSense _ _ => exact takeBridgeSense_keeps ..
  | bridgeTrip _ _ => exact takeBridgeTrip_keeps ..
  | bridgeQuery _ => exact keeps_of_eq (takeBridgeQuery_fst ..)
  | stop => exact takeStop_keeps ..
  | resume => exact takeResume_keeps ..
  | senseThreshold _ _ => exact takeSenseThreshold_keeps ..
  | senseSectionQuery _ => exact keeps_of_eq (takeSenseSectionQuery_fst ..)
  | inputMarkFilter _ _ => exact setFilter_keeps ..
  | inputIndexFilter _ _ => exact setFilter_keeps ..
  | inputMarkQuery _ => exact keeps_of_eq (takeInputMarkQuery_fst ..)
  | inputIndexQuery _ => exact keeps_of_eq (takeInputIndexQuery_fst ..)
  | sectionLength _ _ => exact takeSectionLength_keeps ..
  | sectionDrop _ => exact takeSectionDrop_keeps ..
  | sectionJoin _ _ _ => exact takeSectionJoin_keeps ..
  | sectionBuffer _ _ => exact takeSectionBuffer_keeps ..
  | sectionQuery _ => exact keeps_of_eq (takeSectionQuery_fst ..)
  | turnoutLegs _ _ _ _ => exact takeTurnoutLegs_keeps ..
  | turnoutDrop _ => exact takeTurnoutDrop_keeps ..
  | runDefine _ _ => exact takeRunDefine_keeps ..
  | runDrop _ => exact takeRunDrop_keeps ..
  | runQuery _ => exact keeps_of_eq (takeRunQuery_fst ..)
  | markDefine _ _ _ _ => exact takeMarkDefine_keeps ..
  | markDrop _ => exact takeMarkDrop_keeps ..
  | markQuery _ => exact keeps_of_eq (takeMarkQuery_fst ..)
  | turnoutThrow _ _ => exact takeTurnoutThrow_keeps ..
  | turnoutPulse _ _ => exact takeTurnoutPulse_keeps ..
  | turnoutQuery _ => exact keeps_of_eq (takeTurnoutQuery_fst ..)
  | crossingDefine _ _ _ _ _ _ _ => exact takeCrossingDefine_keeps ..
  | crossingDrop _ => exact takeCrossingDrop_keeps ..
  | crossingQuery _ => exact keeps_of_eq (takeCrossingQuery_fst ..)
  | bellTone _ => exact takeBellTone_keeps ..
  | bellQuiet _ _ => exact takeBellQuiet_keeps ..
  | bellQuietNone => exact takeBellQuietNone_keeps ..
  | unitQuery _ => exact keeps_of_eq (takeUnitQuery_fst ..)
  | trainResume _ => exact trainLine_keeps _ fun n => resumeAct_keeps ..
  | trainPlace _ _ _ => exact trainLine_keeps _ fun n => placeAct_keeps ..
  | trainLift _ => exact trainLine_keeps _ fun n => liftAct_keeps ..
  | trainFind _ _ _ => exact trainLine_keeps _ fun n => findAct_keeps ..
  | routeDefine _ _ => exact takeRouteDefine_keeps ..
  | routeAdd _ _ => exact takeRouteAdd_keeps ..
  | routeStop _ _ _ _ => exact takeRouteStop_keeps ..
  | routeStopNone _ _ => exact takeRouteStopNone_keeps ..
  | routeLoop _ _ => exact takeRouteLoop_keeps ..
  | routeDrop _ => exact takeRouteDrop_keeps ..
  | routeQuery _ => exact keeps_of_eq (takeRouteQuery_fst ..)
  | trainGo _ _ => exact trainLine_keeps _ fun n => goAct_keeps ..
  | trainPark _ => exact trainLine_keeps _ fun n => parkAct_keeps ..
  | timetableAdd _ _ _ => exact takeTimetableAdd_keeps ..
  | timetableDrop _ _ => exact takeTimetableDrop_keeps ..
  | timetableAutorun _ => exact takeTimetableAutorun_keeps ..
  | trainCab _ _ _ => exact trainLine_keeps _ fun n => cabAct_keeps ..
  | trainName _ _ => exact guarded_keeps _ fun _ => trainLine_keeps _ fun n => guarded_keeps _ fun _ => defineTrain_keeps ..
  | trainLength _ _ => exact trainLine_keeps _ fun n => guarded_keeps _ fun _ => defineTrain_keeps ..
  | trainTable _ _ _ => exact guarded_keeps _ fun _ => trainLine_keeps _ fun n => guarded_keeps _ fun _ => defineTrain_keeps ..
  | trainTableQuery _ _ => exact trainLine_keeps _ fun n => keeps_of_eq (tableQueryAct_fst ..)
  | trainRamp _ _ _ => exact trainLine_keeps _ fun n => guarded_keeps _ fun _ => defineTrain_keeps ..
  | trainCreep _ _ => exact trainLine_keeps _ fun n => guarded_keeps _ fun _ => defineTrain_keeps ..
  | trainHome _ _ _ => exact trainLine_keeps _ fun n => homeAct_keeps ..
  | trainHomeNone _ => exact trainLine_keeps _ fun n => defineTrain_keeps ..
  | trainCabtime _ _ => exact trainLine_keeps _ fun n => guarded_keeps _ fun _ => defineTrain_keeps ..
  | trainService _ _ => exact trainLine_keeps _ fun n => unlessBusy_keeps fun hb => keeps_settings hb { }
  | trainQuery _ => exact trainLine_keeps _ fun n => queryAct_keeps ..
  | axisProgram _ _ _ => exact takeAxisProgram_keeps ..
  | axisProgramDrop _ _ => exact takeAxisProgramDrop_keeps ..
  | axisProgramNone _ => exact takeAxisProgramNone_keeps ..
  | axisProgramQuery _ => exact keeps_of_eq (takeAxisProgramQuery_fst ..)
  | axisSpeed _ _ => exact takeAxisSpeed_keeps ..
  | axisFree _ => exact takeAxisFree_keeps ..
  | axisClear _ => exact takeAxisClear_keeps ..
  | axisDirection _ _ => exact takeAxisDirection_keeps ..
  | axisGain _ _ => exact defineAxis_keeps _ _ _ _ s fun _ => rfl
  | axisKick _ _ => exact defineAxis_keeps _ _ _ _ s fun _ => rfl
  | axisMaxduty _ _ => exact defineAxis_keeps _ _ _ _ s fun _ => rfl
  | axisStall _ _ => exact defineAxis_keeps _ _ _ _ s fun _ => rfl
  | axisSlew _ _ => exact defineAxis_keeps _ _ _ _ s fun _ => rfl
  | axisQuery _ => exact keeps_of_eq (takeAxisQuery_fst ..)
  | budgetCeiling _ => exact takeBudgetCeiling_keeps ..
  | budgetLamp _ => exact takeBudgetLamp_keeps ..
  | budgetFlood _ => exact takeBudgetFlood_keeps ..
  | mapDefine _ _ _ _ _ => exact takeMapDefine_keeps ..
  | mapNone _ => exact takeMapNone_keeps ..
  | mapQuery _ => exact keeps_of_eq (takeMapQuery_fst ..)
  | set _ _ _ => exact takeSet_keeps ..
  | free _ => exact takeFree_keeps ..
  | get _ => exact keeps_of_eq (takeGet_fst ..)
  | save => exact takeSave_keeps ..
  | erase => exact takeErase_keeps ..
  | reset => exact ⟨{ }, { }, { }⟩
  | _ => exact .refl s

/-! ## The command line -/

/-- The command line changes and keeps its reports. -/
theorem keeps_line {s : State} {l : CommandLine} (hr : l.reports = s.line.reports) (hd : l.dropped = s.line.dropped) :
    Keeps s (s.withLine l) :=
  have h : ReportsBounded s → ReportsBounded (s.withLine l) := by
    unfold ReportsBounded
    rw [State.withLine_line, hr, hd]
    exact id
  ⟨{ }, { }, { reports := h }⟩

theorem offer_empty {l : CommandLine} (h : l.reports = []) : l.offer.reports = [] ∧ l.offer.dropped = l.dropped := by
  unfold CommandLine.offer
  split
  · exact ⟨h, rfl⟩
  · split
    · exact ⟨h, rfl⟩
    · next e => rw [h] at e; cases e
    · exact ⟨h, rfl⟩
    · next e => rw [h] at e; cases e

theorem offer_keeps (s : State) : Keeps s s.offer :=
  ⟨{ }, { }, { reports := fun ⟨a, b, c⟩ =>
    ⟨s.line.offer_reports_le a, (s.line.offer_dropped_le).trans b, fun hr => by
      obtain ⟨h1, h2⟩ := offer_empty (c hr).1
      exact ⟨h1, h2.trans (c hr).2⟩⟩ }⟩

theorem answer_keeps (r : Reply) (s : State) : Keeps s (s.answer r) := keeps_line rfl rfl

theorem setSlot_reports (b : Bool) (x : Slot) (l : CommandLine) :
    (l.setSlot b x).reports = l.reports ∧ (l.setSlot b x).dropped = l.dropped := by
  cases b <;> exact ⟨rfl, rfl⟩

theorem addChar_reports (c : BitVec 8) (fe : Bool) (l : CommandLine) :
    (l.addChar c fe).reports = l.reports ∧ (l.addChar c fe).dropped = l.dropped := by
  unfold CommandLine.addChar
  split
  · exact setSlot_reports ..
  · exact ⟨rfl, rfl⟩
  · split
    · next b _ => exact setSlot_reports b _ l
    · exact ⟨rfl, rfl⟩

theorem takeLine_keeps (l : Line) (s : State) : Keeps s (takeLine l s).1 := by
  refine guarded_keeps _ fun _ => guarded_keeps _ fun _ => guarded_keeps _ fun _ => ?_
  split
  · exact .refl s
  · unfold unknownKeyword
    split <;> exact .refl s
  · exact takeCommand_keeps ..

theorem holdLine_keeps (b : Bool) (l : Line) (s : State) : Keeps s (holdLine b l s) := by
  refine .ite _ (fun _ => ?_) fun _ => .trans (takeLine_keeps l s) ?_
  · exact keeps_line (setSlot_reports ..).1 (setSlot_reports ..).2
  · exact keeps_line (setSlot_reports ..).1 (setSlot_reports ..).2

theorem endLine_keeps (s : State) : Keeps s (endLine s) := by
  have done : Keeps s (s.withLine { s.line with rx := .idle }) := keeps_line rfl rfl
  unfold endLine
  dsimp only
  split
  · exact .refl s
  · exact done
  · exact done.trans (keeps_line rfl rfl)
  · next b _ =>
    split
    · exact done.trans (keeps_line (setSlot_reports b ..).1 (setSlot_reports b ..).2)
    · exact done.trans (holdLine_keeps ..)

theorem receiveChar_keeps (c : BitVec 8) (fe : Bool) (s : State) : Keeps s (receiveChar c fe s) := by
  unfold receiveChar
  dsimp only
  have first : Keeps s (s.withLine { s.line with afterCr := decide (c = 13) && !fe }) := keeps_line rfl rfl
  refine first.trans (.ite _ (fun _ => ?_) fun _ => .ite _ (fun _ => endLine_keeps _) fun _ => .ite _ (fun _ =>
    .ite _ (fun _ => .refl _) fun _ => endLine_keeps _) fun _ => ?_)
  · exact keeps_line (addChar_reports ..).1 (addChar_reports ..).2
  · exact keeps_line (addChar_reports ..).1 (addChar_reports ..).2

theorem replyDone_reports (l : CommandLine) : l.replyDone.reports = l.reports ∧ l.replyDone.dropped = l.dropped := by
  unfold CommandLine.replyDone
  split
  · exact ⟨rfl, rfl⟩
  · next b es _ => exact setSlot_reports b _ l
  · exact ⟨rfl, rfl⟩
  · exact ⟨rfl, rfl⟩

theorem lineDone_keeps (s : State) : Keeps s (lineDone s) := by
  unfold lineDone
  split
  · exact .refl s
  · exact keeps_line rfl rfl
  · exact freeReset_keeps s
  · exact keeps_line (replyDone_reports s.line).1 (replyDone_reports s.line).2

/-! ## A step -/

theorem lineCommand_keeps {f : State → Ans} {s t : State} (h : Keeps s (f s).1) (e : lineCommand f s = .next t) :
    Keeps s t := by
  cases e
  exact .ite _ (fun _ => .refl s) fun _ => .trans (h.trans (answer_keeps ..)) (offer_keeps _)

theorem command_keeps {f : State → Ans} {s t : State} (h : Keeps s (f s).1) (e : command f s = .next t) :
    Keeps s t := by
  refine lineCommand_keeps ?_ e
  unfold whenReady
  split
  · exact h
  · exact .refl s

theorem event_keeps {f : State → State} {s t : State} (h : Keeps s (f s)) (e : event f s = .next t) : Keeps s t := by
  cases e
  exact .ite _ (fun _ => .refl s) fun _ => h.trans (offer_keeps _)

/-- A line command reaches its block as `takeCommand` says. -/
theorem exec_of_line {i : Instr} (s : State) (h : isLine i) (hs : i ≠ .status) :
    exec i s = command (takeCommand i) s := by
  cases i with
  | clockStep | dwellEnd | walkTimer | composeComplete | frameEnd | floodPeriodEnd | periodEnd | senseTimer
  | conversionRequest | stopLineAssert | stopLineRelease | conversionComplete | acceptedEdgeActive
  | acceptedEdgeInactive | stuckTimer | pulseComplete | recoveryEnd | leadTimer | flashTimer | bellHalfPeriod
  | rampTick | cabSupervisionTimer | updateTick | stallTimer | stopTimer | budgetEvaluation | receiveCharacter
  | lineWritten | saveComplete | eraseComplete | powerOn | rstAssert | rstRelease | settlingTimer | inputSample
  | stopLineSample | rstSample | realMillisecondCount => exact absurd rfl h
  | status => exact absurd rfl hs
  | _ => rfl

/-- Every command keeps every invariant. -/
theorem exec_keeps {i : Instr} {s t : State} (e : exec i s = .next t) : Keeps s t := by
  by_cases hl : isLine i ∧ i ≠ .status
  · rw [exec_of_line s hl.1 hl.2] at e
    exact command_keeps (takeCommand_keeps i s) e
  have channelArmed : ∀ c, Keeps s (s.modChannel c fun ch => { ch with armed := true }) := fun c =>
    keeps_channel ⟨fun h => h, fun _ h => h⟩
  cases i with
  | clockStep => exact event_keeps (clockStep_keeps s) e
  | dwellEnd n => exact event_keeps (keeps_of_moves_any fun _ hk => dwellEnd_moves hk n s) e
  | walkTimer => exact event_keeps (walkExpiry_keeps s) e
  | composeComplete => exact event_keeps (completeCompose_keeps s) e
  | frameEnd => exact event_keeps (frameEnd_keeps s) e
  | floodPeriodEnd n => exact event_keeps (f := fun s => s.withFloods (s.floods.modify n floodPeriod)) ⟨{ }, { }, { }⟩ e
  | periodEnd c => exact event_keeps (periodEnd_keeps c s) e
  | senseTimer c =>
    exact event_keeps (f := fun s => s.modChannel c fun ch => { ch with armed := true }) (channelArmed c) e
  | conversionRequest c mA => exact event_keeps (conversionRequest_keeps c mA s) e
  | stopLineAssert => exact (withStopPin_keeps true s).trans (event_keeps (acceptAssert_keeps _) e)
  | stopLineRelease => exact (withStopPin_keeps false s).trans (event_keeps (acceptRelease_keeps _) e)
  | stopLineSample b => exact (withStopPin_keeps b s).trans (event_keeps (stopSample_keeps b _) e)
  | conversionComplete => exact event_keeps (conversionEnd_keeps s) e
  | acceptedEdgeActive k => exact event_keeps (edgeActive_keeps k s) e
  | acceptedEdgeInactive k => exact event_keeps (edgeInactive_keeps k s) e
  | stuckTimer k => exact event_keeps (stuckExpiry_keeps k s) e
  | inputSample b => exact event_keeps (inputSample_keeps b s) e
  | realMillisecondCount => exact event_keeps (f := countMillisecond) ⟨{ }, { }, { }⟩ e
  | pulseComplete => exact event_keeps (pulseEnd_keeps s) e
  | recoveryEnd => exact event_keeps (recoveryExpiry_keeps s) e
  | leadTimer k => exact event_keeps (leadExpiry_keeps k s) e
  | flashTimer k => exact event_keeps (flashExpiry_keeps k s) e
  | bellHalfPeriod => exact event_keeps (bellExpiry_keeps s) e
  | rampTick n => exact event_keeps (keeps_of_moves_any fun _ hk => rampTick_moves hk n s) e
  | cabSupervisionTimer n => exact event_keeps (keeps_of_moves_any fun _ hk => cabExpiry_moves hk n s) e
  | updateTick n => exact event_keeps (updateTick_keeps n s) e
  | stallTimer n => exact event_keeps (stallExpiry_keeps n s) e
  | stopTimer n => exact event_keeps (stopExpiry_keeps n s) e
  | budgetEvaluation => exact event_keeps (budgetEvaluation_keeps s) e
  | receiveCharacter c fe => exact event_keeps (receiveChar_keeps c fe s) e
  | lineWritten => exact event_keeps (lineDone_keeps s) e
  | saveComplete => exact event_keeps (saveEnd_keeps s) e
  | eraseComplete => exact event_keeps (eraseEnd_keeps s) e
  | settlingTimer => exact event_keeps (settlingExpiry_keeps s) e
  | powerOn p => cases e; exact deviceReset_keeps p s
  | rstAssert => cases e; exact holdPart_keeps s
  | rstRelease p => cases e; exact .ite _ (fun _ => deviceReset_keeps p s) fun _ => .refl s
  | rstSample b => cases e; exact rstSample_keeps b s
  | status => exact lineCommand_keeps (.refl s) e
  | routeStop r i d m => exact absurd ⟨by cases m <;> exact Option.some_ne_none _, nofun⟩ hl
  | trainCab n st o => exact absurd ⟨by cases o <;> exact Option.some_ne_none _, nofun⟩ hl
  | _ => exact absurd ⟨Option.some_ne_none _, nofun⟩ hl

/-- Every step keeps every invariant. -/
theorem step_keeps {s t : State} (e : step s = .next t) : Keeps s t := by
  unfold step at e
  split at e
  · cases e; exact .refl s
  · next i rest _ =>
    have h : Keeps s (s.withPending rest) := ⟨{ }, { }, { }⟩
    exact h.trans (exec_keeps e)

/-- The hold of the halt is that of channels and axes and that of trains. -/
theorem haltHolds_of {s : State} (hf : TrainsFit s) (hb : Braked s) : HaltHolds s := fun hh =>
  ⟨(hb hh).1, ((trainsFit_iff s).mp hf).2 hh, (hb hh).2⟩

theorem trainsFit_of {s : State} (h : HaltHolds s) (ht : TrainsAtRest s) : TrainsFit s :=
  (trainsFit_iff s).mpr ⟨ht, fun hh => (h hh).2.1⟩

theorem braked_of {s : State} (h : HaltHolds s) : Braked s := fun hh => ⟨(h hh).1, (h hh).2.2⟩

end Sys2Proof.Machine
end
section
/-! SUPPORT. The invariants of the part: every step keeps them, and a device reset sets them. -/

namespace Sys2Proof.Proofs.Invariants

open Sys2Proof.Machine Sys2Proof.Safety

/-- Settles O54: the trains' part goes by `TrainsFit`, that of channels and axes by `Braked`. -/
theorem stepsKeepHalt : Obligations.StepsKeepHalt := by
  intro s t h ht ha e
  have k := step_keeps e
  exact haltHolds_of (k.fit (trainsFit_of h ht)) (k.braked ha (braked_of h))

/-- Settles O55: the books of holders and waiters are kept by every move of the traffic controller. -/
theorem stepsKeepReservations : Obligations.StepsKeepReservations := fun _ _ h e => (step_keeps e).agree h

/-- Settles O56: a queued request is the one link that is added, and the chain it starts does not come back. -/
theorem stepsCloseNoCircle : Obligations.StepsCloseNoCircle := fun _ _ ha h e => (step_keeps e).circle ha h

/-- Settles O57. -/
theorem stepsKeepCrossings : Obligations.StepsKeepCrossings := fun _ _ h e =>
  ⟨(step_keeps e).lead h, fun ha hg => (step_keeps e).guard h ha hg⟩

/-- Settles O58. -/
theorem stepsKeepDrives : Obligations.StepsKeepDrives :=
  ⟨fun _ _ e => ⟨(step_keeps e).duty, (step_keeps e).converter, (step_keeps e).driver⟩, fun _ t e =>
    ⟨fun h ht => ((trainsFit_iff t).mp ((step_keeps e).fit (trainsFit_of h ht))).1, (step_keeps e).axes⟩⟩

/-- Settles O59. -/
theorem stepsKeepBounds : Obligations.StepsKeepBounds :=
  ⟨fun _ _ h e => (step_keeps e).lists h, fun _ _ e =>
    have k := step_keeps e
    ⟨k.exchange, k.scale, k.clock, k.thresholds, k.bell, k.reports, k.saved⟩⟩

/-- The state of the model's reset stands as a device reset leaves it. -/
theorem reset_started : Started State.reset where
  trains n := Table.get_replicate ..
  units u := Table.get_replicate ..
  crossings k := Table.get_replicate ..
  channels c := ⟨_, Table.get_replicate ..⟩
  axes n := ⟨0, Table.get_replicate ..⟩
  sense := rfl
  driver := rfl
  bell := ⟨rfl, rfl, rfl⟩
  reports := ⟨rfl, rfl⟩
  account := rfl
  store := by simp [State.reset]
  pending := ⟨rfl, rfl⟩

/-- Settles O60: what holds of every state as a device reset leaves it, and of the empty configuration. -/
theorem invariantsAtReset : Obligations.InvariantsAtReset := by
  have h := reset_started
  refine ⟨haltHolds_of h.fit h.braked, h.agree, h.circle, h.guard, h.lead, h.duty, h.converter, h.driverLegal,
    ((trainsFit_iff _).mp h.fit).1, h.axesAgree, ⟨empty_ordered, empty_ordered⟩, h.exchange, h.scale, ?_, ?_,
    h.bellFollows, h.reportsBounded, h.saved⟩
  · exact ⟨by decide, by decide, empty_clockOk, empty_clockOk, fun v hv => by cases hv⟩
  · exact fun g => ⟨empty_thresholds g, empty_thresholds g⟩

end Sys2Proof.Proofs.Invariants
end

section
-- One theorem after the other: side by side, waiting proofs would pile up.
set_option Elab.async false
/-! SUPPORT. What the lines of a block answer, and the statements that follow from a block's own definitions:
the queue of commands, the notices of scene time, the settings of the light and of the track. -/

namespace Sys2Proof.Machine

open Sys2Proof.Safety

/-! ## Lines and events -/

/-- A line the part takes leaves what its block leaves, with the answer its block forms (R184, R185). -/
theorem answers {f : State → Ans} {s t : State} {r : Reply} (h : takes s) (e : f s = (t, r)) :
    command f s = replies t r := by rw [command_of_takes h, e]

/-- A line that its block refuses (R185). -/
theorem refuses {f : State → Ans} {s : State} {r : Reason} (h : takes s) (e : f s = refuse r s) :
    command f s = replies s (.no r) := answers h e

/-- A setting form that is taken while no SAVE is in flight (R194). -/
theorem settles {f : State → Ans} {s t : State} {r : Reply} (h : settable s) (e : f s = (t, r)) :
    unlessBusy s f = (t, r) := (unlessBusy_of_settable h).trans e

/-- An event the part takes leaves what its block leaves. -/
theorem happens {f : State → State} {s t : State} (h : runs s) (e : f s = t) : event f s = acts t := by
  rw [event_of_runs h, e]

/-! ## Scene times that a step passes (R4) -/

/-- A step that advances by d passes the times that lie 1 to d seconds after its start. -/
theorem passes_iff_dayDiff {t0 d t : Nat} (h0 : t0 < 86400) (hd : d < 86400) (ht : t < 86400) :
    passes t0 ((t0 + d) % 86400) t = true ↔ 1 ≤ (t + 86400 - t0) % 86400 ∧ (t + 86400 - t0) % 86400 ≤ d := by
  have h : passes t0 ((t0 + d) % 86400) t = true ↔
      (t0 < (t0 + d) % 86400 ∧ t0 < t ∧ t ≤ (t0 + d) % 86400) ∨
        ((t0 + d) % 86400 < t0 ∧ (t0 < t ∨ t ≤ (t0 + d) % 86400)) := by
    unfold passes; split
    · rename_i h; simp [h, Nat.not_lt_of_gt h]
    · rename_i h; split
      · rename_i k; simp [h, k]
      · rename_i k; simp [h, k]
  rw [h]; omega

theorem passes_iff_exists {t0 d t : Nat} (h0 : t0 < 86400) (hd : d < 86400) (ht : t < 86400) :
    passes t0 ((t0 + d) % 86400) t = true ↔ ∃ k, 1 ≤ k ∧ k ≤ d ∧ t = (t0 + k) % 86400 := by
  rw [passes_iff_dayDiff h0 hd ht]
  constructor
  · rintro ⟨h1, h2⟩; exact ⟨_, h1, h2, by omega⟩
  · rintro ⟨k, h1, h2, rfl⟩; omega

/-- The times passed are as many as the seconds of the advance. -/
theorem passed_length {t0 d : Nat} (h0 : t0 < 86400) (hd : d < 86400) :
    ((List.range 86400).filter (passes t0 ((t0 + d) % 86400))).length = d := by
  have hp : ((List.range 86400).filter (passes t0 ((t0 + d) % 86400))).Perm
      ((List.range d).map fun k => (t0 + (k + 1)) % 86400) := by
    refine (List.perm_ext_iff_of_nodup (List.nodup_range.filter _) ?_).2 fun t => ?_
    · refine List.nodup_range.map_on fun a ha b hb h => ?_
      rw [List.mem_range] at ha hb; omega
    · simp only [List.mem_filter, List.mem_range, List.mem_map]
      constructor
      · rintro ⟨ht, hpass⟩
        obtain ⟨k, hk, hkd, e⟩ := (passes_iff_exists h0 hd ht).1 hpass
        exact ⟨k - 1, by omega, by rw [e, Nat.sub_add_cancel hk]⟩
      · rintro ⟨k, hk, rfl⟩
        have ht : (t0 + (k + 1)) % 86400 < 86400 := Nat.mod_lt _ (by decide)
        exact ⟨ht, (passes_iff_exists h0 hd ht).2 ⟨k + 1, by omega, by omega, rfl⟩⟩
  simpa using hp.length_eq

end Sys2Proof.Machine
end

section
namespace Sys2Proof.Proofs.Settings

open Sys2Proof.Machine Sys2Proof.Safety

/-- Settles O1: a step matches on the queue. -/
theorem stepTakesFront : Obligations.StepTakesFront :=
  ⟨fun _ _ _ => rfl, fun s h => by unfold step; rw [h]⟩

/-- Settles O4. -/
theorem noticesPassTheirAdvance : Obligations.NoticesPassTheirAdvance := by
  intro t0 d h0 hd
  have hd' : d < 86400 := by omega
  refine ⟨fun t ht => passes_iff_exists h0 hd' ht, passed_length h0 hd', ?_⟩
  rw [Bool.eq_false_iff, Ne, passes_iff_dayDiff h0 hd' h0]; omega

/-- Settles O10: each line is the change its block makes, and the clamp of a brightness is that of its range. -/
theorem lightSettings : Obligations.LightSettings := by
  intro s h
  refine ⟨fun n => ?_, ?_, fun m hm => ?_, fun d hd => ?_, fun d hd => ?_, fun m => ⟨?_, ?_⟩, fun n src hn => ?_,
    fun n => ?_⟩
  · refine answers h.1 (settles h ?_)
    simp [takenClamped, okOr, setting, clampNat]
  · exact answers h.1 (settles h rfl)
  · refine answers h.1 (settles h ?_)
    cases m with
    | walk => exact absurd rfl hm
    | normal | allOn | allOff => rfl
  · exact answers h.1 ((if_neg (Nat.not_lt.2 hd)).trans (settles h rfl))
  · exact refuses h.1 (if_pos hd)
  · exact answers h.1 (settles h rfl)
  · exact answers h.1 (settles h rfl)
  · refine answers h.1 ?_
    simp only [takeFloodSource, asId_val]
    exact settles h (if_neg hn)
  · refine answers h.1 ?_
    simp only [takeFloodSource, asId_val]
    exact settles h (if_pos rfl)

end Sys2Proof.Proofs.Settings
end

section
-- One theorem after the other: side by side, waiting proofs would pile up.
set_option Elab.async false
/-! SUPPORT. Bridge channels and their inputs: duty requests, the period end, conversion requests, the settings of
the track. -/

namespace Sys2Proof.Machine

open Sys2Proof.Safety

/-! ## Duty requests (R58) -/

theorem dutyRequest_of_open {s : State} {c : Channel} (hh : s.halt = false)
    (hc : (s.channels.get c).state ≠ .cut) (p : Drive) :
    dutyRequest c p s = s.modChannel c fun ch => { ch with staged := some p } := by
  simp [dutyRequest, hh, hc]

theorem dutyRequest_of_shut {s : State} {c : Channel} (h : s.halt = true ∨ (s.channels.get c).state = .cut)
    (p : Drive) : dutyRequest c p s = s := by
  rw [dutyRequest, if_pos (by simpa using h)]

@[simp] theorem State.modChannel_channels (s : State) (c : Channel) (f : ChannelRun → ChannelRun) :
    (s.modChannel c f).channels = s.channels.modify c f := rfl

/-! ## The on-time (R57) -/

theorem senseSteps_eq_max (res : Nat) : senseSteps res = max 1 (2 * res / 256) := by
  unfold senseSteps; split <;> omega

theorem onTimeSteps_eq_zero_iff {sense : Bool} {res duty : Nat} :
    onTimeSteps sense res duty = 0 ↔ sense = false ∧ duty * res / 256 = 0 := by
  cases sense <;> simp [onTimeSteps, dutySteps, senseSteps_eq_max]

/-! ## The period end (R56, R59) -/

section
variable {d : ChannelDef} {ch : ChannelRun}

theorem applyStaged_of_cut {halt : Bool} (h : ch.state = .cut) : applyStaged halt d ch = ch := by
  simp [applyStaged, h]

theorem applyStaged_of_halted (h : ch.state = .off) : applyStaged true d ch = ch := by
  simp [applyStaged, h]

/-- An OFF channel starts on the staged pair, or else the applied one, where it has an on-time. -/
theorem applyStaged_of_off_on (h : ch.state = .off)
    (hon : onTimeSteps d.sense d.res (ch.staged.getD ch.applied).duty ≠ 0) :
    applyStaged false d ch = { ch with
      state := .driving, applied := ch.staged.getD ch.applied, staged := none, discard := true, armed := false } := by
  simp [applyStaged, h, hon]

theorem applyStaged_of_off_still (h : ch.state = .off)
    (hon : onTimeSteps d.sense d.res (ch.staged.getD ch.applied).duty = 0) :
    applyStaged false d ch = { ch with applied := ⟨0, (ch.staged.getD ch.applied).pol⟩, staged := none } := by
  simp [applyStaged, h, hon]

theorem applyStaged_of_driving {halt : Bool} (h : ch.state = .driving) (hs : ch.staged = none) :
    applyStaged halt d ch = ch := by
  simp [applyStaged, h, hs]

/-- A DRIVING channel takes a staged pair at once, but for a turn of the polarity under a duty. -/
theorem applyStaged_of_driving_on {halt : Bool} {p : Drive} (h : ch.state = .driving) (hs : ch.staged = some p)
    (hp : p.pol = ch.applied.pol ∨ ch.applied.duty = 0) :
    applyStaged halt d ch = { ch with applied := p, staged := none } := by
  simp [applyStaged, h, hs, hp]

theorem applyStaged_of_driving_turn {halt : Bool} {p : Drive} (h : ch.state = .driving) (hs : ch.staged = some p)
    (hp : p.pol ≠ ch.applied.pol) (hd : ch.applied.duty ≠ 0) :
    applyStaged halt d ch = { ch with state := .dead, applied := ⟨0, ch.applied.pol⟩ } := by
  simp [applyStaged, h, hs, hp, hd]

theorem applyStaged_of_dead {halt : Bool} (h : ch.state = .dead) :
    applyStaged halt d ch = { ch with
      state := .driving, applied := ch.staged.getD ch.applied, staged := none } := by
  simp [applyStaged, h]

@[simp] theorem startPeriod_state : (startPeriod d ch).state = ch.state := rfl
@[simp] theorem startPeriod_applied : (startPeriod d ch).applied = ch.applied := rfl
@[simp] theorem startPeriod_staged : (startPeriod d ch).staged = ch.staged := rfl
@[simp] theorem startPeriod_discard : (startPeriod d ch).discard = ch.discard := rfl
@[simp] theorem startPeriod_armed : (startPeriod d ch).armed = ch.armed := rfl

theorem startPeriod_onTime_of_driving (h : ch.state = .driving) :
    (startPeriod d ch).onTime = onTimeSteps d.sense d.res ch.applied.duty := by
  simp [startPeriod, h]

theorem startPeriod_onTime_of_rest (h : ch.state ≠ .driving) : (startPeriod d ch).onTime = 0 := by
  cases hs : ch.state <;> simp_all [startPeriod]

end

/-! ## What a bridge puts on its load (R57) -/

section
variable {s : State} {c : Channel} (hr : runs s) (k : Nat)

theorem bridgeOut_of_rest (h : (s.channels.get c).state = .off ∨ (s.channels.get c).state = .cut) :
    bridgeOut s c k = .released := by
  rcases h with h | h <;> simp [bridgeOut, h]

include hr

theorem bridgeOut_of_dead (h : (s.channels.get c).state = .dead) : bridgeOut s c k = .low := by
  simp [bridgeOut, h, show s.sys.rstHeld = false from hr]

theorem bridgeOut_of_driving (h : (s.channels.get c).state = .driving) : bridgeOut s c k =
    if k < (s.channels.get c).onTime then .drive (s.channels.get c).applied.pol else .low := by
  simp [bridgeOut, h, show s.sys.rstHeld = false from hr]

end

/-! ## The settings of the track (R64, R84, R90) -/

theorem markInput_val (m : MarkId) {i : InputId} (h : i.val = m.val) : markInput m.val = some i := by
  simp [markInput, Fin.ext_iff, h]

theorem indexInput_val (n : Axis) {i : InputId} (h : i.val = 16 + n.val) : indexInput n.val = some i := by
  simp [indexInput, Fin.ext_iff, h]

theorem setFilter_of_out {o : Option InputId} {f : Nat} (s : State) (h : f < 2 ∨ 8 < f) :
    setFilter o f s = refuse .range s := by
  cases o
  · rfl
  · exact if_pos h

theorem setFilter_of_in {i : InputId} {f : Nat} {s : State} (hs : settable s) (h2 : 2 ≤ f) (h8 : f ≤ 8) :
    setFilter (some i) f s = taken (setting s fun c => { c with filters := c.filters.set i f }) :=
  (if_neg (by omega)).trans (settles hs rfl)

/-! ## Conversion requests (R61, R73, R74) -/

theorem joinRequests_of_new {r : Request} {q : List Request} (h : ∀ x ∈ q, x.ch ≠ r.ch) :
    joinRequests r q = q ++ [r] := by
  simp [joinRequests]; exact fun x hx e => absurd e (h x hx)

theorem joinRequests_of_queued {r : Request} {q : List Request} (h : ∃ x ∈ q, x.ch = r.ch) :
    joinRequests r q = q.map fun x => if x.ch = r.ch then { x with discard := x.discard || r.discard } else x := by
  simp [joinRequests]; exact fun h' => (h.elim fun x hx => absurd hx.2 (h' x hx.1))

/-- An idle converter with no request waiting starts the conversion at once, on the captured value (R74, R76). -/
theorem arrive_of_idle {q : Sense} (hi : q.inflight = none) (hq : q.queue = []) (r : Request) (mA : Nat) :
    arrive r mA q = { q with inflight := some ⟨r, mA⟩, held := q.held.set r.ch none } := by
  have hset : (q.held.set r.ch (some mA)).set r.ch none = q.held.set r.ch none := by
    ext i; simp only [Table.get_set]; split <;> rfl
  simp [arrive, hi, hq, joinRequests, startConversion, hset]

theorem arrive_of_busy {q : Sense} (hi : q.inflight ≠ none) (r : Request) (mA : Nat) :
    arrive r mA q = { q with queue := joinRequests r q.queue, held := q.held.set r.ch (some mA) } := by
  obtain ⟨v, hv⟩ := Option.ne_none_iff_exists'.1 hi
  simp [arrive, hv]

end Sys2Proof.Machine
end

section
namespace Sys2Proof.Proofs.Track

open Sys2Proof.Machine Sys2Proof.Safety

/-- Settles O13: a request is staged where the channel is open, and ignored elsewhere. -/
theorem dutyRequestsAreStaged : Obligations.DutyRequestsAreStaged := by
  rintro s c p t rfl
  by_cases h : s.halt = true ∨ (s.channels.get c).state = .cut
  · rw [dutyRequest_of_shut h]
    exact ⟨fun hh hc => absurd h (by simp [hh, hc]), fun _ => rfl, fun _ _ => rfl, rfl⟩
  · have hopen := not_or.1 h
    rw [dutyRequest_of_open (Bool.not_eq_true _ ▸ hopen.1) hopen.2]
    exact ⟨fun _ _ => by simp, fun k => absurd k h, fun e he => Table.get_modify_of_ne _ _ he, rfl⟩

/-- Settles O14: the record is that of the period end's own step, read off state by state. -/
theorem periodEnds : Obligations.PeriodEnds := by
  rintro s c ch d hr rfl rfl
  refine ⟨fun k => ⟨bridgeOut_of_rest k, bridgeOut_of_dead hr k, bridgeOut_of_driving hr k⟩,
    happens (f := fun s => s.modChannel c fun ch => { ch with armed := true }) hr rfl,
    startPeriod _ (applyStaged s.halt _ _), happens (f := periodEnd c) hr rfl, rfl, rfl, ?_⟩
  refine ⟨fun h => ?_, fun h hh => ?_, fun p h hh hp hd => ?_, fun p h hh hp hs hd => ?_, fun h hs => ?_,
    fun p h hs hp => ?_, fun p h hs hp hd => ?_, fun p h hs => ?_, startPeriod_onTime_of_rest, fun h hs => ?_,
    fun h hs => ?_⟩
  · rw [applyStaged_of_cut h]; exact ⟨h, rfl, rfl⟩
  · rw [hh, applyStaged_of_halted h]; exact ⟨h, rfl, rfl⟩
  · subst hp
    have hon : ¬ onTimeSteps (s.cfg.bridge.get c).sense (s.cfg.bridge.get c).res _ = 0 :=
      fun h0 => by have := onTimeSteps_eq_zero_iff.1 h0; rw [this.1, this.2] at hd; simp at hd
    rw [hh, applyStaged_of_off_on h hon]; exact ⟨rfl, rfl, rfl, rfl, rfl⟩
  · subst hp
    rw [hh, applyStaged_of_off_still h (onTimeSteps_eq_zero_iff.2 ⟨hs, hd⟩)]; exact ⟨h, rfl, rfl⟩
  · rw [applyStaged_of_driving h hs]; exact ⟨h, rfl⟩
  · rw [applyStaged_of_driving_on h hs hp]; exact ⟨h, rfl, rfl⟩
  · rw [applyStaged_of_driving_turn h hs hp hd]; exact ⟨rfl, rfl, hs⟩
  · rw [applyStaged_of_dead h, hs]; exact ⟨rfl, rfl, rfl⟩
  · rw [startPeriod_state] at h
    rw [startPeriod_onTime_of_driving h, hs]; rfl
  · rw [startPeriod_state] at h
    rw [startPeriod_onTime_of_driving h, hs, onTimeSteps, if_pos rfl, senseSteps_eq_max]; rfl

/-- Settles O15: each line takes its range test first, then waits for a SAVE, then sets its field. -/
theorem trackSettings : Obligations.TrackSettings := by
  intro s
  refine ⟨fun c res p hs hres hp hp' => ?_, fun c res p ht h => ?_, fun c on hs => ?_, fun c mA hs hl hu => ?_,
    fun c mA ht h => ?_, fun x mA hs hl hu => ?_, fun x mA ht h => ?_, fun m f ht h => ?_, fun n f ht h => ?_,
    fun k v ht hk => ?_, fun m i f hs hi h2 h8 => ?_, fun n i f hs hi h2 h8 => ?_, fun c ht h => ?_,
    fun c ht h => ?_⟩
  · refine answers hs.1 ?_
    rw [takeBridgePwm, asId_val]
    exact (if_neg (by omega)).trans (settles hs rfl)
  · refine refuses ht ?_
    rw [takeBridgePwm, asId_val]
    exact if_pos (by omega)
  · refine answers hs.1 ?_
    rw [takeBridgeSense, asId_val]
    exact settles hs rfl
  · refine answers hs.1 ?_
    rw [takeBridgeTrip, asId_val]
    exact (if_neg (by omega)).trans (settles hs rfl)
  · refine refuses ht ?_
    rw [takeBridgeTrip, asId_val]
    exact if_pos h
  · refine answers hs.1 ?_
    rw [takeSenseThreshold, asId_val]
    exact (if_neg (by omega)).trans (settles hs rfl)
  · refine refuses ht ?_
    rw [takeSenseThreshold, asId_val]
    exact if_pos h
  · exact refuses ht (setFilter_of_out s h)
  · exact refuses ht (setFilter_of_out s h)
  · have h24 : asId 24 k = none := asId_eq_none.2 hk
    have h20 : asId 20 k = none := asId_eq_none.2 (by omega)
    have h16 : asId 16 k = none := asId_eq_none.2 (by omega)
    have h4 : asId 4 k = none := asId_eq_none.2 (by omega)
    refine ⟨refuses ht ?_, refuses ht ?_, refuses ht ?_, refuses ht ?_, refuses ht ?_⟩
    · rw [takeBridgeTrip, h24]
    · rw [takeRestore, h24]
    · rw [takeSenseThreshold, h20]
    · rw [takeInputMarkFilter, markInput, h16]; rfl
    · rw [takeInputIndexFilter, indexInput, h4]; rfl
  · refine answers hs.1 ?_
    rw [takeInputMarkFilter, markInput_val m hi]
    exact setFilter_of_in hs h2 h8
  · refine answers hs.1 ?_
    rw [takeInputIndexFilter, indexInput_val n hi]
    exact setFilter_of_in hs h2 h8
  · refine answers ht ?_
    rw [takeRestore, asId_val]
    exact if_pos h
  · refine refuses ht ?_
    rw [takeRestore, asId_val]
    exact if_neg h

/-- Settles O18: the converter's part is that of a request that arrives, idle or busy, new or queued. -/
theorem conversionRequests : Obligations.ConversionRequests := by
  rintro s u c mA ch hr rfl rfl
  refine ⟨fun h => happens hr ?_, fun ha hs ho => ?_⟩
  · refine if_neg fun ⟨ha, hs, ho⟩ => ?_
    rcases h with h | h | h
    · exact absurd (ha.symm.trans h) (by decide)
    · exact h hs
    · omega
  · have raised : conversionRequest c mA s = (s.modChannel c fun ch => { ch with
        armed := false, discard := false }).withSense
        (arrive ⟨c, (s.channels.get c).discard⟩ mA s.sense) := if_pos ⟨ha, hs, ho⟩
    refine ⟨fun hi hq => happens hr ?_, fun hi hq => happens hr ?_, fun hi hq => happens hr ?_⟩
    · rw [raised, arrive_of_idle hi hq]; rfl
    · rw [raised, arrive_of_busy hi, joinRequests_of_new hq]; rfl
    · rw [raised, arrive_of_busy hi, joinRequests_of_queued hq]; rfl

end Sys2Proof.Proofs.Track
end

section
-- One theorem after the other: side by side, waiting proofs would pile up.
set_option Elab.async false
/-! SUPPORT. The lines of the sky: keyframes, groups and lamps. -/

namespace Sys2Proof.Machine

open Sys2Proof.Safety

/-! ## The pairs of a KEY line (R14) -/

/-- The pairs of a line in range are taken as they stand. -/
theorem pairValues_of_ok {pairs : List (Nat × Nat)} (h : ∀ p ∈ pairs, p.1 < 16 ∧ p.2 ≤ 255) :
    ∃ ps : List (GroupId × Nat), pairValues pairs = some ps ∧ pairs = ps.map fun p => (p.1.val, p.2) := by
  induction pairs with
  | nil => exact ⟨[], rfl, rfl⟩
  | cons p pairs ih =>
    obtain ⟨g, v⟩ := p
    obtain ⟨ps, hps, e⟩ := ih fun q hq => h q (List.mem_cons_of_mem _ hq)
    obtain ⟨hg, hv⟩ := h (g, v) List.mem_cons_self
    refine ⟨(⟨g, hg⟩, v) :: ps, ?_, by rw [e]; rfl⟩
    have hi : asId 16 g = some ⟨g, hg⟩ := asId_eq_some.2 rfl
    simp [pairValues, hi, hps, show v ≤ 255 from hv]

/-- Pairs put one after another, each group once: each is there, with those that were there of other groups. -/
theorem mem_putPairs {ps acc : List (GroupId × Nat)} (ha : acc.Pairwise fun x y => x.1 < y.1)
    (hps : (ps.map Prod.fst).Nodup) (y : GroupId × Nat) :
    y ∈ ps.foldl (fun acc p => putPair p.1 p.2 acc) acc ↔ y ∈ ps ∨ (y ∈ acc ∧ y.1 ∉ ps.map Prod.fst) := by
  induction ps generalizing acc with
  | nil => simp
  | cons p ps ih =>
    obtain ⟨hp, hps⟩ := List.nodup_cons.1 hps
    rw [List.foldl_cons, putPair_eq, ih (putKey_sorted _ _ ha) hps, mem_putKey _ _ ha]
    simp only [List.mem_cons, List.map_cons, not_or]
    constructor
    · rintro (h | ⟨⟨h, hne⟩ | rfl, hn⟩)
      · exact .inl (.inr h)
      · exact .inr ⟨h, hne, hn⟩
      · exact .inl (.inl rfl)
    · rintro ((rfl | h) | ⟨h, hne, hn⟩)
      · exact .inr ⟨.inr rfl, hp⟩
      · exact .inl h
      · exact .inr ⟨.inl ⟨h, hne⟩, hn⟩

theorem mem_sortPairs {ps : List (GroupId × Nat)} (h : (ps.map Prod.fst).Nodup) (y : GroupId × Nat) :
    y ∈ sortPairs ps ↔ y ∈ ps := by
  rw [sortPairs, mem_putPairs List.Pairwise.nil h]; simp

/-- A keyframe's pair for a group (R13). -/
theorem pairLevel_eq_none {ps : List (GroupId × Nat)} {g : GroupId} :
    pairLevel ps g = none ↔ ∀ v, (g, v) ∉ ps := by
  simp only [pairLevel, Option.map_eq_none_iff, List.find?_eq_none, beq_iff_eq]
  exact ⟨fun h v hv => h _ hv rfl, fun h p hp e => h p.2 (by rw [← e]; exact hp)⟩

/-! ## The KEY lines (R14 to R16) -/

section
variable {s : State} (hs : settable s)
include hs

theorem takeKey_of_ok {t : TimeTok} {tr : Transition} {r g b a : Nat} {pairs : List (Nat × Nat)}
    {ps : List (GroupId × Nat)} (ht : timeOk t) (hr : r ≤ 255) (hg : g ≤ 255) (hb : b ≤ 255) (ha : a ≤ 255)
    (hps : pairValues pairs = some ps) (hd : (ps.map Prod.fst).Nodup) :
    takeKey t tr r g b a pairs s =
      if keyframeAt s.cfg.keyframes (secs t) = none ∧ 16 ≤ s.cfg.keyframes.length then refuse .full s
      else taken (setKeyframes s (putKeyframe ⟨secs t, tr, r, g, b, a, sortPairs ps⟩ s.cfg.keyframes)) := by
  have hlevels : ¬ (r > 255 ∨ g > 255 ∨ b > 255 ∨ a > 255) := by omega
  simp only [takeKey, timeValue_of_ok ht, hps, if_neg hlevels, unlessBusy_of_settable hs, pairsDistinct, hd,
    Option.isNone_iff_eq_none, Config.maxKeyframes]
  rfl

theorem takeKeyG_of_at {t : TimeTok} {g : GroupId} {v : Nat} {k : Keyframe} (ht : timeOk t) (hv : v ≤ 255)
    (hk : keyframeAt s.cfg.keyframes (secs t) = some k) : takeKeyG t g.val v s =
      taken (setKeyframes s (putKeyframe { k with pairs := putPair g v k.pairs } s.cfg.keyframes)) := by
  simp only [takeKeyG, timeValue_of_ok ht, asId_val, if_neg (Nat.not_lt.2 hv), unlessBusy_of_settable hs, hk]

theorem takeKeyG_of_absent {t : TimeTok} {g : GroupId} {v : Nat} (ht : timeOk t) (hv : v ≤ 255)
    (hk : keyframeAt s.cfg.keyframes (secs t) = none) : takeKeyG t g.val v s = refuse .unknown s := by
  simp only [takeKeyG, timeValue_of_ok ht, asId_val, if_neg (Nat.not_lt.2 hv), unlessBusy_of_settable hs, hk]

theorem takeKeyGNone_of_at {t : TimeTok} {g : GroupId} {k : Keyframe} (ht : timeOk t)
    (hk : keyframeAt s.cfg.keyframes (secs t) = some k) : takeKeyGNone t g.val s =
      if pairLevel k.pairs g = none then taken s
      else taken (setKeyframes s
        (putKeyframe { k with pairs := k.pairs.filter fun p => p.1 != g } s.cfg.keyframes)) := by
  simp only [takeKeyGNone, timeValue_of_ok ht, asId_val, unlessBusy_of_settable hs, hk, Option.isNone_iff_eq_none]

theorem takeKeyGNone_of_absent {t : TimeTok} {g : GroupId} (ht : timeOk t)
    (hk : keyframeAt s.cfg.keyframes (secs t) = none) : takeKeyGNone t g.val s = refuse .unknown s := by
  simp only [takeKeyGNone, timeValue_of_ok ht, asId_val, unlessBusy_of_settable hs, hk]

theorem takeKeyDrop_of_ok {t : TimeTok} (ht : timeOk t) : takeKeyDrop t s =
    if keyframeAt s.cfg.keyframes (secs t) = none then refuse .unknown s
    else taken (setKeyframes s (s.cfg.keyframes.filter fun k => k.time != secs t)) := by
  simp only [takeKeyDrop, timeValue_of_ok ht, unlessBusy_of_settable hs, Option.isNone_iff_eq_none]

end

/-- Putting back the keyframe of a time with other pairs changes the pairs of that keyframe alone. -/
theorem putKeyframe_pairs {ks : List Keyframe} {k : Keyframe} (h : ks.Pairwise fun x y => x.time < y.time)
    (hk : k ∈ ks) (f : Keyframe → List (GroupId × Nat)) :
    putKeyframe { k with pairs := f k } ks =
      ks.map fun x => if x.time = k.time then { x with pairs := f x } else x := by
  rw [putKeyframe_eq]
  refine putKey_eq_map Keyframe.time { k with pairs := f k } h ⟨k, hk, rfl⟩ fun x hx => ?_
  have same : ∀ {y}, y ∈ ks → y.time = k.time → y = k := fun {y} hy e =>
    Option.some.inj (((keyframeAt_eq_some h).2 ⟨hy, e⟩).symm.trans ((keyframeAt_eq_some h).2 ⟨hk, rfl⟩))
  dsimp only
  split
  · rename_i e; rw [same hx e]
  · rfl

/-! ## Groups (R20, R25) -/

/-- A SWITCHED group is settled by the ambient against its threshold, its members at the steady level. -/
theorem settleGroup_of_switched {c : Scene} {g : GroupId} (h : (c.groups.get g).kind = .switched) (t : Nat) (y : Sky)
    {dark : Bool} (hd : dark = true ↔ skyValue c .ambient t < (c.groups.get g).threshold) :
    settleGroup c t y g = { freezeMembers c g (fun _ _ => if dark then (c.groups.get g).onLevel else 0) y with
      groups := y.groups.set g ⟨if dark then .dark else .light, t, true⟩ } := by
  have hdir : (if ambientAt c t < (c.groups.get g).threshold then Direction.dark else .light) =
      if dark then .dark else .light := by simp only [hd, ambientAt]; rfl
  have hlevel : steadyLevel (c.groups.get g) (if dark then .dark else .light) =
      if dark then (c.groups.get g).onLevel else 0 := by cases dark <;> rfl
  simp only [settleGroup, h, hdir, hlevel]
  rfl

theorem freezeMembers_get (c : Scene) (g : GroupId) (f : LampId → LampRun → Nat) (y : Sky) (i : LampId) :
    (freezeMembers c g f y).lamps.get i =
      if (c.lamps.get i).group = some g then { y.lamps.get i with frozen := f i (y.lamps.get i) }
      else y.lamps.get i := by
  simp [freezeMembers, memberOf]

/-! ## Lamp records (R27) -/

theorem lampsBecome_refl (s : State) : LampsBecome s s s.cfg.lamps.get :=
  ⟨rfl, fun _ => ⟨rfl, (if_pos rfl).symm⟩⟩

theorem lampsBecome_congr {s u : State} {f h : LampId → LampDef} (hu : LampsBecome s u f) (hf : ∀ j, f j = h j) :
    LampsBecome s u h := funext hf ▸ hu

/-- Two changes of the records in turn, where no lamp changes its group in both. -/
theorem lampsBecome_trans {s u v : State} {f h : LampId → LampDef} (hu : LampsBecome s u f) (hv : LampsBecome u v h)
    (hg : ∀ j, (f j).group = (s.cfg.lamps.get j).group ∨ (h j).group = (f j).group) : LampsBecome s v h := by
  obtain ⟨eu, hu⟩ := hu
  obtain ⟨ev, hv⟩ := hv
  refine ⟨by rw [ev, eu], fun j => ⟨(hv j).1, ?_⟩⟩
  rw [(hv j).2, (hu j).1, (hu j).2]
  rcases hg j with e | e
  · rw [e, if_pos rfl]
  · rw [e, if_pos rfl]

theorem setLampGroup_becomes (i : LampId) (g : Option GroupId) (s : State) :
    LampsBecome s (setLampGroup i g s) fun j =>
      if j = i then { s.cfg.lamps.get j with group := g } else s.cfg.lamps.get j := by
  unfold setLampGroup
  by_cases hg : (s.cfg.lamps.get i).group = g
  · rw [if_neg (not_not_intro hg)]
    refine ⟨rfl, fun j => ⟨Table.get_modify _ _ _ _, ?_⟩⟩
    by_cases hj : j = i
    · subst hj; simp [hg]
    · simp [hj]
  · rw [if_pos hg]
    refine ⟨rfl, fun j => ⟨Table.get_modify _ _ _ _, ?_⟩⟩
    by_cases hj : j = i
    · subst hj; simp [Ne.symm hg]
    · simp [hj, Table.get_modify]

theorem setLampStagger_becomes (i : LampId) (st : Nat) (s : State) :
    LampsBecome s (setLampStagger i st s) fun j =>
      if j = i then { s.cfg.lamps.get j with stagger := st } else s.cfg.lamps.get j := by
  refine ⟨rfl, fun j => ⟨Table.get_modify _ _ _ _, (if_pos ?_).symm⟩⟩
  by_cases hj : j = i <;> simp [hj]

/-- A lamp whose record is set whole. -/
theorem setLamp_becomes (i : LampId) (g : Option GroupId) (st : Nat) (s : State) :
    LampsBecome s (setLampStagger i st (setLampGroup i g s)) fun j =>
      if j = i then ⟨g, st⟩ else s.cfg.lamps.get j := by
  have first := setLampGroup_becomes i g s
  refine lampsBecome_congr (lampsBecome_trans first (setLampStagger_becomes i st _) fun j => .inr ?_) fun j => ?_
  · by_cases hj : j = i <;> simp [hj, (first.2 _).1]
  · by_cases hj : j = i <;> simp [hj, (first.2 _).1]

/-- Some lamps, each once, that take new records whole, one after another. -/
theorem setLamps_becomes {xs : List LampId} (hx : xs.Nodup) (p : LampId → Prop) [DecidablePred p] (g : Option GroupId)
    (st : LampId → Nat) (s : State) :
    LampsBecome s (xs.foldl (fun u i => if p i then setLampStagger i (st i) (setLampGroup i g u) else u) s) fun j =>
      if j ∈ xs ∧ p j then ⟨g, st j⟩ else s.cfg.lamps.get j := by
  induction xs using List.reverseRecOn with
  | nil => exact lampsBecome_congr (lampsBecome_refl s) fun j => by simp
  | append_singleton xs i ih =>
    rw [List.nodup_append_comm, List.singleton_append, List.nodup_cons] at hx
    have before := ih hx.2
    rw [List.foldl_append, List.foldl_cons, List.foldl_nil]
    by_cases hi : p i
    · rw [if_pos hi]
      refine lampsBecome_congr (lampsBecome_trans before (setLamp_becomes i g (st i) _) fun j => ?_) fun j => ?_
      · by_cases hj : j = i
        · subst hj; exact .inl (by simp [hx.1])
        · exact .inr (by simp only [if_neg hj]; rw [(before.2 j).1])
      · by_cases hj : j = i
        · subst hj; simp [hi]
        · simp only [if_neg hj, (before.2 j).1]; simp [hj]
    · rw [if_neg hi]
      refine lampsBecome_congr before fun j => ?_
      by_cases hj : j = i
      · subst hj; simp [hi]
      · simp [hj]

theorem setLampRange_becomes (n m : LampId) (g : Option GroupId) (st k : Nat) (s : State) :
    LampsBecome s (setLampRange n.val m.val g st k s) fun j =>
      if n ≤ j ∧ j ≤ m then ⟨g, st + (j.val - n.val) * k⟩ else s.cfg.lamps.get j := by
  have h := setLamps_becomes (List.nodup_finRange 192) (fun i : LampId => n.val ≤ i.val ∧ i.val ≤ m.val) g
    (fun i => st + (i.val - n.val) * k) s
  refine lampsBecome_congr h fun j => ?_
  simp only [List.mem_finRange, true_and, Fin.le_def]

end Sys2Proof.Machine
end

section
namespace Sys2Proof.Proofs.Sky

open Sys2Proof.Machine Sys2Proof.Safety

/-- Settles O7: each line is an insertion into a list in time order, or a filter of it. -/
theorem keyLinesEditTheList : Obligations.KeyLinesEditTheList := by
  intro s hs hlists
  obtain ⟨hord, -, hpairs, -⟩ := hlists.1
  refine ⟨fun t tr r g b a pairs ht hr hg hb ha hp hd hroom => ?_, fun t tr r g b a ht hr hg hb ha hno hfull => ?_,
    fun t g v k ht hv hk hkt => ?_, fun t g k v ht hk hkt hv => ?_, fun t g k ht hk hkt hv => ?_,
    fun t k ht hk hkt => ?_, fun t g v ht hv hno => ?_⟩
  · obtain ⟨ps, hps, rfl⟩ := pairValues_of_ok hp
    have hd : (ps.map Prod.fst).Nodup := by
      refine List.Nodup.of_map Fin.val ?_
      simpa [Function.comp_def] using hd
    have hnotfull : ¬ (keyframeAt s.cfg.keyframes (secs t) = none ∧ 16 ≤ s.cfg.keyframes.length) := by
      rintro ⟨hn, hl⟩
      rcases hroom with ⟨k, hk, e⟩ | h
      · exact keyframeAt_eq_none.1 hn k hk e
      · omega
    refine ⟨_, sortPairs ps, answers hs.1
      ((takeKey_of_ok hs ht hr hg hb ha hps hd).trans (if_neg hnotfull)), ?_, fun k => ?_, sortPairs_sorted ps,
      fun i v => ?_⟩
    · rw [putKeyframe_eq]; exact putKey_sorted _ _ hord
    · rw [putKeyframe_eq]; exact mem_putKey _ _ hord k
    · rw [mem_sortPairs hd, List.mem_map]
      exact ⟨fun h => ⟨(i, v), h, rfl⟩, fun ⟨p, hp, e⟩ => by
        have e := Prod.mk.inj e; rwa [← Fin.ext e.1, ← e.2]⟩
  · exact refuses hs.1 ((takeKey_of_ok hs ht hr hg hb ha (ps := []) rfl List.nodup_nil).trans
      (if_pos ⟨keyframeAt_eq_none.2 hno, hfull.ge⟩))
  · have hat := (keyframeAt_eq_some hord).2 ⟨hk, hkt⟩
    refine ⟨putPair g v k.pairs, answers hs.1 ((takeKeyG_of_at hs ht hv hat).trans ?_), ?_, fun h w => ?_⟩
    · rw [putKeyframe_pairs hord hk fun _ => putPair g v k.pairs, hkt]; rfl
    · rw [putPair_eq]; exact putKey_sorted _ _ (hpairs k hk)
    · rw [putPair_eq, mem_putKey _ _ (hpairs k hk)]
      simp only [Prod.mk.injEq]
      tauto
  · have hat := (keyframeAt_eq_some hord).2 ⟨hk, hkt⟩
    refine answers hs.1 ((takeKeyGNone_of_at hs ht hat).trans
      ((if_neg fun hn => pairLevel_eq_none.1 hn v hv).trans ?_))
    rw [putKeyframe_pairs hord hk fun k => k.pairs.filter fun p => p.1 != g, hkt]; rfl
  · have hat := (keyframeAt_eq_some hord).2 ⟨hk, hkt⟩
    exact answers hs.1 ((takeKeyGNone_of_at hs ht hat).trans (if_pos (pairLevel_eq_none.2 hv)))
  · have hat := (keyframeAt_eq_some hord).2 ⟨hk, hkt⟩
    exact answers hs.1 ((takeKeyDrop_of_ok hs ht).trans (if_neg (by rw [hat]; simp)))
  · have hat := keyframeAt_eq_none.2 hno
    exact ⟨refuses hs.1 (takeKeyG_of_absent hs ht hv hat), refuses hs.1 (takeKeyGNone_of_absent hs ht hat),
      refuses hs.1 ((takeKeyDrop_of_ok hs ht).trans (if_pos hat))⟩

/-- Settles O8: the forms are settings, and a SWITCHED group is settled by the ambient against its threshold. -/
theorem groupLinesAndSettling : Obligations.GroupLinesAndSettling := by
  refine ⟨fun s g c hs => ?_, fun s g th hy on wu c hs hth hhy hon hwu hc => ?_, fun s g th hy on wu ht h => ?_,
    fun c t y g dark hk hd => ?_⟩
  · refine answers hs.1 ?_
    rw [takeGroupDimmed, asId_val]
    exact settles hs rfl
  · subst hc
    refine answers hs.1 ?_
    rw [takeGroupSwitched, asId_val]
    exact (if_neg (by omega)).trans (settles hs rfl)
  · refine refuses ht ?_
    rw [takeGroupSwitched, asId_val]
    exact if_pos h
  · rw [settleGroup_of_switched hk t y hd]
    exact ⟨rfl, freezeMembers_get c g _ y, rfl, rfl⟩

/-- Settles O9: a line on records sets its lamps one after another, and an override line sets one override. -/
theorem lampLines : Obligations.LampLines := by
  refine ⟨fun s hs => ⟨fun i g => ?_, fun i st h => ?_, fun i g st h => ?_, fun n m g st k hnm h => ?_,
    fun n m g st k h => ?_⟩, fun s i ht => ⟨fun v => ?_, fun v t hv => ?_, fun v t hv => ?_, fun h => ?_, fun h => ?_⟩⟩
  · refine ⟨_, answers hs.1 ?_, setLampGroup_becomes i g s⟩
    rw [takeLampGroup, asId_val, groupValue_map]
    exact settles hs rfl
  · refine ⟨_, answers hs.1 ?_, setLampStagger_becomes i st s⟩
    rw [takeLampStagger, asId_val]
    exact (if_neg (Nat.not_lt.2 h)).trans (settles hs rfl)
  · refine ⟨_, answers hs.1 ?_, setLamp_becomes i g st s⟩
    rw [takeLampGroupStagger, asId_val, groupValue_map]
    exact (if_neg (Nat.not_lt.2 h)).trans (settles hs rfl)
  · refine ⟨_, answers hs.1 ?_, setLampRange_becomes n m g st k s⟩
    rw [takeLampRange, groupValue_map]
    exact (if_neg (by have := n.isLt; have := m.isLt; have := Fin.le_def.1 hnm; omega)).trans (settles hs rfl)
  · refine refuses hs.1 ?_
    rw [takeLampRange, groupValue_map]
    exact if_pos (by rw [Fin.lt_def] at h; omega)
  · refine answers ht ?_
    rw [takeLampLevel, asId_val]; rfl
  · refine answers ht ?_
    rw [takeLampLevel, asId_val, expiryValue, timeValue_of_ok hv]; rfl
  · refine refuses ht ?_
    rw [takeLampLevel, asId_val, expiryValue, timeValue_of_not_ok hv]; rfl
  · refine answers ht ?_
    rw [takeLampFree, asId_val]
    exact congrArg taken (if_neg (by simpa using h))
  · refine answers ht ?_
    rw [takeLampFree, asId_val]
    exact congrArg taken (if_pos (by simpa using h))

end Sys2Proof.Proofs.Sky
end

section
-- One theorem after the other: side by side, waiting proofs would pile up.
set_option Elab.async false
/-! SUPPORT. The load account, its settings, and the fixture map. -/

namespace Sys2Proof.Machine

open Sys2Proof.Safety

/-! ## The pressure level (R174) -/

namespace Account

variable {a : Account} {ceiling : Nat}

/-- The test touches the level and the two counts alone. -/
theorem retest_eq_with (a : Account) (ceiling : Nat) : a.retest ceiling = { a with
    level := (a.retest ceiling).level, overCount := (a.retest ceiling).overCount
    underCount := (a.retest ceiling).underCount } := by
  cases h : a.level <;> simp only [retest, h] <;> split_ifs <;> rfl

theorem retest_of_normal (h : a.level = .normal) :
    a.retest ceiling = if a.scale < 256 then a.enter .dimming else a := by simp only [retest, h]

theorem retest_of_dimming (h : a.level = .dimming) : a.retest ceiling =
    if a.scale = 64 ∧ ceiling < a.total then a.enter .axesLimited
    else if a.scale = 256 then a.enter .normal else a := by simp only [retest, h]

theorem retest_of_limited_over (h : a.level = .axesLimited) (ht : ceiling < a.total) : a.retest ceiling =
    if 2 ≤ a.overCount then a.enter .departuresHeld
    else { a with overCount := a.overCount + 1, underCount := 0 } := by
  simp only [retest, h, if_pos ht, show 3 ≤ a.overCount + 1 ↔ 2 ≤ a.overCount by omega]

theorem retest_of_limited_clear (h : a.level = .axesLimited) (ht : a.total ≤ ceiling)
    (hc : a.total * 10 ≤ ceiling * 9) : a.retest ceiling =
      if 9 ≤ a.underCount then a.enter .dimming else { a with underCount := a.underCount + 1, overCount := 0 } := by
  simp only [retest, h, if_neg (Nat.not_lt.2 ht), clear, decide_eq_true_eq, if_pos hc,
    show 10 ≤ a.underCount + 1 ↔ 9 ≤ a.underCount by omega]

theorem retest_of_limited_between (h : a.level = .axesLimited) (ht : a.total ≤ ceiling)
    (hc : ceiling * 9 < a.total * 10) : a.retest ceiling = { a with overCount := 0, underCount := 0 } := by
  simp only [retest, h, if_neg (Nat.not_lt.2 ht), clear, decide_eq_true_eq, if_neg (Nat.not_le.2 hc)]

theorem retest_of_held_clear (h : a.level = .departuresHeld) (hc : a.total * 10 ≤ ceiling * 9) :
    a.retest ceiling =
      if 9 ≤ a.underCount then a.enter .axesLimited else { a with underCount := a.underCount + 1 } := by
  simp only [retest, h, clear, decide_eq_true_eq, if_pos hc, show 10 ≤ a.underCount + 1 ↔ 9 ≤ a.underCount by omega]

theorem retest_of_held_full (h : a.level = .departuresHeld) (hc : ceiling * 9 < a.total * 10) :
    a.retest ceiling = { a with underCount := 0 } := by
  simp only [retest, h, clear, decide_eq_true_eq, if_neg (Nat.not_le.2 hc)]

/-- A change of level sets both counts to 0. -/
theorem retest_counts (hl : (a.retest ceiling).level ≠ a.level) :
    (a.retest ceiling).overCount = 0 ∧ (a.retest ceiling).underCount = 0 := by
  revert hl
  cases h : a.level <;> simp only [retest, h] <;> split_ifs <;> simp [enter, h]

end Account

/-- An evaluation after `#READY` writes the account, with a recompose for a new scale and a report for a new
level. -/
theorem budgetEvaluation_of_ready {s : State} (h : s.sys.ready = true) {b : Account}
    (hb : b = (evaluate s).retest s.cfg.ceiling) {u : State}
    (hu : u = if (evaluate s).scale = s.account.scale then s.withAccount b else requestRecompose (s.withAccount b)) :
    budgetEvaluation s = if b.level = s.account.level then u else u.raise (.budget b.level) := by
  subst hb hu
  simp only [budgetEvaluation, h, if_true]
  rfl

/-! ## Trains and figures at rest (R177) -/

theorem atRest_iff {s : State} : s.atRest = true ↔ (∀ k, (s.trains.get k).speed = 0) ∧
    ∀ k, (s.axes.get k).state ≠ .starting ∧ (s.axes.get k).state ≠ .running := by
  simp [State.atRest, Table.all_iff, -List.all_eq_true]

theorem takeBudgetCeiling_of_settable {s : State} (hs : settable s) (n : Nat) : takeBudgetCeiling n s =
    if s.cfg.ceiling < clampNat 500 20000 n ∧ s.atRest = false then refuse .motion s
    else takenClamped (decide (clampNat 500 20000 n ≠ n))
      (setting s fun c => { c with ceiling := clampNat 500 20000 n }) := by
  simp only [takeBudgetCeiling, unlessBusy_of_settable hs]
  rfl

/-! ## The fixture map (R189) -/

theorem window_succ (c : Scene) (i : Fin 7) : c.window (i.val + 1) = c.windows.get i := by
  simp [Scene.window]

theorem window_of_gt (c : Scene) {w : Nat} (h : 7 < w) : c.window w = none := by
  obtain ⟨k, rfl⟩ : ∃ k, w = k + 1 := ⟨w - 1, by omega⟩
  rw [Scene.window, asId_eq_none.2 (by omega)]

theorem window_lt {c : Scene} {w : Nat} {d : Window} (h : c.window w = some d) : w < 8 := by
  by_contra hw
  rw [window_of_gt c (by omega)] at h
  cases h

theorem settableWindow_succ (i : Fin 7) : settableWindow (i.val + 1) = some i := asId_val i

theorem settableWindow_of_out {w : Nat} (h : w = 0 ∨ 7 < w) : settableWindow w = none := by
  cases w with
  | zero => rfl
  | succ w => exact asId_eq_none.2 (by omega)

theorem inRange_iff {d : Window} : d.inRange = true ↔
    d.base ≤ 1023 ∧ 1 ≤ d.count ∧ d.count ≤ 192 ∧ d.base + d.count ≤ 1024 ∧
      d.first + d.count ≤ kindCount d.kind := by
  simp [Window.inRange, and_assoc]

theorem windowClash_iff {c : Scene} {w : Nat} {d : Window} : c.windowClash w d = true ↔
    ∃ v x, v ≠ w ∧ c.window v = some x ∧ d.base < x.base + x.count ∧ x.base < d.base + d.count := by
  simp only [Scene.windowClash, List.any_eq_true, List.mem_range, Bool.and_eq_true, bne_iff_ne]
  constructor
  · rintro ⟨v, -, hv, h⟩
    cases hx : c.window v with
    | none => rw [hx] at h; cases h
    | some x =>
      rw [hx] at h
      simp only [Window.overlaps, Bool.and_eq_true, decide_eq_true_eq] at h
      exact ⟨v, x, hv, hx, h⟩
  · rintro ⟨v, x, hv, hx, h⟩
    refine ⟨v, window_lt hx, hv, ?_⟩
    rw [hx]
    simpa only [Window.overlaps, Bool.and_eq_true, decide_eq_true_eq] using h

theorem takeMapDefine_of_ok {s : State} (hs : settable s) (i : Fin 7) {base count first : Nat} {kind : FixtureKind}
    (h : (⟨base, count, kind, first⟩ : Window).inRange = true) : takeMapDefine (i.val + 1) base count kind first s =
      if s.cfg.windowClash (i.val + 1) ⟨base, count, kind, first⟩ then refuse .conflict s
      else taken (setWindow i (some ⟨base, count, kind, first⟩) s) := by
  simp only [takeMapDefine, settableWindow_succ, h, unlessBusy_of_settable hs]
  rfl

/-! ## Fixtures (R190) -/

/-- Two lines whose blocks do the same in a state have the same outcome there. -/
theorem command_congr {f g : State → Ans} {s : State} (h : f s = g s) : command f s = command g s := by
  simp only [command, lineCommand, whenReady, h]

section
variable {s : State} {f : Nat} (hf : f ≤ 1023)
include hf

theorem takeFree_of_lamp {i : LampId} (h : s.cfg.fixture f = some (.lamp i)) :
    takeFree f s = taken (freeLamp i s) := by rw [takeFree, if_neg (Nat.not_lt.2 hf), h]

theorem takeFree_of_flood {i : FloodId} (h : s.cfg.fixture f = some (.flood i)) :
    takeFree f s = taken (freeFlood i s) := by rw [takeFree, if_neg (Nat.not_lt.2 hf), h]

theorem takeFree_of_axis {n : Axis} (h : s.cfg.fixture f = some (.axis n)) :
    takeFree f s = taken (setAxisOverride n none s) := by rw [takeFree, if_neg (Nat.not_lt.2 hf), h]

theorem takeFree_of_none (h : s.cfg.fixture f = none) : takeFree f s = (s, .nomap) := by
  rw [takeFree, if_neg (Nat.not_lt.2 hf), h]

theorem takeSet_of_axis {n : Axis} (h : s.cfg.fixture f = some (.axis n)) (v : Nat) (u : Option TimeTok) :
    takeSet f v u s = if u.isSome then refuse .syntaxErr s
      else takenClamped (decide (600 < v)) (setAxisOverride n (some (min v 600)) s) := by
  rw [takeSet, if_neg (Nat.not_lt.2 hf), h]

theorem takeSet_of_lamp {i : LampId} (h : s.cfg.fixture f = some (.lamp i)) (v : Nat) {u : Option TimeTok}
    {e : Option Nat} (he : expiryValue u = some e) : takeSet f v u s =
      takenClamped (decide (255 < v)) (setLampOverride i (some ⟨min v 255, e⟩) s) := by
  rw [takeSet, if_neg (Nat.not_lt.2 hf), h, he]

theorem takeSet_of_flood {i : FloodId} (h : s.cfg.fixture f = some (.flood i)) (v : Nat) {u : Option TimeTok}
    {e : Option Nat} (he : expiryValue u = some e) : takeSet f v u s =
      takenClamped (decide (255 < v)) (setFloodOverride i (some ⟨min v 255, e⟩) s) := by
  rw [takeSet, if_neg (Nat.not_lt.2 hf), h, he]

theorem takeSet_of_none (h : s.cfg.fixture f = none) (v : Nat) {u : Option TimeTok} {e : Option Nat}
    (he : expiryValue u = some e) : takeSet f v u s = (s, .nomap) := by
  rw [takeSet, if_neg (Nat.not_lt.2 hf), h, he]

/-- An expiry out of range is refused on every fixture but an axis, mapped or not (log 15). -/
theorem takeSet_of_late (h : ∀ n, s.cfg.fixture f ≠ some (.axis n)) (v : Nat) {u : Option TimeTok}
    (he : expiryValue u = none) : takeSet f v u s = refuse .range s := by
  rw [takeSet, if_neg (Nat.not_lt.2 hf), he]
  rcases hx : s.cfg.fixture f with _ | (i | i | n)
  · rfl
  · rfl
  · rfl
  · exact absurd hx (h n)

end

theorem expiryValue_of_ok {t : TimeTok} (h : timeOk t) : expiryValue (some t) = some (some (secs t)) := by
  rw [expiryValue, timeValue_of_ok h]; rfl

theorem expiryValue_of_not_ok {t : TimeTok} (h : ¬ timeOk t) : expiryValue (some t) = none := by
  rw [expiryValue, timeValue_of_not_ok h]; rfl

theorem elementOf_lamp (i : LampId) : elementOf .lamp i.val = some (.lamp i) := by simp [elementOf]
theorem elementOf_flood (i : FloodId) : elementOf .flood i.val = some (.flood i) := by simp [elementOf]
theorem elementOf_axis (i : Axis) : elementOf .axis i.val = some (.axis i) := by simp [elementOf]

theorem reach_of_in {d : Window} {f : Nat} (h : d.base ≤ f) (h' : f < d.base + d.count) :
    d.reach f = elementOf d.kind (d.first + (f - d.base)) := if_pos ⟨h, h'⟩

theorem reach_of_out {d : Window} {f : Nat} (h : f < d.base ∨ d.base + d.count ≤ f) : d.reach f = none :=
  if_neg (by omega)

/-- Windows that do not contain a fixture do not reach it. -/
theorem fixture_eq_none {c : Scene} {f : Nat}
    (h : ∀ v x, c.window v = some x → f < x.base ∨ x.base + x.count ≤ f) : c.fixture f = none := by
  refine List.findSome?_eq_none_iff.2 fun v _ => ?_
  cases hx : c.window v with
  | none => rfl
  | some x => exact reach_of_out (h v x hx)

/-- The one window that contains a fixture gives its element. -/
theorem fixture_of_window {c : Scene} {f w : Nat} {d : Window} (hd : c.window w = some d) (h : d.base ≤ f)
    (h' : f < d.base + d.count) (ho : ∀ v x, v ≠ w → c.window v = some x → f < x.base ∨ x.base + x.count ≤ f) :
    c.fixture f = elementOf d.kind (d.first + (f - d.base)) := by
  have others : ∀ v, v ≠ w → ((c.window v).bind fun d => d.reach f) = none := fun v hv => by
    cases hx : c.window v with
    | none => rfl
    | some x => exact reach_of_out (ho v x hv hx)
  have own : ((c.window w).bind fun d => d.reach f) = elementOf d.kind (d.first + (f - d.base)) := by
    rw [hd]; exact reach_of_in h h'
  cases he : elementOf d.kind (d.first + (f - d.base)) with
  | none =>
    refine List.findSome?_eq_none_iff.2 fun v _ => ?_
    by_cases hv : v = w
    · rw [hv, own, he]
    · exact others v hv
  | some e =>
    obtain ⟨k, hk⟩ := Option.isSome_iff_exists.1 (show (c.fixture f).isSome = true from
      List.findSome?_isSome_iff.2 ⟨w, List.mem_range.2 (window_lt hd), by rw [own, he]; rfl⟩)
    obtain ⟨v, -, hv⟩ := List.exists_of_findSome?_eq_some hk
    rw [hk]
    by_cases hvw : v = w
    · rw [← hv, hvw, own, he]
    · rw [others v hvw] at hv; cases hv

end Sys2Proof.Machine
end

section
namespace Sys2Proof.Proofs.Budget

open Sys2Proof.Machine Sys2Proof.Safety

/-- Settles O43: the account written is that of the terms, after the test of its level. -/
theorem budgetEvaluations : Obligations.BudgetEvaluations := by
  intro s motion fixed demand avail target scale total hr hmotion hfixed hdemand havail htarget hscale htotal
  refine ⟨fun h => happens hr (by simp [budgetEvaluation, h]), fun h => ?_⟩
  obtain ⟨a, ha⟩ : ∃ a, a = evaluate s := ⟨_, rfl⟩
  have hat : a.target = target := by
    rw [ha, htarget, havail, hmotion, hfixed, hdemand, ← Nat.sub_sub]; rfl
  have has : a.scale = scale := by
    rw [hscale, ← hat, ha]; rfl
  have ham : a.motion = motion := by rw [ha, hmotion]; rfl
  have haf : a.fixed = fixed := by rw [ha, hfixed]; rfl
  have had : a.demand = demand := by rw [ha, hdemand]; rfl
  have hatot : a.total = total := by rw [htotal, ← has, ← ham, ← haf, ← had, ha]; rfl
  have hal : a.level = s.account.level := by rw [ha]; rfl
  have hao : a.overCount = s.account.overCount := by rw [ha]; rfl
  have hau : a.underCount = s.account.underCount := by rw [ha]; rfl
  have hb := a.retest_eq_with s.cfg.ceiling
  rw [← hal, ← hao, ← hau, ← hatot, ← has]
  refine ⟨a.retest s.cfg.ceiling, _, happens hr ?_, rfl,
    by rw [hb], by rw [hb]; exact hat, by rw [hb]; exact ham, by rw [hb]; exact haf, by rw [hb]; exact had,
    by rw [hb], Account.retest_counts, fun hl => ?_, fun hl => ?_, fun hl ht => ⟨fun ho => ?_, fun ho => ?_⟩,
    fun hl ht hc => ⟨fun hu => ?_, fun hu => ?_⟩, fun hl ht hc => ?_, fun hl hc => ⟨fun hu => ?_, fun hu => ?_⟩,
    fun hl hc => ?_⟩
  · rw [ha, budgetEvaluation_of_ready h rfl rfl]; rfl
  · rw [Account.retest_of_normal hl, apply_ite Account.level, hl]; rfl
  · rw [Account.retest_of_dimming hl, apply_ite Account.level, apply_ite Account.level, hl]; rfl
  · rw [Account.retest_of_limited_over hl ht, if_pos ho]; rfl
  · rw [Account.retest_of_limited_over hl ht, if_neg (by omega)]; exact ⟨hl, rfl, rfl⟩
  · rw [Account.retest_of_limited_clear hl ht hc, if_pos hu]; rfl
  · rw [Account.retest_of_limited_clear hl ht hc, if_neg (by omega)]; exact ⟨hl, rfl, rfl⟩
  · rw [Account.retest_of_limited_between hl ht hc]; exact ⟨hl, rfl, rfl⟩
  · rw [Account.retest_of_held_clear hl hc, if_pos hu]; rfl
  · rw [Account.retest_of_held_clear hl hc, if_neg (by omega)]; exact ⟨hl, rfl⟩
  · rw [Account.retest_of_held_full hl hc]; exact ⟨hl, rfl⟩

/-- Settles O44: the ceiling's test is that of trains and figures at rest, a window's that of its ranges and of the
other windows. -/
theorem budgetAndMapLines : Obligations.BudgetAndMapLines := by
  refine ⟨fun s => ⟨fun n v hs hv => ⟨fun h => ?_, fun hlt h => ?_⟩, fun v hs h1 h2 => ?_, fun v hs h1 h2 => ?_,
    fun v ht => ⟨fun h => ?_, fun h => ?_⟩⟩,
    fun c => ⟨rfl, window_succ c, fun w hw => window_of_gt c hw⟩,
    fun s i => ⟨fun base count kind first hs hb h1 hc hbc hf => ⟨fun ho => ?_, fun v x hv hx h h' => ?_⟩,
      fun w base count kind first ht h => ?_, fun hs => ?_, fun w ht h => ?_⟩⟩
  · subst hv
    refine answers hs.1 ((takeBudgetCeiling_of_settable hs n).trans (if_neg ?_))
    rintro ⟨hlt, hrest⟩
    rcases h with h | h
    · exact absurd hlt (Nat.not_lt.2 h)
    · exact absurd (atRest_iff.2 h) (by rw [hrest]; decide)
  · subst hv
    refine refuses hs.1 ((takeBudgetCeiling_of_settable hs n).trans (if_pos ⟨hlt, ?_⟩))
    rw [Bool.eq_false_iff, Ne, atRest_iff]
    rintro ⟨htr, hax⟩
    rcases h with ⟨k, h⟩ | ⟨k, h⟩
    · exact h (htr k)
    · exact h.elim (hax k).1 (hax k).2
  · exact answers hs.1 ((if_neg (by omega)).trans (settles hs rfl))
  · exact answers hs.1 ((if_neg (by omega)).trans (settles hs rfl))
  · exact refuses ht (if_pos (by omega))
  · exact refuses ht (if_pos h)
  · refine answers hs.1 ((takeMapDefine_of_ok hs i (inRange_iff.2 ⟨hb, h1, hc, hbc, ?_⟩)).trans (if_neg ?_))
    · cases kind <;> exact hf
    · rw [windowClash_iff]
      rintro ⟨v, x, hv, hx, h, h'⟩
      have := ho v x hv hx
      dsimp only at h h'
      omega
  · refine refuses hs.1 ((takeMapDefine_of_ok hs i (inRange_iff.2 ⟨hb, h1, hc, hbc, ?_⟩)).trans (if_pos ?_))
    · cases kind <;> exact hf
    · exact windowClash_iff.2 ⟨v, x, hv, hx, h, h'⟩
  · refine refuses ht ?_
    cases hw : settableWindow w with
    | none => rw [takeMapDefine, hw]
    | some j =>
      have hout : ¬ (⟨base, count, kind, first⟩ : Window).inRange = true := by
        rw [inRange_iff]
        rintro ⟨a1, a2, a3, a4, a5⟩
        rcases h with h | h | h | h | h | h | h
        · rw [settableWindow_of_out (.inl h)] at hw; cases hw
        · rw [settableWindow_of_out (.inr h)] at hw; cases hw
        · exact absurd a1 (Nat.not_le.2 h)
        · exact absurd a2 (by simp [h])
        · exact absurd a3 (Nat.not_le.2 h)
        · exact absurd a4 (Nat.not_le.2 h)
        · cases kind <;> exact absurd a5 (Nat.not_le.2 h)
      rw [takeMapDefine, hw]
      exact if_pos (Bool.eq_false_iff.2 hout)
  · refine answers hs.1 ?_
    rw [takeMapNone, settableWindow_succ]
    exact settles hs rfl
  · refine refuses ht ?_
    rw [takeMapNone, settableWindow_of_out h]

/-- Settles O45: the one window that contains a fixture gives its element, and the lines act on that element. -/
theorem fixtureLines : Obligations.FixtureLines := by
  refine ⟨⟨elementOf_lamp, elementOf_flood, elementOf_axis⟩,
    fun c f w d hd h h' ho => fixture_of_window hd h h' ho, fun c f h => fixture_eq_none h, fun s f v ht =>
    ⟨fun hf u => ⟨refuses ht (if_pos hf), refuses ht (if_pos hf)⟩, fun hf => ⟨fun i hi => ⟨?_, fun u => ?_⟩,
      fun n hn => ⟨?_, ?_, fun t => ?_⟩, fun i hi => ⟨?_, fun t h => ?_, fun t h => ?_, ?_⟩,
      fun hn => ⟨?_, ?_, fun t h => ?_, fun t h => ?_⟩⟩⟩⟩
  · refine command_congr ((takeFree_of_lamp hf hi).trans ?_)
    rw [takeLampFree, asId_val]
  · refine command_congr ?_
    rw [takeLampLevel, asId_val]
    cases he : expiryValue u with
    | none => exact takeSet_of_late hf (by rw [hi]; simp) v he
    | some e => exact takeSet_of_lamp hf hi v he
  · refine command_congr ((takeSet_of_axis hf hn v none).trans ?_)
    rw [takeAxisSpeed, asId_val]; rfl
  · refine command_congr ((takeFree_of_axis hf hn).trans ?_)
    rw [takeAxisFree, asId_val]
  · exact refuses ht ((takeSet_of_axis hf hn v _).trans (if_pos rfl))
  · exact answers ht (takeSet_of_flood hf hi v rfl)
  · exact answers ht (takeSet_of_flood hf hi v (expiryValue_of_ok h))
  · exact refuses ht (takeSet_of_late hf (by rw [hi]; simp) v (expiryValue_of_not_ok h))
  · by_cases ho : s.sky.floods.get i = none
    · rw [if_pos ho]
      exact answers ht ((takeFree_of_flood hf hi).trans (congrArg taken (if_pos (by rw [ho]; rfl))))
    · rw [if_neg ho]
      exact answers ht ((takeFree_of_flood hf hi).trans (congrArg taken (if_neg (by simpa using ho))))
  · exact answers ht (takeFree_of_none hf hn)
  · exact answers ht (takeSet_of_none hf hn v rfl)
  · exact answers ht (takeSet_of_none hf hn v (expiryValue_of_ok h))
  · exact refuses ht (takeSet_of_late hf (by rw [hn]; simp) v (expiryValue_of_not_ok h))

end Sys2Proof.Proofs.Budget
end

section
-- One theorem after the other: side by side, waiting proofs would pile up.
set_option Elab.async false
/-! SUPPORT. Rotating fixtures, their programs, and the timetable. -/

namespace Sys2Proof.Machine

open Sys2Proof.Safety

/-! ## Programs (R160) -/

/-- In a list in time order every element is the last one or comes before it. -/
theorem eq_or_lt_getLast {ps : List (Nat × Nat)} (h : ps.Pairwise fun x y => x.1 < y.1) {p z : Nat × Nat}
    (hp : p ∈ ps) (hz : ps.getLast? = some z) : p = z ∨ p.1 < z.1 := by
  obtain ⟨qs, rfl⟩ := List.getLast?_eq_some_iff.1 hz
  rcases List.mem_append.1 hp with hp | hp
  · exact .inr ((List.pairwise_append.1 h).2.2 p hp z (by simp))
  · exact .inl (by simpa using hp)

/-- The point in force: the latest of those that have come. -/
theorem programValue_of_point {ps : List (Nat × Nat)} (h : ps.Pairwise fun x y => x.1 < y.1) {t : Nat}
    {p : Nat × Nat} (hp : p ∈ ps) (hpt : p.1 ≤ t) (hl : ∀ q ∈ ps, q.1 ≤ t → q.1 ≤ p.1) :
    programValue ps t = p.2 := by
  have hm : p ∈ ps.filter fun p => decide (p.1 ≤ t) := List.mem_filter.2 ⟨hp, by simpa using hpt⟩
  cases hz : (ps.filter fun p => decide (p.1 ≤ t)).getLast? with
  | none => rw [List.getLast?_eq_none_iff.1 hz] at hm; cases hm
  | some z =>
    obtain ⟨hzp, hzt⟩ := List.mem_filter.1 (List.mem_of_getLast? hz)
    rcases eq_or_lt_getLast (h.filter _) hm hz with e | hlt
    · rw [programValue, hz, e]
    · exact absurd (hl z hzp (by simpa using hzt)) (Nat.not_le.2 hlt)

/-- Before the first point of a day the last one is in force, carried over midnight. -/
theorem programValue_of_last {ps : List (Nat × Nat)} {t : Nat} {p : Nat × Nat} (hp : ps.getLast? = some p)
    (hl : ∀ q ∈ ps, t < q.1) : programValue ps t = p.2 := by
  have hnone : ps.filter (fun p => decide (p.1 ≤ t)) = [] :=
    List.filter_eq_nil_iff.2 fun q hq => by simpa using hl q hq
  rw [programValue, hnone, lastSpeed, hp]
  rfl

section
variable {s : State} (hs : settable s) {n : Axis} {t : TimeTok} (ht : timeOk t)
include hs ht

theorem takeAxisProgram_of_ok {v : Nat} (hv : v ≤ 600) : takeAxisProgram n.val t v s =
    if 8 ≤ (s.cfg.axes.get n).program.length ∧ ∀ p ∈ (s.cfg.axes.get n).program, p.1 ≠ secs t then refuse .full s
    else taken (setProgram n (putPoint (secs t) v (s.cfg.axes.get n).program) s) := by
  simp only [takeAxisProgram, asId_val, timeValue_of_ok ht, if_neg (Nat.not_lt.2 hv), unlessBusy_of_settable hs,
    State.axisDef, Config.maxProgramPoints, List.any_eq_true, beq_iff_eq, not_exists, not_and, ne_eq]

theorem takeAxisProgramDrop_of_ok : takeAxisProgramDrop n.val t s =
    if ∃ p ∈ (s.cfg.axes.get n).program, p.1 = secs t then
      taken (setProgram n ((s.cfg.axes.get n).program.filter fun p => p.1 != secs t) s)
    else refuse .unknown s := by
  simp only [takeAxisProgramDrop, asId_val, timeValue_of_ok ht, unlessBusy_of_settable hs, State.axisDef,
    List.any_eq_true, beq_iff_eq]

end

/-! ## The settings of an axis (R169) -/

theorem defineAxis_of_in {s : State} (hs : settable s) (n : Axis) {lo hi v : Nat} (h : lo ≤ v) (h' : v ≤ hi)
    (f : AxisDef → AxisDef) : defineAxis n.val lo hi v f s = taken (setAxisDef n f s) := by
  rw [defineAxis, asId_val]
  exact (if_neg (by omega)).trans (settles hs rfl)

theorem defineAxis_of_out (s : State) (n : Axis) {lo hi v : Nat} (h : v < lo ∨ hi < v) (f : AxisDef → AxisDef) :
    defineAxis n.val lo hi v f s = refuse .range s := by
  rw [defineAxis, asId_val]
  exact if_pos h

/-! ## The update tick (R161, R162) -/

theorem slewStep_eq_max (w : Nat) : slewStep w = max 1 (w / 10) := by
  unfold slewStep; split <;> omega

theorem axisLimit_iff (a : Account) : a.axisLimit = true ↔ a.level = .axesLimited ∨ a.level = .departuresHeld := by
  cases h : a.level <;> simp [Account.axisLimit, h]

theorem commanded_eq (s : State) (n : Axis) : s.commanded n =
    if s.account.level = .axesLimited ∨ s.account.level = .departuresHeld
    then ((s.axes.get n).override.getD (s.axes.get n).program) / 2
    else (s.axes.get n).override.getD (s.axes.get n).program := by
  simp only [State.commanded, axisLimit_iff]

/-- A duty request reads the channels and the halt alone. -/
theorem dutyRequest_channels_congr {s t : State} (hc : t.channels = s.channels) (hh : t.halt = s.halt) (c : Channel)
    (p : Drive) : (dutyRequest c p t).channels = (dutyRequest c p s).channels := by
  unfold dutyRequest
  rw [hc, hh]
  split
  · exact hc
  · simp [hc]

@[simp] theorem dutyRequest_axes (c : Channel) (p : Drive) (s : State) : (dutyRequest c p s).axes = s.axes := by
  unfold dutyRequest; split <;> rfl

/-- The tick's record of an axis, sent with its duty (R162). -/
theorem updateTick_of_ready {s : State} (h : s.sys.ready = true) (n : Axis) : updateTick n s =
    dutyRequest (axisChannel n)
      ⟨(startOrStop (s.cfg.axes.get n) (slewAxis (s.cfg.axes.get n) (s.commanded n) (s.axes.get n))).duty,
        (s.cfg.axes.get n).direction⟩
      (s.withAxes (s.axes.set n
        (startOrStop (s.cfg.axes.get n) (slewAxis (s.cfg.axes.get n) (s.commanded n) (s.axes.get n))))) := by
  rw [updateTick, if_pos h, sendAxisDuty]
  simp only [State.modAxis, State.withAxes_axes, Table.get_modify_self]
  rfl

/-! ## Index events (R163, R164) -/

theorem indexEvent_axes (n : Axis) (stamp : Nat) (s : State) : (indexEvent n stamp s).axes =
    s.axes.set n (indexAxis (s.cfg.axes.get n) s.freeDraws stamp (s.axes.get n)) := by
  simp only [indexEvent, sendAxisDuty]
  split_ifs
  · rfl
  · rw [dutyRequest_axes]; rfl
  · rfl
  · rw [dutyRequest_axes]; rfl

/-- A changed duty is sent at once, and no other reaches the channels. -/
theorem indexEvent_channels (n : Axis) (stamp : Nat) (s : State) {b : AxisRun}
    (hb : b = indexAxis (s.cfg.axes.get n) s.freeDraws stamp (s.axes.get n)) : (indexEvent n stamp s).channels =
      if b.duty = (s.axes.get n).duty then s.channels
      else (dutyRequest (axisChannel n) ⟨b.duty, (s.cfg.axes.get n).direction⟩ s).channels := by
  subst hb
  obtain ⟨v, hv, hax, hcfg, hch, hhalt⟩ : ∃ v : State,
      indexEvent n stamp s = (if (v.axes.get n).duty = (s.axes.get n).duty then v else sendAxisDuty n v) ∧
      v.axes.get n = indexAxis (s.cfg.axes.get n) s.freeDraws stamp (s.axes.get n) ∧ v.cfg = s.cfg ∧
      v.channels = s.channels ∧ v.halt = s.halt := by
    refine ⟨_, rfl, ?_⟩
    split_ifs <;> exact ⟨Table.get_modify_self _ _ _, rfl, rfl, rfl⟩
  rw [hv, hax, apply_ite State.channels, hch, sendAxisDuty, State.axisDef, hax, hcfg]
  split
  · rfl
  · exact dutyRequest_channels_congr hch hhalt _ _

theorem indexAxis_of_rest {a : AxisRun} (h : a.state = .stopped ∨ a.state = .stalled ∨ a.state = .halted)
    (d : AxisDef) (draw stamp : Nat) : indexAxis d draw stamp a = { a with last := some stamp } := by
  rcases h with h | h | h <;> simp only [indexAxis, h]

theorem measuredSpeed_le (draw : Nat) (stamp : Nat) : measuredSpeed draw none stamp ≤ 6000 := Nat.min_le_left _ _

end Sys2Proof.Machine
end

section
namespace Sys2Proof.Proofs.Axes

open Sys2Proof.Machine Sys2Proof.Safety

/-- Settles O40: an edit is an insertion in time order, and the point in force is the last that has come. -/
theorem axisPrograms : Obligations.AxisPrograms := by
  refine ⟨fun ps t h => ⟨fun p hp hpt hl => programValue_of_point h hp hpt hl,
    fun p hp hl => programValue_of_last hp hl, rfl⟩, fun s n old put hs hlists hold hput => ?_⟩
  have hord : old.Pairwise fun x y => x.1 < y.1 := hold ▸ (hlists.1.2.2.2.2.2 n).1
  subst hold
  have put_eq : ∀ ps, put ps = setProgram n ps s := hput
  refine ⟨fun t v ht hv hroom => ?_, fun t v ht hv hno hfull => ?_, fun t v h => ?_, fun t ht h => ?_,
    fun t ht h => ?_, ?_⟩
  · refine ⟨putPoint (secs t) v (s.cfg.axes.get n).program, answers hs.1 ?_, ?_, fun p => ?_⟩
    · rw [takeAxisProgram_of_ok hs ht hv, put_eq]
      refine if_neg fun ⟨hfull, hno⟩ => ?_
      rcases hroom with ⟨p, hp, e⟩ | h
      · exact hno p hp e
      · omega
    · rw [putPoint_eq]; exact putKey_sorted _ _ hord
    · rw [putPoint_eq]; exact mem_putKey _ _ hord p
  · exact refuses hs.1 ((takeAxisProgram_of_ok hs ht hv).trans (if_pos ⟨hfull.ge, hno⟩))
  · refine refuses hs.1 ?_
    by_cases ht : timeOk t
    · rw [takeAxisProgram, asId_val, timeValue_of_ok ht]
      exact if_pos (h.resolve_left (not_not_intro ht))
    · rw [takeAxisProgram, asId_val, timeValue_of_not_ok ht]
  · rw [put_eq]; exact answers hs.1 ((takeAxisProgramDrop_of_ok hs ht).trans (if_pos h))
  · exact refuses hs.1 ((takeAxisProgramDrop_of_ok hs ht).trans (if_neg fun ⟨p, hp, e⟩ => h p hp e))
  · refine answers hs.1 ?_
    rw [takeAxisProgramNone, asId_val, put_eq]
    exact settles hs rfl

/-- Settles O41: each definition is taken in its range, and each live cue by the axis's state. -/
theorem axisSettings : Obligations.AxisSettings := by
  rintro s n a put rfl hput
  have put_eq : ∀ f, put f = setAxisDef n f s := hput
  simp only [put_eq]
  refine ⟨fun v ht => ?_, fun ht => ?_, fun ht hst hc => ?_, fun ht hst hc => ?_, fun ht hst => ?_,
    fun p hs h => ?_, fun p hs h => ?_, fun g hs h h' => answers hs.1 (defineAxis_of_in hs n h h' _),
    fun k hs h => answers hs.1 (defineAxis_of_in hs n (Nat.zero_le k) h _),
    fun k hs h h' => answers hs.1 (defineAxis_of_in hs n h h' _),
    fun ms hs h h' => answers hs.1 (defineAxis_of_in hs n h h' _),
    fun w hs h h' => answers hs.1 (defineAxis_of_in hs n h h' _), fun v ht => ⟨fun h => ?_, fun h => ?_, fun h => ?_,
    fun h => ?_, fun h => ?_⟩⟩
  · refine answers ht ?_
    rw [takeAxisSpeed, asId_val]; rfl
  · refine answers ht ?_
    rw [takeAxisFree, asId_val]; rfl
  · refine answers ht ?_
    rw [takeAxisClear, asId_val]
    exact (if_neg (not_not_intro hst)).trans (if_neg hc)
  · refine refuses ht ?_
    rw [takeAxisClear, asId_val]
    exact (if_neg (not_not_intro hst)).trans (if_pos hc)
  · refine refuses ht ?_
    rw [takeAxisClear, asId_val]
    exact if_pos hst
  · refine answers hs.1 ?_
    rw [takeAxisDirection, asId_val]
    refine settles hs (if_pos ?_)
    rcases h with h | h | h <;> simp only [AxisRun.mayTurn, h]
  · refine refuses hs.1 ?_
    rw [takeAxisDirection, asId_val]
    refine settles hs (if_neg ?_)
    rcases h with h | h | h <;> simp [AxisRun.mayTurn, h]
  · exact refuses ht (defineAxis_of_out s n (by omega) _)
  · exact refuses ht (defineAxis_of_out s n (by omega) _)
  · exact refuses ht (defineAxis_of_out s n (by omega) _)
  · exact refuses ht (defineAxis_of_out s n (by omega) _)
  · exact refuses ht (defineAxis_of_out s n (by omega) _)

/-- Settles O38: an entry is inserted in order of time and train where none stands at both. -/
theorem timetableLines : Obligations.TimetableLines := by
  intro s hs hlists
  have hord := (timetable_sorted_iff _).1 hlists.1.2.2.2.1
  have any_at : ∀ (t : Nat) (n : Train), (s.cfg.timetable.any fun e => e.isAt t n) = true ↔
      ∃ e ∈ s.cfg.timetable, e.time = t ∧ e.train = n := fun t n => by simp [TimeEntry.isAt]
  refine ⟨fun t n r ht hl hno => ?_, fun t n r e ht he het hen => ⟨?_, ?_⟩, fun t n r ht hl hno => ⟨?_, ?_⟩,
    fun on => answers hs.1 (settles hs rfl)⟩
  · have hfree : ∀ x ∈ s.cfg.timetable, (⟨secs t, n, r⟩ : TimeEntry).key ≠ x.key := fun x hx e =>
      hno x hx ((TimeEntry.key_eq _ _).1 e.symm)
    refine ⟨insertEntry ⟨secs t, n, r⟩ s.cfg.timetable, answers hs.1 ?_, ?_, fun e => ?_⟩
    · rw [takeTimetableAdd, timeValue_of_ok ht, asId_val, asId_val]
      refine settles hs ((if_neg ?_).trans (if_neg (Nat.not_le.2 hl)))
      exact fun h => ((any_at _ _).1 h).elim fun e he => hno e he.1 he.2
    · rw [timetable_sorted_iff, insertEntry_eq hfree]
      exact putKey_sorted _ _ hord
    · rw [insertEntry_eq hfree, mem_putKey _ _ hord]
      exact or_congr_left ⟨And.left, fun h => ⟨h, (hfree e h).symm⟩⟩
  · refine refuses hs.1 ?_
    rw [takeTimetableAdd, timeValue_of_ok ht, asId_val, asId_val]
    exact settles hs (if_pos ((any_at _ _).2 ⟨e, he, het, hen⟩))
  · refine answers hs.1 ?_
    rw [takeTimetableDrop, timeValue_of_ok ht, asId_val]
    exact settles hs (if_pos ((any_at _ _).2 ⟨e, he, het, hen⟩))
  · refine refuses hs.1 ?_
    rw [takeTimetableAdd, timeValue_of_ok ht, asId_val, asId_val]
    refine settles hs ((if_neg ?_).trans (if_pos hl.ge))
    exact fun h => ((any_at _ _).1 h).elim fun e he => hno e he.1 he.2
  · refine refuses hs.1 ?_
    rw [takeTimetableDrop, timeValue_of_ok ht, asId_val]
    refine settles hs (if_neg ?_)
    exact fun h => ((any_at _ _).1 h).elim fun e he => hno e he.1 he.2

/-- Settles O42: the tick and the index event change one record, and send its duty. -/
theorem axisEvents : Obligations.AxisEvents := by
  refine ⟨?_, ?_⟩
  · rintro s n a b d cue cmd step goal hr rfl rfl rfl hcmd hstep hgoal
    refine ⟨fun h => happens hr (by simp [updateTick, h]), fun h hb => happens hr ?_⟩
    have hgoal' : slewToward (slewStep (s.cfg.axes.get n).slew) (s.commanded n) (s.axes.get n).target = goal := by
      rw [slewStep_eq_max, ← hstep, commanded_eq, ← hcmd, hgoal]; rfl
    have hb' : startOrStop (s.cfg.axes.get n) (slewAxis (s.cfg.axes.get n) (s.commanded n) (s.axes.get n)) = b := by
      rw [hb]
      cases hst : (s.axes.get n).state <;> simp only [slewAxis, hst, hgoal', startOrStop]
      case stopped =>
        by_cases h0 : 0 < goal
        · simp only [if_pos h0]
        · simp only [show goal = 0 by omega]
      case starting | running =>
        by_cases h0 : goal = 0
        · simp only [if_pos h0, AxisRun.beginStop]; rw [h0]
        · simp only [if_neg h0]
    rw [updateTick_of_ready h, hb']
  · rintro s n a d rfl rfl
    refine ⟨fun stamp => ⟨_, indexEvent_axes n stamp s, indexEvent_channels n stamp s rfl,
      fun h => indexAxis_of_rest h _ _ _, fun h => ?_, fun l m hl hm => ⟨fun h => ?_, fun h => ?_⟩, fun hl h => ?_⟩,
      fun hr h => happens hr ?_, fun hr h => happens hr ?_, fun hr h => happens hr (if_pos h),
      fun hr h => happens hr (if_neg (by rw [h]; decide))⟩
    · simp only [indexAxis, h]
    · simp only [indexAxis, h, hl, measuredSpeed, speedFrom, hm]; rfl
    · simp only [indexAxis, h, hl, measuredSpeed, speedFrom, hm]; rfl
    · rcases h with h | h <;> simp only [indexAxis, h, hl] <;> exact ⟨measuredSpeed_le _ _, trivial, trivial⟩
    · rw [stallExpiry, h]
    · obtain ⟨v, hv⟩ := Option.ne_none_iff_exists'.1 h
      rw [stallExpiry, hv, sendAxisDuty]
      simp only [State.modAxis, State.withAxes_axes, Table.get_modify_self]
      rfl

end Sys2Proof.Proofs.Axes
end

section
-- One theorem after the other: side by side, waiting proofs would pile up.
set_option Elab.async false
/-! SUPPORT. The definition lines of a train. -/

namespace Sys2Proof.Machine

open Sys2Proof.Safety

/-! ## Lines about one train (R156) -/

theorem trainLine_of_taken {n : Train} {f : Train → State → Ans} {s t : State} {r : Reply} (h : f n s = (t, r))
    (hr : ∀ x, r ≠ .no x) : trainLine n.val f s = (restartCabTimer n t, r) := by
  simp only [trainLine, asId_val, h]

theorem trainLine_of_ok {n : Train} {f : Train → State → Ans} {s t : State} (h : f n s = taken t) :
    trainLine n.val f s = (restartCabTimer n t, .ok) := trainLine_of_taken h fun _ => nofun

theorem trainLine_of_refused {n : Train} {f : Train → State → Ans} {s : State} {r : Reason}
    (h : f n s = refuse r s) : trainLine n.val f s = refuse r s := by
  simp only [trainLine, asId_val, h]; rfl

theorem okOr_ne_no (b : Bool) (x : Reason) : okOr b ≠ .no x := by cases b <;> nofun

theorem restartCabTimer_of_route {s : State} {n : Train} (h : (s.trains.get n).mode = .route) :
    restartCabTimer n s = s := by simp only [restartCabTimer, h]

theorem restartCabTimer_of_cab {s : State} {n : Train} (h : (s.trains.get n).mode = .cab) :
    restartCabTimer n s = s.modTrain n fun y => { y with cabTimer := some (s.cfg.trains.get n).cabTime } := by
  simp only [restartCabTimer, h]; rfl

/-- A definition of a train that is taken, and the timer it restarts. -/
theorem trainLine_of_definition {n : Train} {f : Train → State → Ans} {g : TrainDef → TrainDef} {s : State}
    (hs : settable s) (h : f n s = defineTrain n g s) : trainLine n.val f s =
      (restartCabTimer n (setting s fun c => { c with trains := c.trains.modify n g }), .ok) :=
  trainLine_of_ok (h.trans (unlessBusy_of_settable hs))

/-! ## The fields of a train (R158) -/

theorem putEntries_get {ps : List (Nat × Nat)} {st : Nat} (h : st + ps.length ≤ 32) (t : Table (Nat × Nat) 32)
    (i : Fin 32) : (putEntries st ps t).get i =
      if st ≤ i.val then (ps[i.val - st]?).getD (t.get i) else t.get i := by
  induction ps generalizing st t with
  | nil => simp [putEntries]
  | cons p ps ih =>
    rw [List.length_cons] at h
    have hst : asId 32 st = some ⟨st, by omega⟩ := asId_eq_some.2 rfl
    simp only [putEntries, hst]
    rw [ih (by omega)]
    rcases Nat.lt_trichotomy i.val st with hi | hi | hi
    · have hne : i ≠ ⟨st, by omega⟩ := fun e => by rw [e] at hi; exact absurd hi (Nat.lt_irrefl st)
      rw [if_neg (by omega), if_neg (by omega), Table.get_set_of_ne _ _ hne]
    · have he : i = ⟨st, by omega⟩ := Fin.ext hi
      rw [if_neg (by omega), if_pos (by omega), he, Table.get_set_self]
      simp
    · have hne : i ≠ ⟨st, by omega⟩ := fun e => by rw [e] at hi; exact absurd hi (Nat.lt_irrefl st)
      obtain ⟨k, hk⟩ : ∃ k, i.val - st = k + 1 := ⟨i.val - st - 1, by omega⟩
      have hk' : i.val - (st + 1) = k := by omega
      rw [if_pos (by omega), if_pos (by omega), Table.get_set_of_ne _ _ hne, hk, hk', List.getElem?_cons_succ]

/-- A name of capitals and digits is written as it stands. -/
theorem map_toUpper_of_name {x : List Char} (h : ∀ c ∈ x, c.isUpper = true ∨ c.isDigit = true) :
    x.map Char.toUpper = x := by
  refine (List.map_congr_left fun c hc => ?_).trans (List.map_id x)
  refine plainChar_toUpper ?_
  rcases h c hc with hu | hd
  · have hname : nameOk [c] = true := by simp [nameOk, hu, Config.maxLine]
    simpa using (plainToken_name hname).2
  · exact plainChar_of_isDigit hd

theorem takeTrainName_of_name {x : List Char} (hne : x ≠ []) (h : ∀ c ∈ x, c.isUpper = true ∨ c.isDigit = true)
    (n : Nat) (s : State) : takeTrainName n x s = trainLine n (nameAct x) s := by
  refine if_neg ?_
  rintro (e | h')
  · exact hne e
  · refine h' (List.all_eq_true.2 fun c hc => ?_)
    rcases h c hc with hu | hd <;> simp [isLetterOrDigit, *]

theorem takeTrainTable_of_pairs {pairs : List (Nat × Nat)} (hne : pairs ≠ []) (n st : Nat) (s : State) :
    takeTrainTable n st pairs s = trainLine n (tableAct st pairs) s := if_neg hne

theorem tableAct_of_ok {st : Nat} {pairs : List (Nat × Nat)} (h1 : 1 ≤ st) (hne : pairs ≠ [])
    (hl : st + pairs.length ≤ 32) (hp : ∀ p ∈ pairs, p.1 ≤ 255 ∧ p.2 ≤ 999) (n : Train) (s : State) :
    tableAct st pairs n s = defineTrain n (fun d => { d with table := putEntries st pairs d.table }) s := by
  have hpos : 0 < pairs.length := List.length_pos_iff.2 hne
  refine if_neg ?_
  rintro (h | h | h | h)
  · omega
  · omega
  · omega
  · obtain ⟨p, hm, hb⟩ := List.any_eq_true.1 h
    simp only [Bool.or_eq_true, decide_eq_true_eq] at hb
    have := hp p hm
    omega

theorem tableAct_of_out {st : Nat} {pairs : List (Nat × Nat)}
    (h : st = 0 ∨ 31 < st ∨ 32 < st + pairs.length ∨ ∃ p ∈ pairs, 255 < p.1 ∨ 999 < p.2) (n : Train) (s : State) :
    tableAct st pairs n s = refuse .range s := by
  refine if_pos ?_
  rcases h with h | h | h | ⟨p, hm, hb⟩
  · exact .inl (by omega)
  · exact .inr (.inl h)
  · exact .inr (.inr (.inl h))
  · exact .inr (.inr (.inr (List.any_eq_true.2 ⟨p, hm, by simpa using hb⟩)))

end Sys2Proof.Machine
end

section
namespace Sys2Proof.Proofs.Trains

open Sys2Proof.Machine Sys2Proof.Safety

/-- Settles O39: each line is a definition in its range, or refused outside it. -/
theorem trainDefinitions : Obligations.TrainDefinitions := by
  intro s n hs
  refine ⟨fun u h => restartCabTimer_of_route h, fun u h => restartCabTimer_of_cab h, fun x h1 h8 hx => ?_,
    fun mm h h' => answers hs.1 (trainLine_of_definition hs (if_neg (by omega))), fun st pairs h1 hne hl hp => ?_,
    fun a d ha ha' hd hd' => answers hs.1 (trainLine_of_definition hs (if_neg (by omega))),
    fun k h h' => answers hs.1 (trainLine_of_definition hs (if_neg (by omega))), fun x e => ?_,
    answers hs.1 (trainLine_of_definition hs rfl),
    fun k h h' => answers hs.1 (trainLine_of_definition hs (if_neg (by omega))), fun st => ?_,
    fun mm h => refuses hs.1 (trainLine_of_refused (if_pos h)),
    fun k h => refuses hs.1 (trainLine_of_refused (if_pos h)),
    fun k h => refuses hs.1 (trainLine_of_refused (if_pos h)),
    fun a d h => refuses hs.1 (trainLine_of_refused (if_pos h)), fun st pairs hne h => ?_, fun x h8 hx => ?_,
    fun x e hx => ?_⟩
  · have hne : x ≠ [] := fun e => by rw [e] at h1; cases h1
    refine answers hs.1 ((takeTrainName_of_name hne hx _ s).trans (trainLine_of_definition hs ?_))
    rw [nameAct, if_neg (Nat.not_lt.2 h8), map_toUpper_of_name hx]
  · refine ⟨putEntries st pairs (s.cfg.trains.get n).table, answers hs.1 ?_, putEntries_get hl _⟩
    rw [takeTrainTable_of_pairs hne]
    exact trainLine_of_definition hs (tableAct_of_ok h1 hne hl hp n s)
  · refine answers hs.1 (trainLine_of_definition hs ?_)
    rw [homeAct, asId_val]
  · refine answers hs.1 (trainLine_of_taken ((unlessBusy_of_settable hs).trans rfl) (okOr_ne_no _))
  · exact refuses hs.1 ((takeTrainTable_of_pairs hne _ _ s).trans (trainLine_of_refused (tableAct_of_out h n s)))
  · have hne : x ≠ [] := fun e => by rw [e] at h8; exact absurd h8 (by decide)
    exact refuses hs.1 ((takeTrainName_of_name hne hx _ s).trans (trainLine_of_refused (if_pos h8)))
  · refine refuses hs.1 (trainLine_of_refused ?_)
    rw [homeAct, asId_eq_none.2 hx]

end Sys2Proof.Proofs.Trains
end

section
-- One theorem after the other: side by side, waiting proofs would pile up.
set_option Elab.async false
/-! SUPPORT. What duty requests leave of the channels, and what the reservations leave of the units and trains:
grants, releases, requests, withdrawals and occupancy notices. -/

namespace Sys2Proof.Machine

open Sys2Proof.Safety

/-! ## Duty requests over sections (R58, R128, R129) -/

theorem sectionChannel_inj {x y : Section} : sectionChannel x = sectionChannel y ↔ x = y := by
  simp [sectionChannel, Fin.ext_iff]

theorem dutyRequest_channel (c d : Channel) (p : Drive) (s : State) :
    (dutyRequest c p s).channels.get d =
      if d = c ∧ s.halt = false ∧ (s.channels.get d).state ≠ .cut then { s.channels.get d with staged := some p }
      else s.channels.get d := by
  by_cases h : s.halt = true ∨ (s.channels.get c).state = .cut
  · rw [dutyRequest_of_shut h, if_neg]
    rintro ⟨rfl, hh, hc⟩
    exact h.elim (by simp [hh]) hc
  · obtain ⟨hh, hc⟩ := not_or.1 h
    rw [Bool.not_eq_true] at hh
    rw [dutyRequest_of_open hh hc, State.modChannel_channels, Table.get_modify]
    by_cases hd : d = c
    · subst hd; simp [hh, hc]
    · simp [hd]

/-- A channel at rest: duty 0 asked for in its applied polarity (R129). -/
def ChannelRun.atRest (g : ChannelRun) : ChannelRun := { g with staged := some ⟨0, g.applied.pol⟩ }

theorem ChannelRun.atRest_eq (g : ChannelRun) : g.atRest = { g with staged := some ⟨0, g.applied.pol⟩ } := rfl

theorem restSection_channel (s : State) (x : Section) (d : Channel) :
    (restSection s x).channels.get d =
      if d = sectionChannel x ∧ s.halt = false ∧ (s.channels.get d).state ≠ .cut then (s.channels.get d).atRest
      else s.channels.get d := by
  rw [restSection, dutyZero, dutyRequest_channel]
  by_cases h : d = sectionChannel x
  · subst h; rfl
  · simp [h]

/-- Duty 0 over some sections: each open channel of theirs is at rest. -/
theorem restSections_channel (xs : List Section) (s : State) (d : Channel) :
    (xs.foldl restSection s).channels.get d =
      if (∃ x ∈ xs, sectionChannel x = d) ∧ s.halt = false ∧ (s.channels.get d).state ≠ .cut
      then (s.channels.get d).atRest else s.channels.get d := by
  induction xs generalizing s with
  | nil => simp
  | cons x xs ih =>
    have hhalt : (restSection s x).halt = s.halt := Traffic.halt (restSection_asks s x).toTraffic
    have hstate : ((restSection s x).channels.get d).state = (s.channels.get d).state := by
      rw [(restSection_asks s x).asks d]
    rw [List.foldl_cons, ih, hhalt, hstate, restSection_channel]
    by_cases hopen : s.halt = false ∧ (s.channels.get d).state ≠ .cut
    · by_cases hx : sectionChannel x = d
      · simp [hopen, hx, ChannelRun.atRest_eq]
      · simp [hopen, hx, Ne.symm hx]
    · have h2 : ∀ p : Prop, ¬ (p ∧ s.halt = false ∧ (s.channels.get d).state ≠ .cut) := fun p h => hopen h.2
      rw [if_neg (h2 _), if_neg (h2 _), if_neg (h2 _)]

theorem restSections_staged {xs : List Section} {s : State} {x : Section} (hx : x ∈ xs) (hh : s.halt = false)
    (hc : (s.channels.get (sectionChannel x)).state ≠ .cut) :
    ((xs.foldl restSection s).channels.get (sectionChannel x)).staged =
      some ⟨0, (s.channels.get (sectionChannel x)).applied.pol⟩ := by
  rw [restSections_channel, if_pos ⟨⟨x, hx, rfl⟩, hh, hc⟩]; rfl

theorem driveSection_channel (duty : Nat) (s : State) (e : SpanElt) (d : Channel) :
    (driveSection duty s e).channels.get d =
      if d = sectionChannel e.sec ∧ s.halt = false ∧ (s.channels.get d).state ≠ .cut
      then { s.channels.get d with staged := some ⟨duty, travelPol e.entry⟩ } else s.channels.get d :=
  dutyRequest_channel ..

/-- A duty sent over some elements: a channel that none of them has keeps its staged pair. -/
theorem driveSections_channel_other {duty : Nat} {es : List SpanElt} {s : State} {d : Channel}
    (h : ∀ e ∈ es, sectionChannel e.sec ≠ d) :
    (es.foldl (driveSection duty) s).channels.get d = s.channels.get d := by
  induction es generalizing s with
  | nil => rfl
  | cons e es ih =>
    rw [List.foldl_cons, ih fun x hx => h x (.tail _ hx), driveSection_channel, if_neg]
    exact fun hd => h e (.head _) hd.1.symm

/-- A duty sent over some elements: the open channel of a section whose elements agree has it, in their travel
polarity. -/
theorem driveSections_staged {duty : Nat} {es : List SpanElt} {s : State} {e : SpanElt} (he : e ∈ es)
    (hone : ∀ f ∈ es, f.sec = e.sec → f = e) (hh : s.halt = false)
    (hc : (s.channels.get (sectionChannel e.sec)).state ≠ .cut) :
    ((es.foldl (driveSection duty) s).channels.get (sectionChannel e.sec)).staged =
      some ⟨duty, travelPol e.entry⟩ := by
  induction es using List.reverseRecOn with
  | nil => cases he
  | append_singleton es f ih =>
    have hasks := driveSections_asks duty es s
    have hhalt : (es.foldl (driveSection duty) s).halt = false := (Traffic.halt hasks.toTraffic).trans hh
    rw [List.foldl_append, List.foldl_cons, List.foldl_nil, driveSection_channel]
    by_cases hf : f.sec = e.sec
    · obtain rfl : f = e := hone f (by simp) hf
      rw [if_pos ⟨rfl, hhalt, by rw [hasks.asks]; exact hc⟩]
    · rw [if_neg fun hd => hf (sectionChannel_inj.1 hd.1).symm]
      refine ih ?_ fun g hg => hone g (by simp [hg])
      rcases List.mem_append.1 he with h | h
      · exact h
      · exact absurd (List.mem_singleton.1 h).symm (fun e' => hf (by rw [e']))

/-! ## Units, holders and sections (R112) -/

theorem occupied_eq (s : State) (x : Section) : s.occupied x = (s.sense.filters.get x).occupied := rfl

theorem blocked_iff (s : State) (u : Section) : s.blocked u = true ↔
    (s.units.get u).holder = none ∧ ∃ y, s.cfg.unitKey y = some u ∧ s.occupied y = true := by
  simp [State.blocked, Scene.unitSections]

theorem blocked_of_free {s : State} {u : Section} (h : (s.units.get u).holder = none) :
    s.blocked u = true ↔ ∃ y, s.cfg.unitKey y = some u ∧ s.occupied y = true := by
  rw [blocked_iff]; exact and_iff_right h

theorem mem_unitSections {c : Scene} {u x : Section} : x ∈ c.unitSections u ↔ c.unitKey x = some u := by
  simp [Scene.unitSections]

theorem holds_iff (s : State) (n : Train) (x : Section) : s.holds n x = true ↔
    ∃ u, s.cfg.unitKey x = some u ∧ u ∈ (s.trains.get n).holdings := by
  unfold State.holds
  cases h : s.cfg.unitKey x <;> simp

end Sys2Proof.Machine
end

section
-- One theorem after the other: side by side, waiting proofs would pile up.
set_option Elab.async false
/-! SUPPORT. The bell and the store, and the queries of the light: what each answers. -/

namespace Sys2Proof.Machine

open Sys2Proof.Safety

/-! ## Queries -/

/-- A query that the part takes is answered with its data, and changes nothing but the reply order (R184). -/
theorem tells {f : State → Ans} {s : State} {ts : List Tok} (h : takes s) (e : f s = answered ts s) :
    command f s = replies s (.data ts) := answers h e

/-! ## The bell (R110, R111) -/

theorem bellDue_iff (s : State) : s.bellDue = true ↔ s.bell.quiet = false ∧
    ∃ k d, s.cfg.crossings.get k = some d ∧ d.bell = true ∧ (s.crossings.get k).state ≠ .idle := by
  have hwarns (r : CrossingRun) : r.warns = true ↔ r.state ≠ .idle := by
    cases h : r.state <;> simp [CrossingRun.warns, h]
  unfold State.bellDue
  simp only [Bool.and_eq_true, Bool.not_eq_true', List.any_eq_true, mem_ids, true_and]
  refine and_congr_right fun _ => exists_congr fun k => ?_
  cases s.cfg.crossings.get k <;> simp [hwarns]

/-- A due bell that is silent starts high, with the half-period of the tone. -/
theorem bellUpdate_of_start {s : State} (h : s.bellDue = true) (hs : s.bell.sounding = false) :
    bellUpdate s = s.withBell { s.bell with
      sounding := true, output := true, halfPeriod := some (halfPeriodOf s.cfg.bellTone) } := by
  rw [bellUpdate, if_pos h, if_neg (by simp [hs])]

theorem bellUpdate_of_sounding {s : State} (h : s.bellDue = true) (hs : s.bell.sounding = true) :
    bellUpdate s = s := by rw [bellUpdate, if_pos h, if_pos hs]

/-- A bell that is not due stops low. -/
theorem bellUpdate_of_stop {s : State} (h : s.bellDue = false) :
    bellUpdate s = s.withBell { s.bell with sounding := false, output := false, halfPeriod := none } := by
  rw [bellUpdate, if_neg (by simp [h])]

theorem bellExpiry_of_running {s : State} (h : s.bell.halfPeriod ≠ none) : bellExpiry s = s.withBell { s.bell with
    output := !s.bell.output, halfPeriod := some (halfPeriodOf s.cfg.bellTone) } := by
  obtain ⟨k, hk⟩ := Option.ne_none_iff_exists'.1 h
  simp only [bellExpiry, hk]

theorem bellExpiry_of_stopped {s : State} (h : s.bell.halfPeriod = none) : bellExpiry s = s := by
  simp only [bellExpiry, h]

theorem inQuietWindow_iff (f e t : Nat) : inQuietWindow (some (f, e)) t = true ↔
    if f < e then f ≤ t ∧ t < e else f ≤ t ∨ t < e := by
  simp only [inQuietWindow]; split <;> simp

theorem bellOut_of_runs {s : State} (h : runs s) : bellOut s = s.bell.output := by
  rw [bellOut, show s.sys.rstHeld = false from h]; rfl

/-! ## The store (R194, R195) -/

theorem store_free_iff (x : Store) : x.free = true ↔ x.state = .valid ∨ x.state = .invalid := by
  cases h : x.state <;> simp [Store.free, h]

theorem busy_iff (s : State) : s.busy = true ↔ s.store.state = .saving := by
  cases h : s.store.state <;> simp [State.busy, h]

/-- Once a `RESET` is taken no line has an effect (R196). -/
theorem exec_of_closed {i : Instr} {s : State} (h : isLine i) (hc : s.line.closed = true) : exec i s = .next s := by
  have hclosed (f : State → Ans) : lineCommand f s = .next s := by rw [lineCommand, if_pos (by simp [hc])]
  by_cases hs : i = .status
  · subst hs; exact hclosed _
  · rw [exec_of_line s h hs]; exact hclosed _

/-! ## Queries of the light (R16, R20, R28) -/

theorem keyframeToks_eq (k : Keyframe) : keyframeToks k = [.time k.time, transitionTok k.tr, .num k.red,
    .num k.green, .num k.blue, .num k.ambient] ++ k.pairs.flatMap fun p => [.word .g, .num p.1.val, .num p.2] := rfl

theorem groupToks_of_dimmed {d : GroupDef} {r : GroupRun} (h : d.kind = .dimmed) :
    groupToks d r = [.word .dimmed, curveTok d.curve] := by simp only [groupToks, h]

end Sys2Proof.Machine
end

section

namespace Sys2Proof.Proofs.BellAndStore

open Sys2Proof.Machine Sys2Proof.Safety

/-- Settles O26: the bell's test starts it high and stops it low, and each expiry turns its output. -/
theorem bellSettings : Obligations.BellSettings := by
  intro s
  refine ⟨bellDue_iff s, fun h hp => happens h (bellExpiry_of_running hp),
    fun h hp => happens h (bellExpiry_of_stopped hp), fun hz hs h1 h2 => ?_, fun hz ht h => ?_,
    fun f t q u hs hf ht hne hq hu => ?_, fun f t hs hf ht he => ?_, fun hs => ?_, fun h => ?_⟩
  · exact answers hs.1 ((if_neg (by omega)).trans (settles hs rfl))
  · exact refuses ht (if_pos h)
  · obtain rfl : q = inQuietWindow (some (secs f, secs t)) s.clock.time :=
      Bool.eq_iff_iff.2 (hq.trans (inQuietWindow_iff ..).symm)
    subst hu
    refine answers hs.1 ?_
    rw [takeBellQuiet, timeValue_of_ok hf, timeValue_of_ok ht]
    exact (if_neg hne).trans (settles hs rfl)
  · refine refuses hs ?_
    rw [takeBellQuiet, timeValue_of_ok hf, timeValue_of_ok ht]
    exact if_pos he
  · exact answers hs.1 (settles hs rfl)
  · refine ⟨bellOut_of_runs h, fun hd hq => ?_, bellUpdate_of_sounding, fun hd => ?_⟩
    · rw [bellUpdate_of_start hd hq]; exact ⟨bellOut_of_runs h, rfl⟩
    · rw [bellUpdate_of_stop hd]; exact ⟨bellOut_of_runs h, rfl⟩

/-- Settles O48: SAVE and ERASE are taken by a store at rest, and completed by a store at work. -/
theorem storeLines : Obligations.StoreLines := by
  intro s
  refine ⟨busy_iff s, fun ht h => ?_, fun ht h => ?_, fun h hs => ?_, fun h hs => ?_, fun h hs => ⟨Scene.empty, ?_⟩,
    fun h hs => ?_, fun ht => answers ht rfl, fun c hc hcl => exec_of_closed hc hcl⟩
  · have hfree := (store_free_iff s.store).2 h
    exact ⟨answers ht (if_pos hfree), answers ht (if_pos hfree)⟩
  · have hfree : ¬ s.store.free = true := fun g => by
      rcases (store_free_iff s.store).1 g with e | e <;> rw [e] at h <;> simp at h
    exact ⟨refuses ht (if_neg hfree), refuses ht (if_neg hfree)⟩
  · exact happens h (if_pos hs)
  · exact happens h (if_neg hs)
  · exact happens h (if_pos hs)
  · exact happens h (if_neg hs)

/-- Settles O51: each query of the light writes the fields it reads, and changes nothing. -/
theorem lightQueries : Obligations.LightQueries := by
  refine ⟨⟨⟨rfl, rfl, rfl, rfl, rfl⟩, rfl, fun _ => rfl, fun _ _ => rfl, fun _ _ => rfl,
    fun _ _ => ⟨rfl, fun _ => rfl⟩, fun _ => rfl⟩, fun s ht => ⟨tells ht rfl, tells ht rfl, tells ht rfl,
    fun t k ho hok hk hkt => tells ht ?_, fun t hok hno => refuses ht ?_, fun g d r hd hr => ?_,
    fun i => tells ht ?_, tells ht rfl, tells ht rfl, tells ht rfl, fun f => tells ht ?_,
    fun k hk => refuses ht ?_, fun k hk => refuses ht ?_, fun k hk => refuses ht ?_, fun t hno => refuses ht ?_⟩⟩
  · simp only [takeKeyQuery, timeValue_of_ok hok, (keyframeAt_eq_some ho.1.1).2 ⟨hk, hkt⟩]; rfl
  · simp only [takeKeyQuery, timeValue_of_ok hok, keyframeAt_eq_none.2 hno]
  · subst hd hr
    have hquery : takeGroupQuery g.val s = answered (groupToks (s.cfg.groups.get g) (s.sky.groups.get g)) s := by
      rw [takeGroupQuery, asId_val]
    exact ⟨fun h => tells ht (hquery.trans (by rw [groupToks_of_dimmed h])),
      fun h => tells ht (hquery.trans (by simp only [groupToks, h] <;> rfl))⟩
  · rw [takeLampQuery, asId_val]; rfl
  · rw [takeFloodQuery, asId_val]
  · rw [takeLampQuery, asId_eq_none.2 hk]
  · rw [takeGroupQuery, asId_eq_none.2 hk]
  · rw [takeFloodQuery, asId_eq_none.2 hk]
  · rw [takeKeyQuery, timeValue_of_not_ok hno]

end Sys2Proof.Proofs.BellAndStore
end

section
-- One theorem after the other: side by side, waiting proofs would pile up.
set_option Elab.async false
/-! SUPPORT. The queries of the track, of the traffic and of the part: what each answers. -/

namespace Sys2Proof.Machine

open Sys2Proof.Safety

/-! ## Numbers in ascending order -/

/-- A table's elements are those of its numbers, in ascending order. -/
theorem Table.data_eq {α : Type} {n : Nat} (t : Table α n) : t.data = (ids n).map t.get :=
  List.ext_getElem (by simp [ids, t.len]) fun i h1 h2 => by simp [ids, Table.get]

/-! ## Queries of the track (R84, R104, R130) -/

theorem mem_occupiedSections (s : State) (x : Section) : x ∈ (ids 20).filter s.occupied ↔ s.occupied x = true := by
  simp

/-- A pulse in flight writes its turnout MOVING (log 45). -/
theorem activityToks_of_pulse {d : Driver} {t : TurnoutId} {p : Pulse} (hp : d.pulse = some p) (ht : p.entry.t = t) :
    activityToks d t = [.word .moving, branchTok p.entry.wanted] := by
  have h : d.pulse.filter (fun p => p.entry.t == t) = some p := by simp [hp, ht]
  simp only [activityToks, h]

theorem pulse_filter_eq_none {d : Driver} {t : TurnoutId} (hp : ∀ p, d.pulse = some p → p.entry.t ≠ t) :
    d.pulse.filter (fun p => p.entry.t == t) = none := by
  simpa [Option.filter_eq_none_iff] using hp

/-- Without a pulse its first queued entry writes it QUEUED. -/
theorem activityToks_of_queued {d : Driver} {t : TurnoutId} (hp : ∀ p, d.pulse = some p → p.entry.t ≠ t)
    {es fs : List Throw} {e : Throw} (hq : d.queue = es ++ e :: fs) (he : e.t = t)
    (hes : ∀ x ∈ es, x.t ≠ t) : activityToks d t = [.word .queued, branchTok e.wanted] := by
  have h : d.queue.find? (fun e => e.t == t) = some e := by
    rw [hq, List.find?_append, List.find?_eq_none.2 (by simpa using hes)]; simp [he]
  simp only [activityToks, pulse_filter_eq_none hp, h]

theorem activityToks_of_idle {d : Driver} {t : TurnoutId} (hp : ∀ p, d.pulse = some p → p.entry.t ≠ t)
    (hq : ∀ e ∈ d.queue, e.t ≠ t) : activityToks d t = [.word .idle] := by
  have h : d.queue.find? (fun e => e.t == t) = none := List.find?_eq_none.2 (by simpa using hq)
  simp only [activityToks, pulse_filter_eq_none hp, h]

theorem mem_heldUnits (s : State) (u : Section) (n : Train) :
    (u, n) ∈ s.heldUnits ↔ (s.units.get u).holder = some n := by
  simp [State.heldUnits, Option.map_eq_some_iff, Prod.ext_iff]

theorem heldUnits_ascend (s : State) : s.heldUnits.Pairwise fun x y => x.1 < y.1 := by
  refine List.pairwise_filterMap.2 ((ids_pairwise 20).imp fun {u v} huv a ha b hb => ?_)
  obtain ⟨_, _, rfl⟩ := Option.map_eq_some_iff.1 ha
  obtain ⟨_, _, rfl⟩ := Option.map_eq_some_iff.1 hb
  exact huv

/-! ## Queries of the traffic and of the part (R158, R189, R190) -/

/-- A train on a route and with a place draws no free value (log 23). -/
theorem drawnFor_of_placed {x : TrainRun} {p : RouteId × Nat} {h : SpanElt} (hr : x.route = some p)
    (hh : x.span.getLast? = some h) (s : State) : drawnFor x s = s :=
  if_neg (by rw [hr, TrainRun.head, hh]; simp)

theorem drawnFor_of_free {x : TrainRun} (h : x.route = none ∨ x.span = []) (s : State) :
    drawnFor x s = s.withFreeDraws (s.freeDraws + 1) :=
  if_pos (h.imp_right fun h => by rw [TrainRun.head, h]; rfl)

theorem queryAct_answers (n : Train) (s : State) :
    ∃ ts, queryAct n s = answered ts (drawnFor (s.trains.get n) s) := ⟨_, rfl⟩

theorem mem_definedWindows (c : Scene) (w : Nat) :
    w ∈ (List.range 8).filter (fun w => (c.window w).isSome) ↔ c.window w ≠ none := by
  rw [List.mem_filter, List.mem_range, Option.isSome_iff_ne_none]
  exact and_iff_right_of_imp fun h => window_lt (Option.ne_none_iff_exists'.1 h).choose_spec

theorem takeMapQuery_of_window {w : Nat} {s : State} {d : Window} (hw : w ≤ 7) (h : s.cfg.window w = some d) :
    takeMapQuery w s = answered [.num d.base, .num d.count, fixtureTok d.kind, .num d.first] s := by
  simp only [takeMapQuery, if_neg (Nat.not_lt.2 hw), h]

theorem takeGet_of_fixture {f : Nat} {s : State} (hf : f ≤ 1023) : takeGet f s =
    answered [.num f, optTok (fun e => .num (elementValue s e)) (s.cfg.fixture f)] s := if_neg (by omega)

theorem status_answers {s : State} (h : runs s) (hc : s.line.closed = false) :
    lineCommand takeStatus s = replies s (takeStatus s).2 := by
  rw [lineCommand, show s.sys.rstHeld = false from h, hc]; rfl

end Sys2Proof.Machine
end

section

namespace Sys2Proof.Proofs.Queries

open Sys2Proof.Machine Sys2Proof.Safety

/-- Settles O52: each query of the track writes the fields it reads, and changes nothing. -/
theorem trackQueries : Obligations.TrackQueries := by
  refine ⟨⟨rfl, rfl, rfl, rfl, rfl, rfl, rfl, rfl, rfl, fun _ _ => rfl, fun _ => ⟨rfl, fun _ => rfl⟩⟩,
    fun s ht => ⟨fun c r d hr hd => ?_, fun x f hf => ?_, ⟨_, tells ht rfl, (ids_pairwise 20).filter _,
      mem_occupiedSections s⟩, fun m i f hi hf => ?_, fun n i f hi hf => ?_, fun x => ⟨fun h => ?_, fun d h => ?_⟩,
    fun t => ⟨fun h => ?_, fun d h => ⟨activityToks s.driver t, ?_, fun p => activityToks_of_pulse, fun hp =>
      ⟨fun es e fs => activityToks_of_queued hp, activityToks_of_idle hp⟩⟩⟩, fun r => ⟨fun h => ?_, fun xs h => ?_⟩,
    fun m => ⟨fun h => ?_, fun d h => ?_⟩, fun k => ⟨fun h => ?_, fun d r h hr => ?_⟩, ?_, fun x u r h hr => ?_,
    fun x h => ?_, s.heldUnits, tells ht rfl, heldUnits_ascend s, mem_heldUnits s⟩⟩
  · subst hr hd
    exact tells ht (by rw [takeBridgeQuery, asId_val]; rfl)
  · subst hf
    exact tells ht (by rw [takeSenseSectionQuery, asId_val])
  · subst hf
    refine tells ht ?_
    simp only [takeInputMarkQuery, markInput_val m hi, asId_val]
    cases s.cfg.marks.get m <;> rfl
  · subst hf
    exact tells ht (by rw [takeInputIndexQuery, indexInput_val n hi]; rfl)
  · exact tells ht (by simp only [takeSectionQuery, asId_val, h])
  · exact tells ht (by simp only [takeSectionQuery, asId_val, h])
  · exact tells ht (by simp only [takeTurnoutQuery, asId_val, h])
  · refine tells ht ?_
    simp only [takeTurnoutQuery, asId_val, h, secEndToks, List.append_assoc, List.cons_append, List.nil_append]
  · exact tells ht (by simp only [takeRunQuery, asId_val, h])
  · exact tells ht (by simp only [takeRunQuery, asId_val, h])
  · exact tells ht (by simp only [takeMarkQuery, asId_val, h])
  · exact tells ht (by simp only [takeMarkQuery, asId_val, h])
  · exact tells ht (by simp only [takeCrossingQuery, asId_val, h])
  · subst hr
    exact tells ht (by simp only [takeCrossingQuery, asId_val, h])
  · refine tells ht ?_
    rw [takeBellQuery]
    cases s.cfg.quietWindow <;> rfl
  · subst hr
    exact tells ht (by simp only [takeUnitQuery, asId_val, h])
  · exact refuses ht (by simp only [takeUnitQuery, asId_val, h])

/-- Settles O53: each query of the traffic and of the part writes the fields it reads; a `TRAIN` query restarts
its train's supervision timer. -/
theorem trafficAndStatusQueries : Obligations.TrafficAndStatusQueries := by
  refine ⟨⟨rfl, rfl, rfl, rfl, rfl, rfl, rfl, rfl⟩, fun s ht => ⟨fun r => ⟨fun h => ?_, fun d h => ?_⟩,
    tells ht rfl, fun i es hes => hes ▸ tells ht rfl, fun n i p hp => ?_, fun n x hx => ⟨fun r i h hr hh => ?_,
      fun h => ?_⟩, fun n ps hps => ?_, fun n a d cue ha hd hc => ?_, fun a ha => ha ▸ tells ht rfl, tells ht rfl,
    fun i => ⟨fun h => ?_, fun d h => ?_⟩, ⟨_, tells ht rfl, List.pairwise_lt_range.filter _,
      mem_definedWindows s.cfg⟩, fun f hf => ⟨fun h => ?_, fun i h => ?_, fun i h => ?_, fun n h => ?_⟩,
    fun f hf => ?_⟩, fun s hr hc => ?_⟩
  · exact tells ht (by simp only [takeRouteQuery, asId_val, h])
  · refine tells ht ?_
    simp only [takeRouteQuery, asId_val, h]
    congr 2
  · subst hp
    refine answers ht (trainLine_of_taken (t := s) ?_ nofun)
    rw [tableQueryAct, asId_val]; rfl
  · subst hx
    refine answers ht (trainLine_of_taken (t := s) ?_ nofun)
    rw [queryAct, drawnFor_of_placed hr hh]
    simp only [indexTok, headTok, TrainRun.head, hr, hh]; rfl
  · subst hx
    obtain ⟨ts, hts⟩ := queryAct_answers n s
    rw [drawnFor_of_free h] at hts
    exact ⟨ts, answers ht (trainLine_of_taken hts nofun)⟩
  · subst hps
    exact tells ht (by rw [takeAxisProgramQuery, asId_val]; rfl)
  · subst ha hd hc
    exact tells ht (by simp only [takeAxisQuery, asId_val, commanded_eq, State.axisDef])
  · refine tells ht ?_
    simp only [takeMapQuery, window_succ, h, if_neg (show ¬ 7 < i.val + 1 by omega)]
  · exact tells ht (takeMapQuery_of_window (by omega) ((window_succ ..).trans h))
  · exact tells ht (by rw [takeGet_of_fixture hf, h]; rfl)
  · exact tells ht (by rw [takeGet_of_fixture hf, h]; rfl)
  · exact tells ht (by rw [takeGet_of_fixture hf, h]; rfl)
  · exact tells ht (by rw [takeGet_of_fixture hf, h]; rfl)
  · exact refuses ht (if_pos hf)
  · refine (status_answers hr hc).trans ?_
    simp only [takeStatus, Table.data_eq, List.map_map]; rfl

end Sys2Proof.Proofs.Queries
end

section
-- One theorem after the other: side by side, waiting proofs would pile up.
set_option Elab.async false
/-! SUPPORT. What no line and no event gives up: a refused line changes nothing, a SAVE in flight holds the
configuration, the shown page and the halt's latch stand, and no crossing becomes PROTECTED. -/

namespace Sys2Proof.Machine

open Sys2Proof.Safety

/-! ## The shown page, the crossings and the latch -/

/-- The shown page stands, and no crossing becomes PROTECTED. -/
structure Calm (s t : State) : Prop where
  shown : t.matrix.shown = s.matrix.shown := by rfl
  unprotected : ∀ k, (t.crossings.get k).state = .protectedBy → (s.crossings.get k).state = .protectedBy := by
    exact fun _ h => h

/-- Besides, a set latch stays set. -/
structure Steady (s t : State) : Prop extends Calm s t where
  latch : s.stopc.latch = true → t.stopc.latch = true := by exact fun h => h

theorem Calm.refl (s : State) : Calm s s := { }

theorem Calm.trans {s t u : State} (h : Calm s t) (k : Calm t u) : Calm s u :=
  ⟨k.shown.trans h.shown, fun c g => h.unprotected c (k.unprotected c g)⟩

theorem Steady.refl (s : State) : Steady s s := { }

theorem Steady.trans {s t u : State} (h : Steady s t) (k : Steady t u) : Steady s u :=
  ⟨h.toCalm.trans k.toCalm, fun g => k.latch (h.latch g)⟩

/-- The same page, crossings and stop control. -/
theorem Steady.congr {s t : State} (hm : t.matrix.shown = s.matrix.shown) (hc : t.crossings = s.crossings)
    (hs : t.stopc = s.stopc) : Steady s t := ⟨⟨hm, by rw [hc]; exact fun _ h => h⟩, by rw [hs]; exact id⟩

theorem Steady.ite (p : Prop) [Decidable p] {s t u : State} (h : p → Steady s t) (k : ¬ p → Steady s u) :
    Steady s (if p then t else u) := by
  split
  · next hp => exact h hp
  · next hp => exact k hp

theorem Steady.foldl {α : Type} {f : State → α → State} (h : ∀ s x, Steady s (f s x)) (xs : List α) (s : State) :
    Steady s (xs.foldl f s) := foldl_frame Steady.refl Steady.trans h xs s

theorem requestRecompose_shown (s : State) : (requestRecompose s).matrix.shown = s.matrix.shown := by
  unfold requestRecompose; split <;> rfl

/-- A recompose asked for once something else than the page and the latch has changed. -/
theorem Steady.recompose {s t : State} (h : Steady s t) : Steady s (requestRecompose t) :=
  h.trans (.congr (requestRecompose_shown t) (requestRecompose_lights t).crossings (requestRecompose_lights t).stopc)

theorem requestForClaim_steady (old : Table LampRun 192) (i : LampId) (s : State) :
    Steady s (requestForClaim old i s) := .ite _ (fun _ => .refl s) fun _ => (Steady.refl s).recompose

theorem changeClaims_steady (d : CrossingDef) (f : LampRun → LampRun) (s : State) : Steady s (changeClaims d f s) :=
  .trans (.trans { } (requestForClaim_steady ..)) (requestForClaim_steady ..)

theorem bellUpdate_steady (s : State) : Steady s (bellUpdate s) := by
  rw [bellUpdate_eq]; exact { }

theorem Shifts.steady {s t : State} (h : Shifts s t) : Steady s t :=
  .congr (by rw [h.matrix]) h.crossings h.stopc

theorem Redraws.steady {s t : State} (h : Redraws s t) : Steady s t :=
  .congr (by rw [h.matrix]) h.crossings h.stopc

theorem Drives.steady {s t : State} (h : Drives s t) : Steady s t :=
  .congr (by rw [h.matrix]) h.crossings h.stopc

/-- A crossing that takes another state than PROTECTED. -/
theorem modCrossing_steady {r : CrossingRun} (hr : r.state ≠ .protectedBy) (c : CrossingId) (s : State) :
    Steady s (s.modCrossing c fun _ => r) where
  unprotected k hk := by
    rw [State.modCrossing, State.withCrossings_crossings, Table.get_modify] at hk
    split at hk
    · exact absurd hk hr
    · exact hk

theorem crossingAct_steady (s : State) (c : CrossingId) : Steady s (crossingAct s c) := by
  have entered {r : CrossingRun} (hr : r.state ≠ .protectedBy) (d : CrossingDef) (f : LampRun → LampRun) :
      Steady s (crossingNotice c (bellUpdate (changeClaims d f (s.modCrossing c fun _ => r)))) :=
    .trans (.trans (.trans (modCrossing_steady hr c s) (changeClaims_steady ..)) (bellUpdate_steady _))
      (crossingNotice_redraws ..).steady
  rcases crossingAct_cases s c with e | ⟨d, -, ⟨-, -, e⟩ | ⟨-, -, e⟩⟩ <;> rw [e]
  · exact .refl s
  · exact entered (r := ⟨.warning, false, some d.lead, true⟩) (by simp) d (claimLamp c)
  · exact entered (r := ⟨.idle, false, none, false⟩) (by simp) d (unclaimLamp c)

/-- Whatever the traffic controller does leaves the shown page and the latch. -/
theorem Moves.steady {k : Care} {s t : State} (h : Moves k s t) : Steady s t := by
  refine h.keeps_touch (P := Steady s) (fun c g => ?_) (.refl s)
  cases c with
  | shift hs => exact g.trans hs.steady
  | crossing c => exact g.trans (crossingAct_steady ..)
  | report r => exact g.trans (raise_drives ..).steady
  | throw e => exact g.trans (requestThrow_drives ..).steady

/-- Moves that are held to nothing. -/
abbrev Care.none : Care := ⟨False, False, False⟩

theorem raise_steady (r : Report) (s : State) : Steady s (s.raise r) := (raise_drives ..).steady

/-! ## Steps that lines and notices share -/

theorem setLampGroup_steady (i : LampId) (g : Option GroupId) (s : State) : Steady s (setLampGroup i g s) :=
  .ite _ (fun _ => { }) fun _ => { }

theorem setLampRange_steady (n m : Nat) (g : Option GroupId) (st k : Nat) (s : State) :
    Steady s (setLampRange n m g st k s) :=
  .foldl (fun s i => .ite _ (fun _ => (setLampGroup_steady i g s).trans { }) fun _ => .refl s) _ s

theorem setLampOverride_steady (i : LampId) (o : Option Override) (s : State) : Steady s (setLampOverride i o s) :=
  Steady.recompose { }

theorem setLampOverride_cfg (i : LampId) (o : Option Override) (s : State) : (setLampOverride i o s).cfg = s.cfg :=
  (requestRecompose_lights _).cfg

theorem setFloodOverride_steady (f : FloodId) (o : Option Override) (s : State) :
    Steady s (setFloodOverride f o s) := Steady.recompose { }

theorem setFloodOverride_cfg (f : FloodId) (o : Option Override) (s : State) :
    (setFloodOverride f o s).cfg = s.cfg := (requestRecompose_lights _).cfg

theorem freeLamp_steady (i : LampId) (s : State) : Steady s (freeLamp i s) :=
  .ite _ (fun _ => .refl s) fun _ => setLampOverride_steady ..

theorem freeLamp_cfg (i : LampId) (s : State) : (freeLamp i s).cfg = s.cfg := by
  unfold freeLamp; split
  · rfl
  · exact setLampOverride_cfg ..

theorem freeFlood_steady (f : FloodId) (s : State) : Steady s (freeFlood f s) :=
  .ite _ (fun _ => .refl s) fun _ => setFloodOverride_steady ..

theorem freeFlood_cfg (f : FloodId) (s : State) : (freeFlood f s).cfg = s.cfg := by
  unfold freeFlood; split
  · rfl
  · exact setFloodOverride_cfg ..

theorem setQuietFrom_steady (t : Nat) (s : State) : Steady s (setQuietFrom t s) :=
  .trans { } (bellUpdate_steady _)

theorem setQuietWindow_steady (w : Option (Nat × Nat)) (s : State) : Steady s (setQuietWindow w s) :=
  .trans { } (setQuietFrom_steady ..)

/-! ## Lines -/

/-- What a line's block leaves: a refused line changes nothing, the shown page and the latch stand, and a SAVE in
flight holds the configuration. -/
structure Lawful (s : State) (a : Ans) : Prop where
  steady : Steady s a.1
  refused : ∀ r, a.2 = .no r → a.1 = s
  saved : s.busy = true → a.1.cfg = s.cfg

theorem Lawful.refuse (r : Reason) (s : State) : Lawful s (refuse r s) := ⟨.refl s, fun _ _ => rfl, fun _ => rfl⟩

theorem Lawful.answered (ts : List Tok) (s : State) : Lawful s (answered ts s) :=
  ⟨.refl s, fun _ _ => rfl, fun _ => rfl⟩

/-- A query, which leaves the state. -/
theorem Lawful.still {s : State} {a : Ans} (h : a.1 = s) : Lawful s a :=
  ⟨h ▸ .refl s, fun _ _ => h, fun _ => congrArg State.cfg h⟩

theorem Lawful.taken {s t : State} (h : Steady s t) (hc : s.busy = true → t.cfg = s.cfg) : Lawful s (taken t) :=
  ⟨h, nofun, hc⟩

theorem Lawful.clamped {b : Bool} {s t : State} (h : Steady s t) (hc : s.busy = true → t.cfg = s.cfg) :
    Lawful s (takenClamped b t) := 
  ⟨h, fun r e => absurd e (okOr_ne_no b r), hc⟩

theorem Lawful.ite (p : Prop) [Decidable p] {s : State} {a b : Ans} (h : p → Lawful s a) (k : ¬ p → Lawful s b) :
    Lawful s (if p then a else b) := by
  split
  · next hp => exact h hp
  · next hp => exact k hp

/-- A line that is refused unless a condition holds. -/
theorem Lawful.guard {p : Prop} [Decidable p] {r : Reason} {s : State} {a : Ans} (h : ¬ p → Lawful s a) :
    Lawful s (if p then Machine.refuse r s else a) := .ite p (fun _ => .refuse r s) h

theorem Lawful.unlessBusy {s : State} {f : State → Ans} (h : s.busy = false → Lawful s (f s)) :
    Lawful s (unlessBusy s f) := .guard fun hb => h (by simpa using hb)

theorem Lawful.layout {s : State} {f : State → Ans} (h : s.busy = false → Lawful s (f s)) :
    Lawful s (layoutEdit s f) := .guard fun hb => .guard fun _ => h (by simpa using hb)

/-- A setting form that is taken: no SAVE is in flight. -/
theorem Lawful.settles {s t : State} (hb : s.busy = false) (h : Steady s t) : Lawful s (Machine.taken t) :=
  .taken h fun g => by simp [hb] at g

theorem Lawful.setsClamped {b : Bool} {s t : State} (hb : s.busy = false) (h : Steady s t) :
    Lawful s (takenClamped b t) := .clamped h fun g => by simp [hb] at g

/-- A line taken by the traffic controller, which leaves the configuration. -/
theorem Lawful.moves {s t : State} (h : Moves .none s t) : Lawful s (Machine.taken t) :=
  .taken h.steady fun _ => h.traffic.cfg

/-! ### The light -/

theorem takeClockRate_lawful (n : Nat) (s : State) : Lawful s (takeClockRate n s) :=
  .unlessBusy fun hb => .setsClamped hb { }

theorem takeClockStart_lawful (t : TimeTok) (s : State) : Lawful s (takeClockStart t s) := by
  unfold takeClockStart; split
  · exact .refuse ..
  · exact .unlessBusy fun hb => .settles hb { }

theorem takeKey_lawful (t : TimeTok) (tr : Transition) (r g b a : Nat) (ps : List (Nat × Nat)) (s : State) :
    Lawful s (takeKey t tr r g b a ps s) := by
  unfold takeKey; split
  · exact .guard fun _ => .unlessBusy fun hb => .guard fun _ => .guard fun _ => .settles hb (Steady.recompose { })
  · exact .refuse ..

theorem takeKeyG_lawful (t : TimeTok) (g v : Nat) (s : State) : Lawful s (takeKeyG t g v s) := by
  unfold takeKeyG; split
  · refine .guard fun _ => .unlessBusy fun hb => ?_
    split
    · exact .refuse ..
    · exact .settles hb (Steady.recompose { })
  · exact .refuse ..

theorem takeKeyGNone_lawful (t : TimeTok) (g : Nat) (s : State) : Lawful s (takeKeyGNone t g s) := by
  unfold takeKeyGNone; split
  · refine .unlessBusy fun hb => ?_
    split
    · exact .refuse ..
    · exact .ite _ (fun _ => .settles hb (.refl s)) fun _ => .settles hb (Steady.recompose { })
  · exact .refuse ..

theorem takeKeyDrop_lawful (t : TimeTok) (s : State) : Lawful s (takeKeyDrop t s) := by
  unfold takeKeyDrop; split
  · exact .refuse ..
  · exact .unlessBusy fun hb => .guard fun _ => .settles hb (Steady.recompose { })

theorem takeGroupDimmed_lawful (g : Nat) (c : Curve) (s : State) : Lawful s (takeGroupDimmed g c s) := by
  unfold takeGroupDimmed; split
  · exact .refuse ..
  · exact .unlessBusy fun hb => .settles hb (Steady.recompose { })

theorem takeGroupSwitched_lawful (g th hy on wu : Nat) (s : State) :
    Lawful s (takeGroupSwitched g th hy on wu s) := by
  unfold takeGroupSwitched; split
  · exact .refuse ..
  · exact .guard fun _ => .unlessBusy fun hb => .settles hb (Steady.recompose { })

theorem takeLampGroup_lawful (n : Nat) (g : Option Nat) (s : State) : Lawful s (takeLampGroup n g s) := by
  unfold takeLampGroup; split
  · exact .unlessBusy fun hb => .settles hb (setLampGroup_steady ..).recompose
  · exact .refuse ..

theorem takeLampStagger_lawful (n st : Nat) (s : State) : Lawful s (takeLampStagger n st s) := by
  unfold takeLampStagger; split
  · exact .refuse ..
  · exact .guard fun _ => .unlessBusy fun hb => .settles hb (Steady.recompose { })

theorem takeLampGroupStagger_lawful (n : Nat) (g : Option Nat) (st : Nat) (s : State) :
    Lawful s (takeLampGroupStagger n g st s) := by
  unfold takeLampGroupStagger; split
  · exact .guard fun _ => .unlessBusy fun hb =>
      .settles hb (((setLampGroup_steady ..).trans { }).recompose)
  · exact .refuse ..

theorem takeLampRange_lawful (n m : Nat) (g : Option Nat) (st k : Nat) (s : State) :
    Lawful s (takeLampRange n m g st k s) := by
  unfold takeLampRange; split
  · exact .refuse ..
  · exact .guard fun _ => .unlessBusy fun hb => .settles hb (setLampRange_steady ..).recompose

theorem takeLampLevel_lawful (n v : Nat) (u : Option TimeTok) (s : State) : Lawful s (takeLampLevel n v u s) := by
  unfold takeLampLevel; split
  · exact .clamped (setLampOverride_steady ..) fun _ => setLampOverride_cfg ..
  · exact .refuse ..

theorem takeLampFree_lawful (n : Nat) (s : State) : Lawful s (takeLampFree n s) := by
  unfold takeLampFree; split
  · exact .refuse ..
  · exact .taken (freeLamp_steady ..) fun _ => freeLamp_cfg ..

theorem takeBright_lawful (n : Nat) (s : State) : Lawful s (takeBright n s) :=
  .unlessBusy fun hb => .setsClamped hb (Steady.recompose { })

theorem takeScan_lawful (m : ScanMode) (s : State) : Lawful s (takeScan m s) :=
  .unlessBusy fun hb => .settles hb (Steady.recompose { })

theorem takeMatrixDivider_lawful (d : Nat) (s : State) : Lawful s (takeMatrixDivider d s) :=
  .guard fun _ => .unlessBusy fun hb => .settles hb { }

theorem takeMatrixRows_lawful (m : Mirror) (s : State) : Lawful s (takeMatrixRows m s) :=
  .unlessBusy fun hb => .settles hb { }

theorem takeMatrixCols_lawful (m : Mirror) (s : State) : Lawful s (takeMatrixCols m s) :=
  .unlessBusy fun hb => .settles hb { }

theorem takeFloodSource_lawful (n : Nat) (x : FloodSource) (s : State) : Lawful s (takeFloodSource n x s) := by
  unfold takeFloodSource; split
  · exact .refuse ..
  · exact .unlessBusy fun hb => .ite _ (fun _ => .settles hb (.refl s)) fun _ =>
      .settles hb (Steady.recompose { })

/-! ### The track -/

theorem takeRestore_lawful (n : Nat) (s : State) : Lawful s (takeRestore n s) := by
  unfold takeRestore; split
  · exact .refuse ..
  · exact .ite _ (fun _ => .taken { } fun _ => rfl) fun _ => .refuse ..

theorem takeBridgePwm_lawful (n res p : Nat) (s : State) : Lawful s (takeBridgePwm n res p s) := by
  unfold takeBridgePwm; split
  · exact .refuse ..
  · exact .guard fun _ => .unlessBusy fun hb => .settles hb { }

theorem takeBridgeSense_lawful (n : Nat) (on : Bool) (s : State) : Lawful s (takeBridgeSense n on s) := by
  unfold takeBridgeSense; split
  · exact .refuse ..
  · exact .unlessBusy fun hb => .settles hb { }

theorem takeBridgeTrip_lawful (n mA : Nat) (s : State) : Lawful s (takeBridgeTrip n mA s) := by
  unfold takeBridgeTrip; split
  · exact .refuse ..
  · exact .guard fun _ => .unlessBusy fun hb => .settles hb { }

theorem takeSenseThreshold_lawful (n mA : Nat) (s : State) : Lawful s (takeSenseThreshold n mA s) := by
  unfold takeSenseThreshold; split
  · exact .refuse ..
  · exact .guard fun _ => .unlessBusy fun hb => .settles hb { }

theorem setFilter_lawful (i : Option InputId) (f : Nat) (s : State) : Lawful s (setFilter i f s) := by
  unfold setFilter; split
  · exact .refuse ..
  · exact .guard fun _ => .unlessBusy fun hb => .settles hb { }

theorem layoutTaken_lawful {s : State} (hb : s.busy = false) (c : Scene) : Lawful s (layoutTaken c s) :=
  .ite _ (fun _ => .settles hb { }) fun _ => .refuse ..

theorem layoutRebuilt_lawful {s : State} (hb : s.busy = false) (c : Scene) : Lawful s (layoutRebuilt c s) :=
  .ite _ (fun _ => .settles hb (.trans { } (reportStrays_moves (k := .none) ..).steady)) fun _ => .refuse ..

theorem takeSectionLength_lawful (n mm : Nat) (s : State) : Lawful s (takeSectionLength n mm s) := by
  unfold takeSectionLength; split
  · exact .refuse ..
  · refine .guard fun _ => .layout fun hb => .guard fun _ => ?_
    split
    · exact layoutRebuilt_lawful hb _
    · exact layoutTaken_lawful hb _

theorem takeSectionDrop_lawful (n : Nat) (s : State) : Lawful s (takeSectionDrop n s) := by
  unfold takeSectionDrop; split
  · exact .refuse ..
  · refine .layout fun hb => ?_
    split
    · exact .settles hb (.refl s)
    · exact .guard fun _ => layoutRebuilt_lawful hb _

theorem takeSectionJoin_lawful (n : Nat) (e : End) (u : EndTok) (s : State) :
    Lawful s (takeSectionJoin n e u s) := by
  unfold takeSectionJoin; split
  · exact .layout fun hb => .guard fun _ => .guard fun _ => layoutTaken_lawful hb _
  · exact .refuse ..

theorem takeSectionBuffer_lawful (n : Nat) (e : End) (s : State) : Lawful s (takeSectionBuffer n e s) := by
  unfold takeSectionBuffer; split
  · exact .refuse ..
  · refine .layout fun hb => .guard fun _ => ?_
    split
    · exact .settles hb (.refl s)
    · exact layoutTaken_lawful hb _
    · exact .refuse ..

theorem takeTurnoutLegs_lawful (t : Nat) (p q r : EndTok) (s : State) : Lawful s (takeTurnoutLegs t p q r s) := by
  unfold takeTurnoutLegs; split
  · exact .layout fun hb => .guard fun _ => .guard fun _ => .guard fun _ => layoutTaken_lawful hb _
  · exact .refuse ..

theorem takeTurnoutDrop_lawful (t : Nat) (s : State) : Lawful s (takeTurnoutDrop t s) := by
  unfold takeTurnoutDrop; split
  · exact .refuse ..
  · refine .layout fun hb => ?_
    split
    · exact .settles hb (.refl s)
    · exact .guard fun _ => .ite _ (fun _ => .settles hb { }) fun _ => .refuse ..

theorem takeRunDefine_lawful (r : Nat) (xs : List Nat) (s : State) : Lawful s (takeRunDefine r xs s) := by
  unfold takeRunDefine; split
  · exact .guard fun _ => .layout fun hb => .guard fun _ => .guard fun _ => layoutRebuilt_lawful hb _
  · exact .refuse ..

theorem takeRunDrop_lawful (r : Nat) (s : State) : Lawful s (takeRunDrop r s) := by
  unfold takeRunDrop; split
  · exact .refuse ..
  · refine .layout fun hb => ?_
    split
    · exact .settles hb (.refl s)
    · exact layoutRebuilt_lawful hb _

theorem takeMarkDefine_lawful (m x mm : Nat) (k : MarkKind) (s : State) : Lawful s (takeMarkDefine m x mm k s) := by
  unfold takeMarkDefine; split
  · exact .guard fun _ => .layout fun hb => .guard fun _ => layoutTaken_lawful hb _
  · exact .refuse ..

theorem takeMarkDrop_lawful (m : Nat) (s : State) : Lawful s (takeMarkDrop m s) := by
  unfold takeMarkDrop; split
  · exact .refuse ..
  · exact .layout fun hb => layoutTaken_lawful hb _

theorem takeTurnoutThrow_lawful (t : Nat) (p : Branch) (s : State) : Lawful s (takeTurnoutThrow t p s) := by
  unfold takeTurnoutThrow; split
  · exact .refuse ..
  · split
    · exact .refuse ..
    · exact .guard fun _ => .moves (requestThrow_moves ..)

theorem takeTurnoutPulse_lawful (t ms : Nat) (s : State) : Lawful s (takeTurnoutPulse t ms s) := by
  unfold takeTurnoutPulse; split
  · exact .refuse ..
  · exact .guard fun _ => .unlessBusy fun hb => .settles hb { }

theorem takeCrossingDefine_lawful (c x a b v l : Nat) (bell : Bool) (s : State) :
    Lawful s (takeCrossingDefine c x a b v l bell s) := by
  unfold takeCrossingDefine; split
  · exact .guard fun _ => .layout fun hb => .guard fun _ => .guard fun _ => .guard fun _ =>
      .settles hb (.trans { } (bellUpdate_steady _))
  · exact .refuse ..

theorem takeCrossingDrop_lawful (c : Nat) (s : State) : Lawful s (takeCrossingDrop c s) := by
  unfold takeCrossingDrop; split
  · exact .refuse ..
  · exact .layout fun hb => .guard fun _ => .settles hb (.trans { } (bellUpdate_steady _))

theorem takeBellTone_lawful (hz : Nat) (s : State) : Lawful s (takeBellTone hz s) :=
  .guard fun _ => .unlessBusy fun hb => .settles hb { }

theorem takeBellQuiet_lawful (f t : TimeTok) (s : State) : Lawful s (takeBellQuiet f t s) := by
  unfold takeBellQuiet; split
  · exact .guard fun _ => .unlessBusy fun hb => .settles hb (setQuietWindow_steady ..)
  · exact .refuse ..

theorem takeBellQuietNone_lawful  (s : State) : Lawful s (takeBellQuietNone s) :=
  .unlessBusy fun hb => .settles hb (setQuietWindow_steady ..)

/-! ### The traffic -/

theorem trainLine_lawful {n : Nat} {f : Train → State → Ans} {s : State} (h : ∀ n, Lawful s (f n s)) :
    Lawful s (trainLine n f s) := by
  unfold trainLine; split
  · exact .refuse ..
  · next n _ =>
    obtain ⟨hs, hr, hc⟩ := h n
    split
    · next e => rw [e] at hs hr hc; exact ⟨hs, hr, hc⟩
    · next t r hno e =>
      rw [e] at hs hr hc
      have hm : Moves .none t (restartCabTimer n t) := restartCabTimer_moves ..
      exact ⟨hs.trans hm.steady, fun x hx => absurd hx (hno x), fun hb => hm.traffic.cfg.trans (hc hb)⟩

theorem placeAct_lawful (x : Nat) (e : End) (n : Train) (s : State) : Lawful s (placeAct x e n s) := by
  unfold placeAct; split
  · exact .refuse ..
  · split
    · exact .refuse ..
    · refine .guard fun hp => .guard fun hh => .moves ?_
      obtain ⟨hp, -⟩ := not_or.1 hp
      exact placeTrain_moves id _ _ (by simpa using hp) (by simpa using hh)

theorem liftAct_lawful (n : Train) (s : State) : Lawful s (liftAct n s) :=
  .ite _ (fun _ => .moves (liftTrain_moves id False.elim)) fun _ => .refuse ..

theorem findAct_lawful (x : Nat) (e : End) (n : Train) (s : State) : Lawful s (findAct x e n s) := by
  unfold findAct; split
  · exact .refuse ..
  · split
    · exact .refuse ..
    · refine .guard fun hl => .guard fun hh => .moves ?_
      obtain ⟨hl, -⟩ := not_or.1 hl
      exact findTrain_moves id _ _ (by simpa using hl) (by by_contra hn; exact hh (not_or.1 hn)) False.elim

theorem resumeAct_lawful (n : Train) (s : State) : Lawful s (resumeAct n s) :=
  .guard fun hs => .guard fun _ =>
    .moves (comeBack_moves id (rests_of_state (st := .faulted) (by simpa using hs) (by simp) (by simp)))

theorem goAct_lawful (r : Nat) (n : Train) (s : State) : Lawful s (goAct r n s) := by
  unfold goAct; split
  · exact .refuse ..
  · split
    · exact .refuse ..
    · refine .guard fun h => ?_
      split
      · exact .refuse ..
      · exact .moves (startRoute_moves id _ _ (by simpa using h))

theorem cabAct_lawful (st : Nat) (o : Option Orientation) (n : Train) (s : State) : Lawful s (cabAct st o n s) := by
  refine .ite _ (fun h => ?_) fun _ => .refuse ..
  have hm : Moves .none s (driveCab n (min st 31) o s) := driveCab_moves id _ _ (drivable_placed h)
  exact .clamped hm.steady fun _ => hm.traffic.cfg

theorem parkAct_lawful (n : Train) (s : State) : Lawful s (parkAct n s) := by
  refine .guard fun h => ?_
  split
  · exact .moves (driveCab_moves id _ _ (drivable_placed (by simpa using h)))
  · exact .ite _ (fun _ => .moves (.refl s)) fun _ => .moves (parkRoute_moves id ..)

theorem defineTrain_lawful (n : Train) (f : TrainDef → TrainDef) (s : State) : Lawful s (defineTrain n f s) :=
  .unlessBusy fun hb => .settles hb { }

theorem queryAct_lawful (n : Train) (s : State) : Lawful s (queryAct n s) := by
  have hs : Steady s (drawnFor (s.trains.get n) s) ∧ (drawnFor (s.trains.get n) s).cfg = s.cfg := by
    unfold drawnFor; split
    · exact ⟨{ }, rfl⟩
    · exact ⟨.refl s, rfl⟩
  exact ⟨hs.1, nofun, fun _ => hs.2⟩

theorem tableQueryAct_lawful (st : Nat) (n : Train) (s : State) : Lawful s (tableQueryAct st n s) := by
  unfold tableQueryAct; split
  · exact .refuse ..
  · exact .answered ..

theorem homeAct_lawful (x : Nat) (e : End) (n : Train) (s : State) : Lawful s (homeAct x e n s) := by
  unfold homeAct; split
  · exact .refuse ..
  · exact defineTrain_lawful ..

theorem takeRouteDefine_lawful (r : Nat) (xs : List Nat) (s : State) : Lawful s (takeRouteDefine r xs s) := by
  unfold takeRouteDefine; split
  · refine .guard fun _ => .unlessBusy fun hb => .guard fun _ => .guard fun _ => ?_
    split
    · exact .refuse ..
    · exact .settles hb { }
  · exact .refuse ..

theorem takeRouteAdd_lawful (r : Nat) (xs : List Nat) (s : State) : Lawful s (takeRouteAdd r xs s) := by
  unfold takeRouteAdd; split
  · refine .guard fun _ => .unlessBusy fun hb => ?_
    split
    · exact .refuse ..
    · refine .guard fun _ => .guard fun _ => ?_
      split
      · exact .refuse ..
      · exact .guard fun _ => .guard fun _ => .settles hb { }
  · exact .refuse ..

theorem takeRouteStop_lawful (r i d : Nat) (m : Option Nat) (s : State) : Lawful s (takeRouteStop r i d m s) := by
  unfold takeRouteStop; split
  · refine .guard fun _ => .unlessBusy fun hb => ?_
    split
    · exact .refuse ..
    · exact .guard fun _ => .ite _ (fun _ => .settles hb { }) fun _ => .refuse ..
  · exact .refuse ..

theorem takeRouteStopNone_lawful (r i : Nat) (s : State) : Lawful s (takeRouteStopNone r i s) := by
  unfold takeRouteStopNone; split
  · exact .refuse ..
  · refine .guard fun _ => .unlessBusy fun hb => ?_
    split
    · exact .refuse ..
    · exact .guard fun _ => .guard fun _ => .settles hb { }

theorem takeRouteLoop_lawful (r : Nat) (on : Bool) (s : State) : Lawful s (takeRouteLoop r on s) := by
  unfold takeRouteLoop; split
  · exact .refuse ..
  · refine .unlessBusy fun hb => ?_
    split
    · exact .refuse ..
    · exact .guard fun _ => .guard fun _ => .settles hb { }

theorem takeRouteDrop_lawful (r : Nat) (s : State) : Lawful s (takeRouteDrop r s) := by
  unfold takeRouteDrop; split
  · exact .refuse ..
  · exact .unlessBusy fun hb => .guard fun _ => .settles hb { }

theorem takeTimetableAdd_lawful (t : TimeTok) (n r : Nat) (s : State) : Lawful s (takeTimetableAdd t n r s) := by
  unfold takeTimetableAdd; split
  · exact .unlessBusy fun hb => .guard fun _ => .guard fun _ => .settles hb { }
  · exact .refuse ..

theorem takeTimetableDrop_lawful (t : TimeTok) (n : Nat) (s : State) : Lawful s (takeTimetableDrop t n s) := by
  unfold takeTimetableDrop; split
  · exact .unlessBusy fun hb => .ite _ (fun _ => .settles hb { }) fun _ => .refuse ..
  · exact .refuse ..

theorem takeTimetableAutorun_lawful (on : Bool) (s : State) : Lawful s (takeTimetableAutorun on s) :=
  .unlessBusy fun hb => .settles hb { }

/-! ### Axes, budget, map and store -/

theorem takeAxisProgram_lawful (n : Nat) (t : TimeTok) (v : Nat) (s : State) :
    Lawful s (takeAxisProgram n t v s) := by
  unfold takeAxisProgram; split
  · exact .guard fun _ => .unlessBusy fun hb => .guard fun _ => .settles hb { }
  · exact .refuse ..

theorem takeAxisProgramDrop_lawful (n : Nat) (t : TimeTok) (s : State) : Lawful s (takeAxisProgramDrop n t s) := by
  unfold takeAxisProgramDrop; split
  · exact .unlessBusy fun hb => .ite _ (fun _ => .settles hb { }) fun _ => .refuse ..
  · exact .refuse ..

theorem takeAxisProgramNone_lawful (n : Nat) (s : State) : Lawful s (takeAxisProgramNone n s) := by
  unfold takeAxisProgramNone; split
  · exact .refuse ..
  · exact .unlessBusy fun hb => .settles hb { }

theorem takeAxisSpeed_lawful (n v : Nat) (s : State) : Lawful s (takeAxisSpeed n v s) := by
  unfold takeAxisSpeed; split
  · exact .refuse ..
  · exact .clamped { } fun _ => rfl

theorem takeAxisFree_lawful (n : Nat) (s : State) : Lawful s (takeAxisFree n s) := by
  unfold takeAxisFree; split
  · exact .refuse ..
  · exact .taken { } fun _ => rfl

theorem takeAxisClear_lawful (n : Nat) (s : State) : Lawful s (takeAxisClear n s) := by
  unfold takeAxisClear; split
  · exact .refuse ..
  · exact .guard fun _ => .guard fun _ => .taken { } fun _ => rfl

theorem takeAxisDirection_lawful (n : Nat) (p : Polarity) (s : State) : Lawful s (takeAxisDirection n p s) := by
  unfold takeAxisDirection; split
  · exact .refuse ..
  · exact .unlessBusy fun hb => .ite _ (fun _ => .settles hb { }) fun _ => .refuse ..

theorem defineAxis_lawful (n lo hi v : Nat) (f : AxisDef → AxisDef) (s : State) :
    Lawful s (defineAxis n lo hi v f s) := by
  unfold defineAxis; split
  · exact .refuse ..
  · exact .guard fun _ => .unlessBusy fun hb => .settles hb { }

theorem takeBudgetCeiling_lawful (n : Nat) (s : State) : Lawful s (takeBudgetCeiling n s) :=
  by
  unfold takeBudgetCeiling
  exact .unlessBusy fun hb => .guard fun _ => .setsClamped hb { }

theorem takeBudgetLamp_lawful (n : Nat) (s : State) : Lawful s (takeBudgetLamp n s) :=
  .guard fun _ => .unlessBusy fun hb => .settles hb { }

theorem takeBudgetFlood_lawful (n : Nat) (s : State) : Lawful s (takeBudgetFlood n s) :=
  .guard fun _ => .unlessBusy fun hb => .settles hb { }

theorem takeMapDefine_lawful (w b c : Nat) (k : FixtureKind) (f : Nat) (s : State) :
    Lawful s (takeMapDefine w b c k f s) := by
  unfold takeMapDefine; split
  · exact .refuse ..
  · exact .guard fun _ => .unlessBusy fun hb => .guard fun _ => .settles hb { }

theorem takeMapNone_lawful (w : Nat) (s : State) : Lawful s (takeMapNone w s) := by
  unfold takeMapNone; split
  · exact .refuse ..
  · exact .unlessBusy fun hb => .settles hb { }

theorem takeSet_lawful (f v : Nat) (u : Option TimeTok) (s : State) : Lawful s (takeSet f v u s) := by
  unfold takeSet
  refine .guard fun _ => ?_
  split
  · exact .guard fun _ => .clamped { } fun _ => rfl
  · exact .refuse ..
  · exact ⟨.refl s, nofun, fun _ => rfl⟩
  · exact .clamped (setLampOverride_steady ..) fun _ => setLampOverride_cfg ..
  · exact .clamped (setFloodOverride_steady ..) fun _ => setFloodOverride_cfg ..

theorem takeFree_lawful (f : Nat) (s : State) : Lawful s (takeFree f s) := by
  unfold takeFree
  refine .guard fun _ => ?_
  split
  · exact ⟨.refl s, nofun, fun _ => rfl⟩
  · exact .taken (freeLamp_steady ..) fun _ => freeLamp_cfg ..
  · exact .taken (freeFlood_steady ..) fun _ => freeFlood_cfg ..
  · exact .taken { } fun _ => rfl

theorem takeSave_lawful (s : State) : Lawful s (takeSave s) :=
  .ite _ (fun _ => .taken { } fun _ => rfl) fun _ => .refuse ..

theorem takeErase_lawful (s : State) : Lawful s (takeErase s) :=
  .ite _ (fun _ => .taken { } fun _ => rfl) fun _ => .refuse ..

theorem takeReset_lawful (s : State) : Lawful s (takeReset s) := ⟨{ }, nofun, fun _ => rfl⟩

/-! ## Every line and every event -/

theorem answer_steady (r : Reply) (s : State) : Steady s (s.answer r) := { }

theorem offer_steady (s : State) : Steady s s.offer := { }

theorem skyStep_steady (t0 t1 : Nat) (s : State) : Steady s (skyStep t0 t1 s) := Steady.recompose { }

theorem skyJump_steady (t : Nat) (s : State) : Steady s (skyJump t s) := Steady.recompose { }

theorem setProgramValues_steady (t : Nat) (s : State) : Steady s (setProgramValues t s) := { }

theorem jumpNotice_steady (old new : Nat) (s : State) : Steady s (jumpNotice old new s) :=
  .trans (.trans (.trans (skyJump_steady ..) (raise_steady ..)) (setProgramValues_steady ..)) (setQuietFrom_steady ..)

theorem stepNotice_steady (t0 t1 d : Nat) (s : State) : Steady s (stepNotice t0 t1 d s) :=
  .trans (.trans (.trans (skyStep_steady ..) (trafficStep_moves (k := .none) id ..).steady)
    (setProgramValues_steady ..)) (setQuietFrom_steady ..)

theorem clockStep_steady (s : State) : Steady s (clockStep s) :=
  .ite _ (fun _ => .ite _ (fun _ => { }) fun _ => .trans { } (stepNotice_steady ..)) fun _ => .refl s

theorem setQuietFrom_cfg (t : Nat) (s : State) : (setQuietFrom t s).cfg = s.cfg := by
  rw [setQuietFrom, bellUpdate_eq]; rfl

theorem jumpNotice_cfg (old new : Nat) (s : State) : (jumpNotice old new s).cfg = s.cfg := by
  rw [jumpNotice, setQuietFrom_cfg]
  exact (raise_drives ..).cfg.trans (requestRecompose_lights _).cfg

theorem takeClockSet_lawful (t : TimeTok) (s : State) : Lawful s (takeClockSet t s) := by
  unfold takeClockSet; split
  · exact .refuse ..
  · exact ⟨.trans { } (jumpNotice_steady ..), nofun, fun _ => jumpNotice_cfg ..⟩

theorem releaseAll_steady (s : State) : Steady s (releaseAll s) := by
  rw [releaseAll_eq]; exact { }

theorem enterHalt_steady (r : Report) (s : State) : Steady s (enterHalt r s) :=
  .trans (.trans (.trans (releaseAll_steady s) (haltTrains_moves (k := .none) id _).steady) { }) (raise_steady ..)

theorem haltTrains_cfg (s : State) : (haltTrains s).cfg = s.cfg :=
  (haltTrains_moves (k := .none) id s).traffic.cfg

theorem enterHalt_cfg (r : Report) (s : State) : (enterHalt r s).cfg = s.cfg :=
  (raise_drives ..).cfg.trans ((haltTrains_cfg (releaseAll s)).trans (by rw [releaseAll_eq]; rfl))

/-- Setting the latch is steady: it is the one line or event that touches it but for `RESUME`. -/
theorem setLatch_steady (line : Bool) (r : Report) (s : State) : Steady s (setLatch line r s) :=
  have hset : Steady s (s.withStopc { s.stopc with line := line, run := 0, latch := true }) := { latch := fun _ => rfl }
  .ite _ (fun _ => hset) fun _ => hset.trans (enterHalt_steady ..)

theorem takeStop_lawful (s : State) : Lawful s (takeStop s) := by
  have hset : Steady s (s.withStopc { s.stopc with latch := true }) := { latch := fun _ => rfl }
  unfold takeStop
  split
  · exact .taken hset fun _ => rfl
  · exact .taken (hset.trans (enterHalt_steady ..)) fun _ => enterHalt_cfg ..

/-- What `RESUME` leaves: all but the latch, as every line. -/
theorem takeResume_leaves (s : State) : Calm s (takeResume s).1 ∧
    (∀ r, (takeResume s).2 = .no r → (takeResume s).1 = s) ∧ (takeResume s).1.cfg = s.cfg := by
  unfold takeResume
  split
  · exact ⟨.refl s, fun _ _ => rfl, rfl⟩
  · split
    · have hm := resumeTrains_moves (k := .none) id (s.withStopc { s.stopc with latch := false })
      exact ⟨⟨hm.steady.shown, hm.steady.unprotected⟩, nofun, hm.traffic.cfg⟩
    · exact ⟨.refl s, fun _ _ => rfl, rfl⟩

/-- Every line but `RESUME` is lawful. -/
theorem takeCommand_lawful {i : Instr} (h : i ≠ .resume) (s : State) : Lawful s (takeCommand i s) := by
  cases i with
  | clockRun => exact .taken { } fun _ => rfl
  | clockHold => exact .taken { } fun _ => rfl
  | clockRate _ => exact takeClockRate_lawful ..
  | clockStart _ => exact takeClockStart_lawful ..
  | clockSet _ => exact takeClockSet_lawful ..
  | key _ _ _ _ _ _ _ => exact takeKey_lawful ..
  | keyG _ _ _ => exact takeKeyG_lawful ..
  | keyGNone _ _ => exact takeKeyGNone_lawful ..
  | keyDrop _ => exact takeKeyDrop_lawful ..
  | keyQuery _ => exact .still (takeKeyQuery_fst ..)
  | groupDimmed _ _ => exact takeGroupDimmed_lawful ..
  | groupSwitched _ _ _ _ _ => exact takeGroupSwitched_lawful ..
  | groupQuery _ => exact .still (takeGroupQuery_fst ..)
  | lampGroup _ _ => exact takeLampGroup_lawful ..
  | lampStagger _ _ => exact takeLampStagger_lawful ..
  | lampGroupStagger _ _ _ => exact takeLampGroupStagger_lawful ..
  | lampRange _ _ _ _ _ => exact takeLampRange_lawful ..
  | lampLevel _ _ _ => exact takeLampLevel_lawful ..
  | lampFree _ => exact takeLampFree_lawful ..
  | lampQuery _ => exact .still (takeLampQuery_fst ..)
  | bright _ => exact takeBright_lawful ..
  | scan _ => exact takeScan_lawful ..
  | matrixDivider _ => exact takeMatrixDivider_lawful ..
  | matrixRows _ => exact takeMatrixRows_lawful ..
  | matrixCols _ => exact takeMatrixCols_lawful ..
  | floodSource _ _ => exact takeFloodSource_lawful ..
  | floodQuery _ => exact .still (takeFloodQuery_fst ..)
  | restore _ => exact takeRestore_lawful ..
  | bridgePwm _ _ _ => exact takeBridgePwm_lawful ..
  | bridgeSense _ _ => exact takeBridgeSense_lawful ..
  | bridgeTrip _ _ => exact takeBridgeTrip_lawful ..
  | bridgeQuery _ => exact .still (takeBridgeQuery_fst ..)
  | stop => exact takeStop_lawful ..
  | resume => exact absurd rfl h
  | senseThreshold _ _ => exact takeSenseThreshold_lawful ..
  | senseSectionQuery _ => exact .still (takeSenseSectionQuery_fst ..)
  | inputMarkFilter _ _ => exact setFilter_lawful ..
  | inputIndexFilter _ _ => exact setFilter_lawful ..
  | inputMarkQuery _ => exact .still (takeInputMarkQuery_fst ..)
  | inputIndexQuery _ => exact .still (takeInputIndexQuery_fst ..)
  | sectionLength _ _ => exact takeSectionLength_lawful ..
  | sectionDrop _ => exact takeSectionDrop_lawful ..
  | sectionJoin _ _ _ => exact takeSectionJoin_lawful ..
  | sectionBuffer _ _ => exact takeSectionBuffer_lawful ..
  | sectionQuery _ => exact .still (takeSectionQuery_fst ..)
  | turnoutLegs _ _ _ _ => exact takeTurnoutLegs_lawful ..
  | turnoutDrop _ => exact takeTurnoutDrop_lawful ..
  | runDefine _ _ => exact takeRunDefine_lawful ..
  | runDrop _ => exact takeRunDrop_lawful ..
  | runQuery _ => exact .still (takeRunQuery_fst ..)
  | markDefine _ _ _ _ => exact takeMarkDefine_lawful ..
  | markDrop _ => exact takeMarkDrop_lawful ..
  | markQuery _ => exact .still (takeMarkQuery_fst ..)
  | turnoutThrow _ _ => exact takeTurnoutThrow_lawful ..
  | turnoutPulse _ _ => exact takeTurnoutPulse_lawful ..
  | turnoutQuery _ => exact .still (takeTurnoutQuery_fst ..)
  | crossingDefine _ _ _ _ _ _ _ => exact takeCrossingDefine_lawful ..
  | crossingDrop _ => exact takeCrossingDrop_lawful ..
  | crossingQuery _ => exact .still (takeCrossingQuery_fst ..)
  | bellTone _ => exact takeBellTone_lawful ..
  | bellQuiet _ _ => exact takeBellQuiet_lawful ..
  | bellQuietNone => exact takeBellQuietNone_lawful ..
  | unitQuery _ => exact .still (takeUnitQuery_fst ..)
  | trainResume _ => exact trainLine_lawful fun n => resumeAct_lawful ..
  | trainPlace _ _ _ => exact trainLine_lawful fun n => placeAct_lawful ..
  | trainLift _ => exact trainLine_lawful fun n => liftAct_lawful ..
  | trainFind _ _ _ => exact trainLine_lawful fun n => findAct_lawful ..
  | routeDefine _ _ => exact takeRouteDefine_lawful ..
  | routeAdd _ _ => exact takeRouteAdd_lawful ..
  | routeStop _ _ _ _ => exact takeRouteStop_lawful ..
  | routeStopNone _ _ => exact takeRouteStopNone_lawful ..
  | routeLoop _ _ => exact takeRouteLoop_lawful ..
  | routeDrop _ => exact takeRouteDrop_lawful ..
  | routeQuery _ => exact .still (takeRouteQuery_fst ..)
  | trainGo _ _ => exact trainLine_lawful fun n => goAct_lawful ..
  | trainPark _ => exact trainLine_lawful fun n => parkAct_lawful ..
  | timetableAdd _ _ _ => exact takeTimetableAdd_lawful ..
  | timetableDrop _ _ => exact takeTimetableDrop_lawful ..
  | timetableAutorun _ => exact takeTimetableAutorun_lawful ..
  | trainCab _ _ _ => exact trainLine_lawful fun n => cabAct_lawful ..
  | trainName _ _ => exact .guard fun _ => trainLine_lawful fun n => .guard fun _ => defineTrain_lawful ..
  | trainLength _ _ => exact trainLine_lawful fun n => .guard fun _ => defineTrain_lawful ..
  | trainTable _ _ _ => exact .guard fun _ => trainLine_lawful fun n => .guard fun _ => defineTrain_lawful ..
  | trainTableQuery _ _ => exact trainLine_lawful fun n => .still (tableQueryAct_fst ..)
  | trainRamp _ _ _ => exact trainLine_lawful fun n => .guard fun _ => defineTrain_lawful ..
  | trainCreep _ _ => exact trainLine_lawful fun n => .guard fun _ => defineTrain_lawful ..
  | trainHome _ _ _ => exact trainLine_lawful fun n => homeAct_lawful ..
  | trainHomeNone _ => exact trainLine_lawful fun n => defineTrain_lawful ..
  | trainCabtime _ _ => exact trainLine_lawful fun n => .guard fun _ => defineTrain_lawful ..
  | trainService _ _ => exact trainLine_lawful fun n => .unlessBusy fun hb => .setsClamped hb { }
  | trainQuery _ => exact trainLine_lawful fun n => queryAct_lawful ..
  | axisProgram _ _ _ => exact takeAxisProgram_lawful ..
  | axisProgramDrop _ _ => exact takeAxisProgramDrop_lawful ..
  | axisProgramNone _ => exact takeAxisProgramNone_lawful ..
  | axisProgramQuery _ => exact .still (takeAxisProgramQuery_fst ..)
  | axisSpeed _ _ => exact takeAxisSpeed_lawful ..
  | axisFree _ => exact takeAxisFree_lawful ..
  | axisClear _ => exact takeAxisClear_lawful ..
  | axisDirection _ _ => exact takeAxisDirection_lawful ..
  | axisGain _ _ => exact defineAxis_lawful ..
  | axisKick _ _ => exact defineAxis_lawful ..
  | axisMaxduty _ _ => exact defineAxis_lawful ..
  | axisStall _ _ => exact defineAxis_lawful ..
  | axisSlew _ _ => exact defineAxis_lawful ..
  | axisQuery _ => exact .still (takeAxisQuery_fst ..)
  | budgetCeiling _ => exact takeBudgetCeiling_lawful ..
  | budgetLamp _ => exact takeBudgetLamp_lawful ..
  | budgetFlood _ => exact takeBudgetFlood_lawful ..
  | mapDefine _ _ _ _ _ => exact takeMapDefine_lawful ..
  | mapNone _ => exact takeMapNone_lawful ..
  | mapQuery _ => exact .still (takeMapQuery_fst ..)
  | set _ _ _ => exact takeSet_lawful ..
  | free _ => exact takeFree_lawful ..
  | get _ => exact .still (takeGet_fst ..)
  | save => exact takeSave_lawful ..
  | erase => exact takeErase_lawful ..
  | reset => exact takeReset_lawful s
  | _ => exact .still rfl

end Sys2Proof.Machine
end

section
-- One theorem after the other: side by side, waiting proofs would pile up.
set_option Elab.async false
/-! SUPPORT. What the events leave of the shown page and the latch, and what a part held by RST, not READY, or
saving does with its commands. -/

namespace Sys2Proof.Machine

open Sys2Proof.Safety

/-! ## Lines received -/

theorem takeCommand_calm (i : Instr) (s : State) : Calm s (takeCommand i s).1 := by
  by_cases h : i = .resume
  · rw [h]; exact (takeResume_leaves s).1
  · exact (takeCommand_lawful h s).steady.toCalm

theorem takeLine_calm (l : Line) (s : State) : Calm s (takeLine l s).1 := by
  unfold takeLine
  split
  · exact .refl s
  · split
    · exact .refl s
    · split
      · exact .refl s
      · split
        · exact .refl s
        · unfold unknownKeyword; split <;> exact .refl s
        · exact takeCommand_calm ..

theorem holdLine_calm (b : Bool) (l : Line) (s : State) : Calm s (holdLine b l s) := by
  unfold holdLine
  split
  · exact { }
  · exact (takeLine_calm l s).trans { }

theorem endLine_calm (s : State) : Calm s (endLine s) := by
  unfold endLine
  dsimp only
  split
  · exact { }
  · exact { }
  · exact { }
  · split
    · exact { }
    · exact .trans { } (holdLine_calm ..)

theorem receiveChar_calm (c : BitVec 8) (fe : Bool) (s : State) : Calm s (receiveChar c fe s) := by
  have hend : Calm s (endLine (s.withLine { s.line with afterCr := decide (c = 13) && !fe })) :=
    .trans { } (endLine_calm _)
  unfold receiveChar
  dsimp only
  split
  · exact { }
  · split
    · exact hend
    · split
      · split
        · exact { }
        · exact hend
      · exact { }

/-! ## Events that leave the shown page and the latch -/

theorem acceptAssert_steady (s : State) : Steady s (acceptAssert s) :=
  .ite _ (fun _ => .refl s) fun _ => setLatch_steady ..

theorem acceptRelease_steady (s : State) : Steady s (acceptRelease s) :=
  .ite _ (fun _ => .trans { } (raise_steady ..)) fun _ => .refl s

theorem stopSample_steady (b : Bool) (s : State) : Steady s (stopSample b s) :=
  .ite _ (fun _ => { }) fun _ => .ite _ (fun _ => { }) fun _ => .ite _ (fun _ => acceptAssert_steady s) fun _ =>
    acceptRelease_steady s

theorem cutNotice_steady (c : Channel) (s : State) : Steady s (cutNotice c s) := by
  unfold cutNotice
  split
  · exact (sectionCutNotice_moves (k := .none) id ..).steady
  · exact { }
  · exact .refl s

theorem writeSlot_steady (c : Channel) (mA : Nat) (s : State) : Steady s (writeSlot c mA s) := by
  unfold writeSlot; split <;> exact { }

theorem tripTest_steady (c : Channel) (mA : Nat) (s : State) : Steady s (tripTest c mA s) :=
  .ite _ (fun _ => .refl s) fun _ => .trans (.trans { } (cutNotice_steady c (releaseChannel .cut c s))) (raise_steady ..)

theorem occupancyStep_steady (c : Channel) (mA : Nat) (s : State) : Steady s (occupancyStep c mA s) := by
  unfold occupancyStep
  split
  · exact .refl s
  · exact .ite _ (fun _ => { }) fun _ => .trans { } (occupancyNotice_moves (k := .none) ..).steady

theorem conversionEnd_steady (s : State) : Steady s (conversionEnd s) := by
  unfold conversionEnd
  split
  · exact .refl s
  · refine .trans (.ite _ (fun _ => .refl s) fun _ => ?_) { }
    exact .trans (.trans (writeSlot_steady ..) (tripTest_steady ..)) (occupancyStep_steady ..)

theorem dutyRequest_steady (c : Channel) (d : Drive) (s : State) : Steady s (dutyRequest c d s) :=
  .ite _ (fun _ => .refl s) fun _ => { }

theorem indexEvent_steady (n : Axis) (stamp : Nat) (s : State) : Steady s (indexEvent n stamp s) := by
  have hset : Steady s (if (s.axes.get n).measuresFree
      then (s.modAxis n (indexAxis (s.axisDef n) s.freeDraws stamp)).withFreeDraws (s.freeDraws + 1)
      else s.modAxis n (indexAxis (s.axisDef n) s.freeDraws stamp)) := .ite _ (fun _ => { }) fun _ => { }
  exact .ite _ (fun _ => hset) fun _ => hset.trans (dutyRequest_steady ..)

theorem edgeEvent_steady (i : InputId) (stamp : Nat) (s : State) : Steady s (edgeEvent i stamp s) := by
  unfold edgeEvent
  split
  · split
    · exact .refl s
    · exact (markEvent_moves (k := .none) id ..).steady
  · exact indexEvent_steady ..
  · exact .refl s

theorem acceptActive_steady (i : InputId) (stamp : Nat) (s : State) : Steady s (acceptActive i stamp s) :=
  .ite _ (fun _ => { }) fun _ => .trans { } (edgeEvent_steady ..)

theorem acceptInactive_steady (i : InputId) (s : State) : Steady s (acceptInactive i s) :=
  .ite _ (fun _ => .trans { } (raise_steady ..)) fun _ => { }

theorem sampleInput_steady (i : InputId) (level : Bool) (s : State) : Steady s (sampleInput i level s) :=
  .ite _ (fun _ => { }) fun _ => .ite _ (fun _ => { }) fun _ => .ite _ (fun _ => { }) fun _ =>
    .ite _ (fun _ => .trans { } (acceptActive_steady ..)) fun _ => .trans { } (acceptInactive_steady ..)

theorem updateTick_steady (n : Axis) (s : State) : Steady s (updateTick n s) :=
  .ite _ (fun _ => .trans { } (dutyRequest_steady ..)) fun _ => .refl s

theorem stallExpiry_steady (n : Axis) (s : State) : Steady s (stallExpiry n s) := by
  unfold stallExpiry
  split
  · exact .refl s
  · exact .trans (.trans { } (dutyRequest_steady ..)) (raise_steady ..)

theorem flashExpiry_steady (k : CrossingId) (s : State) : Steady s (flashExpiry k s) := by
  refine .ite _ (fun _ => Steady.recompose { unprotected := fun j hj => ?_ }) fun _ => .refl s
  rw [State.modCrossing, State.withCrossings_crossings, Table.get_modify] at hj
  split at hj <;> exact hj

theorem budgetEvaluation_steady (s : State) : Steady s (budgetEvaluation s) := by
  refine .ite _ (fun _ => ?_) fun _ => .refl s
  have hset : Steady s (if (evaluate s).scale = s.account.scale then s.withAccount ((evaluate s).retest s.cfg.ceiling)
      else requestRecompose (s.withAccount ((evaluate s).retest s.cfg.ceiling))) :=
    .ite _ (fun _ => { }) fun _ => Steady.recompose { }
  exact .ite _ (fun _ => hset) fun _ => hset.trans (raise_steady ..)

theorem completeCompose_steady (s : State) : Steady s (completeCompose s) := by
  unfold completeCompose; split
  · exact .refl s
  · exact { }

theorem bellExpiry_steady (s : State) : Steady s (bellExpiry s) := by
  unfold bellExpiry; split
  · exact .refl s
  · exact { }

theorem placeHome_steady (s : State) (n : Train) : Steady s (placeHome s n) := by
  unfold placeHome; split
  · exact .refl s
  · exact (placeAct_lawful ..).steady

theorem settlingExpiry_steady (s : State) : Steady s (settlingExpiry s) := by
  refine .ite _ (fun _ => ?_) fun _ => .refl s
  have hplaced : Steady s ((ids 6).foldl placeHome s) := .foldl placeHome_steady _ s
  have hready (u : State) : Steady u (u.withSys { u.sys with ready := true, settling := false }) := { }
  exact .trans (.trans (hplaced.trans (hready _)) (raise_steady ..)) (reportStrays_moves (k := .none) ..).steady

/-! ## Every command -/

theorem lineCommand_steady {f : State → Ans} {s t : State} (h : Steady s (f s).1)
    (e : lineCommand f s = .next t) : Steady s t := by
  cases e
  exact .ite _ (fun _ => .refl s) fun _ => .trans (h.trans (answer_steady ..)) (offer_steady _)

theorem command_steady {f : State → Ans} {s t : State} (h : Steady s (f s).1) (e : command f s = .next t) :
    Steady s t := by
  refine lineCommand_steady ?_ e
  unfold whenReady; split
  · exact h
  · exact .refl s

theorem event_steady {f : State → State} {s t : State} (h : Steady s (f s)) (e : event f s = .next t) :
    Steady s t := by
  cases e
  exact .ite _ (fun _ => .refl s) fun _ => h.trans (offer_steady _)

/-- A line of the command line that a device reset leaves has nothing to write. -/
theorem deviceReset_offer (p : ResetPins) (s : State) : (deviceReset p s).offer = deviceReset p s := rfl

/-- The end of a written line is steady, or the device reset that follows the `OK` of a `RESET`. -/
theorem lineDone_cases (s : State) : Steady s (lineDone s) ∨ ∃ p u, lineDone s = deviceReset p u := by
  unfold lineDone
  split
  · exact .inl (.refl s)
  · exact .inl { }
  · exact .inr ⟨_, _, rfl⟩
  · exact .inl { }

/-- No command but a frame end, a `RESUME`, a character, a lead timer or a device reset touches the shown page,
protects a crossing or clears the latch. -/
theorem exec_steady {i : Instr} {s t : State} (e : exec i s = .next t) (hframe : i ≠ .frameEnd)
    (hresume : i ≠ .resume) (hchar : ∀ c fe, i ≠ .receiveCharacter c fe) (hlead : ∀ k, i ≠ .leadTimer k) :
    Steady s t ∨ ∃ p u, t = deviceReset p u := by
  by_cases hl : isLine i ∧ i ≠ .status
  · rw [exec_of_line s hl.1 hl.2] at e
    exact .inl (command_steady (takeCommand_lawful hresume s).steady e)
  cases i with
  | powerOn p => cases e; exact .inr ⟨_, _, rfl⟩
  | rstRelease p =>
    cases e; split
    · exact .inr ⟨_, _, rfl⟩
    · exact .inl (.refl s)
  | rstSample b =>
    cases e; unfold rstSample; split
    · split
      · exact .inl (.refl s)
      · exact .inr ⟨_, _, rfl⟩
    · split
      · split <;> exact .inl { }
      · exact .inl { }
  | lineWritten =>
    rcases lineDone_cases s with h | ⟨p, u, h⟩
    · exact .inl (event_steady h e)
    · cases e; split
      · exact .inl (.refl s)
      · rw [h]; exact .inr ⟨p, u, deviceReset_offer p u⟩
  | clockStep => exact .inl (event_steady (clockStep_steady s) e)
  | dwellEnd n => exact .inl (event_steady (dwellEnd_moves (k := .none) id n s).steady e)
  | walkTimer => exact .inl (event_steady (f := walkExpiry) (.ite _ (fun _ => Steady.recompose { }) fun _ => .refl s) e)
  | composeComplete => exact .inl (event_steady (completeCompose_steady s) e)
  | floodPeriodEnd n => exact .inl (event_steady (f := fun s => s.withFloods (s.floods.modify n floodPeriod)) { } e)
  | periodEnd c => exact .inl (event_steady (f := periodEnd c) { } e)
  | senseTimer c => exact .inl (event_steady (f := fun s => s.modChannel c fun ch => { ch with armed := true }) { } e)
  | conversionRequest c mA =>
    exact .inl (event_steady (f := conversionRequest c mA) (.ite _ (fun _ => { }) fun _ => .refl s) e)
  | stopLineAssert => exact .inl (.trans { } (event_steady (acceptAssert_steady _) e))
  | stopLineRelease => exact .inl (.trans { } (event_steady (acceptRelease_steady _) e))
  | stopLineSample b => exact .inl (.trans { } (event_steady (stopSample_steady b _) e))
  | conversionComplete => exact .inl (event_steady (conversionEnd_steady s) e)
  | acceptedEdgeActive k =>
    exact .inl (event_steady (f := edgeActive k) (.ite _ (fun _ => .refl s) fun _ => acceptActive_steady ..) e)
  | acceptedEdgeInactive k =>
    exact .inl (event_steady (f := edgeInactive k) (.ite _ (fun _ => acceptInactive_steady ..) fun _ => .refl s) e)
  | stuckTimer k =>
    exact .inl (event_steady (f := stuckExpiry k) (.ite _ (fun _ => .trans { } (raise_steady ..)) fun _ => .refl s) e)
  | inputSample b =>
    exact .inl (event_steady (f := inputSample b) (.foldl (fun s i => sampleInput_steady i _ s) _ s) e)
  | realMillisecondCount => exact .inl (event_steady (f := countMillisecond) { } e)
  | pulseComplete => exact .inl (event_steady (pulseEnd_drives s).steady e)
  | recoveryEnd => exact .inl (event_steady (recoveryExpiry_drives s).steady e)
  | leadTimer k => exact absurd rfl (hlead k)
  | flashTimer k => exact .inl (event_steady (flashExpiry_steady k s) e)
  | bellHalfPeriod => exact .inl (event_steady (bellExpiry_steady s) e)
  | rampTick n => exact .inl (event_steady (rampTick_moves (k := .none) id n s).steady e)
  | cabSupervisionTimer n => exact .inl (event_steady (cabExpiry_moves (k := .none) id n s).steady e)
  | updateTick n => exact .inl (event_steady (updateTick_steady n s) e)
  | stallTimer n => exact .inl (event_steady (stallExpiry_steady n s) e)
  | stopTimer n => exact .inl (event_steady (f := stopExpiry n) (.ite _ (fun _ => { }) fun _ => .refl s) e)
  | budgetEvaluation => exact .inl (event_steady (budgetEvaluation_steady s) e)
  | saveComplete =>
    exact .inl (event_steady (f := saveEnd) (.ite _ (fun _ => .trans { } (raise_steady ..)) fun _ => .refl s) e)
  | eraseComplete =>
    exact .inl (event_steady (f := eraseEnd) (.ite _ (fun _ => .trans { } (raise_steady ..)) fun _ => .refl s) e)
  | settlingTimer => exact .inl (event_steady (settlingExpiry_steady s) e)
  | rstAssert => cases e; exact .inl { }
  | status => exact .inl (lineCommand_steady (.refl s) e)
  | frameEnd => exact absurd rfl hframe
  | receiveCharacter c fe => exact absurd rfl (hchar c fe)
  | routeStop r i d m => exact absurd ⟨by cases m <;> exact Option.some_ne_none _, nofun⟩ hl
  | trainCab n st o => exact absurd ⟨by cases o <;> exact Option.some_ne_none _, nofun⟩ hl
  | _ => exact absurd ⟨Option.some_ne_none _, nofun⟩ hl

theorem leadExpiry_crossings (k : CrossingId) (s : State) : (leadExpiry k s).matrix = s.matrix ∧
    ∀ j, j ≠ k → (leadExpiry k s).crossings.get j = s.crossings.get j := by
  unfold leadExpiry
  split
  · exact ⟨rfl, fun _ _ => rfl⟩
  · have hn := crossingNotice_redraws k (bellUpdate
      (s.modCrossing k fun r => { r with state := .protectedBy, leadTimer := none }))
    rw [hn.matrix, hn.crossings, bellUpdate_eq]
    exact ⟨rfl, fun j hj => Table.get_modify_of_ne _ _ hj⟩

theorem command_calm {f : State → Ans} {s t : State} (h : Calm s (f s).1) (e : command f s = .next t) : Calm s t := by
  cases e; split
  · exact .refl s
  · unfold whenReady; split
    · exact h.trans { }
    · exact { }

theorem event_calm {f : State → State} {s t : State} (h : Calm s (f s)) (e : event f s = .next t) : Calm s t := by
  cases e; split
  · exact .refl s
  · exact h.trans { }

/-- No command but a frame end, a lead timer or a device reset touches the shown page or protects a crossing. -/
theorem exec_calm {i : Instr} {s t : State} (e : exec i s = .next t) (hframe : i ≠ .frameEnd)
    (hlead : ∀ k, i ≠ .leadTimer k) : Calm s t ∨ ∃ p u, t = deviceReset p u := by
  by_cases hresume : i = .resume
  · subst hresume
    exact .inl (command_calm (takeCommand_calm .resume s) e)
  by_cases hchar : ∃ c fe, i = .receiveCharacter c fe
  · obtain ⟨c, fe, rfl⟩ := hchar
    exact .inl (event_calm (receiveChar_calm ..) e)
  · exact (exec_steady e hframe hresume (fun c fe h => hchar ⟨c, fe, h⟩) hlead).imp_left Steady.toCalm

theorem exec_shown {i : Instr} {s t : State} (e : exec i s = .next t) (hframe : i ≠ .frameEnd) :
    t.matrix.shown = s.matrix.shown ∨ ∃ p u, t = deviceReset p u := by
  by_cases hlead : ∃ k, i = .leadTimer k
  · obtain ⟨k, rfl⟩ := hlead
    refine .inl ?_
    cases e; split
    · rfl
    · exact congrArg Matrix.shown (leadExpiry_crossings k s).1
  · exact (exec_calm e hframe fun k h => hlead ⟨k, h⟩).imp_left Calm.shown

theorem deviceReset_idle (p : ResetPins) (s : State) (k : CrossingId) :
    ((deviceReset p s).crossings.get k).state = .idle := by
  have h : (deviceReset p s).crossings.get k = CrossingRun.reset := Table.get_replicate ..
  rw [h]; rfl

/-- A crossing is PROTECTED by its own lead timer alone (R107). -/
theorem exec_unprotected {i : Instr} {s t : State} {k : CrossingId} (e : exec i s = .next t) (hi : i ≠ .leadTimer k)
    (h : (t.crossings.get k).state = .protectedBy) : (s.crossings.get k).state = .protectedBy := by
  by_cases hframe : i = .frameEnd
  · subst hframe
    cases e; split at h
    · exact h
    · have hc : (frameEnd s).crossings = s.crossings := by rw [frameEnd_eq]; rfl
      rw [← hc]; exact h
  by_cases hlead : ∃ j, i = .leadTimer j
  · obtain ⟨j, rfl⟩ := hlead
    have hj : k ≠ j := fun hk => hi (hk ▸ rfl)
    cases e; split at h
    · exact h
    · rw [← (leadExpiry_crossings j s).2 k hj]; exact h
  rcases exec_calm e hframe fun j hj => hlead ⟨j, hj⟩ with hc | ⟨p, u, rfl⟩
  · exact hc.unprotected k h
  · rw [deviceReset_idle] at h; cases h

end Sys2Proof.Machine
end

section
-- One theorem after the other: side by side, waiting proofs would pile up.
set_option Elab.async false
/-! SUPPORT. The part held by RST, the exchange of pages and the end of the halt. -/

namespace Sys2Proof.Machine

open Sys2Proof.Safety

/-! ## The part held by RST (R196) -/

theorem outputsOff_of_held {s : State} (h : s.sys.rstHeld = true) : OutputsOff s := by
  have htext : txdText s = [] := if_pos h
  refine ⟨fun p q k => ?_, fun slot p => ?_, fun n k => ?_, fun c k => if_pos h, fun t b => ?_, ?_, htext, fun k => ?_⟩
  · rw [columnOn, columnLevel, if_pos h]; simp
  · rw [rowDriven, h]; rfl
  · rw [floodOn, h]; rfl
  · rw [coilOn, h]; rfl
  · rw [bellOut, h]; rfl
  · rw [deOut, htext]
    simp only [List.length_nil, Nat.add_zero, Bool.and_eq_false_iff, decide_eq_false_iff_not]
    omega

theorem lineCommand_of_held {f : State → Ans} {s : State} (h : s.sys.rstHeld = true) : lineCommand f s = .next s := by
  rw [lineCommand, if_pos (by simp [h])]

/-- While RST holds the part only its own commands and the STOP pin have an effect. -/
theorem exec_of_held {i : Instr} {s : State} (h : s.sys.rstHeld = true) (h1 : ∀ p, i ≠ .powerOn p)
    (h2 : ∀ p, i ≠ .rstRelease p) (h3 : ∀ b, i ≠ .rstSample b) (h4 : i ≠ .rstAssert) (h5 : i ≠ .stopLineAssert)
    (h6 : i ≠ .stopLineRelease) (h7 : ∀ b, i ≠ .stopLineSample b) : exec i s = .next s := by
  by_cases hl : isLine i ∧ i ≠ .status
  · rw [exec_of_line s hl.1 hl.2]; exact lineCommand_of_held h
  cases i with
  | powerOn p => exact absurd rfl (h1 p)
  | rstRelease p => exact absurd rfl (h2 p)
  | rstSample b => exact absurd rfl (h3 b)
  | rstAssert => exact absurd rfl h4
  | stopLineAssert => exact absurd rfl h5
  | stopLineRelease => exact absurd rfl h6
  | stopLineSample b => exact absurd rfl (h7 b)
  | status => exact lineCommand_of_held h
  | floodPeriodEnd n => exact event_of_held (f := fun s => s.withFloods (s.floods.modify n floodPeriod)) h
  | senseTimer c => exact event_of_held (f := fun s => s.modChannel c fun ch => { ch with armed := true }) h
  | clockStep | dwellEnd | walkTimer | composeComplete | frameEnd | periodEnd
  | conversionRequest | conversionComplete | acceptedEdgeActive | acceptedEdgeInactive | stuckTimer | pulseComplete
  | recoveryEnd | leadTimer | flashTimer | bellHalfPeriod | rampTick | cabSupervisionTimer | updateTick | stallTimer
  | stopTimer | budgetEvaluation | receiveCharacter | lineWritten | saveComplete | eraseComplete | settlingTimer
  | inputSample | realMillisecondCount => exact event_of_held h
  | routeStop r i d m => exact absurd ⟨by cases m <;> exact Option.some_ne_none _, nofun⟩ hl
  | trainCab n st o => exact absurd ⟨by cases o <;> exact Option.some_ne_none _, nofun⟩ hl
  | _ => exact absurd ⟨Option.some_ne_none _, nofun⟩ hl

/-! ## Lines before `#READY`, refused lines, and lines under a SAVE (R184, R194) -/

theorem takeCommand_refused {i : Instr} {s : State} {r : Reason} (h : (takeCommand i s).2 = .no r) :
    (takeCommand i s).1 = s := by
  by_cases hi : i = .resume
  · subst hi; exact (takeResume_leaves s).2.1 r h
  · exact (takeCommand_lawful hi s).refused r h

theorem takeCommand_saved {i : Instr} {s : State} (h : s.busy = true) : (takeCommand i s).1.cfg = s.cfg := by
  by_cases hi : i = .resume
  · subst hi; exact (takeResume_leaves s).2.2
  · exact (takeCommand_lawful hi s).saved h

theorem lineCommand_cfg {f : State → Ans} {s t : State} (h : (f s).1.cfg = s.cfg)
    (e : lineCommand f s = .next t) : t.cfg = s.cfg := by
  cases e; split
  · rfl
  · exact h

theorem exec_cfg_of_busy {i : Instr} {s t : State} (hi : isLine i) (hb : s.busy = true) (e : exec i s = .next t) :
    t.cfg = s.cfg := by
  by_cases hs : i = .status
  · subst hs; exact lineCommand_cfg rfl e
  · rw [exec_of_line s hi hs] at e
    refine lineCommand_cfg ?_ e
    unfold whenReady; split
    · exact takeCommand_saved hb
    · rfl

/-! ## The exchange of pages (R36, R46, R51) -/

theorem requestRecompose_eq (s : State) : requestRecompose s =
    if s.sky.compose = none ∧ s.matrix.ready = false then startCompose s
    else s.withMatrix { s.matrix with pending := true } := by
  unfold requestRecompose
  cases hc : s.sky.compose <;> cases hr : s.matrix.ready <;> simp

theorem frameEnd_of_idle {s : State} (h : s.matrix.ready = false) : frameEnd s = nextFrame s := by
  simp only [frameEnd, h, Bool.false_eq_true, if_false]

/-- A frame end that finds a page ready, with no request pending. -/
theorem frameEnd_of_ready {s : State} (h : s.matrix.ready = true) (hp : s.matrix.pending = false) :
    frameEnd s = nextFrame (exchangePages s) := by
  have he : (exchangePages s).matrix.pending = false := hp
  simp only [frameEnd, h, he, if_true, Bool.false_eq_true, if_false]

/-- A frame end that finds a page ready and a request pending: the next compose starts. -/
theorem frameEnd_of_pending {s : State} (h : s.matrix.ready = true) (hp : s.matrix.pending = true) :
    frameEnd s = nextFrame (startCompose
      ((exchangePages s).withMatrix { (exchangePages s).matrix with pending := false })) := by
  have he : (exchangePages s).matrix.pending = true := hp
  simp only [frameEnd, h, he, if_true]

theorem frameEnd_stopc (s : State) : (frameEnd s).stopc = s.stopc := by rw [frameEnd_eq]; rfl

theorem leadExpiry_stopc (k : CrossingId) (s : State) : (leadExpiry k s).stopc = s.stopc := by
  unfold leadExpiry
  split
  · rfl
  · refine (crossingNotice_redraws ..).stopc.trans ?_
    rw [bellUpdate_eq]; rfl

theorem floodPeriod_of_staged {f : FloodRun} {d : Nat} (h : f.staged = some d) : floodPeriod f = ⟨none, d⟩ := by
  simp only [floodPeriod, h]

theorem floodPeriod_of_none {f : FloodRun} (h : f.staged = none) : floodPeriod f = f := by
  simp only [floodPeriod, h]

theorem Table.modify_eq_set {α : Type} {n : Nat} (t : Table α n) (i : Fin n) (f : α → α) :
    t.modify i f = t.set i (f (t.get i)) := by
  ext j; rw [Table.get_modify, Table.get_set]; split
  · next h => rw [h]
  · rfl

theorem columnOn_iff {s : State} (h : runs s) {p : Fin 8} {q : Fin 24} {i : LampId} {k : Nat}
    (hi : i.val = shownLamp s.matrix p q) : columnOn s p q k = true ↔ k < s.matrix.shown.lamps.get i := by
  rw [columnOn, columnLevel, show s.sys.rstHeld = false from h, ← hi, asId_val]
  simp

theorem rowDriven_iff {s : State} (h : runs s) (slot p : Fin 8) : rowDriven s slot p = true ↔ slot = p := by
  rw [rowDriven, show s.sys.rstHeld = false from h]; simp

theorem floodOn_iff {s : State} (h : runs s) (n : FloodId) (k : Nat) : floodOn s n k = true ↔
    (s.floods.get n).applied = 255 ∨ k < (s.floods.get n).applied := by
  rw [floodOn, show s.sys.rstHeld = false from h]; simp

/-! ## The end of the halt (R65, R69, R146, R167) -/

theorem halt_iff (s : State) : s.halt = true ↔ s.stopc.line = true ∨ s.stopc.latch = true := by simp [State.halt]

/-- Trains changed one by one, each by itself. -/
theorem modTrains_get {f : TrainRun → TrainRun} {ns : List Train} (hn : ns.Nodup) (s : State) (m : Train) :
    (ns.foldl (fun s n => s.modTrain n f) s).trains.get m =
      if m ∈ ns then f (s.trains.get m) else s.trains.get m := by
  induction ns generalizing s with
  | nil => simp
  | cons n ns ih =>
    obtain ⟨hnot, hns⟩ := List.nodup_cons.1 hn
    rw [List.foldl_cons, ih hns, State.modTrain_get]
    by_cases hm : m = n
    · subst hm; simp [hnot]
    · simp [hm]

/-- The fields of a train back from HALTED or FAULTED (R145, R146). -/
def TrainRun.backFrom (halt : Bool) (t : TrainRun) : TrainRun :=
  if t.resumes then waitingRun halt none t
  else { t with state := .parked, target := 0, cause := none, reason := none, dwell := 0 }

theorem backFrom_state (halt : Bool) (t : TrainRun) : (t.backFrom halt).state =
    if (t.mode = .route ∧ t.route ≠ none) ∨ (t.mode = .cab ∧ 0 < t.cabStep)
    then (if halt then .halted else .waiting) else .parked := by
  have hr : t.resumes = true ↔ (t.mode = .route ∧ t.route ≠ none) ∨ (t.mode = .cab ∧ 0 < t.cabStep) := by
    cases h : t.mode <;> simp [TrainRun.resumes, h, Option.isSome_iff_ne_none]
  unfold TrainRun.backFrom
  split
  · next h => rw [if_pos (hr.1 h)]; cases halt <;> rfl
  · next h => rw [if_neg fun g => h (hr.2 g)]

theorem comeBack_eq (s : State) (n : Train) : comeBack s n = s.modTrain n (TrainRun.backFrom s.halt) := by
  have hmod {f g : TrainRun → TrainRun} (h : f (s.trains.get n) = g (s.trains.get n)) :
      s.modTrain n f = s.modTrain n g := by
    unfold State.modTrain; rw [Table.modify_eq_set, Table.modify_eq_set, h]
  unfold comeBack
  split
  · next h => exact hmod (if_pos h).symm
  · next h => exact hmod (if_neg h).symm

theorem comeBacks_eq (ns : List Train) (s : State) :
    ns.foldl comeBack s = ns.foldl (fun s n => s.modTrain n (TrainRun.backFrom s.halt)) s := by
  induction ns generalizing s with
  | nil => rfl
  | cons n ns ih => rw [List.foldl_cons, List.foldl_cons, ih, comeBack_eq]

/-- Changing trains one by one by the halt as it stands leaves the halt. -/
theorem modTrains_halt (g : Bool → TrainRun → TrainRun) (ns : List Train) (s : State) :
    ns.foldl (fun s n => s.modTrain n (g s.halt)) s = ns.foldl (fun t n => t.modTrain n (g s.halt)) s := by
  induction ns generalizing s with
  | nil => rfl
  | cons n ns ih => exact ih (s.modTrain n (g s.halt))

theorem modTrains_eq (f : TrainRun → TrainRun) (ns : List Train) (s : State) :
    ns.foldl (fun s n => s.modTrain n f) s = s.withTrains (ns.foldl (fun s n => s.modTrain n f) s).trains := by
  induction ns generalizing s with
  | nil => rfl
  | cons n ns ih => rw [List.foldl_cons, ih]; rfl

/-- The resume notice brings each HALTED train back, and changes no other and nothing else (R146). -/
theorem resumeTrains_eq (s : State) : resumeTrains s = s.withTrains (resumeTrains s).trains := by
  rw [resumeTrains, comeBacks_eq, modTrains_halt]
  exact modTrains_eq ..

theorem resumeTrains_get (s : State) (m : Train) : (resumeTrains s).trains.get m =
    if (s.trains.get m).state = .halted then (s.trains.get m).backFrom s.halt else s.trains.get m := by
  have hn : (ids 6).Nodup := List.nodup_finRange 6
  rw [resumeTrains, comeBacks_eq, modTrains_halt, modTrains_get (hn.filter _)]
  simp

theorem resumeAxis_eq (a : AxisRun) :
    resumeAxis a = { a with state := if a.state = .halted then .stopped else a.state } := by
  cases h : a.state <;> simp [resumeAxis, h]
  all_goals rw [← h]

end Sys2Proof.Machine
end

section

namespace Sys2Proof.Proofs.HeldAndHalted

open Sys2Proof.Machine Sys2Proof.Safety

/-- Settles O2: every line goes by its block's answer, and a refusal leaves the state it found. -/
theorem linesWaitOrFail : Obligations.LinesWaitOrFail := by
  refine ⟨fun s h => ⟨outputsOff_of_held h, fun c h1 h2 h3 h4 h5 h6 h7 => exec_of_held h h1 h2 h3 h4 h5 h6 h7,
    fun b c hc => ?_⟩, fun c s hl hs hr h hc => ?_, fun c s r h => takeCommand_refused h,
    fun c s t hl hb e => exec_cfg_of_busy hl hb e⟩
  · have hpin (f : State → State) : event f (withStopPin b s) = .next (withStopPin b s) := event_of_held h
    rcases hc with rfl | rfl
    · exact hpin _
    · cases b <;> exact hpin _
  · rw [exec_of_line s hl hs]; exact command_of_start hr h hc

/-- Settles O11: the pages are exchanged at a frame end alone, and the pins show the shown page. -/
theorem pageExchange : Obligations.PageExchange := by
  refine ⟨fun c s t e hc => ?_, fun s => ⟨requestRecompose_eq s, fun c h hc => happens h ?_,
    fun h hr => happens h (frameEnd_of_idle hr), fun u h hr hu => happens h ?_,
    fun n d h hd => happens (f := fun s => s.withFloods (s.floods.modify n floodPeriod)) h ?_,
    fun n h hd => happens (f := fun s => s.withFloods (s.floods.modify n floodPeriod)) h ?_,
    fun h hw => ⟨s.sky.walkPos + 1, ?_, happens h (if_pos hw)⟩, fun h hw => happens h (if_neg (by simp [hw])),
    fun h => ⟨fun p q i k hi => columnOn_iff h (hi.trans rfl), rowDriven_iff h, fun n k _ => floodOn_iff h n k⟩, rfl⟩⟩
  · exact exec_shown e hc
  · simp only [completeCompose, hc]
  · subst hu
    by_cases hp : s.matrix.pending = true
    · rw [frameEnd_of_pending hr hp, if_pos hp]; rfl
    · rw [Bool.not_eq_true] at hp
      rw [frameEnd_of_ready hr hp, if_neg (by simp [hp]), nextFrame, exchangePages, ← hp]; rfl
  · rw [Table.modify_eq_set, floodPeriod_of_staged hd]
  · rw [Table.modify_eq_set, floodPeriod_of_none hd, Table.set_get]; rfl
  · simp [Fin.val_add]

/-- Settles O17: `RESUME` alone clears the latch, and the trains and axes come back each by itself. -/
theorem haltEnds : Obligations.HaltEnds := by
  refine ⟨halt_iff, fun c s t e hl hl' => ?_, fun s => ⟨fun u h hline hu => ?_, fun ht hline => ?_,
    fun ht hline hl => ?_, fun ht hline hl => ?_, fun b u h hu => ?_⟩⟩
  · by_cases hframe : c = .frameEnd
    · subst hframe
      have hstopc : t.stopc = s.stopc := by
        cases e; split
        · rfl
        · exact frameEnd_stopc s
      rw [hstopc, hl] at hl'; cases hl'
    · by_contra hno
      obtain ⟨hresume, hchar, hreset⟩ : c ≠ .resume ∧ (∀ ch fe, c ≠ .receiveCharacter ch fe) ∧
          ¬ ∃ p u, t = deviceReset p u := by
        refine ⟨fun h => hno (.inl h), fun ch fe h => hno (.inr (.inl ⟨ch, fe, h⟩)), fun h => hno (.inr (.inr h))⟩
      by_cases hlead : ∃ k, c = .leadTimer k
      · obtain ⟨k, rfl⟩ := hlead
        have hstopc : t.stopc = s.stopc := by
          cases e; split
          · rfl
          · exact leadExpiry_stopc k s
        rw [hstopc, hl] at hl'; cases hl'
      · rcases exec_steady e hframe hresume hchar fun k h => hlead ⟨k, h⟩ with h | h
        · rw [h.latch hl] at hl'; cases hl'
        · exact hreset h
  · subst hu
    exact ⟨happens h (if_pos hline), fun hl => (halt_iff _).2 (.inr hl)⟩
  · exact refuses ht (if_pos hline)
  · exact answers ht ((if_neg (by simp [hline])).trans (if_neg (by simp [hl])))
  · obtain ⟨s1, hs1⟩ : ∃ s1, s1 = s.withStopc { s.stopc with latch := false } := ⟨_, rfl⟩
    have hhalt : s1.halt = false := by rw [hs1]; simp [State.halt, hline]
    have hm := resumeTrains_moves (k := .none) id s1
    refine ⟨resumeAxes (resumeTrains s1), answers ht ?_, hm.traffic.halt.trans hhalt, ?_, ?_, fun n hn => ?_,
      fun n hn => ?_, fun n => ?_⟩
    · rw [hs1]; exact (if_neg (by simp [hline])).trans (if_pos hl)
    · rw [resumeTrains_eq, hs1]; rfl
    · rw [resumeTrains_eq, hs1]; rfl
    · show ((resumeTrains s1).trains.get n).state = _
      rw [resumeTrains_get, hhalt, hs1]
      exact (congrArg TrainRun.state (if_pos hn)).trans (backFrom_state false _)
    · show (resumeTrains s1).trains.get n = _
      rw [resumeTrains_get, hs1]
      exact if_neg hn
    · rw [resumeAxes, resumeTrains_eq, hs1]
      exact (Table.get_map ..).trans (resumeAxis_eq _)
  · subst hu
    exact ⟨fun hb => happens h (if_pos hb),
      fun hb hrun => happens h ((if_neg hb).trans (if_pos (show s.stopc.run + 1 < 3 by omega))),
      fun hb hrun => by
        have hlast : stopSample b (withStopPin b s) =
            if b then acceptAssert (withStopPin b s) else acceptRelease (withStopPin b s) :=
          (if_neg hb).trans (if_neg (show ¬ s.stopc.run + 1 < 3 by omega))
        refine (happens (f := stopSample b) (s := withStopPin b s) h hlast).trans ?_
        cases b
        · exact (event_of_runs (f := acceptRelease) (s := withStopPin false s) h).symm
        · exact (event_of_runs (f := acceptAssert) (s := withStopPin true s) h).symm⟩

end Sys2Proof.Proofs.HeldAndHalted
end

section
-- One theorem after the other: side by side, waiting proofs would pile up.
set_option Elab.async false
/-! SUPPORT. The mark and index inputs: edges, stuck timers and samples. -/

namespace Sys2Proof.Machine

open Sys2Proof.Safety

/-! ## The event of an edge (R87) -/

theorem edgeEvent_of_undefined {i : InputId} {m : MarkId} {s : State} {stamp : Nat} (hm : m.val = i.val)
    (h : s.cfg.marks.get m = none) : edgeEvent i stamp s = s := by
  have hi : inputMark i = some m := asId_eq_some.2 hm.symm
  simp only [edgeEvent, hi, h]

theorem edgeEvent_of_mark {i : InputId} {m : MarkId} {s : State} {stamp : Nat} {d : MarkDef} (hm : m.val = i.val)
    (h : s.cfg.marks.get m = some d) : edgeEvent i stamp s = markEvent m d.sec (10 * d.offset) s := by
  have hi : inputMark i = some m := asId_eq_some.2 hm.symm
  simp only [edgeEvent, hi, h]

theorem edgeEvent_of_index {i : InputId} {n : Axis} {s : State} {stamp : Nat} (hn : 16 + n.val = i.val) :
    edgeEvent i stamp s = indexEvent n stamp s := by
  have hm : inputMark i = none := asId_eq_none.2 (by omega)
  have hi : inputAxis i = some n := (if_neg (by omega)).trans (asId_eq_some.2 (by omega))
  simp only [edgeEvent, hm, hi]

/-- What an index event leaves: inputs, configuration and part. -/
theorem indexEvent_inputs (n : Axis) (stamp : Nat) (s : State) : (indexEvent n stamp s).inputs = s.inputs ∧
    (indexEvent n stamp s).cfg = s.cfg ∧ (indexEvent n stamp s).sys = s.sys := by
  have hsend (u : State) : (sendAxisDuty n u).inputs = u.inputs ∧ (sendAxisDuty n u).cfg = u.cfg ∧
      (sendAxisDuty n u).sys = u.sys := by
    unfold sendAxisDuty dutyRequest; split <;> exact ⟨rfl, rfl, rfl⟩
  unfold indexEvent
  dsimp only
  split_ifs
  · exact ⟨rfl, rfl, rfl⟩
  · exact hsend _
  · exact ⟨rfl, rfl, rfl⟩
  · exact hsend _

theorem edgeEvent_inputs (i : InputId) (stamp : Nat) (s : State) : (edgeEvent i stamp s).inputs = s.inputs ∧
    (edgeEvent i stamp s).cfg = s.cfg ∧ (edgeEvent i stamp s).sys = s.sys := by
  unfold edgeEvent
  split
  · split
    · exact ⟨rfl, rfl, rfl⟩
    · next m _ _ d _ =>
      have h := (markEvent_moves (k := .none) id m d.sec (10 * d.offset) s).traffic
      exact ⟨h.inputs, h.cfg, h.sys⟩
  · exact indexEvent_inputs ..
  · exact ⟨rfl, rfl, rfl⟩

/-! ## Accepted edges (R87, R88) -/

/-- The record of an input that takes an edge to ACTIVE. -/
def InputRun.activated (stamp : Nat) (f : InputRun) : InputRun :=
  { f with sampled := true, active := true, run := 0, last := some stamp, stuckTimer := true }

/-- The record of an input that takes an edge to INACTIVE. -/
def InputRun.deactivated (f : InputRun) : InputRun :=
  { f with sampled := true, active := false, run := 0, stuck := false, stuckTimer := false }

theorem modInput_eq (i : InputId) (f : InputRun → InputRun) (s : State) :
    s.modInput i f = s.withInputs (s.inputs.set i (f (s.inputs.get i))) := by
  rw [State.modInput, Table.modify_eq_set]

/-- An edge to ACTIVE of an input that is not stuck sends its event. -/
theorem acceptActive_of_free {i : InputId} {s : State} (stamp : Nat) (h : (s.inputs.get i).stuck = false) :
    acceptActive i stamp s = edgeEvent i stamp
      (s.withInputs (s.inputs.set i ((s.inputs.get i).activated stamp))) := by
  rw [acceptActive, h, modInput_eq]; rfl

theorem acceptActive_of_stuck {i : InputId} {s : State} (stamp : Nat) (h : (s.inputs.get i).stuck = true) :
    acceptActive i stamp s = s.withInputs (s.inputs.set i ((s.inputs.get i).activated stamp)) := by
  rw [acceptActive, h, modInput_eq]; rfl

theorem acceptInactive_eq (i : InputId) (s : State) : acceptInactive i s =
    if (s.inputs.get i).stuck
    then (s.withInputs (s.inputs.set i (s.inputs.get i).deactivated)).raise (.released i)
    else s.withInputs (s.inputs.set i (s.inputs.get i).deactivated) := by
  rw [acceptInactive, modInput_eq]; rfl

theorem acceptActive_inputs (i : InputId) (stamp : Nat) (s : State) :
    (acceptActive i stamp s).inputs = s.inputs.set i ((s.inputs.get i).activated stamp) ∧
    (acceptActive i stamp s).cfg = s.cfg ∧ (acceptActive i stamp s).sys = s.sys := by
  cases h : (s.inputs.get i).stuck
  · rw [acceptActive_of_free stamp h]; exact edgeEvent_inputs ..
  · rw [acceptActive_of_stuck stamp h]; exact ⟨rfl, rfl, rfl⟩

theorem acceptInactive_inputs (i : InputId) (s : State) :
    (acceptInactive i s).inputs = s.inputs.set i (s.inputs.get i).deactivated ∧
    (acceptInactive i s).cfg = s.cfg ∧ (acceptInactive i s).sys = s.sys := by
  rw [acceptInactive_eq]
  split
  · have h := (raise_drives (.released i) (s.withInputs (s.inputs.set i (s.inputs.get i).deactivated))).toTraffic
    exact ⟨h.inputs, h.cfg, h.sys⟩
  · exact ⟨rfl, rfl, rfl⟩

/-! ## Samples (R85, R86) -/

/-- The stamp a run of samples starts with (R86). -/
def State.runStart (s : State) (i : InputId) : Nat :=
  if (s.inputs.get i).run = 0 then s.sys.ms else (s.inputs.get i).runStart

theorem State.runStart_eq (s : State) (i : InputId) :
    s.runStart i = if (s.inputs.get i).run = 0 then s.sys.ms else (s.inputs.get i).runStart := rfl

/-- The record of an input whose run of samples is one longer. -/
def InputRun.counted (start : Nat) (f : InputRun) : InputRun := { f with run := f.run + 1, runStart := start }

section

variable {s : State} {i : InputId}

theorem sampleInput_of_first (b : Bool) (h : (s.inputs.get i).sampled = false) : sampleInput i b s =
    s.withInputs (s.inputs.set i
      { s.inputs.get i with sampled := true, active := b, run := 0, stuckTimer := b }) := by
  rw [← modInput_eq (f := fun f => { f with sampled := true, active := b, run := 0, stuckTimer := b })]
  exact if_pos h

theorem sampleInput_of_same (h : (s.inputs.get i).sampled = true) : sampleInput i (s.inputs.get i).active s =
    s.withInputs (s.inputs.set i { s.inputs.get i with run := 0 }) := by
  rw [← modInput_eq (f := fun f => { f with run := 0 })]
  exact (if_neg (by simp [h])).trans (if_pos rfl)

/-- A sample at the other level lengthens the run, and the run that reaches the filter length is accepted. -/
theorem sampleInput_of_other {b : Bool} (h : (s.inputs.get i).sampled = true) (hb : b ≠ (s.inputs.get i).active) :
    sampleInput i b s =
      if (s.inputs.get i).run + 1 < s.cfg.filters.get i
      then s.withInputs (s.inputs.set i ((s.inputs.get i).counted (s.runStart i)))
      else if b
      then acceptActive i (s.runStart i) (s.withInputs (s.inputs.set i ((s.inputs.get i).counted (s.runStart i))))
      else acceptInactive i (s.withInputs (s.inputs.set i ((s.inputs.get i).counted (s.runStart i)))) := by
  rw [← modInput_eq (f := InputRun.counted (s.runStart i))]
  exact (if_neg (by simp [h])).trans (if_neg hb)

end

/-- The record a sample leaves (R85, R86). -/
def InputRun.sampledAs (start filter : Nat) (b : Bool) (f : InputRun) : InputRun :=
  if f.sampled = false then { f with sampled := true, active := b, run := 0, stuckTimer := b }
  else if b = f.active then { f with run := 0 }
  else if f.run + 1 < filter then f.counted start
  else if b then (f.counted start).activated start
  else (f.counted start).deactivated

theorem Table.set_set {α : Type} {n : Nat} (t : Table α n) (i : Fin n) (x y : α) :
    (t.set i x).set i y = t.set i y := by
  ext j; simp only [Table.get_set]; split <;> rfl

/-- The sample that ends a run at ACTIVE: the edge is accepted, with its event where the input is not stuck. -/
theorem sampleInput_of_activated {s : State} {i : InputId} (h : (s.inputs.get i).sampled = true)
    (ha : (s.inputs.get i).active = false) (hr : s.cfg.filters.get i ≤ (s.inputs.get i).run + 1) :
    sampleInput i true s =
      if (s.inputs.get i).stuck
      then s.withInputs (s.inputs.set i (((s.inputs.get i).counted (s.runStart i)).activated (s.runStart i)))
      else edgeEvent i (s.runStart i)
        (s.withInputs (s.inputs.set i (((s.inputs.get i).counted (s.runStart i)).activated (s.runStart i)))) := by
  rw [sampleInput_of_other h (by simp [ha]), if_neg (Nat.not_lt.2 hr), if_pos rfl]
  have hget : ((s.withInputs (s.inputs.set i ((s.inputs.get i).counted (s.runStart i)))).inputs.get i) =
      (s.inputs.get i).counted (s.runStart i) := by rw [State.withInputs_inputs, Table.get_set_self]
  split
  · next hs => rw [acceptActive_of_stuck _ (by rw [hget]; exact hs), hget, State.withInputs_inputs, Table.set_set]; rfl
  · next hs =>
    rw [acceptActive_of_free _ (by rw [hget]; exact Bool.not_eq_true _ ▸ hs), hget, State.withInputs_inputs,
      Table.set_set]
    rfl

/-- The sample that ends a run at INACTIVE. -/
theorem sampleInput_of_deactivated {s : State} {i : InputId} (h : (s.inputs.get i).sampled = true)
    (ha : (s.inputs.get i).active = true) (hr : s.cfg.filters.get i ≤ (s.inputs.get i).run + 1) :
    sampleInput i false s =
      if (s.inputs.get i).stuck
      then (s.withInputs (s.inputs.set i ((s.inputs.get i).counted (s.runStart i)).deactivated)).raise (.released i)
      else s.withInputs (s.inputs.set i ((s.inputs.get i).counted (s.runStart i)).deactivated) := by
  rw [sampleInput_of_other h (by simp [ha]), if_neg (Nat.not_lt.2 hr), if_neg (by simp), acceptInactive_eq,
    State.withInputs_inputs, Table.get_set_self, Table.set_set]
  rfl

theorem sampleInput_inputs (i : InputId) (b : Bool) (s : State) :
    (sampleInput i b s).inputs =
      s.inputs.set i ((s.inputs.get i).sampledAs (s.runStart i) (s.cfg.filters.get i) b) ∧
    (sampleInput i b s).cfg = s.cfg ∧ (sampleInput i b s).sys = s.sys := by
  unfold InputRun.sampledAs
  by_cases h : (s.inputs.get i).sampled = false
  · rw [sampleInput_of_first b h, if_pos h]; exact ⟨rfl, rfl, rfl⟩
  rw [if_neg h]
  rw [Bool.not_eq_false] at h
  by_cases hb : b = (s.inputs.get i).active
  · rw [if_pos hb, hb, sampleInput_of_same h]; exact ⟨rfl, rfl, rfl⟩
  rw [if_neg hb, sampleInput_of_other h hb]
  split
  · exact ⟨rfl, rfl, rfl⟩
  · split
    · have ha := acceptActive_inputs i (s.runStart i)
        (s.withInputs (s.inputs.set i ((s.inputs.get i).counted (s.runStart i))))
      rw [State.withInputs_inputs, Table.get_set_self, Table.set_set] at ha
      exact ha
    · have ha := acceptInactive_inputs i
        (s.withInputs (s.inputs.set i ((s.inputs.get i).counted (s.runStart i))))
      rw [State.withInputs_inputs, Table.get_set_self, Table.set_set] at ha
      exact ha

/-- Samples of several inputs: each input has its own, and no other changes. -/
theorem sampleInputs_get {is : List InputId} (hn : is.Nodup) (level : InputId → Bool) {s t : State}
    (ht : t = is.foldl (fun s i => sampleInput i (level i) s) s) : t.cfg = s.cfg ∧ t.sys = s.sys ∧ ∀ j, t.inputs.get j =
      if j ∈ is then (s.inputs.get j).sampledAs (s.runStart j) (s.cfg.filters.get j) (level j)
      else s.inputs.get j := by
  induction is generalizing s with
  | nil => subst ht; exact ⟨rfl, rfl, fun j => by simp⟩
  | cons i is ih =>
    obtain ⟨hnot, his⟩ := List.nodup_cons.1 hn
    obtain ⟨hin, hcfg, hsys⟩ := sampleInput_inputs i (level i) s
    obtain ⟨h1, h2, h3⟩ := ih his ht
    refine ⟨h1.trans hcfg, h2.trans hsys, fun j => (h3 j).trans ?_⟩
    rw [State.runStart_eq, hin, hcfg, hsys]
    by_cases hj : j = i
    · subst hj; simp [hnot]
    · simp [hj, Table.get_set, State.runStart_eq]

end Sys2Proof.Machine
end

section

namespace Sys2Proof.Proofs.Inputs

open Sys2Proof.Machine Sys2Proof.Safety

/-- Settles O20: an edge acts by its event, and each sample changes its own input. -/
theorem inputEdgesAndSamples : Obligations.InputEdgesAndSamples := by
  refine ⟨fun s i f h hf => ?_, fun s levels h => happens h rfl, fun s i f start put hf hst hput => ?_,
    fun s levels h => ?_⟩
  · subst hf
    refine ⟨fun ha => happens h (if_pos ha), fun stamp u ha hs hst hu => ?_,
      fun ha => happens h (if_neg (by simp [ha])), fun u ha hu => ?_, fun ht => ?_,
      fun ht => happens h (if_neg (by simp [ht])), happens (f := countMillisecond) h rfl⟩
    · subst hst hu
      have hedge : exec (.acceptedEdgeActive i) s = acts (edgeEvent i (s.runStart i)
          (s.withInputs (s.inputs.set i ((s.inputs.get i).activated (s.runStart i))))) :=
        happens h ((if_neg (by simp [ha])).trans (acceptActive_of_free _ hs))
      exact ⟨fun m hm hd => hedge.trans (congrArg acts (edgeEvent_of_undefined hm hd)),
        fun m d hm hd => hedge.trans (congrArg acts (edgeEvent_of_mark hm hd)),
        fun n hn => hedge.trans (congrArg acts (edgeEvent_of_index hn))⟩
    · subst hu
      exact happens h ((if_pos ha).trans (acceptInactive_eq i s))
    · refine happens h ((if_pos ht).trans ?_)
      rw [modInput_eq]
  · subst hf hst
    refine ⟨fun b h => (sampleInput_of_first b h).trans (hput _).symm,
      fun h => (sampleInput_of_same h).trans (hput _).symm, fun b h hb hr => ?_, fun u h ha hr hu => ?_,
      fun u h ha hr hu => ?_⟩
    · rw [sampleInput_of_other h hb, if_pos hr, hput]; rfl
    · have hu : u = s.withInputs (s.inputs.set i
          (((s.inputs.get i).counted (s.runStart i)).activated (s.runStart i))) :=
        hu.trans ((hput _).trans (by rw [InputRun.activated, InputRun.counted, h, s.runStart_eq]))
      rw [sampleInput_of_activated h ha hr, ← hu]
      refine ⟨fun hs => if_pos hs, fun hs => ?_⟩
      rw [if_neg (by simp [hs])]
      exact ⟨fun m hm hd => edgeEvent_of_undefined hm (by rw [hu]; exact hd),
        fun m d hm hd => edgeEvent_of_mark hm (by rw [hu]; exact hd), fun n hn => edgeEvent_of_index hn⟩
    · have hu : u = s.withInputs (s.inputs.set i ((s.inputs.get i).counted (s.runStart i)).deactivated) :=
        hu.trans ((hput _).trans (by rw [InputRun.deactivated, InputRun.counted, h, s.runStart_eq]))
      rw [sampleInput_of_deactivated h ha hr, ← hu]
  · have hids : (ids 20).Nodup := List.nodup_finRange 20
    obtain ⟨t, ht⟩ : ∃ t, t = inputSample levels s := ⟨_, rfl⟩
    obtain ⟨h1, h2, h3⟩ := sampleInputs_get hids (fun i => levels.getLsbD i.val) ht
    refine ⟨t, happens h ht.symm, h1, h2, fun i f g b hf hg hb => ?_⟩
    have hget : g = f.sampledAs (s.runStart i) (s.cfg.filters.get i) b := by
      subst hf hg hb; exact (h3 i).trans (if_pos (mem_ids i))
    subst hget
    have hstart : s.runStart i = if f.run = 0 then s.sys.ms else f.runStart := hf ▸ s.runStart_eq i
    rw [← hstart]
    refine ⟨fun h => if_pos h, fun h hb => (if_neg (by simp [h])).trans (if_pos hb),
      fun h hb hr => (if_neg (by simp [h])).trans ((if_neg hb).trans (if_pos hr)), fun h hb hr => ?_⟩
    rw [InputRun.sampledAs, if_neg (by simp [h]), if_neg hb, if_neg (Nat.not_lt.2 hr)]
    cases b
    · exact ⟨rfl, rfl, rfl, nofun, fun _ => ⟨rfl, rfl⟩⟩
    · exact ⟨rfl, rfl, rfl, fun _ => rfl, nofun⟩

end Sys2Proof.Proofs.Inputs
end

section
-- One theorem after the other: side by side, waiting proofs would pile up.
set_option Elab.async false
/-! SUPPORT. The pass over the groups at a compose, and the stages and sums of a page. -/

namespace Sys2Proof.Machine

open Sys2Proof.Safety

/-! ## The pass over one group (R22, R24) -/

/-- The direction a SWITCHED group turns to at an ambient (R22). -/
def GroupDef.turns (d : GroupDef) (r : GroupRun) (ambient : Nat) : Option Direction :=
  if d.kind = .switched ∧ r.dir = .light ∧ ambient < d.threshold then some .dark
  else if d.kind = .switched ∧ r.dir = .dark ∧ min 255 (d.threshold + d.hysteresis) < ambient then some .light
  else none

/-- The record the pass leaves of a group (R22, R24). -/
def passedGroup (c : Scene) (t : Nat) (g : GroupId) (r : GroupRun) : GroupRun :=
  match (c.groups.get g).turns r (ambientAt c t) with
  | some dir => ⟨dir, t, false⟩
  | none =>
    if (c.groups.get g).kind = .switched
    then { r with
      settled := r.settled || decide (maxStagger c g + (c.groups.get g).warmUp ≤ dayDiff t r.crossTime) }
    else r

/-- The record the pass leaves of a member of a group (R22). -/
def passedLamp (c : Scene) (t : Nat) (g : GroupId) (r : GroupRun) (i : LampId) (l : LampRun) : LampRun :=
  if ((c.groups.get g).turns r (ambientAt c t)).isSome
  then { l with frozen := switchedLevel (c.groups.get g) r t (c.lamps.get i).stagger l.frozen }
  else l

theorem turns_eq_dark {d : GroupDef} {r : GroupRun} {a : Nat} :
    d.turns r a = some .dark ↔ d.kind = .switched ∧ r.dir = .light ∧ a < d.threshold := by
  unfold GroupDef.turns
  split_ifs with h1 h2
  · simp [h1]
  · simp [h1]
  · simp [h1]

theorem turns_eq_light {d : GroupDef} {r : GroupRun} {a : Nat} : d.turns r a = some .light ↔
    d.kind = .switched ∧ r.dir = .dark ∧ min 255 (d.threshold + d.hysteresis) < a := by
  unfold GroupDef.turns
  split_ifs with h1 h2
  · exact iff_of_false (by simp) fun h => by rw [h1.2.1] at h; simp at h
  · exact iff_of_true rfl h2
  · exact iff_of_false (by simp) h2

theorem turns_eq_none {d : GroupDef} {r : GroupRun} {a : Nat} (h1 : d.turns r a ≠ some .dark)
    (h2 : d.turns r a ≠ some .light) : d.turns r a = none := by
  cases h : d.turns r a with
  | none => rfl
  | some dir => cases dir <;> contradiction

theorem passedGroup_of_turn {c : Scene} {t : Nat} {g : GroupId} {r : GroupRun} {dir : Direction}
    (h : (c.groups.get g).turns r (ambientAt c t) = some dir) : passedGroup c t g r = ⟨dir, t, false⟩ := by
  simp only [passedGroup, h]

theorem passedGroup_of_still {c : Scene} {t : Nat} {g : GroupId} {r : GroupRun}
    (h : (c.groups.get g).turns r (ambientAt c t) = none) : passedGroup c t g r =
      if (c.groups.get g).kind = .switched
      then { r with
        settled := r.settled || decide (maxStagger c g + (c.groups.get g).warmUp ≤ dayDiff t r.crossTime) }
      else r := by
  simp only [passedGroup, h]

theorem turnGroup_groups (c : Scene) (g h : GroupId) (t : Nat) (dir : Direction) (y : Sky) :
    (turnGroup c g t dir y).groups.get h = if h = g then ⟨dir, t, false⟩ else y.groups.get h :=
  Table.get_set ..

/-- A group that turns freezes its members, and no other lamp. -/
theorem turnGroup_lamps (c : Scene) (g : GroupId) (t : Nat) (dir : Direction) (y : Sky) (i : LampId) :
    (turnGroup c g t dir y).lamps.get i = if (c.lamps.get i).group = some g
      then { y.lamps.get i with
        frozen := switchedLevel (c.groups.get g) (y.groups.get g) t (c.lamps.get i).stagger (y.lamps.get i).frozen }
      else y.lamps.get i := freezeMembers_get ..

theorem passGroup_of_turn {c : Scene} {t : Nat} {g : GroupId} {y : Sky} {dir : Direction}
    (h : (c.groups.get g).turns (y.groups.get g) (ambientAt c t) = some dir) :
    passGroup c t y g = turnGroup c g t dir y := by
  unfold passGroup
  cases dir with
  | dark =>
    obtain ⟨hk, hd, ha⟩ := turns_eq_dark.1 h
    simp only [hk, if_pos (And.intro hd ha)]
  | light =>
    obtain ⟨hk, hd, ha⟩ := turns_eq_light.1 h
    simp only [hk, hd, reduceCtorEq, false_and, if_false, true_and, if_pos ha]

theorem passGroup_of_still {c : Scene} {t : Nat} {g : GroupId} {y : Sky}
    (h : (c.groups.get g).turns (y.groups.get g) (ambientAt c t) = none) :
    passGroup c t y g = { y with groups := y.groups.set g (passedGroup c t g (y.groups.get g)) } := by
  have hsame : ({ y with groups := y.groups.set g (y.groups.get g) } : Sky) = y := by rw [Table.set_get]
  rw [passedGroup_of_still h]
  cases hk : (c.groups.get g).kind with
  | dimmed => simp only [passGroup, hk, reduceCtorEq, if_false, hsame]
  | switched =>
    have hdark : ¬ ((y.groups.get g).dir = .light ∧ ambientAt c t < (c.groups.get g).threshold) := fun hd => by
      rw [turns_eq_dark.2 ⟨hk, hd⟩] at h; cases h
    have hlight : ¬ ((y.groups.get g).dir = .dark ∧
        min 255 ((c.groups.get g).threshold + (c.groups.get g).hysteresis) < ambientAt c t) := fun hd => by
      rw [turns_eq_light.2 ⟨hk, hd⟩] at h; cases h
    simp only [passGroup, hk, if_neg hdark, if_neg hlight, if_true]
    split
    · next hs => simp [hs.2]
    · next hs =>
      have hset : ((y.groups.get g).settled ||
          decide (maxStagger c g + (c.groups.get g).warmUp ≤ dayDiff t (y.groups.get g).crossTime)) =
          (y.groups.get g).settled := by
        cases hr : (y.groups.get g).settled
        · simpa [hr] using hs
        · rfl
      rw [hset]; exact hsame.symm

/-- The pass over one group: its own record and its members', and no other. -/
theorem passGroup_get (c : Scene) (t : Nat) (y : Sky) (g : GroupId) :
    (∀ h, (passGroup c t y g).groups.get h =
      if h = g then passedGroup c t g (y.groups.get g) else y.groups.get h) ∧
    (∀ i, (passGroup c t y g).lamps.get i = if (c.lamps.get i).group = some g
      then passedLamp c t g (y.groups.get g) i (y.lamps.get i) else y.lamps.get i) ∧
    (passGroup c t y g).floods = y.floods := by
  cases h : (c.groups.get g).turns (y.groups.get g) (ambientAt c t) with
  | none =>
    rw [passGroup_of_still h]
    refine ⟨fun k => Table.get_set .., fun i => ?_, rfl⟩
    rw [passedLamp, h]
    simp
  | some dir =>
    rw [passGroup_of_turn h, passedGroup_of_turn h]
    refine ⟨fun k => turnGroup_groups .., fun i => ?_, rfl⟩
    rw [turnGroup_lamps, passedLamp, h]
    simp

/-- The pass over several groups, each by itself. -/
theorem passGroups_get {gs : List GroupId} (hn : gs.Nodup) (c : Scene) (t : Nat) (y : Sky) :
    (∀ h, (gs.foldl (passGroup c t) y).groups.get h =
      if h ∈ gs then passedGroup c t h (y.groups.get h) else y.groups.get h) ∧
    (∀ i g, (c.lamps.get i).group = some g → (gs.foldl (passGroup c t) y).lamps.get i =
      if g ∈ gs then passedLamp c t g (y.groups.get g) i (y.lamps.get i) else y.lamps.get i) ∧
    (∀ i, (c.lamps.get i).group = none → (gs.foldl (passGroup c t) y).lamps.get i = y.lamps.get i) ∧
    (gs.foldl (passGroup c t) y).floods = y.floods := by
  induction gs generalizing y with
  | nil => exact ⟨fun h => by simp, fun i g _ => by simp, fun _ _ => rfl, rfl⟩
  | cons k gs ih =>
    obtain ⟨hnot, hgs⟩ := List.nodup_cons.1 hn
    obtain ⟨hg, hl, hf⟩ := passGroup_get c t y k
    obtain ⟨h1, h2, h3, h4⟩ := ih hgs (passGroup c t y k)
    refine ⟨fun h => ?_, fun i g hi => ?_, fun i hi => ?_, h4.trans hf⟩
    · rw [List.foldl_cons, h1, hg]
      by_cases hh : h = k
      · subst hh; simp [hnot]
      · simp [hh]
    · rw [List.foldl_cons, h2 i g hi, hl, hg, hi]
      by_cases hh : g = k
      · subst hh; simp [hnot]
      · simp [hh]
    · rw [List.foldl_cons, h3 i hi, hl, hi]; simp

theorem foldl_max_le {α : Type} (p : α → Prop) [DecidablePred p] (f : α → Nat) (xs : List α) (b m : Nat) :
    xs.foldl (fun m x => if p x then max m (f x) else m) b ≤ m ↔ b ≤ m ∧ ∀ x ∈ xs, p x → f x ≤ m := by
  induction xs generalizing b with
  | nil => simp
  | cons x xs ih =>
    rw [List.foldl_cons, ih]
    by_cases hx : p x
    · simp [hx, and_assoc]
    · simp [hx]

theorem maxStagger_le {c : Scene} {g : GroupId} {m : Nat} :
    maxStagger c g ≤ m ↔ ∀ i, (c.lamps.get i).group = some g → (c.lamps.get i).stagger ≤ m := by
  unfold maxStagger
  rw [foldl_max_le (fun l : LampDef => l.group = some g), Table.data_eq]
  simp

/-- The longest time a member takes to settle (R24). -/
theorem maxStagger_settles {c : Scene} {g : GroupId} {w e : Nat} : maxStagger c g + w ≤ e ↔
    w ≤ e ∧ ∀ i, (c.lamps.get i).group = some g → (c.lamps.get i).stagger + w ≤ e := by
  constructor
  · intro h
    refine ⟨by omega, fun i hi => ?_⟩
    have := maxStagger_le.1 (le_refl (maxStagger c g)) i hi
    omega
  · rintro ⟨hw, h⟩
    have : maxStagger c g ≤ e - w := maxStagger_le.2 fun i hi => by have := h i hi; omega
    omega

/-! ## The stages and the sums of a page (R31, R32, R37) -/

theorem budgetStage_le {scale level : Nat} (h : scale ≤ 256) : budgetStage scale level ≤ level := by
  have : level * scale ≤ level * 256 := Nat.mul_le_mul_left level h
  unfold budgetStage; omega

theorem budgetStage_eq (scale level : Nat) : budgetStage scale level = (level * scale + 128) / 256 := rfl

theorem lampFinal_of_free {s : State} {pre : Nat} {i : LampId} (h : (s.sky.lamps.get i).claim = none) :
    lampFinal s pre i = budgetStage s.account.scale pre := by simp only [lampFinal, h]

theorem lampFinal_of_claimed {s : State} {pre : Nat} {i : LampId} {x : CrossingId} {d : CrossingDef}
    (h : (s.sky.lamps.get i).claim = some x) (hd : s.cfg.crossings.get x = some d) : lampFinal s pre i =
      if (i = d.lampA ∧ (s.crossings.get x).phase = false) ∨ (i = d.lampB ∧ (s.crossings.get x).phase = true)
      then d.flash else 0 := by simp only [lampFinal, claimLevel, h, hd]

theorem composePage_lamp (s : State) (t : Nat) (i : LampId) : (composePage s t).page.lamps.get i =
    lampFinal s (lampPre s t (curveLevels s.cfg t) i) i := by
  simp [composePage]

theorem composePage_flood (s : State) (t : Nat) (f : FloodId) : (composePage s t).page.floods.get f =
    budgetStage s.account.scale (floodPre s t f) := by
  simp [composePage]

theorem composePage_lampSum (s : State) (t : Nat) : (composePage s t).sums.lamp =
    ((ids 192).map fun i => if (s.sky.lamps.get i).claim = none then lampPre s t (curveLevels s.cfg t) i else 0).sum := by
  simp only [composePage, Table.data_eq]
  congr 2
  funext i
  cases h : (s.sky.lamps.get i).claim <;> simp [h]

theorem composePage_floodSum (s : State) (t : Nat) : (composePage s t).sums.flood =
    ((ids 6).map (floodPre s t)).sum := by
  simp only [composePage, Table.data_eq]
  congr 2
  funext f
  simp

theorem composePage_claimedSum (s : State) (t : Nat) : (composePage s t).sums.claimed =
    ((ids 192).map fun i =>
      if (s.sky.lamps.get i).claim = none then 0 else (composePage s t).page.lamps.get i).sum := by
  rw [show (composePage s t).page.lamps.get = fun i => lampFinal s (lampPre s t (curveLevels s.cfg t) i) i from
    funext (composePage_lamp s t)]
  simp only [composePage, Table.data_eq]
  congr 2
  funext i
  cases h : (s.sky.lamps.get i).claim <;> simp [h]

theorem curveLevel_mono (k : Curve) {g h : Nat} (hgh : g ≤ h) : curveLevel k g ≤ curveLevel k h := by
  have h2 : g * g ≤ h * h := Nat.mul_le_mul hgh hgh
  cases k with
  | linear => exact hgh
  | soft => exact Nat.div_le_div_right (Nat.add_le_add_right h2 _)
  | hard => exact Nat.div_le_div_right (Nat.add_le_add_right (Nat.mul_le_mul h2 hgh) _)

theorem overrideStage_eq (o : Option Override) (level : Nat) :
    overrideStage o level = (o.map Override.level).getD level := by cases o <;> rfl

theorem curveLevels_get (c : Scene) (t : Nat) (g : GroupId) : (curveLevels c t).get g =
    curveLevel (c.groups.get g).curve (skyValue c (.group g) t) := Table.get_ofFn ..

end Sys2Proof.Machine
end

section

namespace Sys2Proof.Proofs.ComposedLevels

open Sys2Proof.Machine Sys2Proof.Safety

/-- Settles O12: the pass changes each group and its members by themselves, and each level comes by its stages. -/
theorem composeLevels : Obligations.ComposeLevels := by
  refine ⟨fun s c hscale hc => ?_, fun c t y z g d r a e dark light hz hd hr ha he hdark hlight => ?_,
    fun d r t st frozen e he => ?_, fun k => ⟨by cases k <;> rfl, by cases k <;> rfl, fun g h => curveLevel_mono k⟩,
    fun u t i base level hb hl => ?_, fun u t f base level hb hl => ?_⟩
  · obtain ⟨u, hu⟩ : ∃ u, u = s.withSky (groupPass s.cfg s.clock.noticed s.sky) := ⟨_, rfl⟩
    have hstart : startCompose s =
        u.withSky { u.sky with compose := some (composePage u s.clock.noticed) } := by rw [hu]; rfl
    have hcfg : u.cfg = s.cfg := by rw [hu]; rfl
    have hacc : u.account = s.account := by rw [hu]; rfl
    have hcross : u.crossings = s.crossings := by rw [hu]; rfl
    obtain rfl : composePage u s.clock.noticed = c := by rw [hstart] at hc; exact Option.some.inj hc
    refine ⟨u, lampPre u s.clock.noticed (curveLevels s.cfg s.clock.noticed), floodPre u s.clock.noticed, hu, hstart,
      fun i => rfl, fun f => rfl, fun i => ⟨fun hfree => ?_, fun x d hx hd hne => ?_⟩, fun f => ?_, ?_,
      composePage_floodSum .., composePage_claimedSum ..⟩
    · rw [composePage_lamp, lampFinal_of_free hfree, hcfg, hacc]
      exact ⟨rfl, budgetStage_le hscale⟩
    · rw [composePage_lamp, lampFinal_of_claimed hx (by rw [hcfg]; exact hd), hcross]
      refine ⟨fun hi => ?_, fun hi => ?_⟩
      · subst hi; cases h : (s.crossings.get x).phase <;> simp [hne]
      · subst hi; cases h : (s.crossings.get x).phase <;> simp [hne.symm]
    · rw [composePage_flood, hacc]; rfl
    · rw [composePage_lampSum, hcfg]
  · subst hz hd hr ha he
    have hids : (ids 16).Nodup := List.nodup_finRange 16
    obtain ⟨hg, hl, hfree, hfl⟩ := passGroups_get hids c t y
    have hdark := hdark.trans turns_eq_dark.symm
    have hlight := hlight.trans turns_eq_light.symm
    have hgroup : (groupPass c t y).groups.get g = passedGroup c t g (y.groups.get g) :=
      (hg g).trans (if_pos (mem_ids g))
    have hstill (h1 : ¬ dark) (h2 : ¬ light) : (c.groups.get g).turns (y.groups.get g) (ambientAt c t) = none :=
      turns_eq_none (fun h => h1 (hdark.2 h)) fun h => h2 (hlight.2 h)
    rw [hgroup]
    refine ⟨fun h => passedGroup_of_turn (hdark.1 h), fun h => passedGroup_of_turn (hlight.1 h),
      fun h1 h2 hk => ?_, fun hk => ?_, fun i hi => ?_, hfree, hfl⟩
    · rw [passedGroup_of_still (hstill h1 h2), if_pos hk]
      congr 2
      exact decide_eq_decide.2 maxStagger_settles
    · have hnone : (c.groups.get g).turns (y.groups.get g) (ambientAt c t) = none := by
        simp [GroupDef.turns, hk]
      rw [passedGroup_of_still hnone, if_neg (by simp [hk])]
    · have hlamp : (groupPass c t y).lamps.get i = passedLamp c t g (y.groups.get g) i (y.lamps.get i) :=
        (hl i g hi).trans (if_pos (mem_ids g))
      rw [hlamp, passedLamp]
      refine ⟨fun h => ?_, fun h1 h2 => by rw [hstill h1 h2]; rfl⟩
      rcases h with h | h
      · exact if_pos (Option.isSome_iff_exists.2 ⟨_, hdark.1 h⟩)
      · exact if_pos (Option.isSome_iff_exists.2 ⟨_, hlight.1 h⟩)
  · subst he
    unfold switchedLevel
    cases r.settled <;> cases r.dir <;> rfl
  · subst hb hl
    rw [lampPre, brightStage, overrideStage_eq]
    cases u.cfg.scan with
    | allOn | allOff | walk => rfl
    | normal =>
      simp only [lampScan]
      congr 4
      unfold lampBase
      cases (u.cfg.lamps.get i).group with
      | none => rfl
      | some g =>
        simp only [curveLevels_get]
        cases (u.cfg.groups.get g).kind with
        | dimmed => cases (u.cfg.groups.get g).curve <;> rfl
        | switched => rfl
  · subst hb hl
    rw [floodPre, brightStage, overrideStage_eq]
    cases u.cfg.scan with
    | allOn | allOff | walk => rfl
    | normal =>
      simp only [floodScan]
      congr 4

end Sys2Proof.Proofs.ComposedLevels
end

section
-- One theorem after the other: side by side, waiting proofs would pile up.
set_option Elab.async false
/-! SUPPORT. What a train's path and walk are read off, and what the turnout driver does with its entries. -/

namespace Sys2Proof.Machine

open Sys2Proof.Safety

/-! ## What a path and a walk depend on (R124, R125) -/

theorem path_congr {s t : State} {n : Train} (hc : t.cfg = s.cfg) (ht : t.trains.get n = s.trains.get n)
    (hp : t.driver.points = s.driver.points) : t.path n = s.path n := by
  unfold State.path; rw [hc, ht, hp]

theorem holds_congr {s t : State} {n : Train} (hc : t.cfg = s.cfg) (ht : t.trains.get n = s.trains.get n)
    (x : Section) : t.holds n x = s.holds n x := by
  unfold State.holds; rw [hc, ht]

theorem walkStops_congr {s t : State} {n : Train} (hc : t.cfg = s.cfg) (ht : t.trains.get n = s.trains.get n)
    (hp : t.driver.points = s.driver.points) (hx : t.crossings = s.crossings) (full : Bool) (ws : List PathElt)
    (p : PathElt) : t.walkStops n full ws p = s.walkStops n full ws p := by
  have hbar (x : Section) : t.crossingBars x = s.crossingBars x := by unfold State.crossingBars; rw [hc, hx]
  have hpoints : t.pointsBar p = s.pointsBar p := by unfold State.pointsBar; rw [hp]
  rw [State.walkStops, State.walkStops, ht, holds_congr hc ht, hbar, hpoints]

theorem walkOn_congr {s t : State} {n : Train} (hc : t.cfg = s.cfg) (ht : t.trains.get n = s.trains.get n)
    (hp : t.driver.points = s.driver.points) (hx : t.crossings = s.crossings) (full : Bool) (ps : List PathElt)
    (w : Walk) : t.walkOn n full ps w = s.walkOn n full ps w := by
  induction ps generalizing w with
  | nil => rfl
  | cons p ps ih =>
    rw [State.walkOn, State.walkOn, walkStops_congr hc ht hp hx, hc]
    split
    · rfl
    · split
      · rfl
      · exact ih _

/-- A walk is read off the configuration, the train, the points and the crossings. -/
theorem walk_congr {s t : State} {n : Train} (hc : t.cfg = s.cfg) (ht : t.trains.get n = s.trains.get n)
    (hp : t.driver.points = s.driver.points) (hx : t.crossings = s.crossings) (full : Bool) :
    t.walk n full = s.walk n full := by
  unfold State.walk
  rw [path_congr hc ht hp, hc, ht]
  split
  · rfl
  · split
    · rfl
    · exact walkOn_congr hc ht hp hx ..

theorem passesTurnout_congr {s t : State} {n : Train} (hc : t.cfg = s.cfg)
    (ht : t.trains.get n = s.trains.get n) (hp : t.driver.points = s.driver.points)
    (hx : t.crossings = s.crossings) (k : TurnoutId) : t.passesTurnout k n = s.passesTurnout k n := by
  unfold State.passesTurnout; rw [ht, walk_congr hc ht hp hx]

/-- A train's path passes a turnout as far as its walk reaches (R122). -/
theorem passesTurnout_iff (s : State) (t : TurnoutId) (n : Train) : s.passesTurnout t n = true ↔
    (s.trains.get n).state ≠ .unplaced ∧ ∃ p b, (p ∈ (s.walk n true).within ∨
      ((s.walk n true).atStop = false ∧ (s.walk n true).rest.head? = some p)) ∧ p.via = some (t, b) := by
  have hrest (p : PathElt) : p ∈ (if (s.walk n true).atStop then [] else (s.walk n true).rest.take 1) ↔
      (s.walk n true).atStop = false ∧ (s.walk n true).rest.head? = some p := by
    cases (s.walk n true).atStop <;> cases (s.walk n true).rest <;> simp
    exact eq_comm
  unfold State.passesTurnout
  rw [Bool.and_eq_true, placed_iff, List.any_eq_true]
  refine and_congr_right fun _ => exists_congr fun p => ?_
  rw [List.mem_append, hrest, exists_and_left]
  refine and_congr_right fun _ => ?_
  cases p.via with
  | none => simp
  | some v => obtain ⟨t', b⟩ := v; simp

/-! ## The driver and the authorities (R122) -/

theorem foldl_comm {α β : Type} {f : α → β → α} {g : α → α} (h : ∀ a b, f (g a) b = g (f a b)) (bs : List β) (a : α) :
    bs.foldl f (g a) = g (bs.foldl f a) := by
  induction bs generalizing a with
  | nil => rfl
  | cons b bs ih => rw [List.foldl_cons, h, ih]; rfl

theorem dutyRequest_withDriver (c : Channel) (p : Drive) (d : Driver) (s : State) :
    dutyRequest c p (s.withDriver d) = (dutyRequest c p s).withDriver d := by
  have h : (s.withDriver d).halt = s.halt := rfl
  unfold dutyRequest
  rw [h, State.withDriver_channels]
  split <;> rfl

/-- Working an authority out afresh reads nothing of the driver but the points. -/
theorem refreshAuthority_withDriver {s : State} {d : Driver} (h : d.points = s.driver.points) (n : Train) :
    refreshAuthority n (s.withDriver d) = (refreshAuthority n s).withDriver d := by
  have hw : (s.withDriver d).walk n true = s.walk n true := 
    walk_congr (s := s) (t := s.withDriver d) rfl rfl h rfl _
  have hdrive (duty : Nat) (u : State) (e : SpanElt) :
      driveSection duty (u.withDriver d) e = (driveSection duty u e).withDriver d := dutyRequest_withDriver ..
  have hrest (u : State) (x : Section) : restSection (u.withDriver d) x = (restSection u x).withDriver d :=
    dutyRequest_withDriver ..
  unfold refreshAuthority
  rw [hw]
  dsimp only [State.withDriver_trains]
  split
  · rw [foldl_comm (g := fun u : State => u.withDriver d) (hdrive _),
      foldl_comm (g := fun u : State => u.withDriver d) hrest]
    rfl
  · rfl

theorem refreshAuthority_points (n : Train) (s : State) : (refreshAuthority n s).driver = s.driver :=
  (refreshAuthority_redraws n s).driver

theorem refreshAuthorities_withDriver {s : State} {d : Driver} (h : d.points = s.driver.points) (ns : List Train) :
    ns.foldl (fun s n => refreshAuthority n s) (s.withDriver d) =
      (ns.foldl (fun s n => refreshAuthority n s) s).withDriver d := by
  induction ns generalizing s with
  | nil => rfl
  | cons n ns ih =>
    rw [List.foldl_cons, List.foldl_cons, refreshAuthority_withDriver h, ih (by rw [refreshAuthority_points, h])]

/-- A notice of a turnout reads nothing of the driver before and after but the points. -/
theorem turnoutNotice_withDriver {old s : State} {d : Driver} (h : d.points = s.driver.points) (t : TurnoutId) :
    turnoutNotice t old (s.withDriver d) = (turnoutNotice t old s).withDriver d := by
  unfold turnoutNotice
  rw [refreshAuthorities_withDriver h]
  simp only [passesTurnout_congr (s := s) (t := s.withDriver d) rfl rfl h rfl]

theorem turnoutNotice_old {old s : State} {d : Driver} (h : d.points = old.driver.points) (t : TurnoutId) :
    turnoutNotice t (old.withDriver d) s = turnoutNotice t old s := by
  unfold turnoutNotice
  simp only [passesTurnout_congr (s := old) (t := old.withDriver d) rfl rfl h rfl]

theorem turnoutNotice_driver (t : TurnoutId) (old s : State) : (turnoutNotice t old s).driver = s.driver :=
  (turnoutNotice_redraws ..).driver

/-! ## Requests and entries of the driver (R101, R102) -/

theorem governor_iff (s : State) (t : TurnoutId) (n : Train) : s.governor t = some n ↔ ∃ d v,
    s.cfg.turnouts.get t = some d ∧ s.cfg.unitKey d.trunk.sec = some v ∧ (s.units.get v).holder = some n := by
  unfold State.governor State.holderOf
  cases s.cfg.turnouts.get t with
  | none => simp
  | some d =>
    cases hu : s.cfg.unitKey d.trunk.sec with
    | none => simp [hu]
    | some u => simp [hu]

theorem mayThrow_iff (s : State) (e : Throw) : s.mayThrow e = true ↔
    e.origin = .line ∨ ∃ n, e.origin = .train n ∧ s.governor e.t = some n := by
  cases h : e.origin <;> simp [State.mayThrow, h]

theorem mayThrow_of_other {s : State} {e : Throw} {n : Train} (ho : e.origin = .train n)
    (h : s.governor e.t ≠ some n) : s.mayThrow e = false := by
  rw [Bool.eq_false_iff, Ne, mayThrow_iff]
  rintro (hl | ⟨m, hm, hg⟩)
  · rw [ho] at hl; cases hl
  · rw [ho] at hm; cases hm; exact h hg

theorem reportThrow_eq (e : Throw) (s : State) :
    reportThrow e s = if e.origin = .line then s.raise (.turnout e.t e.wanted) else s := by
  cases h : e.origin <;> simp [reportThrow, h]

theorem idle_iff (d : Driver) : d.idle = true ↔ d.pulse = none ∧ d.recovery = false := by simp [Driver.idle]

/-- The entry at the head whose train has lost the governing unit is dropped. -/
theorem takeEntries_of_lost {e : Throw} {s : State} (es : List Throw) (h : s.mayThrow e = false) :
    takeEntries (e :: es) s = takeEntries es s := by
  rw [takeEntries, h]; rfl

/-- The entry at the head whose points are in position completes. -/
theorem takeEntries_of_set {e : Throw} {s : State} {d : Driver} (es : List Throw) (h : s.mayThrow e = true)
    (hd : d.points = s.driver.points) (hp : s.driver.points.get e.t = some e.wanted) :
    takeEntries (e :: es) (s.withDriver d) =
      takeEntries es (turnoutNotice e.t s (s.withDriver { d with queue := es })) := by
  rw [takeEntries, show (s.withDriver d).mayThrow e = true from h, if_neg (by simp),
    if_pos (by rw [State.withDriver_driver, hd, hp])]
  exact congrArg (takeEntries es) (turnoutNotice_old (old := s) hd _)

/-- The entry at the head is started as a pulse. -/
theorem takeEntries_of_pulse {e : Throw} {s : State} {d : Driver} (es : List Throw) (h : s.mayThrow e = true)
    (hd : d.points = s.driver.points) (hp : s.driver.points.get e.t ≠ some e.wanted) :
    takeEntries (e :: es) (s.withDriver d) = turnoutNotice e.t s (s.withDriver { d with
      queue := es, pulse := some ⟨e, s.cfg.pulses.get e.t⟩, points := s.driver.points.set e.t none }) := by
  rw [takeEntries, show (s.withDriver d).mayThrow e = true from h, if_neg (by simp),
    if_neg (by rw [State.withDriver_driver, hd]; exact hp), ← hd]
  exact turnoutNotice_old (old := s) hd _

/-- The entries given are taken, whatever the driver's queue held. -/
theorem takeEntries_queue (es q : List Throw) (s : State) :
    takeEntries es (s.withDriver { s.driver with queue := q }) = takeEntries es s := by
  induction es with
  | nil => rfl
  | cons e es ih =>
    have hmay : (s.withDriver { s.driver with queue := q }).mayThrow e = s.mayThrow e := rfl
    cases h : s.mayThrow e with
    | false => rw [takeEntries_of_lost es (hmay.trans h), takeEntries_of_lost es h, ih]
    | true =>
      by_cases hp : s.driver.points.get e.t = some e.wanted
      · exact (takeEntries_of_set es h (by rfl) hp).trans (takeEntries_of_set (d := s.driver) es h rfl hp).symm
      · exact (takeEntries_of_pulse es h (by rfl) hp).trans (takeEntries_of_pulse (d := s.driver) es h rfl hp).symm

theorem requestThrow_of_refused {e : Throw} {s : State}
    (h : s.cfg.turnouts.get e.t = none ∨ s.mayThrow e = false) : requestThrow e s = s := by
  rw [requestThrow, if_pos]
  rcases h with h | h <;> simp [h]

section

variable {e : Throw} {s : State} (hd : s.cfg.turnouts.get e.t ≠ none) (hm : s.mayThrow e = true)
include hd hm

theorem requestThrow_of_queued (hq : ∃ x ∈ s.driver.queue, x.t = e.t) :
    requestThrow e s = s.withDriver { s.driver with queue := replaceEntry e s.driver.queue } := by
  rw [requestThrow, if_neg (by simp [hd, hm]), if_pos (by simpa using hq)]

theorem requestThrow_of_set (hq : ∀ x ∈ s.driver.queue, x.t ≠ e.t)
    (hp : s.driver.points.get e.t = some e.wanted) :
    requestThrow e s = reportThrow e (turnoutNotice e.t s s) := by
  rw [requestThrow, if_neg (by simp [hd, hm]), if_neg (by simpa using hq), if_pos hp]; rfl

theorem requestThrow_of_waiting (hq : ∀ x ∈ s.driver.queue, x.t ≠ e.t)
    (hp : s.driver.points.get e.t ≠ some e.wanted) (hi : s.driver.idle = false) :
    requestThrow e s = s.withDriver { s.driver with queue := s.driver.queue ++ [e] } := by
  rw [requestThrow, if_neg (by simp [hd, hm]), if_neg (by simpa using hq), if_neg hp]
  exact if_neg (by rw [Bool.not_eq_true]; exact hi)

theorem requestThrow_of_idle (hp : s.driver.points.get e.t ≠ some e.wanted) (hi : s.driver.idle = true)
    (hq : s.driver.queue = []) : requestThrow e s = turnoutNotice e.t s (s.withDriver { s.driver with
      pulse := some ⟨e, s.cfg.pulses.get e.t⟩, points := s.driver.points.set e.t none }) := by
  rw [requestThrow, if_neg (by simp [hd, hm]), if_neg (by simp [hq]), if_neg hp]
  refine (if_pos hi).trans ?_
  rw [hq]
  exact (takeEntries_of_pulse [] hm (by rfl) hp).trans (by rw [← hq])

end

theorem recoveryExpiry_of_running {s : State} (h : s.driver.recovery = true) : recoveryExpiry s =
    takeEntries s.driver.queue (s.withDriver { s.driver with recovery := false }) := if_pos h

theorem pulseEnd_of_pulse {s : State} {p : Pulse} (h : s.driver.pulse = some p) : pulseEnd s =
    reportThrow p.entry (turnoutNotice p.entry.t s (s.withDriver { s.driver with
      pulse := none, recovery := true, points := s.driver.points.set p.entry.t (some p.entry.wanted) })) := by
  simp only [pulseEnd, h]; rfl

theorem coilOn_iff {s : State} (h : runs s) (t : TurnoutId) (b : Branch) : coilOn s t b = true ↔
    ∃ p, s.driver.pulse = some p ∧ p.entry.t = t ∧ p.entry.wanted = b := by
  rw [coilOn, show s.sys.rstHeld = false from h]
  cases s.driver.pulse <;> simp

end Sys2Proof.Machine
end

section

namespace Sys2Proof.Proofs.Turnouts

open Sys2Proof.Machine Sys2Proof.Safety

/-- Settles O23: each outcome of a throw request goes by its lemma. -/
theorem throwRequests : Obligations.ThrowRequests := by
  refine ⟨governor_iff, fun s u e hu => hu ▸ ⟨fun h => requestThrow_of_refused (.inl h),
    fun n ho h => requestThrow_of_refused (.inr (mayThrow_of_other ho h)), fun hd hm => ?_, fun t pos ht => ?_⟩⟩
  · have hm := (mayThrow_iff s e).2 hm
    refine ⟨requestThrow_of_queued hd hm, fun hq => ⟨fun hp => ?_, fun hp hb => ?_, fun hp h1 h2 hq =>
      requestThrow_of_idle hd hm hp ((idle_iff _).2 ⟨h1, h2⟩) hq⟩⟩
    · rw [requestThrow_of_set hd hm hq hp, reportThrow_eq]
    · refine requestThrow_of_waiting hd hm hq hp ?_
      rw [Bool.eq_false_iff, Ne, idle_iff]
      rintro ⟨h1, h2⟩
      exact hb.elim (fun h => h h1) fun h => by simp [h2] at h
  · refine ⟨fun hd hg => answers ht ?_, fun hd hg => refuses ht ?_, fun hd => refuses ht ?_⟩
    · obtain ⟨d, hd⟩ := Option.ne_none_iff_exists'.1 hd
      simp only [takeTurnoutThrow, asId_val, hd, hg]; rfl
    · obtain ⟨d, hd⟩ := Option.ne_none_iff_exists'.1 hd
      simp only [takeTurnoutThrow, asId_val, hd, if_pos (Option.isSome_iff_ne_none.2 hg)]
    · simp only [takeTurnoutThrow, asId_val, hd]

/-- Settles O24: the entries at the end of recovery are taken one by one, and the pulse's end sets the points. -/
theorem pulsesAndRecovery : Obligations.PulsesAndRecovery := by
  refine fun s => ⟨fun t u => rfl, fun t n w hw => hw ▸ passesTurnout_iff s t n, fun p u h hp hu => ?_,
    fun h hp => happens h (by simp only [pulseEnd, hp]), fun h hr => happens h (if_neg (by simp [hr])),
    fun h hr hq => ?_, fun e es h hr hq hm => ⟨fun hp => happens h ?_, fun hp => ?_⟩, fun e es n h hr hq ho hg => ?_,
    fun t ms hs h1 h2 => answers hs.1 ?_, fun t ms ht hms => refuses ht ?_, coilOn_iff⟩
  · subst hu
    exact happens h (by rw [pulseEnd_of_pulse hp, reportThrow_eq])
  · refine happens h ?_
    rw [recoveryExpiry_of_running hr, hq, takeEntries, ← hq]; rfl
  · rw [recoveryExpiry_of_running hr, hq]
    exact takeEntries_of_pulse es ((mayThrow_iff s e).2 hm) rfl hp
  · have hv : (turnoutNotice e.t s (s.withDriver { s.driver with queue := es })).driver =
        { s.driver with queue := es } := turnoutNotice_driver ..
    have hruns : runs (turnoutNotice e.t s (s.withDriver { s.driver with queue := es })) := by
      unfold runs; rw [(turnoutNotice_redraws ..).sys]; exact h
    refine (happens h ?_).trans (event_of_runs (f := recoveryExpiry) hruns).symm
    rw [recoveryExpiry_of_running hr, hq, recoveryExpiry_of_running (by rw [hv]; exact hr), hv,
      takeEntries_of_set es ((mayThrow_iff s e).2 hm) (by rfl) hp]
    exact congrArg (takeEntries es) (turnoutNotice_withDriver (s := s.withDriver { s.driver with queue := es })
      (d := { s.driver with queue := es, recovery := false }) rfl _)
  · refine (happens h ?_).trans (event_of_runs (f := recoveryExpiry) (s := s.withDriver { s.driver with queue := es }) h).symm
    rw [recoveryExpiry_of_running hr, recoveryExpiry_of_running (s := s.withDriver { s.driver with queue := es }) hr,
      hq]
    refine (takeEntries_of_lost es (mayThrow_of_other ho (by exact hg))).trans ?_
    exact (takeEntries_queue es es (s.withDriver { s.driver with recovery := false })).symm
  · rw [takeTurnoutPulse, asId_val]
    exact (if_neg (by omega)).trans (settles hs rfl)
  · rw [takeTurnoutPulse, asId_val]
    exact if_pos hms

end Sys2Proof.Proofs.Turnouts
end

section
-- One theorem after the other: side by side, waiting proofs would pile up.
set_option Elab.async false
/-! SUPPORT. What working an authority end out afresh leaves of trains and channels, and what a notice leaves of a
crossing and its claims. -/

namespace Sys2Proof.Machine

open Sys2Proof.Safety

/-! ## States that differ in the channels alone -/

theorem Asks.eq {s t : State} (h : Asks s t) : t = s.withChannels t.channels := by
  obtain ⟨⟨⟨⟨h1, h2, h3, h4, h5, h6, h7, h8, h9, h10, h11, h12, h13, -⟩, h14, h15, h16, -⟩, h17, h18, h19, h20⟩, h21⟩ := h
  cases s; cases t
  simp only at h1 h2 h3 h4 h5 h6 h7 h8 h9 h10 h11 h12 h13 h14 h15 h16 h17 h18 h19 h20 h21
  subst h1 h2 h3 h4 h5 h6 h7 h8 h9 h10 h11 h12 h13 h14 h15 h16 h17 h18 h19 h20 h21
  rfl

/-! ## An authority end worked out afresh (R127 to R129) -/

/-- The requests of an authority end worked out afresh: the train's duty where a section joins the powered set,
duty 0 where one leaves it. -/
def redrawn (t : TrainRun) (new : List SpanElt) (s : State) : State :=
  ((t.powered.filter fun e => !e.among new).map fun e => e.sec).foldl restSection
    ((new.filter fun e => !e.among t.powered).foldl (driveSection t.duty) s)

theorem redrawn_asks (t : TrainRun) (new : List SpanElt) (s : State) : Asks s (redrawn t new s) :=
  (driveSections_asks ..).trans (restSections_asks ..)

theorem refreshAuthority_of_placed {n : Train} {s : State} (h : (s.trains.get n).state ≠ .unplaced) :
    refreshAuthority n s =
      (redrawn (s.trains.get n) (poweredSet (s.trains.get n) (s.walk n true)) s).modTrain n fun t =>
        { t with
          authority := some ⟨(s.walk n true).dist, (s.walk n true).atStop⟩
          powered := poweredSet (s.trains.get n) (s.walk n true) } :=
  if_pos (placed_iff.2 h)

theorem refreshAuthority_of_unplaced {n : Train} {s : State} (h : (s.trains.get n).state = .unplaced) :
    refreshAuthority n s = s.modTrain n fun t => { t with authority := none, powered := [] } :=
  if_neg fun hp => placed_iff.1 hp h

/-- The train's record once its authority end has been worked out afresh. -/
def TrainRun.withWalk (t : TrainRun) (w : Walk) : TrainRun :=
  if t.placed then { t with authority := some ⟨w.dist, w.atStop⟩, powered := poweredSet t w }
  else { t with authority := none, powered := [] }

theorem refreshAuthority_trains (n : Train) (s : State) :
    (refreshAuthority n s).trains = s.trains.set n ((s.trains.get n).withWalk (s.walk n true)) := by
  by_cases h : (s.trains.get n).state = .unplaced
  · have hp : (s.trains.get n).placed = false := by rw [Bool.eq_false_iff, Ne, placed_iff]; exact fun g => g h
    rw [refreshAuthority_of_unplaced h, show (State.modTrain _ _ _).trains = Table.modify _ _ _ from rfl, Table.modify_eq_set]
    unfold TrainRun.withWalk
    simp only [hp, Bool.false_eq_true, if_false]
  · have hp : (s.trains.get n).placed = true := placed_iff.2 h
    rw [refreshAuthority_of_placed h, show (State.modTrain _ _ _).trains = Table.modify _ _ _ from rfl,
      (redrawn_asks ..).same, Table.modify_eq_set]
    unfold TrainRun.withWalk
    simp only [hp, if_true]

theorem refreshAuthority_other {n m : Train} (h : m ≠ n) (s : State) :
    (refreshAuthority n s).trains.get m = s.trains.get m := by
  rw [refreshAuthority_trains, Table.get_set, if_neg h]

theorem refreshAuthority_train (n : Train) (s : State) :
    (refreshAuthority n s).trains.get n = (s.trains.get n).withWalk (s.walk n true) := by
  rw [refreshAuthority_trains, Table.get_set, if_pos rfl]

/-! ## A crossing's notice (R123) -/

theorem crossingNotice_of_unit {s : State} {k : CrossingId} {d : CrossingDef} {u : Section} {n : Train}
    (hd : s.cfg.crossings.get k = some d) (hu : s.cfg.unitKey d.sec = some u)
    (h : (s.units.get u).holder = some n) : crossingNotice k s = refreshAuthority n s := by
  simp only [crossingNotice, State.holderOf, hd, hu, h]

theorem crossingNotice_of_free {s : State} {k : CrossingId} {d : CrossingDef}
    (hd : s.cfg.crossings.get k = some d)
    (h : ∀ u, s.cfg.unitKey d.sec = some u → (s.units.get u).holder = none) : crossingNotice k s = s := by
  cases hu : s.cfg.unitKey d.sec with
  | none => simp only [crossingNotice, State.holderOf, hd, hu]
  | some u => simp only [crossingNotice, State.holderOf, hd, hu, h u hu]

/-- A crossing's notice reaches no train but the holder of its unit. -/
theorem crossingNotice_other {s : State} {k : CrossingId} {d : CrossingDef} {n : Train}
    (hd : s.cfg.crossings.get k = some d)
    (h : ∀ u, s.cfg.unitKey d.sec = some u → (s.units.get u).holder ≠ some n) :
    (crossingNotice k s).trains.get n = s.trains.get n := by
  cases hu : s.cfg.unitKey d.sec with
  | none => rw [crossingNotice_of_free hd (fun u g => by rw [hu] at g; cases g)]
  | some u =>
    cases hh : (s.units.get u).holder with
    | none =>
      rw [crossingNotice_of_free hd]
      rintro v hv
      obtain rfl : u = v := Option.some.inj (hu.symm.trans hv)
      exact hh
    | some m =>
      rw [crossingNotice_of_unit hd hu hh, refreshAuthority_other]
      rintro rfl
      exact h u hu hh

/-! ## Claims on lamps (R30, R108) -/

theorem passGroup_claim (c : Scene) (t : Nat) (g : GroupId) (y : Sky) (i : LampId) :
    ((passGroup c t y g).lamps.get i).claim = (y.lamps.get i).claim := by
  have h := passGroups_get (gs := [g]) (List.nodup_singleton g) c t y
  simp only [List.foldl_cons, List.foldl_nil] at h
  cases hg : (c.lamps.get i).group with
  | none => rw [h.2.2.1 i hg]
  | some g' =>
    rw [h.2.1 i g' hg]
    unfold passedLamp
    split
    · split <;> rfl
    · rfl

theorem groupPass_claim (c : Scene) (t : Nat) (y : Sky) (i : LampId) :
    ((groupPass c t y).lamps.get i).claim = (y.lamps.get i).claim :=
  foldl_frame (R := fun y z : Sky => (z.lamps.get i).claim = (y.lamps.get i).claim) (fun _ => rfl)
    (fun h k => k.trans h) (fun y g => passGroup_claim c t g y i) _ y

theorem requestRecompose_claim (s : State) (i : LampId) :
    ((requestRecompose s).sky.lamps.get i).claim = (s.sky.lamps.get i).claim := by
  rw [requestRecompose_eq]
  split
  · exact groupPass_claim ..
  · rfl

theorem requestForClaim_claim (old : Table LampRun 192) (j : LampId) (s : State) (i : LampId) :
    ((requestForClaim old j s).sky.lamps.get i).claim = (s.sky.lamps.get i).claim := by
  unfold requestForClaim
  split
  · rfl
  · exact requestRecompose_claim s i

/-- The lamps a crossing's claims are changed on, before the requests. -/
theorem changeClaims_claim (d : CrossingDef) (f : LampRun → LampRun) (s : State) (i : LampId) :
    ((changeClaims d f s).sky.lamps.get i).claim =
      (((s.sky.lamps.modify d.lampA f).modify d.lampB f).get i).claim := by
  rw [changeClaims, requestForClaim_claim, requestForClaim_claim]; rfl

theorem claimLamp_claim (k : CrossingId) (l : LampRun) : (claimLamp k l).claim = some (l.claim.getD k) := by
  unfold claimLamp; cases h : l.claim <;> simp [h]

theorem unclaimLamp_claim (k : CrossingId) (l : LampRun) : (unclaimLamp k l).claim ≠ some k := by
  unfold unclaimLamp
  split
  · simp
  · assumption

/-- A recompose asked for: a compose is in flight, or the request is kept (R36). -/
theorem requestRecompose_asked (s : State) :
    (requestRecompose s).sky.compose ≠ none ∨ (requestRecompose s).matrix.ready = true := by
  rw [requestRecompose_eq]
  split
  · exact .inl (by simp [startCompose])
  · next h =>
    by_cases hc : s.sky.compose = none
    · exact .inr (by cases hr : s.matrix.ready <;> simp_all)
    · exact .inl hc

/-- A second request is kept. -/
theorem requestRecompose_pending {s : State} (h : s.sky.compose ≠ none ∨ s.matrix.ready = true) :
    requestRecompose s = s.withMatrix { s.matrix with pending := true } := by
  rw [requestRecompose_eq, if_neg]
  rintro ⟨h1, h2⟩
  exact h.elim (fun g => g h1) fun g => by simp [h2] at g

theorem requestForClaim_of_changed {old : Table LampRun 192} {i : LampId} {s : State}
    (h : (s.sky.lamps.get i).claim ≠ (old.get i).claim) : requestForClaim old i s = requestRecompose s := if_neg h

/-- Two claims recorded ask for two recomposes: the second is kept (R30, R36; log 10). -/
theorem changeClaims_asks {d : CrossingDef} {k : CrossingId} {s : State} (hab : d.lampA ≠ d.lampB)
    (ha : (s.sky.lamps.get d.lampA).claim = none) (hb : (s.sky.lamps.get d.lampB).claim = none) :
    (changeClaims d (claimLamp k) s).matrix.pending = true ∧
      (s.sky.compose = none → s.matrix.ready = false →
        (changeClaims d (claimLamp k) s).sky.compose ≠ none) := by
  obtain ⟨u, hu⟩ : ∃ u, u = s.withSky { s.sky with
      lamps := (s.sky.lamps.modify d.lampA (claimLamp k)).modify d.lampB (claimLamp k) } := ⟨_, rfl⟩
  have hlamp (i : LampId) (hi : i = d.lampA ∨ i = d.lampB) :
      (u.sky.lamps.get i).claim = some ((s.sky.lamps.get i).claim.getD k) := by
    rw [hu, State.withSky_sky]
    simp only [Table.get_modify]
    rcases hi with rfl | rfl
    · rw [if_neg hab, if_pos rfl, claimLamp_claim]
    · rw [if_pos rfl, if_neg (Ne.symm hab), claimLamp_claim]
  have h : changeClaims d (claimLamp k) s = requestRecompose (requestRecompose u) := by
    rw [changeClaims, ← hu, requestForClaim_of_changed (i := d.lampA) (by rw [hlamp _ (.inl rfl), ha]; simp),
      requestForClaim_of_changed]
    rw [requestRecompose_claim, hlamp _ (.inr rfl), hb]
    simp
  rw [h, requestRecompose_pending (requestRecompose_asked u)]
  refine ⟨rfl, fun h1 h2 => ?_⟩
  rw [requestRecompose_eq, if_pos (by rw [hu]; exact ⟨h1, h2⟩)]
  simp [startCompose]

/-! ## What a notice does to a crossing (R107) -/

theorem demanded_iff (s : State) (d : CrossingDef) :
    s.demanded d = true ↔ s.called d = true ∨ s.occupied d.sec = true := by simp [State.demanded]

section

variable {s : State} {k : CrossingId} {d : CrossingDef} (hd : s.cfg.crossings.get k = some d)
include hd

theorem crossingAct_of_call (hi : (s.crossings.get k).state = .idle) (hc : s.called d = true) :
    crossingAct s k = enterWarning k d s := by
  simp only [crossingAct, hd, hi, hc, if_true]

theorem crossingAct_of_quiet (hi : (s.crossings.get k).state = .idle) (hc : s.called d = false) :
    crossingAct s k = s := by
  simp only [crossingAct, hd, hi, hc, Bool.false_eq_true, if_false]

theorem crossingAct_of_demand (hi : (s.crossings.get k).state ≠ .idle) (hc : s.demanded d = true) :
    crossingAct s k = s := by
  cases h : (s.crossings.get k).state with
  | idle => exact absurd h hi
  | warning | protectedBy => simp only [crossingAct, hd, h, hc, if_true]

theorem crossingAct_of_end (hi : (s.crossings.get k).state ≠ .idle) (hc : s.demanded d = false) :
    crossingAct s k = enterIdle k d s := by
  cases h : (s.crossings.get k).state with
  | idle => exact absurd h hi
  | warning | protectedBy => simp only [crossingAct, hd, h, hc, Bool.false_eq_true, if_false]

end

theorem called_iff (s : State) (d : CrossingDef) : s.called d = true ↔ ∃ v, s.cfg.unitKey d.sec = some v ∧
    ((s.units.get v).holder ≠ none ∨ (s.units.get v).waiting ≠ []) := by
  unfold State.called
  cases s.cfg.unitKey d.sec with
  | none => simp
  | some u => simp [Option.isSome_iff_ne_none]

/-- The lights of a crossing that has changed its state are those its claims leave. -/
theorem entered_lights (k : CrossingId) (x : CrossingRun) (d : CrossingDef) (f : LampRun → LampRun) (s : State) :
    (crossingNotice k (bellUpdate (changeClaims d f (s.modCrossing k fun _ => x)))).sky =
        (changeClaims d f (s.modCrossing k fun _ => x)).sky ∧
      (crossingNotice k (bellUpdate (changeClaims d f (s.modCrossing k fun _ => x)))).matrix =
        (changeClaims d f (s.modCrossing k fun _ => x)).matrix := by
  have h := crossingNotice_redraws k (bellUpdate (changeClaims d f (s.modCrossing k fun _ => x)))
  rw [h.sky, h.matrix, bellUpdate_eq]
  exact ⟨rfl, rfl⟩

theorem leadExpiry_of_running {s : State} {k : CrossingId} (h : (s.crossings.get k).leadTimer ≠ none) :
    leadExpiry k s = crossingNotice k (bellUpdate (s.withCrossings (s.crossings.set k
      { s.crossings.get k with state := .protectedBy, leadTimer := none }))) := by
  obtain ⟨ms, hms⟩ := Option.ne_none_iff_exists'.1 h
  simp only [leadExpiry, hms, State.modCrossing, Table.modify_eq_set]

end Sys2Proof.Machine
end

section

namespace Sys2Proof.Proofs.Crossings

open Sys2Proof.Machine Sys2Proof.Safety

/-- Settles O25: the cases of a notice, each by its lemma, and the timers. -/
theorem crossingsWarn : Obligations.CrossingsWarn := by
  refine ⟨called_iff, fun c s t k e hc => exec_unprotected e hc, fun s k d r hd hr => ?_⟩
  subst hr
  refine ⟨fun hi hc => ?_, crossingAct_of_quiet hd, fun hi h => crossingAct_of_demand hd hi ((demanded_iff ..).2 h),
    fun hi hc ho => ?_, fun h hl => ?_, fun h => ?_, fun v hv => ⟨fun hf => crossingNotice_of_free hd fun u hu => ?_,
      fun n => crossingNotice_of_unit hd hv⟩, fun hu => crossingNotice_of_free hd fun u g => by simp [hu] at g,
    fun h hl => happens h ?_, fun h hf => happens h ?_, fun h hf => happens h (if_neg (by simp [hf]))⟩
  · obtain ⟨hsky, hmatrix⟩ := entered_lights k ⟨.warning, false, some d.lead, true⟩ d (claimLamp k) s
    rw [crossingAct_of_call hd hi hc, enterWarning_crossings]
    unfold enterWarning
    simp only [hsky, hmatrix, changeClaims_claim]
    refine ⟨by rw [Table.get_set, if_pos rfl], ?_, ?_, fun i ha hb => ?_, fun hab ha hb => ?_⟩
    · simp only [Table.get_modify]
      by_cases hab : d.lampA = d.lampB
      · simp [hab, claimLamp_claim]; rfl
      · simp [hab, claimLamp_claim]; rfl
    · simp only [Table.get_modify]
      by_cases hab : d.lampA = d.lampB
      · simp [hab, claimLamp_claim]; rfl
      · simp [Ne.symm hab, claimLamp_claim]; rfl
    · simp [Table.get_modify, ha, hb]; rfl
    · exact changeClaims_asks (s := s.modCrossing k _) hab ha hb
  · obtain ⟨hsky, -⟩ := entered_lights k ⟨.idle, false, none, false⟩ d (unclaimLamp k) s
    have hdem : s.demanded d = false := by simp [State.demanded, hc, ho]
    rw [crossingAct_of_end hd hi hdem, enterIdle_crossings]
    unfold enterIdle
    simp only [hsky, changeClaims_claim]
    refine ⟨by rw [Table.get_set, if_pos rfl], ?_, ?_⟩
    · simp only [Table.get_modify]
      by_cases hab : d.lampA = d.lampB <;> simp [hab, unclaimLamp_claim]
    · simp only [Table.get_modify, if_true]
      exact fun h => unclaimLamp_claim _ _ h
  · obtain ⟨v, hv⟩ : ∃ v, v = bellUpdate (s.withCrossings (s.crossings.set k
        { s.crossings.get k with state := .protectedBy, leadTimer := none })) := ⟨_, rfl⟩
    have hr := crossingNotice_redraws k v
    have hcfg : v.cfg = s.cfg := by rw [hv, bellUpdate_eq]; rfl
    have hunits : v.units = s.units := by rw [hv, bellUpdate_eq]; rfl
    have htrains : v.trains = s.trains := by rw [hv, bellUpdate_eq]; rfl
    refine ⟨crossingNotice k v, happens h (by rw [leadExpiry_of_running hl, hv]), ?_, by rw [hr.cfg, hcfg], ?_,
      by rw [hv], fun n hn => ?_⟩
    · rw [hr.crossings, hv, bellUpdate_eq]; rfl
    · rw [hr.sky, hv, bellUpdate_eq]; rfl
    · rw [crossingNotice_other (d := d) (by rw [hcfg, hd]) (by rw [hcfg, hunits]; exact hn), htrains]
  · have entered (x : CrossingRun) (f : LampRun → LampRun) : ∃ v : State,
        crossingNotice k (bellUpdate (changeClaims d f (s.modCrossing k fun _ => x))) =
          crossingNotice k (bellUpdate v) ∧ v.bell = s.bell ∧ v.trains = s.trains ∧ v.units = s.units ∧
          v.driver = s.driver ∧ v.channels = s.channels ∧ v.cfg = s.cfg ∧
          (crossingNotice k (bellUpdate (changeClaims d f (s.modCrossing k fun _ => x)))).crossings = v.crossings := by
      have hl := changeClaims_lights d f (s.modCrossing k fun _ => x)
      refine ⟨_, rfl, hl.bell, hl.same, hl.units, hl.driver, hl.channels, hl.cfg, ?_⟩
      rw [(crossingNotice_redraws ..).crossings, bellUpdate_eq]; rfl
    rcases h with ⟨hi, hc⟩ | ⟨hi, hc, ho⟩
    · rw [crossingAct_of_call hd hi hc]; exact entered ..
    · rw [crossingAct_of_end hd hi (by simp [State.demanded, hc, ho])]; exact entered ..
  · obtain rfl : v = u := Option.some.inj (hv.symm.trans hu)
    exact hf
  · simp only [leadExpiry, hl]
  · simp only [flashExpiry, hf, if_true, State.modCrossing, Table.modify_eq_set]

end Sys2Proof.Proofs.Crossings
end

section
-- One theorem after the other: side by side, waiting proofs would pile up.
set_option Elab.async false
/-! SUPPORT. What a path and a walk consist of, and what an authority end worked out afresh asks of the channels. -/

namespace Sys2Proof.Machine

open Sys2Proof.Safety

/-! ## The path of a route (R124) -/

/-- The turnout and branch recorded with an end are those that lie before it. -/
theorem viaTo_passes (c : Scene) (x : Section) (e : End) (q : SecEnd) : Passes c ⟨x, e⟩ q (c.viaTo x e q) := by
  refine ⟨fun z f h => ?_, fun t d h hd => ⟨fun hq => ?_, fun hq hn => ?_⟩, fun t d b h hd hq => ?_⟩
  · by_cases hz : (⟨z, f⟩ : SecEnd) = q <;> simp [Scene.viaTo, Scene.exits, h, hz]
  · simp [Scene.viaTo, Scene.exits, h, hd, hq]
  · have hne : (d.normal == q) = false := by simpa using Ne.symm hn
    simp [Scene.viaTo, Scene.exits, h, hd, hne, hq.symm]
  · simp [Scene.viaTo, Scene.exits, h, hd, hq]

/-- One element of a route's path is followed by another as the layout lies. -/
def Follows (c : Scene) (p q : PathElt) : Prop := Passes c ⟨p.sec, other p.entry⟩ ⟨q.sec, q.entry⟩ q.via

theorem pathToStop_follows (c : Scene) (p : PathElt) (ps : List RoutePos) :
    (p :: pathToStop c p.sec (other p.entry) ps).IsChain (Follows c) := by
  induction ps generalizing p with
  | nil => exact List.isChain_singleton _
  | cons r ps ih =>
    have hpass : Follows c p ⟨r.sec, r.entry, c.viaTo p.sec (other p.entry) ⟨r.sec, r.entry⟩, r.stopMark⟩ :=
      viaTo_passes ..
    rw [pathToStop]
    split
    · exact .cons_cons hpass (List.isChain_singleton _)
    · exact .cons_cons hpass (ih ⟨r.sec, r.entry, _, r.stopMark⟩)

/-- A path to the next stop takes the positions ahead in order. -/
theorem pathToStop_positions (c : Scene) (x : Section) (e : End) (ps : List RoutePos) :
    (pathToStop c x e ps).map (fun q => (q.sec, q.entry, q.stop)) =
      (ps.take (pathToStop c x e ps).length).map (fun a => (a.sec, a.entry, a.stop.map fun st => st.mark)) := by
  induction ps generalizing x e with
  | nil => rfl
  | cons r ps ih =>
    rw [pathToStop]
    split
    · rfl
    · rw [List.map_cons, ih]; rfl

/-- It ends in the first stop, or with the last position. -/
theorem pathToStop_ends (c : Scene) (x : Section) (e : End) (ps : List RoutePos) :
    (∀ q ∈ (pathToStop c x e ps).dropLast, q.stop = none) ∧
      ((∃ q, (pathToStop c x e ps).getLast? = some q ∧ q.stop ≠ none) ∨
        (pathToStop c x e ps).length = ps.length) := by
  induction ps generalizing x e with
  | nil => exact ⟨fun _ h => (nomatch h), .inr rfl⟩
  | cons r ps ih =>
    rw [pathToStop]
    split
    · next h => exact ⟨fun _ h => (nomatch h), .inl ⟨_, rfl, by simpa [RoutePos.stopMark, Option.isSome_iff_ne_none] using h⟩⟩
    · next h =>
      obtain ⟨hmid, hend⟩ := ih r.sec (other r.entry)
      refine ⟨fun q hq => ?_, hend.imp (fun ⟨q, hq, hs⟩ => ⟨q, ?_, hs⟩) fun hl => by rw [List.length_cons, hl]; rfl⟩
      · cases hps : pathToStop c r.sec (other r.entry) ps with
        | nil => rw [hps] at hq; cases hq
        | cons p rest =>
          rw [hps, List.dropLast_cons_cons] at hq
          rcases List.mem_cons.1 hq with rfl | hq
          · simpa [RoutePos.stopMark] using h
          · exact hmid q (by rw [hps]; exact hq)
      · rw [List.getLast?_cons, hq]; rfl

/-! ## The path of a CAB train (R124) -/

theorem onward_buffer_iff (c : Scene) (points : Table Points 8) (x : Section) (e : End) :
    onward c points x e = .bufferStop ↔ c.link ⟨x, other e⟩ = .buffer := by
  unfold onward
  cases h : c.link ⟨x, other e⟩ with
  | buffer | join => simp
  | leg t l =>
    cases l with
    | trunk =>
      cases hd : c.turnouts.get t <;> rcases hp : points.get t with - | - | - <;> simp [hd, hp]
    | branch b =>
      cases hd : c.turnouts.get t with
      | none => simp [hd]
      | some d => by_cases hb : points.get t = some b <;> simp [hd, hb]

/-- Where the far end leads as the layout lies, the path goes on (R124). -/
theorem onward_of_leads {s : State} {x : Section} {e : End} {q : SecEnd} {v : Option (TurnoutId × Branch)}
    (h : LeadsAsLain s ⟨x, other e⟩ q v) : onward s.cfg s.driver.points x e = .into ⟨q.sec, q.e, v, none⟩ := by
  rcases h with ⟨h, rfl⟩ | ⟨t, d, b, hd, hp, rfl, ⟨hl, rfl⟩ | ⟨hl, rfl⟩⟩
  · simp only [onward, h]
  · cases b <;> simp only [onward, hl, hd, hp]
  · simp only [onward, hl, hd, hp, if_true]

/-- The path goes on only where the far end leads as the layout lies. -/
theorem leads_of_onward {s : State} {x : Section} {e : End} {f : PathElt}
    (h : onward s.cfg s.driver.points x e = .into f) :
    LeadsAsLain s ⟨x, other e⟩ ⟨f.sec, f.entry⟩ f.via ∧ f.stop = none := by
  unfold onward at h
  split at h
  · cases h
  · next hl => cases h; exact ⟨.inl ⟨hl, rfl⟩, rfl⟩
  · next t hl =>
    split at h
    · next d hd hp => cases h; exact ⟨.inr ⟨t, d, .normal, hd, hp, rfl, .inl ⟨hl, rfl⟩⟩, rfl⟩
    · next d hd hp => cases h; exact ⟨.inr ⟨t, d, .reverse, hd, hp, rfl, .inl ⟨hl, rfl⟩⟩, rfl⟩
    · cases h
  · next t b hl =>
    split at h
    · cases h
    · next d hd =>
      split at h
      · next hp => cases h; exact ⟨.inr ⟨t, d, b, hd, hp, rfl, .inr ⟨hl, rfl⟩⟩, rfl⟩
      · cases h

/-- A path that lies on from an element over sections not yet seen (R124). -/
inductive Lies (s : State) : List Section → PathElt → List PathElt → Prop
  | buffer {seen e} : s.cfg.link ⟨e.sec, other e.entry⟩ = .buffer → Lies s seen e [{ e with stop := some none }]
  | ends {seen e} : s.cfg.link ⟨e.sec, other e.entry⟩ ≠ .buffer →
      (∀ q v, LeadsAsLain s ⟨e.sec, other e.entry⟩ q v → q.sec ∈ seen) → Lies s seen e [e]
  | into {seen e f ps} : LeadsAsLain s ⟨e.sec, other e.entry⟩ ⟨f.sec, f.entry⟩ f.via → f.stop = none →
      f.sec ∉ seen → Lies s (f.sec :: seen) f ps → Lies s seen e (e :: ps)

/-- The CAB path lies on, and never runs out: 20 sections are all there are. -/
theorem cabPath_lies {s : State} {k : Nat} {seen : List Section} (hn : seen.Nodup) (hk : seen.length + k = 21)
    (e : PathElt) : Lies s seen e (cabPath s.cfg s.driver.points k seen e) := by
  induction k generalizing seen e with
  | zero =>
    have := hn.length_le_card
    rw [Fintype.card_fin] at this
    omega
  | succ k ih =>
    rw [cabPath]
    split
    · next h => exact .buffer ((onward_buffer_iff ..).1 h)
    · next h =>
      refine .ends (fun hb => ?_) fun q v hl => ?_
      · rw [(onward_buffer_iff ..).2 hb] at h; cases h
      · rw [onward_of_leads hl] at h; cases h
    · next f h =>
      obtain ⟨hl, hs⟩ := leads_of_onward h
      by_cases hf : f.sec ∈ seen
      · rw [if_pos (List.contains_iff_mem.2 hf)]
        refine .ends (fun hb => ?_) fun q v hq => ?_
        · rw [(onward_buffer_iff ..).2 hb] at h; cases h
        · rw [onward_of_leads hq] at h; cases h; exact hf
      · rw [if_neg fun hc => hf (List.contains_iff_mem.1 hc)]
        exact .into hl hs hf (ih (List.nodup_cons.2 ⟨hf, hn⟩) (by rw [List.length_cons]; omega) f)

theorem Lies.head {s : State} {seen : List Section} {e : PathElt} {ps : List PathElt} (h : Lies s seen e ps) :
    ∃ m rest, ps = { e with stop := m } :: rest := by
  cases h with
  | buffer => exact ⟨_, _, rfl⟩
  | ends => exact ⟨_, _, rfl⟩
  | into => exact ⟨_, _, rfl⟩

/-- No section stands twice in it, nor one seen before. -/
theorem Lies.fresh {s : State} {seen : List Section} {e : PathElt} {ps : List PathElt} (h : Lies s seen e ps) :
    e.sec ∈ seen → (ps.map PathElt.sec).Nodup ∧ ∀ p ∈ ps.tail, p.sec ∉ seen := by
  induction h with
  | buffer | ends => exact fun _ => ⟨List.nodup_singleton _, fun _ h => (nomatch h)⟩
  | @into seen e f ps _ _ hf hl ih =>
    intro he
    obtain ⟨hnodup, hfresh⟩ := ih (.head _)
    obtain ⟨m, rest, rfl⟩ := hl.head
    have hnew : ∀ p ∈ ({ f with stop := m } : PathElt) :: rest, p.sec ∉ seen := by
      rintro p (_ | ⟨_, hp⟩)
      · exact hf
      · exact fun h => hfresh p hp (.tail _ h)
    refine ⟨List.nodup_cons.2 ⟨fun hm => ?_, hnodup⟩, hnew⟩
    obtain ⟨p, hp, hpe⟩ := List.mem_map.1 hm
    exact hnew p hp (hpe ▸ he)

/-- An element of a CAB path that another follows as the layout lies. -/
def LeadsOn (s : State) (p q : PathElt) : Prop :=
  p.stop = none ∧ LeadsAsLain s ⟨p.sec, other p.entry⟩ ⟨q.sec, q.entry⟩ q.via

theorem Lies.chain {s : State} {seen : List Section} {e : PathElt} {ps : List PathElt} (h : Lies s seen e ps) :
    e.stop = none → ps.IsChain (LeadsOn s) := by
  induction h with
  | buffer | ends => exact fun _ => List.isChain_singleton _
  | @into seen e f ps hl hs _ hps ih =>
    intro he
    have hc := ih hs
    obtain ⟨m, rest, rfl⟩ := hps.head
    exact .cons_cons ⟨he, hl⟩ hc

/-- The last section of a CAB path is its stop section exactly at a buffer stop. -/
theorem Lies.last {s : State} {seen : List Section} {e : PathElt} {ps : List PathElt} (h : Lies s seen e ps) :
    e.stop = none → e.sec ∈ seen → ∀ p, ps.getLast? = some p →
      (s.cfg.link ⟨p.sec, other p.entry⟩ = .buffer → p.stop = some none) ∧
      (s.cfg.link ⟨p.sec, other p.entry⟩ ≠ .buffer → p.stop = none ∧
        ∀ q v, LeadsAsLain s ⟨p.sec, other p.entry⟩ q v → q.sec ∈ seen ∨ ∃ f ∈ ps, f.sec = q.sec) := by
  induction h with
  | buffer hb =>
    rintro - - p hp
    cases hp
    exact ⟨fun _ => rfl, fun hn => absurd hb hn⟩
  | ends hb hl =>
    rintro hs - p hp
    cases hp
    exact ⟨fun h => absurd h hb, fun _ => ⟨hs, fun q v hq => .inl (hl q v hq)⟩⟩
  | @into seen e f ps hl hs _ hps ih =>
    rintro - - p hp
    have hp' : ps.getLast? = some p := by
      obtain ⟨m, rest, rfl⟩ := hps.head
      rwa [List.getLast?_cons_cons] at hp
    obtain ⟨hbuf, hgo⟩ := ih hs (.head _) p hp'
    refine ⟨hbuf, fun hn => ⟨(hgo hn).1, fun q v hq => ?_⟩⟩
    rcases (hgo hn).2 q v hq with h | ⟨g, hg, hs'⟩
    · rcases List.mem_cons.1 h with h | h
      · obtain ⟨m, rest, rfl⟩ := hps.head
        exact .inr ⟨_, .tail _ (.head _), h.symm⟩
      · exact .inl h
    · exact .inr ⟨g, .tail _ hg, hs'⟩

/-! ## The walk (R125) -/

/-- The walk over the elements that follow, one by one. -/
inductive Walks (s : State) (n : Train) (full : Bool) : List PathElt → Walk → Walk → Prop
  | done (w) : Walks s n full [] w { w with rest := [] }
  | barred {p ps w} : s.walkStops n full w.within p = true → Walks s n full (p :: ps) w { w with rest := p :: ps }
  | stop {p ps w m} : s.walkStops n full w.within p = false → p.stop = some m →
      Walks s n full (p :: ps) w
        ⟨w.dist + stopPoint s.cfg p.sec p.entry m, true, w.within ++ [p], ps⟩
  | pass {p ps w w'} : s.walkStops n full w.within p = false → p.stop = none →
      Walks s n full ps { w with dist := w.dist + 10 * s.cfg.lengthOf p.sec, within := w.within ++ [p] } w' →
      Walks s n full (p :: ps) w w'

theorem walkOn_walks (s : State) (n : Train) (full : Bool) (ps : List PathElt) (w : Walk) :
    Walks s n full ps w (s.walkOn n full ps w) := by
  induction ps generalizing w with
  | nil => exact .done w
  | cons p ps ih =>
    rw [State.walkOn]
    split
    · next h => exact .barred h
    · next h =>
      rw [Bool.not_eq_true] at h
      split
      · next hm => exact .stop h hm
      · next hm => exact .pass h hm (ih _)

/-- The walk goes over an element that no test refuses. -/
theorem walkStops_eq_false {s : State} {n : Train} {full : Bool} {ws : List PathElt} {p : PathElt}
    (h : s.walkStops n full ws p = false) : s.holds n p.sec = true ∧ (∀ e ∈ (s.trains.get n).span, e.sec ≠ p.sec) ∧
    (∀ e ∈ ws, e.sec ≠ p.sec) ∧
    (full = true → (∀ t b, p.via = some (t, b) → s.driver.points.get t = some b) ∧
      ∀ k d, s.cfg.crossings.get k = some d → d.sec = p.sec → (s.crossings.get k).state = .protectedBy) := by
  simp only [State.walkStops, Bool.or_eq_false_iff, Bool.and_eq_false_imp, Bool.not_eq_false', TrainRun.spans,
    List.any_eq_false, beq_iff_eq] at h
  obtain ⟨⟨⟨⟨hspan, hwalked⟩, hpoints⟩, hholds⟩, hbars⟩ := h
  refine ⟨hholds, hspan, hwalked, fun hf => ⟨fun t b hv => ?_, fun k d hd hsec => ?_⟩⟩
  · have := hpoints hf
    simpa [State.pointsBar, hv] using this
  · have := List.any_eq_false.1 (hbars hf) k (mem_ids k)
    simpa [hd, hsec] using this

theorem walkStops_eq_true {s : State} {n : Train} {full : Bool} {ws : List PathElt} {p : PathElt}
    (h : s.walkStops n full ws p = true) : (∃ e ∈ (s.trains.get n).span, e.sec = p.sec) ∨
    (∃ e ∈ ws, e.sec = p.sec) ∨ (full = true ∧ ∃ t b, p.via = some (t, b) ∧ s.driver.points.get t ≠ some b) ∨
    s.holds n p.sec = false ∨
    (full = true ∧ ∃ k d, s.cfg.crossings.get k = some d ∧ d.sec = p.sec ∧
      (s.crossings.get k).state ≠ .protectedBy) := by
  simp only [State.walkStops, Bool.or_eq_true, Bool.and_eq_true, Bool.not_eq_true', TrainRun.spans,
    List.any_eq_true, beq_iff_eq] at h
  rcases h with (((h | h) | ⟨hf, h⟩) | h) | ⟨hf, h⟩
  · exact .inl h
  · exact .inr (.inl h)
  · refine .inr (.inr (.inl ⟨hf, ?_⟩))
    cases hv : p.via with
    | none => simp [State.pointsBar, hv] at h
    | some v => exact ⟨v.1, v.2, rfl, by simpa [State.pointsBar, hv] using h⟩
  · exact .inr (.inr (.inr (.inl h)))
  · refine .inr (.inr (.inr (.inr ⟨hf, ?_⟩)))
    obtain ⟨k, -, hk⟩ := List.any_eq_true.1 h
    cases hd : s.cfg.crossings.get k with
    | none => simp [hd] at hk
    | some d => exact ⟨k, d, hd, by simpa [hd] using hk⟩

/-- Every section that a walk adds to passes the tests, and none is walked twice. -/
theorem Walks.allowed {s : State} {n : Train} {full : Bool} {ps : List PathElt} {w w' : Walk}
    (h : Walks s n full ps w w') : (w.within.map PathElt.sec).Nodup → (w'.within.map PathElt.sec).Nodup ∧
      ∃ qs, w'.within = w.within ++ qs ∧ ∀ q ∈ qs, ∃ ws, s.walkStops n full ws q = false := by
  have added {w : Walk} {p : PathElt} (h : s.walkStops n full w.within p = false)
      (hn : (w.within.map PathElt.sec).Nodup) : ((w.within ++ [p]).map PathElt.sec).Nodup := by
    rw [List.map_append, List.nodup_append]
    refine ⟨hn, List.nodup_singleton _, ?_⟩
    rintro x hx y hy rfl
    obtain ⟨e, he, rfl⟩ := List.mem_map.1 hx
    exact (walkStops_eq_false h).2.2.1 e he (List.mem_singleton.1 hy)
  induction h with
  | done w => exact fun hn => ⟨hn, [], (List.append_nil _).symm, fun _ h => (nomatch h)⟩
  | barred => exact fun hn => ⟨hn, [], (List.append_nil _).symm, fun _ h => (nomatch h)⟩
  | @stop p ps w m hs _ =>
    refine fun hn => ⟨added hs hn, [p], rfl, fun q hq => ⟨w.within, ?_⟩⟩
    rw [List.mem_singleton.1 hq]
    exact hs
  | @pass p ps w w' hs _ _ ih =>
    intro hn
    obtain ⟨hn', qs, hqs, hall⟩ := ih (added hs hn)
    refine ⟨hn', p :: qs, by rw [hqs, List.append_assoc]; rfl, fun q hq => ?_⟩
    rcases List.mem_cons.1 hq with rfl | hq
    · exact ⟨_, hs⟩
    · exact hall q hq

/-- What a walk takes of the elements ahead, where it ends and how far it reaches. -/
theorem Walks.taken {s : State} {n : Train} {full : Bool} {ps : List PathElt} {w w' : Walk}
    (h : Walks s n full ps w w') : w.atStop = false → ∃ qs, w'.within = w.within ++ qs ∧ ps = qs ++ w'.rest ∧
      (w'.atStop = true → ∃ q m rs, qs = rs ++ [q] ∧ q.stop = some m ∧ (∀ r ∈ rs, r.stop = none) ∧
        w'.dist = w.dist + (rs.map fun r => (10 * s.cfg.lengthOf r.sec : Int)).sum +
          stopPoint s.cfg q.sec q.entry m) ∧
      (w'.atStop = false → (∀ r ∈ qs, r.stop = none) ∧
        w'.dist = w.dist + (qs.map fun r => (10 * s.cfg.lengthOf r.sec : Int)).sum ∧
        ∀ q rs, w'.rest = q :: rs → s.walkStops n full w'.within q = true) := by
  induction h with
  | done w =>
    exact fun ha => ⟨[], by simp, rfl, fun h => absurd (ha.symm.trans h) nofun, fun _ =>
      ⟨fun _ h => (nomatch h), by simp, fun _ _ h => (nomatch h)⟩⟩
  | barred hs =>
    refine fun ha => ⟨[], by simp, rfl, fun h => absurd (ha.symm.trans h) nofun, fun _ =>
      ⟨fun _ h => (nomatch h), by simp, fun q rs h => ?_⟩⟩
    cases h
    exact hs
  | @stop p ps w m _ hm =>
    exact fun ha => ⟨[p], rfl, rfl, fun _ => ⟨p, m, [], rfl, hm, fun _ h => (nomatch h), by simp⟩, nofun⟩
  | @pass p ps w w' _ hp _ ih =>
    intro ha
    obtain ⟨qs, hw, hps, hstop, hgo⟩ := ih ha
    refine ⟨p :: qs, by rw [hw, List.append_assoc]; rfl, by rw [hps]; rfl, fun h => ?_, fun h => ?_⟩
    · obtain ⟨q, m, rs, rfl, hq, hrs, hdist⟩ := hstop h
      refine ⟨q, m, p :: rs, rfl, hq, List.forall_mem_cons.2 ⟨hp, hrs⟩, ?_⟩
      rw [hdist, List.map_cons, List.sum_cons]; ring
    · obtain ⟨hrs, hdist, hend⟩ := hgo h
      refine ⟨List.forall_mem_cons.2 ⟨hp, hrs⟩, ?_, hend⟩
      rw [hdist, List.map_cons, List.sum_cons]; ring

theorem walk_of_nil {s : State} {n : Train} (h : s.path n = []) (full : Bool) :
    s.walk n full = ⟨0, false, [], []⟩ := by simp only [State.walk, h]

theorem walk_of_stop {s : State} {n : Train} {p : PathElt} {ps : List PathElt} {m : Option MarkId}
    (h : s.path n = p :: ps) (hm : p.stop = some m) (full : Bool) : s.walk n full =
      ⟨max 0 (stopPoint s.cfg p.sec p.entry m - ((s.trains.get n).headPos : Int)), true, [p], ps⟩ := by
  simp only [State.walk, h, hm]

theorem walk_of_go {s : State} {n : Train} {p : PathElt} {ps : List PathElt} (h : s.path n = p :: ps)
    (hm : p.stop = none) (full : Bool) : Walks s n full ps
      ⟨10 * s.cfg.lengthOf p.sec - ((s.trains.get n).headPos : Int), false, [p], []⟩ (s.walk n full) := by
  simp only [State.walk, h, hm]
  exact walkOn_walks ..

/-- Every section that a walk adds to the head's passes the tests. -/
theorem walk_allowed (s : State) (n : Train) (full : Bool) : ((s.walk n full).within.map PathElt.sec).Nodup ∧
    ∀ p ∈ (s.walk n full).within.tail, ∃ ws, s.walkStops n full ws p = false := by
  cases hp : s.path n with
  | nil => rw [walk_of_nil hp]; exact ⟨List.nodup_nil, fun _ h => (nomatch h)⟩
  | cons p ps =>
    cases hm : p.stop with
    | some m => rw [walk_of_stop hp hm]; exact ⟨List.nodup_singleton _, fun _ h => (nomatch h)⟩
    | none =>
      obtain ⟨hn, qs, hqs, hall⟩ := (walk_of_go hp hm full).allowed (List.nodup_singleton _)
      exact ⟨hn, by rw [hqs]; exact hall⟩

/-! ## The powered set and the requests of an authority end (R127 to R129) -/

theorem among_iff (e : SpanElt) (xs : List SpanElt) : e.among xs = true ↔ ∃ f ∈ xs, f.sec = e.sec := by
  simp [SpanElt.among]

theorem among_eq_false {e : SpanElt} {xs : List SpanElt} : e.among xs = false ↔ ∀ f ∈ xs, f.sec ≠ e.sec := by
  simp [SpanElt.among]

theorem mem_poweredSet (t : TrainRun) (w : Walk) (e : SpanElt) : e ∈ poweredSet t w ↔
    e ∈ t.span ∨ ((∀ f ∈ t.span, f.sec ≠ e.sec) ∧ ∃ p ∈ w.within, e = ⟨p.sec, p.entry⟩) := by
  simp only [poweredSet, List.mem_append, List.mem_map, List.mem_filter, TrainRun.spans, Bool.not_eq_true',
    List.any_eq_false, beq_iff_eq]
  refine or_congr_right ⟨?_, ?_⟩
  · rintro ⟨p, ⟨hp, hs⟩, rfl⟩; exact ⟨hs, p, hp, rfl⟩
  · rintro ⟨hs, p, hp, rfl⟩; exact ⟨p, ⟨hp, hs⟩, rfl⟩

/-- A powered set has one element a section, where the span has. -/
theorem poweredSet_inj {t : TrainRun} {w : Walk} (hspan : ∀ e ∈ t.span, ∀ f ∈ t.span, e.sec = f.sec → e = f)
    (hw : (w.within.map PathElt.sec).Nodup) {e f : SpanElt} (he : e ∈ poweredSet t w) (hf : f ∈ poweredSet t w)
    (h : f.sec = e.sec) : f = e := by
  rcases (mem_poweredSet ..).1 he with he | ⟨hes, p, hp, rfl⟩ <;>
    rcases (mem_poweredSet ..).1 hf with hf | ⟨hfs, q, hq, rfl⟩
  · exact hspan f hf e he h
  · exact absurd h.symm (hfs e he)
  · exact absurd h (hes f hf)
  · rw [List.inj_on_of_nodup_map hw hq hp h]

/-- A channel that no section joins or leaves by is left. -/
theorem redrawn_other {t : TrainRun} {new : List SpanElt} {s : State} {c : Channel}
    (hjoin : ∀ e ∈ new, sectionChannel e.sec = c → ∃ f ∈ t.powered, f.sec = e.sec)
    (hleave : ∀ f ∈ t.powered, sectionChannel f.sec = c → ∃ e ∈ new, e.sec = f.sec) :
    (redrawn t new s).channels.get c = s.channels.get c := by
  rw [redrawn, restSections_channel, if_neg, driveSections_channel_other]
  · intro e he hc
    obtain ⟨he, hn⟩ := List.mem_filter.1 he
    rw [Bool.not_eq_true', among_eq_false] at hn
    obtain ⟨f, hf, hs⟩ := hjoin e he hc
    exact hn f hf hs
  · rintro ⟨⟨x, hx, hc⟩, -⟩
    obtain ⟨f, hf, rfl⟩ := List.mem_map.1 hx
    obtain ⟨hf, hn⟩ := List.mem_filter.1 hf
    rw [Bool.not_eq_true', among_eq_false] at hn
    obtain ⟨e, he, hs⟩ := hleave f hf hc
    exact hn e he hs

/-- A section that joins is sent the train's duty in its travel polarity. -/
theorem redrawn_joins {t : TrainRun} {new : List SpanElt} {s : State} {e : SpanElt} (he : e ∈ new)
    (hone : ∀ f ∈ new, f.sec = e.sec → f = e) (hold : ∀ f ∈ t.powered, f.sec ≠ e.sec) (hh : s.halt = false)
    (hc : (s.channels.get (sectionChannel e.sec)).state ≠ .cut) :
    ((redrawn t new s).channels.get (sectionChannel e.sec)).staged = some ⟨t.duty, travelPol e.entry⟩ := by
  rw [redrawn, restSections_channel, if_neg, driveSections_staged (e := e) _ _ hh hc]
  · exact List.mem_filter.2 ⟨he, by rw [Bool.not_eq_true', among_eq_false]; exact hold⟩
  · exact fun f hf => hone f (List.mem_of_mem_filter hf)
  · rintro ⟨⟨x, hx, hc⟩, -⟩
    obtain ⟨f, hf, rfl⟩ := List.mem_map.1 hx
    exact hold f (List.mem_of_mem_filter hf) (sectionChannel_inj.1 hc)

/-- A section that leaves is sent duty 0 in its channel's applied polarity. -/
theorem redrawn_leaves {t : TrainRun} {new : List SpanElt} {s : State} {f : SpanElt} (hf : f ∈ t.powered)
    (hnew : ∀ e ∈ new, e.sec ≠ f.sec) (hh : s.halt = false)
    (hc : (s.channels.get (sectionChannel f.sec)).state ≠ .cut) :
    ((redrawn t new s).channels.get (sectionChannel f.sec)).staged =
      some ⟨0, (s.channels.get (sectionChannel f.sec)).applied.pol⟩ := by
  have hasks := driveSections_asks t.duty (new.filter fun e => !e.among t.powered) s
  have hx : f.sec ∈ (t.powered.filter fun e => !e.among new).map fun e => e.sec :=
    List.mem_map.2 ⟨f, List.mem_filter.2 ⟨hf, by rw [Bool.not_eq_true', among_eq_false]; exact hnew⟩, rfl⟩
  rw [redrawn, restSections_staged hx ((Traffic.halt hasks.toTraffic).trans hh) (by rw [hasks.asks]; exact hc),
    hasks.asks]

theorem redrawn_of_halt {t : TrainRun} {new : List SpanElt} {s : State} (h : s.halt = true) :
    (redrawn t new s).channels = s.channels := by
  have hdrive : ∀ s : State, s.halt = true →
      ((new.filter fun e => !e.among t.powered).foldl (driveSection t.duty) s) = s := fun s h => by
    induction new.filter fun e => !e.among t.powered with
    | nil => rfl
    | cons e es ih => rw [List.foldl_cons, driveSection, dutyRequest_of_shut (.inl h), ih]
  refine Table.ext fun c => ?_
  rw [redrawn, hdrive s h, restSections_channel, if_neg]
  rintro ⟨-, hh, -⟩
  rw [h] at hh
  cases hh

theorem refreshAuthority_channels {n : Train} {s : State} (h : (s.trains.get n).state ≠ .unplaced) :
    (refreshAuthority n s).channels =
      (redrawn (s.trains.get n) (poweredSet (s.trains.get n) (s.walk n true)) s).channels := by
  rw [refreshAuthority_of_placed h]; rfl

theorem refreshAuthority_eq (n : Train) (s : State) : refreshAuthority n s =
    (s.withChannels (refreshAuthority n s).channels).withTrains
      (s.trains.set n ((s.trains.get n).withWalk (s.walk n true))) := by
  rw [← refreshAuthority_trains]
  by_cases h : (s.trains.get n).state = .unplaced
  · rw [refreshAuthority_of_unplaced h]; rfl
  · rw [refreshAuthority_of_placed h, (redrawn_asks ..).eq]; rfl

/-! ## The path of a train (R124) -/

section

variable {s : State} {n : Train} {h : SpanElt} (hh : (s.trains.get n).span.getLast? = some h)
include hh

theorem path_of_cab (hm : (s.trains.get n).mode = .cab) :
    Lies s [h.sec] ⟨h.sec, h.entry, none, none⟩ (s.path n) := by
  have hp : s.path n = cabPath s.cfg s.driver.points 20 [h.sec] ⟨h.sec, h.entry, none, none⟩ := by
    simp only [State.path, TrainRun.head, hh, hm]
  rw [hp]
  exact cabPath_lies (List.nodup_singleton _) rfl _

theorem path_of_route {r : RouteId} {i : Nat} {d : RouteDef} (hm : (s.trains.get n).mode = .route)
    (hr : (s.trains.get n).route = some (r, i)) (hd : s.cfg.routes.get r = some d) :
    s.path n = routePath s.cfg d i (s.trains.get n).served h := by
  simp only [State.path, TrainRun.head, hh, hm, hr, hd]

theorem path_of_noRoute (hm : (s.trains.get n).mode = .route) (hr : (s.trains.get n).route = none) :
    s.path n = [⟨h.sec, h.entry, none, none⟩] := by
  simp only [State.path, TrainRun.head, hh, hm, hr]

end

theorem path_of_away {s : State} {n : Train} (h : (s.trains.get n).span = []) : s.path n = [] := by
  simp only [State.path, TrainRun.head, h, List.getLast?_nil]

theorem routePath_of_stop {d : RouteDef} {i : Nat} {p : RoutePos} {st : Stop} (hp : d.positions[i]? = some p)
    (hs : p.stop = some st) (c : Scene) (h : SpanElt) :
    routePath c d i false h = [⟨h.sec, h.entry, none, some st.mark⟩] := by
  simp [routePath, RouteDef.at, hp, RoutePos.stopMark, hs]

theorem routePath_of_go {d : RouteDef} {i : Nat} {served : Bool}
    (h : served = true ∨ ∀ p, d.positions[i]? = some p → p.stop = none) (c : Scene) (e : SpanElt) :
    routePath c d i served e =
      ⟨e.sec, e.entry, none, none⟩ :: pathToStop c e.sec (other e.entry) (d.ahead i) := by
  have hstop : (if served then none else (d.at i).bind RoutePos.stopMark) = none := by
    rcases h with rfl | h
    · rfl
    · cases hp : d.positions[i]? with
      | none => simp [RouteDef.at, hp]
      | some p => simp [RouteDef.at, hp, RoutePos.stopMark, h p hp]
  simp only [routePath, hstop]

end Sys2Proof.Machine
end

section

namespace Sys2Proof.Proofs.Authority

open Sys2Proof.Machine Sys2Proof.Safety

/-- The path of a train, by its mode and route (R124). -/
theorem path_cases {s : State} {n : Train} {h : SpanElt} (hh : (s.trains.get n).span.getLast? = some h) :
    (∀ r i d ahead, (s.trains.get n).mode = .route → (s.trains.get n).route = some (r, i) →
      s.cfg.routes.get r = some d →
      ahead = (d.positions.drop (i + 1) ++ if d.loop then d.positions.take (i + 1) else []) →
      (∀ p st, (s.trains.get n).served = false → d.positions[i]? = some p → p.stop = some st →
        s.path n = [⟨h.sec, h.entry, none, some st.mark⟩]) ∧
      ((s.trains.get n).served = true ∨ (∀ p, d.positions[i]? = some p → p.stop = none) → ∃ ps : List PathElt,
        s.path n = ⟨h.sec, h.entry, none, none⟩ :: ps ∧
        ps.map (fun q => (q.sec, q.entry, q.stop)) =
          (ahead.take ps.length).map (fun a => (a.sec, a.entry, a.stop.map fun st => st.mark)) ∧
        (∀ q ∈ ps.dropLast, q.stop = none) ∧
        ((∃ q, ps.getLast? = some q ∧ q.stop ≠ none) ∨ ps.length = ahead.length) ∧
        ∀ (k : Nat) (p q : PathElt), (s.path n)[k]? = some p → (s.path n)[k + 1]? = some q →
          Passes s.cfg ⟨p.sec, other p.entry⟩ ⟨q.sec, q.entry⟩ q.via)) ∧
    ((s.trains.get n).mode = .cab →
      (s.path n).length ≤ 20 ∧ ((s.path n).map PathElt.sec).Nodup ∧
      (∃ m, (s.path n).head? = some ⟨h.sec, h.entry, none, m⟩) ∧
      (∀ (k : Nat) (p q : PathElt), (s.path n)[k]? = some p → (s.path n)[k + 1]? = some q → p.stop = none ∧
        LeadsAsLain s ⟨p.sec, other p.entry⟩ ⟨q.sec, q.entry⟩ q.via) ∧
      ∀ p, (s.path n).getLast? = some p →
        (s.cfg.link ⟨p.sec, other p.entry⟩ = .buffer → p.stop = some none) ∧
        (s.cfg.link ⟨p.sec, other p.entry⟩ ≠ .buffer → p.stop = none ∧
          ∀ q v, LeadsAsLain s ⟨p.sec, other p.entry⟩ q v → ∃ e ∈ s.path n, e.sec = q.sec)) := by
  have chained {R : PathElt → PathElt → Prop} {ps : List PathElt} (hc : ps.IsChain R) {k : Nat} {p q : PathElt}
      (hp : ps[k]? = some p) (hq : ps[k + 1]? = some q) : R p q := by
    obtain ⟨hk, rfl⟩ := List.getElem?_eq_some_iff.1 hq
    obtain ⟨hk', rfl⟩ := List.getElem?_eq_some_iff.1 hp
    exact List.isChain_iff_getElem.1 hc k hk
  refine ⟨fun r i d ahead hm hr hd ha => ⟨fun p st hv hp hs => ?_, fun hgo => ?_⟩, fun hm => ?_⟩
  · rw [path_of_route hh hm hr hd, hv, routePath_of_stop hp hs]
  · have hpath := (path_of_route hh hm hr hd).trans (routePath_of_go hgo ..)
    obtain rfl : ahead = d.ahead i := ha
    refine ⟨_, hpath, pathToStop_positions .., (pathToStop_ends ..).1, (pathToStop_ends ..).2, fun k p q hp hq => ?_⟩
    rw [hpath] at hp hq
    exact chained (pathToStop_follows s.cfg ⟨h.sec, h.entry, none, none⟩ (d.ahead i)) hp hq
  · have hl := path_of_cab hh hm
    obtain ⟨hn, -⟩ := hl.fresh (.head _)
    obtain ⟨m, rest, hhead⟩ := hl.head
    refine ⟨?_, hn, ⟨m, by rw [hhead]; rfl⟩, fun k p q hp hq => chained (hl.chain rfl) hp hq, fun p hp => ?_⟩
    · have := hn.length_le_card
      rwa [List.length_map, Fintype.card_fin] at this
    · obtain ⟨hb, hgo⟩ := hl.last rfl (.head _) p hp
      refine ⟨hb, fun hnb => ⟨(hgo hnb).1, fun q v hq => ?_⟩⟩
      rcases (hgo hnb).2 q v hq with hs | hs
      · exact ⟨_, by rw [hhead]; exact .head _, (List.mem_singleton.1 hs).symm⟩
      · exact hs

/-- What a walk takes of a path, where it ends and how far it reaches (R125, R126). -/
theorem walk_taken {s : State} {n : Train} {p : PathElt} {ps : List PathElt} (hp : s.path n = p :: ps)
    (full : Bool) {pos : Int} (hpos : pos = (s.trains.get n).headPos) {len : PathElt → Int}
    (hlen : ∀ q, len q = 10 * s.cfg.lengthOf q.sec) {w : Walk} (hw : w = s.walk n full) :
    s.path n = w.within ++ w.rest ∧
    (∀ m, p.stop = some m → w.within = [p] ∧ w.atStop = true ∧
      w.dist = max 0 (stopPoint s.cfg p.sec p.entry m - pos)) ∧
    (p.stop = none → ∃ qs, w.within = p :: qs ∧
      (w.atStop = true → ∃ q m rs, qs = rs ++ [q] ∧ q.stop = some m ∧ (∀ r ∈ rs, r.stop = none) ∧
        w.dist = len p - pos + (rs.map len).sum + stopPoint s.cfg q.sec q.entry m) ∧
      (w.atStop = false → (∀ r ∈ qs, r.stop = none) ∧ w.dist = len p - pos + (qs.map len).sum ∧
        ∀ q rs, w.rest = q :: rs →
          (∃ e ∈ (s.trains.get n).span, e.sec = q.sec) ∨ (∃ e ∈ w.within, e.sec = q.sec) ∨
          (full = true ∧ ∃ t b, q.via = some (t, b) ∧ s.driver.points.get t ≠ some b) ∨
          s.holds n q.sec = false ∨
          (full = true ∧ ∃ k d, s.cfg.crossings.get k = some d ∧ d.sec = q.sec ∧
            (s.crossings.get k).state ≠ .protectedBy))) := by
  subst hw hpos
  obtain rfl : len = fun q => (10 * s.cfg.lengthOf q.sec : Int) := funext hlen
  cases hm : p.stop with
  | some m =>
    rw [walk_of_stop hp hm full]
    refine ⟨hp, fun m' h => ?_, nofun⟩
    cases h
    exact ⟨rfl, rfl, rfl⟩
  | none =>
    obtain ⟨qs, hwithin, hps, hstop, hgo⟩ := (walk_of_go hp hm full).taken rfl
    refine ⟨by rw [hp, hwithin, hps]; rfl, nofun, fun _ => ⟨qs, hwithin, hstop, fun ha => ?_⟩⟩
    obtain ⟨hrs, hdist, hend⟩ := hgo ha
    exact ⟨hrs, hdist, fun q rs hq => walkStops_eq_true (hend q rs hq)⟩

/-- Settles O29: the path by `path_cases`, the walk by `walk_taken`, and the powered set by its lemmas. -/
theorem authorityStaysWithin : Obligations.AuthorityStaysWithin := by
  refine ⟨holds_iff, fun s n x hx => hx ▸ ⟨path_of_away, fun h hh => ⟨path_of_noRoute hh, path_cases hh⟩⟩,
    fun s n full w p ps pos len hw hp hpos hlen => walk_taken hp full hpos hlen hw,
    fun s n w p hw hp => ?_, fun s t n x y w ht hx hy hw => ?_, fun s n w p hw hp => ?_⟩
  · subst hw
    obtain ⟨hn, hall⟩ := walk_allowed s n false
    obtain ⟨ws, hs⟩ := hall p hp
    obtain ⟨hholds, hspan, -, -⟩ := walkStops_eq_false hs
    exact ⟨hholds, hspan, hn⟩
  · subst ht hw
    have hy' : y = x.withWalk (s.walk n true) := by rw [hy, refreshAuthority_train, hx]
    refine ⟨by rw [hy', hx]; exact refreshAuthority_eq n s, ?_, fun hu => ?_, fun hp => ?_⟩
    · rw [hy']; unfold TrainRun.withWalk; split <;> rfl
    · have hpl : x.placed = false := by rw [Bool.eq_false_iff, Ne, placed_iff]; exact fun h => h hu
      rw [hy', refreshAuthority_of_unplaced (by rw [← hx]; exact hu)]
      refine ⟨?_, ?_, rfl⟩ <;> simp [TrainRun.withWalk, hpl]
    · have hpl : x.placed = true := placed_iff.2 hp
      have hpow : y.powered = poweredSet x (s.walk n true) := by rw [hy']; simp [TrainRun.withWalk, hpl]
      have hch := refreshAuthority_channels (s := s) (n := n) (by rw [← hx]; exact hp)
      rw [← hx] at hch
      rw [hpow, hch]
      refine ⟨by rw [hy']; simp [TrainRun.withWalk, hpl], mem_poweredSet _ _, redrawn_of_halt,
        fun hh hspan c hc => ⟨?_, ?_⟩, fun c hj hl => redrawn_other hj hl⟩
      · rintro e he rfl hold
        refine (redrawn_joins he (fun f hf => poweredSet_inj hspan (walk_allowed s n true).1 he hf) hold hh hc).trans ?_
        cases e.entry <;> rfl
      · rintro hnew ⟨f, hf, rfl⟩
        exact redrawn_leaves hf hnew hh hc
  · subst hw
    obtain ⟨hn, hall⟩ := walk_allowed s n true
    obtain ⟨ws, hs⟩ := hall p hp
    obtain ⟨hholds, hspan, -, hfull⟩ := walkStops_eq_false hs
    exact ⟨hholds, hspan, (hfull rfl).1, (hfull rfl).2, hn⟩

end Sys2Proof.Proofs.Authority
end

section
-- One theorem after the other: side by side, waiting proofs would pile up.
set_option Elab.async false
/-! SUPPORT. What requests, grants, releases, withdrawals and occupancy notices leave (R112 to R123). -/

namespace Sys2Proof.Machine

open Sys2Proof.Safety

/-! ## The lowest-numbered one that meets a test -/

theorem find_ids_eq_some {k : Nat} {p : Fin k → Bool} {i : Fin k} :
    (ids k).find? p = some i ↔ p i = true ∧ ∀ j, j < i → p j = false := by
  constructor
  · intro h
    obtain ⟨hp, as, bs, hsplit, has⟩ := List.find?_eq_some_iff_append.1 h
    refine ⟨hp, fun j hj => ?_⟩
    have hmem : j ∈ ids k := mem_ids j
    rw [hsplit] at hmem
    have hpair : (ids k).Pairwise (· < ·) := ids_pairwise k
    rw [hsplit, List.pairwise_append, List.pairwise_cons] at hpair
    rcases List.mem_append.1 hmem with h | h
    · simpa using has j h
    · rcases List.mem_cons.1 h with rfl | h
      · exact absurd hj (lt_irrefl _)
      · exact absurd (hpair.2.1.1 j h) (not_lt_of_gt hj)
  · rintro ⟨hp, hlow⟩
    obtain ⟨as, bs, hsplit⟩ := List.append_of_mem (mem_ids i)
    refine List.find?_eq_some_iff_append.2 ⟨hp, as, bs, hsplit, fun j hj => ?_⟩
    have hpair : (ids k).Pairwise (· < ·) := ids_pairwise k
    rw [hsplit, List.pairwise_append] at hpair
    rw [hlow j (hpair.2.2 j hj i (.head _))]; rfl

theorem find_ids_eq_none {k : Nat} {p : Fin k → Bool} : (ids k).find? p = none ↔ ∀ i, p i = false := by
  rw [List.find?_eq_none]
  exact ⟨fun h i => by simpa using h i (mem_ids i), fun h i _ => by simp [h i]⟩

/-! ## Notices to the crossings (R123) -/

/-- The crossings told of a notice act one after another, in ascending order (log 36). -/
theorem told_crossings (p : CrossingId → Bool) (s : State) : ∃ a : State,
    (p 0 = true → a = crossingAct s 0) ∧ (¬ p 0 = true → a = s) ∧
    (p 1 = true → ((ids 2).filter p).foldl crossingAct s = crossingAct a 1) ∧
    (¬ p 1 = true → ((ids 2).filter p).foldl crossingAct s = a) := by
  have hids : ids 2 = [0, 1] := rfl
  rw [hids]
  refine ⟨if p 0 then crossingAct s 0 else s, fun h => if_pos h, fun h => if_neg h, fun h => ?_, fun h => ?_⟩ <;>
    cases h0 : p 0 <;> simp [h0, h]

theorem crossingIn_iff (c : Scene) (u : Section) (k : CrossingId) : c.crossingIn u k = true ↔
    ∃ d, c.crossings.get k = some d ∧ c.unitKey d.sec = some u := by
  unfold Scene.crossingIn
  cases c.crossings.get k <;> simp

/-- A crossing whose unit has no holder asks no channel for anything. -/
theorem crossingAct_channels {s : State} {k : CrossingId}
    (h : ∀ d u, s.cfg.crossings.get k = some d → s.cfg.unitKey d.sec = some u → (s.units.get u).holder = none) :
    (crossingAct s k).channels = s.channels := by
  have entered (x : CrossingRun) (d : CrossingDef) (f : LampRun → LampRun) (hd : s.cfg.crossings.get k = some d) :
      (crossingNotice k (bellUpdate (changeClaims d f (s.modCrossing k fun _ => x)))).channels = s.channels := by
    have hl := changeClaims_lights d f (s.modCrossing k fun _ => x)
    rw [bellUpdate_eq, crossingNotice_of_free (d := d)]
    · exact hl.channels
    · rw [State.withBell_cfg, hl.cfg]; exact hd
    · intro u hu
      rw [State.withBell_cfg, hl.cfg] at hu
      rw [State.withBell_units, hl.units]
      exact h d u hd hu
  rcases crossingAct_cases s k with e | ⟨d, hd, ⟨-, -, e⟩ | ⟨-, -, e⟩⟩ <;> rw [e]
  · exact entered _ d _ hd
  · exact entered _ d _ hd

theorem unitNotice_channels {s : State} {u : Section} (h : (s.units.get u).holder = none) :
    (unitNotice u s).channels = s.channels := by
  have key (ks : List CrossingId) : ∀ t : State, t.cfg = s.cfg → t.units = s.units →
      (∀ k ∈ ks, s.cfg.crossingIn u k = true) → (ks.foldl crossingAct t).channels = t.channels := by
    induction ks with
    | nil => exact fun _ _ _ _ => rfl
    | cons k ks ih =>
      intro t hc hu hin
      have hcall := crossingAct_calls t k
      rw [List.foldl_cons, ih _ (hcall.cfg.trans hc) (hcall.units.trans hu) fun j hj => hin j (.tail _ hj),
        crossingAct_channels]
      intro d v hd hv
      obtain ⟨d', hd', hu'⟩ := (crossingIn_iff ..).1 (hin k (.head _))
      rw [hc] at hd hv
      obtain rfl : d = d' := Option.some.inj (hd.symm.trans hd')
      obtain rfl : v = u := Option.some.inj (hv.symm.trans hu')
      rw [hu]; exact h
  exact key _ s rfl rfl fun k hk => (List.mem_filter.1 hk).2

/-! ## The deadlock check's chain (R116) -/

theorem chainAt_eq_waitsOn (s : State) (h : Train) (j : Nat) : chainAt s h (j + 1) = waitsOn s h j := by
  induction j with
  | zero => rfl
  | succ j ih => rw [chainAt_next, ih]; rfl

theorem chainReaches_iff (s : State) (n h : Train) (k : Nat) :
    s.chainReaches n k (some h) = true ↔ h = n ∨ ∃ j, j < k ∧ waitsOn s h j = some n := by
  constructor
  · induction k generalizing h with
    | zero => exact fun g => .inl (by simpa [State.chainReaches] using g)
    | succ k ih =>
      intro g
      simp only [State.chainReaches, Bool.or_eq_true, beq_iff_eq] at g
      rcases g with g | g
      · exact .inl g
      · cases hx : s.nextInChain h with
        | none => rw [hx] at g; cases k <;> simp [State.chainReaches] at g
        | some x =>
          rw [hx] at g
          have hstep (j : Nat) : chainAt s h (j + 1) = chainAt s x j := by rw [chainAt_succ, hx]; rfl
          rcases ih x g with rfl | ⟨j, hj, hw⟩
          · exact .inr ⟨0, by omega, hx⟩
          · exact .inr ⟨j + 1, by omega, by rw [← chainAt_eq_waitsOn, hstep, chainAt_eq_waitsOn, hw]⟩
  · rintro (rfl | ⟨j, hj, hw⟩)
    · exact chainReaches_of_chainAt (j := 0) rfl (Nat.zero_le k)
    · exact chainReaches_of_chainAt (j := j + 1) (by rw [chainAt_eq_waitsOn, hw]) hj

/-! ## Requests and grants (R115, R117) -/

theorem grantCore_eq (n : Train) (u : Section) (s : State) : grantCore n u s =
    (s.withUnits (s.units.set u ⟨some n, (s.units.get u).waiting.erase n⟩)).withTrains (grantCore n u s).trains := by
  rw [← Table.modify_eq_set s.units u fun r => ⟨some n, r.waiting.erase n⟩]; rfl

theorem grant_unit (quiet : Bool) (n : Train) (u v : Section) (s : State) : (grant quiet n u s).units.get v =
    if v = u then ⟨some n, (s.units.get v).waiting.erase n⟩ else s.units.get v := by
  rw [grant_units, grantCore_unit]

theorem grant_holdings (quiet : Bool) (n m : Train) (u : Section) (s : State) :
    ((grant quiet n u s).trains.get m).holdings =
      if m = n then (s.trains.get m).holdings ++ [u] else (s.trains.get m).holdings := by
  rw [grant_redraws quiet n u s m, grantCore_train]

theorem grant_request (quiet : Bool) (n m : Train) (u : Section) (s : State) :
    ((grant quiet n u s).trains.get m).request =
      if m = n ∧ (s.trains.get m).request = some u then none else (s.trains.get m).request := by
  rw [grant_redraws quiet n u s m, grantCore_train]

theorem queueCore_eq (n : Train) (u : Section) (s : State) : queueCore n u s =
    (s.withUnits (s.units.set u ⟨(s.units.get u).holder, (s.units.get u).waiting ++ [n]⟩)).modTrain n
      fun x => { x with request := some u } := by
  rw [← Table.modify_eq_set s.units u fun r => ⟨r.holder, r.waiting ++ [n]⟩]; rfl

theorem requestUnit_of_held {n : Train} {u : Section} {s : State} (h : (s.units.get u).holder = some n) :
    requestUnit n u s = s := if_pos h

theorem requestUnit_of_free {n : Train} {u : Section} {s : State} (h : (s.units.get u).holder = none)
    (hb : s.blocked u = false) (hw : (s.units.get u).waiting = []) : requestUnit n u s = grant false n u s := by
  rw [requestUnit, if_neg (by simp [h]), if_pos ⟨h, hb, hw⟩]

/-- A request that cannot be granted and closes no circle is queued. -/
theorem requestUnit_of_queued {n : Train} {u : Section} {s : State} (h : (s.units.get u).holder ≠ some n)
    (hb : (s.units.get u).holder = none → s.blocked u = true ∨ (s.units.get u).waiting ≠ [])
    (hc : ∀ m, (s.units.get u).holder = some m → s.chainReaches n 6 (some m) = false) :
    requestUnit n u s = unitNotice u (queueCore n u s) := by
  rw [requestUnit, if_neg h, if_neg]
  · cases hh : (s.units.get u).holder with
    | none => rfl
    | some m => simp only [hc m hh]; rfl
  · rintro ⟨h1, h2, h3⟩
    rcases hb h1 with g | g
    · rw [h2] at g; cases g
    · exact g h3

theorem requestUnit_of_circle {n m : Train} {u : Section} {s : State} (h : (s.units.get u).holder = some m)
    (hne : m ≠ n) (hc : s.chainReaches n 6 (some m) = true) :
    requestUnit n u s = (s.modTrain n TrainRun.deadlocked).raise (.deadlock n u m) := by
  rw [requestUnit, if_neg (by rw [h]; simpa using hne), if_neg (by simp [h])]
  simp only [h, hc]

theorem queued_unit (n : Train) (u : Section) (s : State) : (unitNotice u (queueCore n u s)).units.get u =
    { s.units.get u with waiting := (s.units.get u).waiting ++ [n] } := by
  rw [(unitNotice_calls ..).units, queueCore_unit, if_pos rfl]

theorem queued_train (n : Train) (u : Section) (s : State) :
    ((unitNotice u (queueCore n u s)).trains.get n).request = some u ∧
      ((unitNotice u (queueCore n u s)).trains.get n).holdings = (s.trains.get n).holdings := by
  rw [(unitNotice_calls ..).trains n, queueCore_train, if_pos rfl]
  exact ⟨rfl, rfl⟩

/-! ## Releases (R119) -/

/-- The strays of a unit, reported. -/
theorem dropUnit_strays (n : Train) (u : Section) (s : State) :
    reportStrays (((dropUnit n u s).cfg.unitSections u).filter (dropUnit n u s).occupied) (dropUnit n u s) =
      ((List.finRange 20).filter fun x => s.cfg.unitKey x = some u ∧ s.occupied x = true).foldl
        (fun v x => v.raise (.stray x)) (dropUnit n u s) := by
  have h := (dropUnit_shifts n u s).toTraffic
  rw [h.cfg, h.occupied, reportStrays, Scene.unitSections, List.filter_filter]
  congr 1
  refine List.filter_congr fun x _ => ?_
  rw [Bool.and_comm, Bool.eq_iff_iff]
  simp

theorem dropUnit_eq (n : Train) (u : Section) (s : State) : dropUnit n u s =
    ((s.withUnits (s.units.set u ⟨none, (s.units.get u).waiting⟩)).withTrains (dropUnit n u s).trains).withChannels
      (dropUnit n u s).channels := by
  rw [← Table.modify_eq_set s.units u fun r => ⟨none, r.waiting⟩]
  unfold dropUnit
  dsimp only
  rw [(restSections_asks _ _).eq]
  rfl

theorem dropUnit_trains (n m : Train) (u : Section) (s : State) : (dropUnit n u s).trains.get m =
    { s.trains.get m with
      retry := (s.trains.get m).retry || (s.trains.get m).deadlock
      holdings := if m = n then (s.trains.get m).holdings.erase u else (s.trains.get m).holdings
      powered := if m = n then (s.trains.get m).powered.filter fun e => s.cfg.unitKey e.sec ≠ some u
        else (s.trains.get m).powered } := by
  unfold dropUnit
  dsimp only
  rw [setRetries_get, (restSections_asks ..).same, State.modTrain_get]
  by_cases h : m = n
  · subst h
    simp only [if_true]
    congr 1
    exact List.filter_congr fun e _ => by rw [Bool.eq_iff_iff]; simp; rfl
  · simp only [h, if_false]; rfl

theorem dropUnit_channel (n : Train) (u : Section) (s : State) (c : Channel) : (dropUnit n u s).channels.get c =
    if s.halt = false ∧ (s.channels.get c).state ≠ .cut ∧ ∃ x, sectionChannel x = c ∧ s.cfg.unitKey x = some u
    then { s.channels.get c with staged := some ⟨0, (s.channels.get c).applied.pol⟩ } else s.channels.get c := by
  unfold dropUnit
  dsimp only
  rw [show ∀ t : State, (setRetries t).channels = t.channels from fun _ => rfl, restSections_channel]
  refine if_congr ?_ rfl rfl
  simp only [mem_unitSections]
  constructor
  · rintro ⟨⟨x, hu, hc⟩, hh, hs⟩; exact ⟨hh, hs, x, hc, hu⟩
  · rintro ⟨hh, hs, x, hc, hu⟩; exact ⟨⟨x, hu, hc⟩, hh, hs⟩

theorem dropUnit_blocked (n : Train) (u : Section) (s : State) : (dropUnit n u s).blocked u = true ↔
    ∃ x, s.cfg.unitKey x = some u ∧ s.occupied x = true := by
  have h := (dropUnit_shifts n u s).toTraffic
  rw [blocked_of_free (by rw [dropUnit_unit, if_pos rfl]), h.cfg, h.occupied]

theorem release_of_other {n : Train} {u : Section} {s : State} {quiet : Bool}
    (h : (s.units.get u).holder ≠ some n) : release quiet n s u = s := if_neg h

section

variable {n : Train} {u : Section} {s : State} (quiet : Bool) (h : (s.units.get u).holder = some n)
include h

/-- A unit that no train takes at once stays free, its sections strays. -/
theorem release_of_kept
    (hw : (s.units.get u).waiting = [] ∨ ∃ x, s.cfg.unitKey x = some u ∧ s.occupied x = true) :
    ∃ w, w = ((List.finRange 20).filter fun x => s.cfg.unitKey x = some u ∧ s.occupied x = true).foldl
        (fun v x => v.raise (.stray x)) (dropUnit n u s) ∧
      release quiet n s u = if quiet then w else unitNotice u w := by
  refine ⟨_, (dropUnit_strays n u s), ?_⟩
  have hwait : ((dropUnit n u s).units.get u).waiting = (s.units.get u).waiting := by rw [dropUnit_unit, if_pos rfl]
  rw [release, if_pos h, releaseHeld]
  dsimp only
  cases hd : ((dropUnit n u s).units.get u).waiting with
  | nil => rfl
  | cons x xs =>
    have hb : (dropUnit n u s).blocked u = true := by
      rw [dropUnit_blocked]
      rcases hw with g | g
      · rw [hwait, g] at hd; cases hd
      · exact g
    simp only [hb, if_true]

/-- An open unit goes to its first waiter. -/
theorem release_of_waiter {w : Train} {ws : List Train} (hw : (s.units.get u).waiting = w :: ws)
    (ho : ∀ x, s.cfg.unitKey x = some u → s.occupied x = false) :
    release quiet n s u = grant quiet w u (dropUnit n u s) := by
  have hwait : ((dropUnit n u s).units.get u).waiting = w :: ws := by rw [dropUnit_unit, if_pos rfl, ← hw]
  have hb : (dropUnit n u s).blocked u = false := by
    rw [Bool.eq_false_iff, Ne, dropUnit_blocked]
    rintro ⟨x, hx, g⟩
    rw [ho x hx] at g; cases g
  rw [release, if_pos h, releaseHeld]
  simp only [hwait, hb, Bool.false_eq_true, if_false]

end

/-- Reports alter the command line by what it holds and the phase alone. -/
theorem raises_line {α : Type} (r : α → Report) (xs : List α) {s t : State} (hl : t.line = s.line) (hs : t.sys = s.sys) :
    (xs.foldl (fun v x => v.raise (r x)) t).line = (xs.foldl (fun v x => v.raise (r x)) s).line := by
  induction xs generalizing s t with
  | nil => exact hl
  | cons x xs ih =>
    refine ih ?_ ((raise_traffic (r x) t).sys.trans (hs.trans (raise_traffic (r x) s).sys.symm))
    show (t.raise (r x)).line = (s.raise (r x)).line
    unfold State.raise
    rw [hs]
    split
    · rw [State.withLine_line, State.withLine_line, hl]
    · exact hl

theorem raises_drives {α : Type} (r : α → Report) (xs : List α) (s : State) :
    Drives s (xs.foldl (fun v x => v.raise (r x)) s) := Drives.foldl (fun s _ => raise_drives _ s) xs s

theorem raises_channels {α : Type} (r : α → Report) (xs : List α) (s : State) :
    (xs.foldl (fun v x => v.raise (r x)) s).channels = s.channels :=
  foldl_frame (R := fun s t : State => t.channels = s.channels) (fun _ => rfl) (fun h k => k.trans h)
    (fun s _ => by rw [State.raise_eq]; rfl) xs s

/-! ## Withdrawals, freeing and occupancy notices (R114, R118, R120, R123) -/

theorem withdraw_of_none {n : Train} {s : State} (h : (s.trains.get n).request = none) :
    withdraw n s = s.modTrain n TrainRun.withdrawn := by simp only [withdraw, h]

theorem withdraw_of_some {n : Train} {s : State} {u : Section} (h : (s.trains.get n).request = some u) :
    withdraw n s = unitNotice u ((s.withUnits (s.units.set u
      { s.units.get u with waiting := (s.units.get u).waiting.erase n })).modTrain n TrainRun.withdrawn) := by
  simp only [withdraw, h]
  rw [← Table.modify_eq_set s.units u fun r => { r with waiting := r.waiting.erase n }]; rfl

theorem trails_iff (t : TrainRun) (x : Section) : t.trails x = true ↔ ∃ e ∈ t.span.dropLast, e.sec = x := by
  simp [TrainRun.trails]

theorem grantOnClear_of_undefined {x : Section} {s : State} (h : s.cfg.unitKey x = none) :
    grantOnClear x s = s := by simp only [grantOnClear, h]

theorem grantOnClear_of_kept {x u : Section} {s : State} (hu : s.cfg.unitKey x = some u)
    (h : (s.units.get u).holder ≠ none ∨ (s.units.get u).waiting = [] ∨ s.blocked u = true) :
    grantOnClear x s = s := by
  simp only [grantOnClear, hu]
  split
  · next hh hw =>
    rcases h with h | h | h
    · exact absurd hh h
    · rw [h] at hw; cases hw
    · rw [if_pos h]
  · rfl

theorem grantOnClear_of_waiter {x u : Section} {s : State} {w : Train} {ws : List Train}
    (hu : s.cfg.unitKey x = some u) (hh : (s.units.get u).holder = none) (hw : (s.units.get u).waiting = w :: ws)
    (hb : s.blocked u = false) : grantOnClear x s = grant true w u s := by
  simp only [grantOnClear, hu, hh, hw, hb, Bool.false_eq_true, if_false]

theorem stray_iff (s : State) (x : Section) : s.stray x = true ↔ s.cfg.sections.get x ≠ none ∧
    s.occupied x = true ∧ ∀ k, s.cfg.unitKey x = some k → (s.units.get k).holder = none := by
  unfold State.stray State.holderOf Scene.defined
  cases s.cfg.unitKey x <;> simp [Option.isSome_iff_ne_none, and_assoc]

theorem crossingTold_iff (s old : State) (x : Section) (k : CrossingId) : s.crossingTold old x k = true ↔
    ∃ d, s.cfg.crossings.get k = some d ∧
      (d.sec = x ∨ ∃ v, s.cfg.unitKey d.sec = some v ∧ s.units.get v ≠ old.units.get v) := by
  unfold State.crossingTold
  cases s.cfg.crossings.get k with
  | none => simp
  | some d => cases hv : s.cfg.unitKey d.sec <;> simp [hv]

/-- Every section of an undefined section's unit: there is none. -/
theorem unitKey_of_undefined {c : Scene} {x : Section} (h : c.sections.get x = none) : c.unitKey x = none := by
  simp only [Scene.unitKey, h]

/-- What the handling of an occupancy transition does before the crossings are told. -/
def occupancyActs (x : Section) (s : State) : State :=
  if s.occupied x then positionFix x (if s.stray x then s.raise (.stray x) else s)
  else grantOnClear x (freeOnClear x s)

theorem occupancyNotice_of_undefined {x : Section} {s : State} (h : s.cfg.sections.get x = none) :
    occupancyNotice x s = s := by
  rw [occupancyNotice, if_neg]
  simp [Scene.defined, h]

theorem occupancyNotice_of_defined {x : Section} {s : State} (h : s.cfg.sections.get x ≠ none) :
    occupancyNotice x s =
      ((ids 2).filter ((occupancyActs x s).crossingTold s x)).foldl crossingAct (occupancyActs x s) := by
  rw [occupancyNotice, if_pos]
  · rfl
  · simpa [Scene.defined, Option.isSome_iff_ne_none] using h

theorem occupancyActs_traffic (x : Section) (s : State) : Traffic s (occupancyActs x s) := by
  unfold occupancyActs
  split
  · exact .trans (.ite _ (raise_traffic ..)) (positionFix_traffic ..)
  · exact .trans (freeOnClear_traffic ..) (grantOnClear_traffic ..)

/-- What a freed section leaves before its unit is thought of: it is out of the span and the powered set, at
duty 0 (R118). -/
def freed (n : Train) (x : Section) (s : State) : State :=
  restSection (s.modTrain n fun t =>
    { t with span := unspan x t.span, powered := t.powered.filter fun e => e.sec != x }) x

theorem freed_asks (n : Train) (x : Section) (s : State) : Asks (s.modTrain n fun t =>
    { t with span := unspan x t.span, powered := t.powered.filter fun e => e.sec != x }) (freed n x s) :=
  restSection_asks ..

theorem freed_train (n m : Train) (x : Section) (s : State) : (freed n x s).trains.get m =
    if m = n then { s.trains.get m with
      span := unspan x (s.trains.get m).span, powered := (s.trains.get m).powered.filter fun e => e.sec != x }
    else s.trains.get m := by
  rw [(freed_asks n x s).same, State.modTrain_get]

/-- A train gives up the unit of a section, where no section of it is left in the span (R118). -/
def leaveUnit (n : Train) (x : Section) (s : State) : State :=
  match s.cfg.unitKey x with
  | none => s
  | some u => if (s.trains.get n).span.any fun e => s.cfg.unitKey e.sec == some u then s else release true n s u

theorem freeSection_eq (n : Train) (x : Section) (s : State) :
    freeSection n x s = refreshAuthority n (leaveUnit n x (freed n x s)) := rfl

theorem leaveUnit_of_none {n : Train} {x : Section} {s : State} (h : s.cfg.unitKey x = none) :
    leaveUnit n x s = s := by simp only [leaveUnit, h]

theorem leaveUnit_of_kept {n : Train} {x u : Section} {s : State} (h : s.cfg.unitKey x = some u)
    (hs : ∃ e ∈ (s.trains.get n).span, s.cfg.unitKey e.sec = some u) : leaveUnit n x s = s := by
  simp only [leaveUnit, h]
  exact if_pos (by simpa using hs)

theorem leaveUnit_of_left {n : Train} {x u : Section} {s : State} (h : s.cfg.unitKey x = some u)
    (hs : ∀ e ∈ (s.trains.get n).span, s.cfg.unitKey e.sec ≠ some u) : leaveUnit n x s = release true n s u := by
  simp only [leaveUnit, h]
  exact if_neg (by simpa using hs)

end Sys2Proof.Machine
end

section

namespace Sys2Proof.Proofs.Reservations

open Sys2Proof.Machine Sys2Proof.Safety

/-- Settles O27: a request by its four outcomes, a grant by its records, and the chain by its links. -/
theorem requestsResolve : Obligations.RequestsResolve := by
  refine ⟨fun s x => ⟨rfl, blocked_iff s x⟩, fun s t n u quiet ht => ?_, fun s u => ?_,
    fun s n h => chainReaches_iff s n h 6, fun s n h => by simp only [State.nextInChain, h],
    fun s n u h => by simp only [State.nextInChain, h], fun s n u r t hr ht => ?_⟩
  · refine ⟨grantCore n u s, _, grantCore_eq n u s, fun m x hx => ?_, askThrows_asks .., ht.trans (grant_eq ..)⟩
    rw [hx, grantCore_train]
  · obtain ⟨a, h⟩ := told_crossings (s.cfg.crossingIn u) s
    exact ⟨a, fun k => s.cfg.crossingIn u k = true, crossingIn_iff s.cfg u, h⟩
  · subst hr ht
    refine ⟨requestUnit_of_held, fun h hb hw => ?_, fun hn hb hc => ?_, fun h hh hne hc => ?_, fun h hb => ?_,
      fun h hh hne hc => ?_⟩
    · rw [requestUnit_of_free h hb hw]
      exact ⟨rfl, by rw [grant_unit, if_pos rfl, hw]; rfl, by rw [grant_holdings, if_pos rfl]⟩
    · rw [requestUnit_of_queued hn hb hc, queueCore_eq]
    · exact requestUnit_of_circle hh hne hc
    · rw [requestUnit_of_queued (by simp [h]) (fun _ => hb) (fun m g => by simp [h] at g)]
      exact ⟨by rw [queued_unit, ← h], (queued_train n u s).1⟩
    · rw [requestUnit_of_queued (by rw [hh]; simpa using hne) (fun g => by simp [hh] at g)
        fun m g => by rw [hh] at g; cases g; exact hc]
      exact ⟨by rw [queued_unit, ← hh], queued_train n u s⟩

/-- A CLEAR frees its section for the lowest-numbered train that has it behind its head (R118; log 49). -/
theorem freeOnClear_leaves (s : State) (x : Section) :
    ((∀ n, (s.trains.get n).state = .unplaced ∨ ∀ e ∈ (s.trains.get n).span.dropLast, e.sec ≠ x) →
      freeOnClear x s = s) ∧
    ∀ n, (s.trains.get n).state ≠ .unplaced → (∃ e ∈ (s.trains.get n).span.dropLast, e.sec = x) →
      (∀ m, m < n → (s.trains.get m).state = .unplaced ∨ ∀ e ∈ (s.trains.get m).span.dropLast, e.sec ≠ x) →
      freeOnClear x s = freeSection n x s := by
  have htest (n : Train) : ((s.trains.get n).placed && (s.trains.get n).trails x) = false ↔
      (s.trains.get n).state = .unplaced ∨ ∀ e ∈ (s.trains.get n).span.dropLast, e.sec ≠ x := by
    rw [← not_iff_not, Bool.not_eq_false, Bool.and_eq_true, placed_iff, trails_iff]
    simp
  constructor
  · intro h
    simp only [freeOnClear, find_ids_eq_none.2 fun n => (htest n).2 (h n)]
  · intro n hp ht hlow
    have hn : (ids 6).find? (fun n => (s.trains.get n).placed && (s.trains.get n).trails x) = some n :=
      find_ids_eq_some.2 ⟨by rw [Bool.and_eq_true, placed_iff, trails_iff]; exact ⟨hp, ht⟩,
        fun m hm => (htest m).2 (hlow m hm)⟩
    simp only [freeOnClear, hn]

/-- What a release leaves where the reservations agree (R116, R119). -/
theorem release_leaves {s t : State} {n : Train} {u : Section} {quiet : Bool} (ha : ReservationsAgree s)
    (hh : (s.units.get u).holder = some n) (ht : t = release quiet n s u) :
    ((s.units.get u).waiting = [] ∨ (∃ x, s.cfg.unitKey x = some u ∧ s.occupied x = true) →
      t.line = (((List.finRange 20).filter fun x => s.cfg.unitKey x = some u ∧ s.occupied x = true).foldl
        (fun v x => v.raise (.stray x)) s).line ∧
      (s.halt = false → ∀ x, s.cfg.unitKey x = some u →
        (s.channels.get (sectionChannel x)).state ≠ .cut →
        (t.channels.get (sectionChannel x)).staged =
          some ⟨0, (s.channels.get (sectionChannel x)).applied.pol⟩)) ∧
    (∀ m, (s.trains.get m).deadlock = true → (t.trains.get m).deadlock = true →
      (t.trains.get m).retry = true) ∧
    (∀ v, v ≠ u → t.units.get v = s.units.get v) ∧
    u ∉ (t.trains.get n).holdings ∧
    ((s.units.get u).waiting = [] ∨ (∃ x, s.cfg.unitKey x = some u ∧ s.occupied x = true) →
      t.units.get u = ⟨none, (s.units.get u).waiting⟩) ∧
    (∀ w ws, (s.units.get u).waiting = w :: ws → (∀ x, s.cfg.unitKey x = some u → s.occupied x = false) →
      t.units.get u = ⟨some w, ws⟩ ∧ (t.trains.get w).request = none ∧
      (t.trains.get w).holdings = (s.trains.get w).holdings ++ [u]) := by
  obtain ⟨hholds, hnodup, hwaits, hwnodup, hself, -, -⟩ := ha
  subst ht
  have hnot : u ∉ ((s.trains.get n).holdings.erase u) := (hnodup n).not_mem_erase
  by_cases hkept : (s.units.get u).waiting = [] ∨ ∃ x, s.cfg.unitKey x = some u ∧ s.occupied x = true
  · obtain ⟨w, hw, ht⟩ := release_of_kept quiet hh hkept
    generalize release quiet n s u = t at ht ⊢
    have hraise := raises_drives Report.stray
      ((List.finRange 20).filter fun x => s.cfg.unitKey x = some u ∧ s.occupied x = true) (dropUnit n u s)
    rw [← hw] at hraise
    have hunits : t.units = (dropUnit n u s).units := by
      rw [ht]; split
      · exact hraise.units
      · exact (unitNotice_calls ..).units.trans hraise.units
    have hfree : (w.units.get u).holder = none := by rw [hraise.units, dropUnit_unit, if_pos rfl]
    have htrains : TrainsRedraw (dropUnit n u s) t := by
      rw [ht]; split
      · exact hraise.trains
      · exact hraise.trains.trans (unitNotice_calls ..).trains
    have hline : t.line = w.line := by
      rw [ht]; split
      · rfl
      · exact (unitNotice_calls ..).line
    have hchannels : t.channels = (dropUnit n u s).channels := by
      rw [← raises_channels Report.stray _ (dropUnit n u s), ← hw, ht]; split
      · rfl
      · exact unitNotice_channels hfree
    refine ⟨fun _ => ⟨?_, fun hhalt x hx hc => ?_⟩, fun m _ hd => ?_, fun v hv => ?_, ?_, fun _ => ?_,
      fun w' ws hws ho => ?_⟩
    · rw [hline, hw]
      exact raises_line _ _ (dropUnit_shifts n u s).line (dropUnit_shifts n u s).sys
    · rw [hchannels, dropUnit_channel, if_pos ⟨hhalt, hc, x, rfl, hx⟩]
    · rw [htrains m, dropUnit_trains] at hd ⊢
      simp only at hd ⊢
      rw [hd, Bool.or_true]
    · rw [hunits, dropUnit_unit, if_neg hv]
    · rw [htrains n, dropUnit_trains]
      simpa using hnot
    · rw [hunits, dropUnit_unit, if_pos rfl]
    · rcases hkept with h | ⟨x, hx, hox⟩
      · rw [hws] at h; cases h
      · rw [ho x hx] at hox; cases hox
  · obtain ⟨hne, hno⟩ := not_or.1 hkept
    obtain ⟨w, ws, hws⟩ := List.exists_cons_of_ne_nil hne
    have ho (x : Section) (hx : s.cfg.unitKey x = some u) : s.occupied x = false := by
      rw [Bool.eq_false_iff]; exact fun g => hno ⟨x, hx, g⟩
    have hwmem : w ∈ (s.units.get u).waiting := by rw [hws]; exact .head _
    have hnw : n ≠ w := fun e => hself w u hwmem (e ▸ hh)
    rw [release_of_waiter quiet hh hws ho]
    refine ⟨fun h => absurd h hkept, fun m _ hd => ?_, fun v hv => ?_, ?_, fun h => absurd h hkept,
      fun w' ws' hws' _ => ?_⟩
    · rw [grant_redraws quiet w u _ m, grantCore_train, dropUnit_trains] at hd ⊢
      simp only at hd ⊢
      rw [hd, Bool.or_true]
    · rw [grant_unit, if_neg hv, dropUnit_unit, if_neg hv]
    · rw [grant_holdings, if_neg hnw, dropUnit_trains]
      simpa using hnot
    · obtain ⟨rfl, rfl⟩ : w = w' ∧ ws = ws' := by rw [hws] at hws'; simpa using hws'
      refine ⟨?_, ?_, ?_⟩
      · rw [grant_unit, if_pos rfl, dropUnit_unit, if_pos rfl, hws, List.erase_cons_head]
      · rw [grant_request, if_pos]
        exact ⟨rfl, by rw [dropUnit_trains]; exact (hwaits w u).1 hwmem⟩
      · rw [grant_holdings, if_pos rfl, dropUnit_trains, if_neg (Ne.symm hnw)]

/-- Settles O28: the notice by its parts, a release by the fate of its unit, a withdrawal by its request. -/
theorem releasesHandOn : Obligations.ReleasesHandOn := by
  refine ⟨fun s t x ht => ⟨fun h => ht.trans (occupancyNotice_of_undefined h), fun h => ?_⟩, fun s x => ?_,
    fun s t x ht => ⟨fun h => ht.trans (grantOnClear_of_undefined h), fun u r hu hr => ?_⟩,
    fun s n u quiet h => release_of_other h, fun s t n u quiet hh ht => ?_, fun s t n x clear hx hc ht => ?_,
    fun s n u r quiet t ha hr hh ht => ?_⟩
  · obtain ⟨a, h0, h0', h1, h1'⟩ := told_crossings ((occupancyActs x s).crossingTold s x) (occupancyActs x s)
    rw [ht, occupancyNotice_of_defined h]
    refine ⟨occupancyActs x s, a, fun k => (occupancyActs x s).crossingTold s x k = true, fun ho => ?_,
      fun ho => ⟨fun hf => ?_, fun k hk hn => ?_⟩, fun k => ?_, h0, h0', h1, h1'⟩
    · rw [occupancyActs, if_neg (by simp [ho])]
    · rw [occupancyActs, if_pos ho, if_pos ((stray_iff ..).2 ⟨h, ho, hf⟩)]
    · rw [occupancyActs, if_pos ho, if_neg]
      exact fun g => hn (((stray_iff ..).1 g).2.2 k hk)
    · rw [← (occupancyActs_traffic x s).cfg]; exact crossingTold_iff ..
  · refine ⟨(freeOnClear_leaves s x).1, fun n y left hy hp ht hlow hleft => ?_⟩
    subst hy
    have hleft' : left = unspan x (s.trains.get n).span := by
      rw [hleft, unspan]
      congr 1
      exact List.filter_congr fun e _ => by rw [Bool.eq_iff_iff]; simp
    have hcfg : (freed n x s).cfg = s.cfg := (freed_asks n x s).cfg
    have hspan : ((freed n x s).trains.get n).span = left := by rw [freed_train, if_pos rfl, hleft']
    rw [(freeOnClear_leaves s x).2 n hp ht hlow]
    refine ⟨freed n x s, _, freeSection_eq n x s, (freed_asks n x s).units, (freed_asks n x s).line, ?_,
      fun m hm => by rw [freed_train, if_neg hm], fun e he => ?_, fun hh hc => ?_,
      fun hk => leaveUnit_of_none (by rw [hcfg, hk]), fun k hk => ⟨fun hl => ?_, fun hl => ?_⟩⟩
    · rw [freed_train, if_pos rfl, hleft']
    · rw [freed_train, if_pos rfl] at he
      simpa using (List.mem_filter.1 he).2
    · exact restSections_staged (xs := [x]) (.head _) hh hc
    · exact leaveUnit_of_kept (by rw [hcfg, hk]) (by rw [hcfg, hspan]; exact hl)
    · exact leaveUnit_of_left (by rw [hcfg, hk]) (by rw [hcfg, hspan]; exact hl)
  · subst hr
    refine ⟨fun h => ht.trans (grantOnClear_of_kept hu ?_), fun w ws hh hw ho => ?_⟩
    · rcases h with h | h | h
      · exact .inl h
      · exact .inr (.inl h)
      · by_cases hh : (s.units.get u).holder = none
        · exact .inr (.inr ((blocked_of_free hh).2 h))
        · exact .inl hh
    · have hb : s.blocked u = false := by
        rw [Bool.eq_false_iff, Ne, blocked_of_free hh]
        rintro ⟨z, hz, g⟩
        rw [ho z hz] at g; cases g
      rw [ht, grantOnClear_of_waiter hu hh hw hb]
      refine ⟨rfl, ?_, by rw [grant_holdings, if_pos rfl], fun hr => by rw [grant_request, if_pos ⟨rfl, hr⟩]⟩
      refine Table.ext fun v => ?_
      rw [grant_unit, Table.get_set]
      split
      · next h => rw [h, hw, List.erase_cons_head]
      · rfl
  · by_cases hkept : (s.units.get u).waiting = [] ∨ ∃ x, s.cfg.unitKey x = some u ∧ s.occupied x = true
    · obtain ⟨w, hw, he⟩ := release_of_kept quiet hh hkept
      refine ⟨dropUnit n u s, w, dropUnit_eq n u s, fun m x hx => by rw [hx, dropUnit_trains],
        fun c g hg => by rw [hg, dropUnit_channel], hw, fun _ => ht.trans he, fun h hs hws ho => ?_⟩
      rw [ht, release_of_waiter quiet hh hws ho]
    · obtain ⟨hne, hno⟩ := not_or.1 hkept
      refine ⟨dropUnit n u s, _, dropUnit_eq n u s, fun m x hx => by rw [hx, dropUnit_trains],
        fun c g hg => by rw [hg, dropUnit_channel], rfl, fun h => absurd h hkept, fun h hs hws ho => ?_⟩
      rw [ht, release_of_waiter quiet hh hws ho]
  · obtain rfl : clear = TrainRun.withdrawn := funext hc
    subst hx
    exact ⟨fun h => ht.trans (withdraw_of_none h), fun u h => ht.trans (withdraw_of_some h)⟩
  · subst hr
    exact release_leaves ha hh ht

end Sys2Proof.Proofs.Reservations
end

section
-- One theorem after the other: side by side, waiting proofs would pile up.
set_option Elab.async false
/-! SUPPORT. Stop points, position fixes and mark events (R126, R140, R142, R143). -/

namespace Sys2Proof.Machine

open Sys2Proof.Safety

/-! ## The next stop and its stop point (R126) -/

theorem headStop_of_path {s : State} {n : Train} {p : PathElt} {ps : List PathElt} (h : s.path n = p :: ps) :
    s.headStop n = p.stop := by simp only [State.headStop, h]

theorem nextStopMark_of_last {s : State} {n : Train} {p : PathElt} (h : (s.path n).getLast? = some p) :
    s.nextStopMark n = p.stop.join := by simp only [State.nextStopMark, h]

theorem lengthOf_of_defined {c : Scene} {x : Section} {k : SectionDef} (h : c.sections.get x = some k) :
    c.lengthOf x = k.length := by simp [Scene.lengthOf, h]

theorem stopPoint_of_none {c : Scene} {x : Section} {k : SectionDef} (h : c.sections.get x = some k) (e : End) :
    stopPoint c x e none = 10 * (k.length - 50) := by rw [stopPoint, lengthOf_of_defined h]; rfl

theorem stopPoint_of_mark {c : Scene} {m : MarkId} {d : MarkDef} (h : c.marks.get m = some d) (x : Section) (e : End) :
    stopPoint c x e (some m) = entryRelative c x e d.offset := by simp only [stopPoint, h]

/-! ## Position fixes (R142) -/

theorem spans_iff (t : TrainRun) (x : Section) : t.spans x = true ↔ ∃ e ∈ t.span, e.sec = x := by
  simp [TrainRun.spans]

theorem liesAhead_iff (s : State) (n : Train) (x : Section) : s.liesAhead n x = true ↔
    (s.trains.get n).state ≠ .unplaced ∧ s.holds n x = true ∧
    (∀ e ∈ (s.trains.get n).span, e.sec ≠ x) ∧ ∃ p ∈ (s.path n).tail, p.sec = x := by
  simp only [State.liesAhead, Bool.and_eq_true, placed_iff, List.any_eq_true, beq_iff_eq, and_assoc]
  refine and_congr_right fun _ => and_congr_right fun _ => and_congr_left fun _ => ?_
  rw [Bool.not_eq_true', ← Bool.not_eq_true, spans_iff]
  simp

theorem positionFix_of_none {s : State} {x : Section} (h : ∀ n, s.liesAhead n x = false) : positionFix x s = s := by
  simp only [positionFix, find_ids_eq_none.2 h]

theorem positionFix_of_first {s : State} {x : Section} {n : Train} (h : s.liesAhead n x = true)
    (hlow : ∀ m, m < n → s.liesAhead m x = false) : positionFix x s = fixHead n x s := by
  have hn : (ids 6).find? (fun n => s.liesAhead n x) = some n := find_ids_eq_some.2 ⟨h, hlow⟩
  simp only [positionFix, hn]

/-- The sections of a path up to the first place of a section. -/
theorem pathUpTo_eq {ps : List PathElt} {k : Nat} {p : PathElt} {x : Section} (hp : ps[k]? = some p)
    (hx : p.sec = x) (hfirst : ∀ q ∈ ps.take k, q.sec ≠ x) :
    pathUpTo x ps = (ps.take (k + 1)).map fun q => ⟨q.sec, q.entry⟩ := by
  unfold pathUpTo
  congr 1
  induction k generalizing ps with
  | zero =>
    obtain ⟨q, qs, rfl⟩ : ∃ q qs, ps = q :: qs := List.exists_cons_of_ne_nil (by rintro rfl; simp at hp)
    obtain rfl : q = p := by simpa using hp
    simp [hx]
  | succ k ih =>
    obtain ⟨q, qs, rfl⟩ : ∃ q qs, ps = q :: qs := List.exists_cons_of_ne_nil (by rintro rfl; simp at hp)
    have hq : q.sec ≠ x := hfirst q (by simp)
    have := ih (ps := qs) (by simpa using hp) fun r hr => hfirst r (by simp [hr])
    rw [List.takeWhile_cons, if_pos (by simpa using hq), List.find?_cons_of_neg (by simpa using hq),
      List.take_succ_cons, List.cons_append, this]

/-- The place of a section in a list, the first. -/
theorem placeOf_eq {xs : List Section} {j : Nat} {x : Section} (hx : xs[j]? = some x)
    (hfirst : ∀ y ∈ xs.take j, y ≠ x) : placeOf x xs = some j := by
  obtain ⟨hj, hget⟩ := List.getElem?_eq_some_iff.1 hx
  refine List.findIdx?_eq_some_iff_getElem.2 ⟨hj, by simpa using hget, fun i hi => ?_⟩
  have := hfirst xs[i] (List.mem_iff_getElem.2 ⟨i, by rw [List.length_take]; omega, List.getElem_take⟩)
  simpa using this

theorem fixHead_train (n : Train) (x : Section) (s : State) : (fixHead n x s).trains.get n =
    { s.trains.get n with
      span := (s.trains.get n).span ++ pathUpTo x (s.path n).tail
      headPos := 0, route := s.routeAfter n x, served := false
      authority := ((fixHead n x s).trains.get n).authority
      powered := ((fixHead n x s).trains.get n).powered } := by
  conv_lhs => rw [fixHead, (refreshAuthority_redraws ..).trains n, State.modTrain_self]
  rfl

theorem routeAfter_of_none {s : State} {n : Train} (h : (s.trains.get n).route = none) (x : Section) :
    s.routeAfter n x = none := by simp only [State.routeAfter, h]

theorem routeAfter_of_route {s : State} {n : Train} {r : RouteId} {i : Nat} {d : RouteDef}
    (h : (s.trains.get n).route = some (r, i)) (hd : s.cfg.routes.get r = some d) (x : Section) :
    s.routeAfter n x = some (r, d.indexAfter i x) := by simp only [State.routeAfter, h, hd]

theorem indexAfter_eq {d : RouteDef} {i j : Nat} {x : Section} (hx : ((d.ahead i)[j]?).map RoutePos.sec = some x)
    (hfirst : ∀ q ∈ (d.ahead i).take j, q.sec ≠ x) : d.indexAfter i x = (i + 1 + j) % d.positions.length := by
  have hp : placeOf x ((d.ahead i).map RoutePos.sec) = some j := by
    refine placeOf_eq (by rw [List.getElem?_map]; exact hx) fun y hy => ?_
    rw [← List.map_take] at hy
    obtain ⟨q, hq, rfl⟩ := List.mem_map.1 hy
    exact hfirst q hq
  simp only [RouteDef.indexAfter, hp]

/-! ## Mark events (R143) -/

theorem headsIn_iff (t : TrainRun) (x : Section) : t.headsIn x = true ↔
    t.moving = true ∧ ∃ h, t.span.getLast? = some h ∧ h.sec = x := by
  simp [TrainRun.headsIn, TrainRun.head]

theorem expects_iff (s : State) (n : Train) (x : Section) : s.expects n x = true ↔
    (s.trains.get n).moving = true ∧ ((∃ e ∈ (s.trains.get n).span, e.sec = x) ∨ s.holds n x = true) := by
  simp only [State.expects, Bool.and_eq_true, Bool.or_eq_true, spans_iff]

section

variable {s : State} {x : Section} (m : MarkId) (off : Nat)

theorem markEvent_of_head {n : Train} (h : (s.trains.get n).headsIn x = true)
    (hlow : ∀ k, k < n → (s.trains.get k).headsIn x = false) : markEvent m x off s = fixAtMark n m x off s := by
  have hn : (ids 6).find? (fun n => (s.trains.get n).headsIn x) = some n := find_ids_eq_some.2 ⟨h, hlow⟩
  simp only [markEvent, hn]

variable (hnone : ∀ n, (s.trains.get n).headsIn x = false)
include hnone

theorem markEvent_of_ahead {n : Train} (h : (s.trains.get n).moving = true ∧ s.liesAhead n x = true)
    (hlow : ∀ k, k < n → (s.trains.get k).moving = true → s.liesAhead k x = false) :
    markEvent m x off s = fixAtMark n m x off (fixHead n x s) := by
  have hn : (ids 6).find? (fun n => (s.trains.get n).moving && s.liesAhead n x) = some n := by
    refine find_ids_eq_some.2 ⟨by rw [h.1, h.2]; rfl, fun k hk => ?_⟩
    cases hm : (s.trains.get k).moving with
    | false => rfl
    | true => rw [hlow k hk hm]; rfl
  have hh := find_ids_eq_none.2 hnone
  simp only [markEvent, hh, hn]

variable (hahead : ∀ n, (s.trains.get n).moving = true → s.liesAhead n x = false)
include hahead

theorem markEvent_of_passed : markEvent m x off s =
    if (ids 6).any fun n => s.expects n x then s else s.raise (.strayMark m) := by
  have hn : (ids 6).find? (fun n => (s.trains.get n).moving && s.liesAhead n x) = none := by
    refine find_ids_eq_none.2 fun k => ?_
    cases hm : (s.trains.get k).moving with
    | false => rfl
    | true => rw [hahead k hm]; rfl
  have hh := find_ids_eq_none.2 hnone
  simp only [markEvent, hh, hn]

end

/-- The head position at a mark, measured from the entry end. -/
def markPos (c : Scene) (x : Section) (off : Nat) (h : SpanElt) : Nat :=
  match h.entry with
  | .a => off
  | .b => 10 * c.lengthOf x - off

/-- The next stop is read off the path, not off the head position. -/
theorem headStop_headPos (s : State) (n : Train) (pos : Nat) :
    (s.modTrain n fun t => { t with headPos := pos }).headStop n = s.headStop n := by
  have h : (s.modTrain n fun t => { t with headPos := pos }).path n = s.path n := by
    unfold State.path
    rw [State.modTrain_self]
    rfl
  simp only [State.headStop, h]

theorem fixAtMark_eq {s : State} {n : Train} {h : SpanElt} (hh : (s.trains.get n).span.getLast? = some h)
    (m : MarkId) (x : Section) (off : Nat) : fixAtMark n m x off s =
      if s.headStop n = some (some m)
      then stopAtMark n (s.modTrain n fun t => { t with headPos := markPos s.cfg x off h })
      else refreshAuthority n (s.modTrain n fun t => { t with headPos := markPos s.cfg x off h }) := by
  rw [← headStop_headPos s n (markPos s.cfg x off h)]
  simp only [fixAtMark, TrainRun.head, hh]
  rfl

end Sys2Proof.Machine
end

section

namespace Sys2Proof.Proofs.StopPoints

open Sys2Proof.Machine Sys2Proof.Safety

/-- Settles O30: the stop point by its entry end, a fix by the path ahead, a mark by the first case that holds. -/
theorem stopPoints : Obligations.StopPoints := by
  refine ⟨fun s n => ⟨fun h => ?_, fun p ps => headStop_of_path, fun p => nextStopMark_of_last⟩,
    fun c x k hk hlen => ⟨fun e => ?_, fun m d hm hd hoff => ?_⟩, liesAhead_iff,
    fun s x => ⟨positionFix_of_none, fun n => positionFix_of_first⟩, fun s t n x y k p ht hy hp hx hfirst => ?_,
    fun s m x off => ?_, fun s u n m x off h hh hu => ?_, fun s n x hx => ?_⟩
  · simp [State.headStop, State.nextStopMark, h]
  · rw [stopPoint_of_none hk]; omega
  · simp only [stopPoint_of_mark hm, entryRelative, lengthOf_of_defined hk]
    exact ⟨trivial, trivial⟩
  · subst ht
    rw [hy, fixHead_train, pathUpTo_eq hp hx hfirst]
    refine ⟨rfl, rfl, rfl, rfl, fun h => routeAfter_of_none h x, fun r i d j hr hd hj hfst => ?_⟩
    exact (routeAfter_of_route hr hd x).trans (by rw [indexAfter_eq hj hfst])
  · have heads (n : Train) : (s.trains.get n).headsIn x = false ↔ ∀ h, (s.trains.get n).moving = true →
        (s.trains.get n).span.getLast? = some h → h.sec ≠ x := by
      rw [← Bool.not_eq_true, headsIn_iff]
      simp only [not_and, not_exists]
      exact ⟨fun h g hm hg => h hm g hg, fun h hm g hg => h g hm hg⟩
    refine ⟨fun n h hm hh hx hlow => markEvent_of_head m off ((headsIn_iff ..).2 ⟨hm, h, hh, hx⟩) fun k hk =>
        (heads k).2 fun g => hlow k g hk, fun hnone => ?_⟩
    have hno (n : Train) : (s.trains.get n).headsIn x = false := (heads n).2 (hnone n)
    refine ⟨fun n hm hl hlow => markEvent_of_ahead m off hno ⟨hm, hl⟩ hlow, fun hahead => ⟨fun n hm he => ?_,
      fun hall => ?_⟩⟩
    · rw [markEvent_of_passed m off hno hahead, if_pos]
      exact List.any_eq_true.2 ⟨n, mem_ids n, (expects_iff ..).2 ⟨hm, he⟩⟩
    · rw [markEvent_of_passed m off hno hahead, if_neg]
      rw [List.any_eq_true]
      rintro ⟨n, -, he⟩
      obtain ⟨hm, he⟩ := (expects_iff ..).1 he
      obtain ⟨h1, h2⟩ := hall n hm
      rcases he with ⟨e, he, hx⟩ | he
      · exact h1 e he hx
      · rw [h2] at he; cases he
  · obtain rfl : u = s.modTrain n fun t => { t with headPos := markPos s.cfg x off h } := hu
    refine ⟨fun hs => by rw [fixAtMark_eq hh, if_pos hs], fun hs => ?_⟩
    rw [fixAtMark_eq hh, if_neg hs, (refreshAuthority_redraws ..).trains n, State.modTrain_self]
    exact ⟨rfl, rfl, rfl⟩
  · subst hx
    refine ⟨restPowered n (s.modTrain n fun t => { t with speed := 0, duty := 0, target := 0 }), rfl, ?_,
      fun e he hhalt hc => ?_⟩
    · rw [(restPowered_asks ..).same, State.modTrain_self]
    · refine restSections_staged (List.mem_map.2 ⟨e, ?_, rfl⟩) hhalt hc
      rw [State.modTrain_self]
      exact he

end Sys2Proof.Proofs.StopPoints
end

section
-- One theorem after the other: side by side, waiting proofs would pile up.
set_option Elab.async false
/-! SUPPORT. What the traffic controller leaves of a channel that takes no duty request, of the trains at a grant
or a release, and of the train that turns about. -/

namespace Sys2Proof.Machine

open Sys2Proof.Safety

/-! ## Channels that take no duty request (R58) -/

/-- A channel takes no duty request: it is CUT, or the halt is in force. -/
def State.shuts (s : State) (c : Channel) : Prop := s.halt = true ∨ (s.channels.get c).state = .cut

theorem shuts_iff (s : State) (c : Channel) : s.shuts c ↔ s.halt = true ∨ (s.channels.get c).state = .cut := Iff.rfl

/-- The halt stays as it is, and a channel that takes no duty request is left. -/
structure Heeds (s t : State) : Prop where
  halt : t.halt = s.halt
  shut : ∀ c, s.shuts c → t.channels.get c = s.channels.get c

theorem Heeds.same {s t : State} (hc : t.channels = s.channels) (hs : t.stopc = s.stopc) : Heeds s t :=
  ⟨by simp [State.halt, hs], fun c _ => by rw [hc]⟩

theorem Heeds.refl (s : State) : Heeds s s := .same rfl rfl

theorem Heeds.trans {s t u : State} (h : Heeds s t) (k : Heeds t u) : Heeds s u := by
  refine ⟨k.halt.trans h.halt, fun c hc => ?_⟩
  rw [k.shut c (by rw [shuts_iff, h.halt, h.shut c hc]; exact hc), h.shut c hc]

/-- What follows a step that leaves channels and stop control. -/
theorem Heeds.after {s t u : State} (k : Heeds t u) (hc : t.channels = s.channels) (hs : t.stopc = s.stopc) :
    Heeds s u := .trans (.same hc hs) k

theorem Heeds.foldl {α : Type} {f : State → α → State} (h : ∀ s x, Heeds s (f s x)) (xs : List α) (s : State) :
    Heeds s (xs.foldl f s) := foldl_frame Heeds.refl Heeds.trans h xs s

theorem Heeds.ite (p : Prop) [Decidable p] {s t u : State} (h : p → Heeds s t) (g : ¬ p → Heeds s u) :
    Heeds s (if p then t else u) := by
  split
  · next hp => exact h hp
  · next hp => exact g hp

theorem raise_heeds (r : Report) (s : State) : Heeds s (s.raise r) := by
  rw [State.raise_eq]; exact .same rfl rfl

theorem dutyRequest_heeds (c : Channel) (p : Drive) (s : State) : Heeds s (dutyRequest c p s) := by
  refine ⟨Traffic.halt (dutyRequest_asks c p s).toTraffic, fun d hd => ?_⟩
  rw [dutyRequest_channel, if_neg]
  rintro ⟨-, hh, hc⟩
  rcases hd with hd | hd
  · rw [hh] at hd; cases hd
  · exact hc hd

theorem restSections_heeds (xs : List Section) (s : State) : Heeds s (xs.foldl restSection s) :=
  .foldl (fun s _ => dutyRequest_heeds _ _ s) xs s

theorem redrawn_heeds (t : TrainRun) (new : List SpanElt) (s : State) : Heeds s (redrawn t new s) :=
  .trans (.foldl (fun s _ => dutyRequest_heeds _ _ s) _ s) (restSections_heeds ..)

theorem refreshAuthority_heeds (n : Train) (s : State) : Heeds s (refreshAuthority n s) := by
  by_cases h : (s.trains.get n).state = .unplaced
  · rw [refreshAuthority_of_unplaced h]; exact .same rfl rfl
  · rw [refreshAuthority_of_placed h]; exact (redrawn_heeds ..).trans (.same rfl rfl)

/-! ## What throws and notices do to trains and channels -/

/-- Authority ends are worked out afresh, one after another; trains, channels, stop control and configuration
change by that alone. -/
inductive Stirs : State → State → Prop
  | same {s t : State} : t.channels = s.channels → t.trains = s.trains → t.stopc = s.stopc → t.cfg = s.cfg → Stirs s t
  | refresh (n : Train) (s : State) : Stirs s (refreshAuthority n s)
  | trans {s t u : State} : Stirs s t → Stirs t u → Stirs s u

theorem Stirs.refl (s : State) : Stirs s s := .same rfl rfl rfl rfl

theorem Stirs.foldl {α : Type} {f : State → α → State} (h : ∀ s x, Stirs s (f s x)) (xs : List α) (s : State) :
    Stirs s (xs.foldl f s) := foldl_frame Stirs.refl Stirs.trans h xs s

theorem Stirs.ite (p : Prop) [Decidable p] {s t u : State} (h : p → Stirs s t) (g : ¬ p → Stirs s u) :
    Stirs s (if p then t else u) := by
  split
  · next hp => exact h hp
  · next hp => exact g hp

theorem withDriver_stirs (d : Driver) (s : State) : Stirs s (s.withDriver d) := .same rfl rfl rfl rfl

theorem turnoutNotice_stirs (t : TurnoutId) (old s : State) : Stirs s (turnoutNotice t old s) :=
  .foldl (fun s n => .refresh n s) _ s

theorem driverNotice_stirs (t : TurnoutId) (d : Driver) (s : State) : Stirs s (driverNotice t d s) :=
  .trans (withDriver_stirs d s) (turnoutNotice_stirs ..)

theorem takeEntries_stirs (es : List Throw) (s : State) : Stirs s (takeEntries es s) := by
  induction es generalizing s with
  | nil => exact withDriver_stirs ..
  | cons e es ih =>
    unfold takeEntries
    split
    · exact ih s
    · exact .ite _ (fun _ => (driverNotice_stirs ..).trans (ih _)) fun _ => driverNotice_stirs ..

theorem raise_stirs (r : Report) (s : State) : Stirs s (s.raise r) := by
  rw [State.raise_eq]; exact .same rfl rfl rfl rfl

theorem reportThrow_stirs (e : Throw) (s : State) : Stirs s (reportThrow e s) := by
  rw [reportThrow_eq]; exact .ite _ (fun _ => raise_stirs ..) fun _ => .refl s

theorem requestThrow_stirs (e : Throw) (s : State) : Stirs s (requestThrow e s) := by
  unfold requestThrow
  refine .ite _ (fun _ => .refl s) fun _ => .ite _ (fun _ => withDriver_stirs ..) fun _ => .ite _ (fun _ => ?_)
    fun _ => ?_
  · exact (driverNotice_stirs ..).trans (reportThrow_stirs ..)
  · exact .ite _ (fun _ => (withDriver_stirs ..).trans (takeEntries_stirs ..)) fun _ => withDriver_stirs ..

theorem askThrows_stirs (n : Train) (s : State) (u : Section) : Stirs s (askThrows n s u) := by
  unfold askThrows
  split
  · exact .refl s
  · exact .foldl (fun s _ => requestThrow_stirs _ s) _ s

theorem askAllThrows_stirs (n : Train) (s : State) : Stirs s (askAllThrows n s) := .foldl (askThrows_stirs n) _ s

theorem crossingNotice_stirs (k : CrossingId) (s : State) : Stirs s (crossingNotice k s) := by
  unfold crossingNotice
  split
  · exact .refl s
  · split
    · exact .refl s
    · exact .refresh ..

theorem crossingAct_stirs (s : State) (k : CrossingId) : Stirs s (crossingAct s k) := by
  have entered (x : CrossingRun) (d : CrossingDef) (f : LampRun → LampRun) :
      Stirs s (crossingNotice k (bellUpdate (changeClaims d f (s.modCrossing k fun _ => x)))) := by
    have hl := changeClaims_lights d f (s.modCrossing k fun _ => x)
    refine .trans (.same ?_ ?_ ?_ ?_) (crossingNotice_stirs ..) <;> rw [bellUpdate_eq]
    · exact hl.channels
    · exact hl.same
    · exact hl.stopc
    · exact hl.cfg
  rcases crossingAct_cases s k with e | ⟨d, -, ⟨-, -, e⟩ | ⟨-, -, e⟩⟩ <;> rw [e]
  · exact .refl s
  · exact entered ..
  · exact entered ..

theorem unitNotice_stirs (u : Section) (s : State) : Stirs s (unitNotice u s) := .foldl crossingAct_stirs _ s

theorem Stirs.heeds {s t : State} (h : Stirs s t) : Heeds s t := by
  induction h with
  | same hc _ hs _ => exact .same hc hs
  | refresh n s => exact refreshAuthority_heeds n s
  | trans _ _ h k => exact h.trans k

theorem crossingAct_heeds (s : State) (k : CrossingId) : Heeds s (crossingAct s k) := (crossingAct_stirs s k).heeds

theorem unitNotice_heeds (u : Section) (s : State) : Heeds s (unitNotice u s) := (unitNotice_stirs u s).heeds

theorem grant_heeds (quiet : Bool) (n : Train) (u : Section) (s : State) : Heeds s (grant quiet n u s) := by
  rw [grant_eq]
  refine .trans (.trans ?_ (askThrows_stirs ..).heeds) (refreshAuthority_heeds ..)
  have h : Heeds s (grantCore n u s) := .same rfl rfl
  exact .ite _ (fun _ => h) fun _ => h.trans (unitNotice_heeds ..)

theorem dropUnit_heeds (n : Train) (u : Section) (s : State) : Heeds s (dropUnit n u s) := by
  refine ⟨Traffic.halt (dropUnit_shifts n u s).toTraffic, fun c hc => ?_⟩
  rw [dropUnit_channel, if_neg]
  rintro ⟨hh, hs, -⟩
  rcases hc with h | h
  · rw [hh] at h; cases h
  · exact hs h

theorem reportStrays_heeds (xs : List Section) (s : State) : Heeds s (reportStrays xs s) :=
  .foldl (fun s _ => raise_heeds _ s) xs s

theorem release_heeds (quiet : Bool) (n : Train) (s : State) (u : Section) : Heeds s (release quiet n s u) := by
  have strayed (xs : List Section) (t : State) :
      Heeds t (if quiet then reportStrays xs t else unitNotice u (reportStrays xs t)) :=
    .ite _ (fun _ => reportStrays_heeds ..) fun _ => (reportStrays_heeds ..).trans (unitNotice_heeds ..)
  unfold release releaseHeld
  refine .ite _ (fun _ => (dropUnit_heeds n u s).trans ?_) fun _ => .refl s
  dsimp only
  split
  · exact strayed ..
  · exact .ite _ (fun _ => strayed ..) fun _ => grant_heeds ..

theorem withdraw_heeds (n : Train) (s : State) : Heeds s (withdraw n s) := by
  unfold withdraw
  split
  · exact .same rfl rfl
  · exact (unitNotice_heeds ..).after rfl rfl

theorem leaveUnit_heeds (n : Train) (x : Section) (s : State) : Heeds s (leaveUnit n x s) := by
  unfold leaveUnit
  split
  · exact .refl s
  · exact .ite _ (fun _ => .refl s) fun _ => release_heeds ..

theorem freeOnClear_heeds (x : Section) (s : State) : Heeds s (freeOnClear x s) := by
  unfold freeOnClear
  split
  · exact .refl s
  · rw [freeSection_eq]
    refine .trans (.trans ?_ (leaveUnit_heeds ..)) (refreshAuthority_heeds ..)
    exact Heeds.after (restSections_heeds [x] _) rfl rfl

theorem grantOnClear_heeds (x : Section) (s : State) : Heeds s (grantOnClear x s) := by
  unfold grantOnClear
  split
  · exact .refl s
  · split
    · exact .ite _ (fun _ => .refl s) fun _ => grant_heeds ..
    · exact .refl s

theorem positionFix_heeds (x : Section) (s : State) : Heeds s (positionFix x s) := by
  unfold positionFix
  split
  · exact .refl s
  · exact Heeds.after (refreshAuthority_heeds ..) rfl rfl

theorem occupancyNotice_heeds (x : Section) (s : State) : Heeds s (occupancyNotice x s) := by
  by_cases h : s.cfg.sections.get x = none
  · rw [occupancyNotice_of_undefined h]; exact .refl s
  · rw [occupancyNotice_of_defined h]
    refine .trans ?_ (.foldl crossingAct_heeds _ _)
    exact .ite _ (fun _ => .trans (.ite _ (fun _ => raise_heeds ..) fun _ => .refl s) (positionFix_heeds ..))
      fun _ => (freeOnClear_heeds ..).trans (grantOnClear_heeds ..)

theorem faultTrain_heeds (s : State) (n : Train) : Heeds s (faultTrain s n) :=
  .trans ((restSections_heeds _ (s.modTrain n _)).after rfl rfl) (withdraw_heeds ..)

theorem sectionCutNotice_heeds (x : Section) (s : State) : Heeds s (sectionCutNotice x s) :=
  .foldl faultTrain_heeds _ s

/-! ## What grants and releases leave of the trains (R117, R119) -/

/-- A train whose holdings, request, retry flag, authority and powered set are those of another record. -/
def TrainRun.reserving (x y : TrainRun) : TrainRun :=
  { x with
    holdings := y.holdings, request := y.request, retry := y.retry
    authority := y.authority, powered := y.powered }

/-- No train differs but in its holdings, request, retry flag, authority and powered set. -/
def TrainsReserve (s t : State) : Prop := ∀ m, t.trains.get m = (s.trains.get m).reserving (t.trains.get m)

theorem TrainsReserve.refl (s : State) : TrainsReserve s s := fun _ => rfl

theorem TrainsReserve.trans {s t u : State} (h : TrainsReserve s t) (k : TrainsReserve t u) : TrainsReserve s u :=
  fun m => by rw [k m, h m]; rfl

theorem TrainsReserve.ofRedraw {s t : State} (h : TrainsRedraw s t) : TrainsReserve s t := fun m => by
  rw [h m]; rfl

theorem grant_reserves (quiet : Bool) (n : Train) (u : Section) (s : State) : TrainsReserve s (grant quiet n u s) :=
  .trans (fun m => by rw [grantCore_train]; rfl) (.ofRedraw (grant_redraws quiet n u s))

theorem release_reserves (quiet : Bool) (n : Train) (s : State) (u : Section) :
    TrainsReserve s (release quiet n s u) := by
  have dropped : TrainsReserve s (dropUnit n u s) := fun m => by rw [dropUnit_trains]; rfl
  unfold release
  split
  · rcases releaseHeld_cases quiet n u s with ⟨h, -⟩ | ⟨w, -, e⟩
    · exact dropped.trans (.ofRedraw h)
    · rw [e]; exact dropped.trans (grant_reserves _ _ _ _)
  · exact .refl s

theorem releases_reserve (quiet : Bool) (n : Train) (us : List Section) (s : State) :
    TrainsReserve s (us.foldl (release quiet n) s) :=
  foldl_frame TrainsReserve.refl TrainsReserve.trans (release_reserves quiet n) us s

/-- A withdrawal changes the train that makes it, and the others' authorities and powered sets alone (R120). -/
theorem withdraw_train (n m : Train) (s : State) : (withdraw n s).trains.get m =
    { (if m = n then (s.trains.get m).withdrawn else s.trains.get m) with
      authority := ((withdraw n s).trains.get m).authority, powered := ((withdraw n s).trains.get m).powered } := by
  cases h : (s.trains.get n).request with
  | none =>
    rw [withdraw_of_none h, State.modTrain_get]
  | some u =>
    rw [withdraw_of_some h, (unitNotice_calls ..).trains m, State.modTrain_get]
    split <;> rfl

/-! ## The turnabout (R157) -/

/-- The train that turns about, the units it then gives up, and its request. -/
theorem turnabout_eq (n : Train) (s : State) : turnabout n s = refreshAuthority n (withdraw n
    (((s.modTrain n (turnSpan s.cfg (s.trainDef n))).unspanned n).foldl (release false n)
      (s.modTrain n (turnSpan s.cfg (s.trainDef n))))) := rfl

theorem turnabout_heeds (n : Train) (s : State) : Heeds s (turnabout n s) := by
  rw [turnabout_eq]
  have h : Heeds s (s.modTrain n (turnSpan s.cfg (s.trainDef n))) := .same rfl rfl
  exact ((h.trans (.foldl (release_heeds false n) _ _)).trans (withdraw_heeds ..)).trans (refreshAuthority_heeds ..)

/-- A train that has turned about: its span, head and orientation turned, without request and deadlock mark. -/
theorem turnabout_train (n : Train) (s : State) : (turnabout n s).trains.get n =
    { turnSpan s.cfg (s.trainDef n) (s.trains.get n) with
      holdings := ((turnabout n s).trains.get n).holdings
      request := none, deadlock := false, retry := false
      reason := if (s.trains.get n).reason = some .deadlock then none else (s.trains.get n).reason
      authority := ((turnabout n s).trains.get n).authority
      powered := ((turnabout n s).trains.get n).powered } := by
  rw [turnabout_eq]
  generalize ht : ((s.modTrain n (turnSpan s.cfg (s.trainDef n))).unspanned n).foldl (release false n)
    (s.modTrain n (turnSpan s.cfg (s.trainDef n))) = t
  have hr : TrainsReserve (s.modTrain n (turnSpan s.cfg (s.trainDef n))) t := ht ▸ releases_reserve _ _ _ _
  have hn := hr n
  rw [State.modTrain_self] at hn
  rw [(refreshAuthority_redraws ..).trains n, withdraw_train, if_pos rfl, hn]
  rfl

/-- Another train keeps all but its reservations, authority and powered set. -/
theorem turnabout_other {n m : Train} (h : m ≠ n) (s : State) : (turnabout n s).trains.get m =
    (s.trains.get m).reserving ((turnabout n s).trains.get m) := by
  rw [turnabout_eq]
  generalize ht : ((s.modTrain n (turnSpan s.cfg (s.trainDef n))).unspanned n).foldl (release false n)
    (s.modTrain n (turnSpan s.cfg (s.trainDef n))) = t
  have hr : TrainsReserve (s.modTrain n (turnSpan s.cfg (s.trainDef n))) t := ht ▸ releases_reserve _ _ _ _
  have hm := hr m
  rw [State.modTrain_get, if_neg h] at hm
  rw [refreshAuthority_other h, withdraw_train, if_neg h, hm]
  rfl

/-- A release takes its unit from the train that makes it, and gives it none (R119). -/
theorem release_holdings {n : Train} (quiet : Bool) (u : Section) {s : State} (ha : ReservationsAgree s) :
    ((release quiet n s u).trains.get n).holdings = (s.trains.get n).holdings.erase u := by
  have hb := ((reservationsAgree_iff s).mp ha).books
  have dropped : ((dropUnit n u s).trains.get n).holdings = (s.trains.get n).holdings.erase u := by
    rw [dropUnit_trains]; simp
  unfold release
  split
  · next hh =>
    rcases releaseHeld_cases quiet n u s with ⟨h, -⟩ | ⟨w, hw, e⟩
    · rw [h n]; exact dropped
    · have hne : n ≠ w := fun e => ha.2.2.2.2.1 w u hw (e ▸ hh)
      rw [e, grant_holdings, if_neg hne]; exact dropped
  · next h =>
    have : u ∉ (s.trains.get n).holdings := fun g => h ((hb.holds n u).mp g)
    rw [List.erase_of_not_mem this]

theorem releases_holdings {n : Train} (us : List Section) {s : State} (ha : ReservationsAgree s) :
    ((us.foldl (release false n) s).trains.get n).holdings = us.foldl List.erase (s.trains.get n).holdings := by
  induction us generalizing s with
  | nil => rfl
  | cons u us ih =>
    rw [List.foldl_cons, ih (Moves.agree (k := ⟨True, False, False⟩) trivial (release_moves false n s u) ha),
      release_holdings false u ha]
    rfl

theorem mem_unspanned (s : State) (n : Train) (u : Section) : u ∈ s.unspanned n ↔
    u ∈ (s.trains.get n).holdings ∧ ∀ e ∈ (s.trains.get n).span, s.cfg.unitKey e.sec ≠ some u := by
  simp [State.unspanned]

/-- A change of a train that keeps its units, its request and its state; of an UNPLACED train its span too. -/
theorem modTrain_agree {n : Train} {f : TrainRun → TrainRun} {s : State} (ha : ReservationsAgree s)
    (hspan : (s.trains.get n).placed = false → (f (s.trains.get n)).span = (s.trains.get n).span)
    (hh : (f (s.trains.get n)).holdings = (s.trains.get n).holdings)
    (hr : (f (s.trains.get n)).request = (s.trains.get n).request)
    (hst : (f (s.trains.get n)).state = (s.trains.get n).state)
    (hsp : (f (s.trains.get n)).speed = (s.trains.get n).speed)
    (hc : (f (s.trains.get n)).cause = (s.trains.get n).cause)
    (hre : (f (s.trains.get n)).reason = (s.trains.get n).reason) : ReservationsAgree (s.modTrain n f) := by
  refine Moves.agree (k := ⟨True, False, False⟩) trivial (modTrain_move ?_) ha
  refine ⟨fun _ => .inl ⟨hh, hr⟩, fun _ h => ?_, False.elim, fun f => f.congr hst hsp hc hre, False.elim⟩
  have hp : (s.trains.get n).placed = false := by
    rw [Bool.eq_false_iff, Ne, placed_iff] at h ⊢
    rwa [hst] at h
  exact .inl ⟨hp, hspan hp⟩

theorem turnSpan_agree {n : Train} {s : State} (ha : ReservationsAgree s) :
    ReservationsAgree (s.modTrain n (turnSpan s.cfg (s.trainDef n))) := by
  refine modTrain_agree ha (fun hp => ?_) rfl rfl rfl rfl rfl rfl
  simp [turnSpan, (ha.2.2.2.2.2.2 n hp).2.1]

/-- Of the units of a train that turns about those stay that hold a section of its span (R157). -/
theorem turnabout_holdings {n : Train} {s : State} (ha : ReservationsAgree s) :
    ((turnabout n s).trains.get n).holdings = (s.trains.get n).holdings.filter fun u =>
      decide (∃ e ∈ (s.trains.get n).span, s.cfg.unitKey e.sec = some u) := by
  obtain ⟨t, ht⟩ : ∃ t, t = s.modTrain n (turnSpan s.cfg (s.trainDef n)) := ⟨_, rfl⟩
  have hagree : ReservationsAgree t := ht ▸ turnSpan_agree ha
  have hself : t.trains.get n = turnSpan s.cfg (s.trainDef n) (s.trains.get n) := by rw [ht, State.modTrain_self]
  have hhold : (t.trains.get n).holdings = (s.trains.get n).holdings := by rw [hself]; rfl
  have hspan (u : Section) : u ∈ t.unspanned n ↔
      u ∈ (s.trains.get n).holdings ∧ ∀ e ∈ (s.trains.get n).span, s.cfg.unitKey e.sec ≠ some u := by
    rw [mem_unspanned, hhold, hself, ht]
    simp [turnSpan]
  rw [turnabout_eq, ← ht, (refreshAuthority_redraws ..).trains n, withdraw_train, if_pos rfl]
  show (((t.unspanned n).foldl (release false n) t).trains.get n).holdings = _
  rw [releases_holdings _ hagree, ← List.diff_eq_foldl, hhold, (ha.2.1 n).sdiff_eq_filter]
  refine List.filter_congr fun u hu => ?_
  rw [Bool.eq_iff_iff]
  simp only [hspan, decide_eq_true_eq, hu, true_and, not_forall, not_not, exists_prop]

/-- The reservations agree still when a train has turned about. -/
theorem turnabout_agree {n : Train} {s : State} (ha : ReservationsAgree s) : ReservationsAgree (turnabout n s) := by
  rw [turnabout_eq]
  refine Moves.agree (k := ⟨True, False, False⟩) trivial ?_ (turnSpan_agree (n := n) ha)
  exact ((Moves.foldl (release_moves false n) _ _).trans (withdraw_moves ..)).trans (refreshAuthority_moves ..)

/-- A train that turns about (R157). -/
theorem turnabout_turned (n : Train) (s : State) :
    TurnedAbout s n (s.trains.get n) ((turnabout n s).trains.get n) := by
  refine ⟨?_, ?_, ?_, ?_, ?_, fun e len tail he hlen ht => ?_, turnabout_holdings⟩ <;> rw [turnabout_train]
  · simp [turnSpan]
  · simp [turnSpan]
  · simp [turnSpan]
  · subst hlen ht
    simp only [turnSpan, tailPosition, he]
    rfl

end Sys2Proof.Machine
end

section
-- One theorem after the other: side by side, waiting proofs would pile up.
set_option Elab.async false
/-! SUPPORT. What the delivery of a sample leaves of the converter, the filters and the channels (R76 to R82). -/

namespace Sys2Proof.Machine

open Sys2Proof.Safety

/-! ## Who has a channel (R62, R78) -/

theorem channelSection_of {c : Channel} {x : Section} (h : x.val = c.val) : channelSection c = some x :=
  asId_eq_some.2 h.symm

theorem channelSection_of_axis {c : Channel} {n : Axis} (h : 20 + n.val = c.val) : channelSection c = none :=
  asId_eq_none.2 (by omega)

theorem channelAxis_of {c : Channel} {n : Axis} (h : 20 + n.val = c.val) : channelAxis c = some n := by
  rw [channelAxis, if_neg (by omega), asId_eq_some]; omega

/-- A channel feeds a section or turns an axis. -/
theorem channel_cases (c : Channel) : (∃ x : Section, x.val = c.val) ∨ ∃ n : Axis, 20 + n.val = c.val := by
  by_cases h : c.val < 20
  · exact .inl ⟨⟨c.val, h⟩, rfl⟩
  · exact .inr ⟨⟨c.val - 20, by omega⟩, by show 20 + (c.val - 20) = c.val; omega⟩

theorem cutNotice_of_section {c : Channel} {x : Section} (h : x.val = c.val) (s : State) :
    cutNotice c s = sectionCutNotice x s := by simp only [cutNotice, channelSection_of h]

theorem cutNotice_of_axis {c : Channel} {n : Axis} (h : 20 + n.val = c.val) (s : State) :
    cutNotice c s = axisCutNotice n s := by
  simp only [cutNotice, channelSection_of_axis h, channelAxis_of h]

/-! ## What a notice leaves of the converter and the channels -/

/-- The converter and the configuration stay, a channel differs in its staged pair alone, and one that takes no
duty request is left. -/
structure Delivers (s t : State) : Prop extends Heeds s t where
  sense : t.sense = s.sense
  cfg : t.cfg = s.cfg
  asks : ChannelsAsk s t

theorem Delivers.trans {s t u : State} (h : Delivers s t) (k : Delivers t u) : Delivers s u :=
  ⟨h.toHeeds.trans k.toHeeds, k.sense.trans h.sense, k.cfg.trans h.cfg, h.asks.trans k.asks⟩

theorem delivers_of {s t : State} (h : Traffic s t) (k : Heeds s t) : Delivers s t := ⟨k, h.sense, h.cfg, h.asks⟩

theorem raise_delivers (r : Report) (s : State) : Delivers s (s.raise r) :=
  delivers_of (raise_traffic r s) (raise_heeds r s)

theorem cutNotice_delivers (c : Channel) (s : State) : Delivers s (cutNotice c s) := by
  rcases channel_cases c with ⟨x, h⟩ | ⟨n, h⟩
  · rw [cutNotice_of_section h]; exact delivers_of (sectionCutNotice_traffic x s) (sectionCutNotice_heeds x s)
  · rw [cutNotice_of_axis h]; exact ⟨.same rfl rfl, rfl, rfl, fun _ => rfl⟩

theorem occupancyNotice_delivers (x : Section) (s : State) : Delivers s (occupancyNotice x s) :=
  delivers_of (occupancyNotice_traffic x s) (occupancyNotice_heeds x s)

/-! ## The steps of a delivery -/

theorem sampleOf_eq (v : Nat) : sampleOf v = 3 * min (v / 3) 1023 := Nat.mul_comm ..

theorem tripTest_of_kept {c : Channel} {mA : Nat} {s : State}
    (h : mA < (s.cfg.bridge.get c).trip ∨ (s.channels.get c).state = .cut) : tripTest c mA s = s := if_pos h

theorem tripTest_of_trip {c : Channel} {mA : Nat} {s : State} (hm : (s.cfg.bridge.get c).trip ≤ mA)
    (hc : (s.channels.get c).state ≠ .cut) :
    tripTest c mA s = (cutNotice c (releaseChannel .cut c s)).raise (.trip c mA) :=
  if_neg (not_or.2 ⟨Nat.not_lt.2 hm, hc⟩)

theorem writeSlot_eq (c : Channel) (mA : Nat) (s : State) : writeSlot c mA s =
    s.withSense { s.sense with slots := (writeSlot c mA s).sense.slots } := by
  unfold writeSlot; split <;> rfl

theorem writeSlot_slot (c : Channel) (mA : Nat) (s : State) : (writeSlot c mA s).sense.slots.get c =
    if (s.channels.get c).state = .driving ∨ (s.channels.get c).state = .dead then some mA
    else s.sense.slots.get c := by
  unfold writeSlot; cases h : (s.channels.get c).state <;> simp

theorem writeSlot_other {c e : Channel} (h : e ≠ c) (mA : Nat) (s : State) :
    (writeSlot c mA s).sense.slots.get e = s.sense.slots.get e := by
  unfold writeSlot; split <;> simp [Table.get_set, h]

/-- The channel is CUT with its slot at 0 and its waiting request removed (R62, R75, R79). -/
theorem releaseCut_eq {c : Channel} {s : State} (mA : Nat) (hc : (s.channels.get c).state ≠ .cut) :
    releaseChannel .cut c (writeSlot c mA s) =
      (s.withChannels (s.channels.set c { s.channels.get c with
        state := .cut, applied := ⟨0, (s.channels.get c).applied.pol⟩, staged := none, armed := false
        onTime := 0 })).withSense { s.sense with
          queue := s.sense.queue.filter fun r => r.ch ≠ c, held := s.sense.held.set c none
          slots := s.sense.slots.set c (if (s.channels.get c).state = .off
            then (s.sense.slots.get c).map fun _ => 0 else some 0) } := by
  have hslots : ((writeSlot c mA s).sense.slots.modify c fun x => x.map fun _ => 0) = s.sense.slots.set c
      (if (s.channels.get c).state = .off then (s.sense.slots.get c).map fun _ => 0 else some 0) := by
    refine Table.ext fun e => ?_
    rw [Table.get_modify, Table.get_set]
    by_cases he : e = c
    · subst he
      rw [if_pos rfl, if_pos rfl, writeSlot_slot]
      cases h : (s.channels.get e).state <;> simp_all
    · rw [if_neg he, if_neg he, writeSlot_other he]
  have hqueue : (s.sense.queue.filter fun r => r.ch != c) = s.sense.queue.filter fun r => r.ch ≠ c :=
    List.filter_congr fun r _ => by rw [Bool.eq_iff_iff]; simp
  rw [← hslots, ← hqueue, ← Table.modify_eq_set s.channels c fun ch => { ch with
    state := .cut, applied := ⟨0, ch.applied.pol⟩, staged := none, armed := false, onTime := 0 }]
  conv_lhs => rw [writeSlot_eq]
  rfl

/-! ## The occupancy filter (R82) -/

theorem filterSample_above {th mA : Nat} (h : th < mA) (f : Occupancy) :
    (filterSample th mA f).above = min (f.above + 1) 3 ∧ (filterSample th mA f).below = 0 := by
  simp only [filterSample, if_pos h]
  split
  · exact ⟨rfl, rfl⟩
  · split <;> exact ⟨rfl, rfl⟩

theorem filterSample_below {th mA : Nat} (h : mA ≤ th) (f : Occupancy) :
    (filterSample th mA f).above = 0 ∧ (filterSample th mA f).below = min (f.below + 1) 8 := by
  simp only [filterSample, if_neg (Nat.not_lt.2 h)]
  split
  · exact ⟨rfl, rfl⟩
  · split <;> exact ⟨rfl, rfl⟩

theorem filterSample_occupied (th mA : Nat) (f : Occupancy) : (filterSample th mA f).occupied =
    ((f.occupied && decide ((filterSample th mA f).below ≠ 8)) ||
      (!f.occupied && decide ((filterSample th mA f).above = 3))) := by
  unfold filterSample
  by_cases h : th < mA
  · simp only [if_pos h]
    cases ho : f.occupied <;> by_cases h3 : min (f.above + 1) 3 = 3 <;> simp [h3]
  · simp only [if_neg h]
    cases ho : f.occupied <;> by_cases h8 : min (f.below + 1) 8 = 8 <;> simp [h8]

/-- The filters once a sample has reached that of the channel's section. -/
def sampledFilters (c : Channel) (mA : Nat) (s : State) : Table Occupancy 20 :=
  (channelSection c).elim s.sense.filters fun x =>
    s.sense.filters.set x (filterSample (s.cfg.thresholds.get x) mA (s.sense.filters.get x))

/-- An occupancy step moves the section's filter; what follows leaves the converter (R78, R82). -/
theorem occupancyStep_delivers (c : Channel) (mA : Nat) (s : State) :
    Delivers (s.withSense { s.sense with filters := sampledFilters c mA s }) (occupancyStep c mA s) := by
  have h0 (t : State) : Delivers t t := ⟨.refl t, rfl, rfl, fun _ => rfl⟩
  unfold occupancyStep sampledFilters
  cases channelSection c with
  | none => exact h0 s
  | some x =>
    dsimp only [Option.elim]
    split
    · exact h0 _
    · exact occupancyNotice_delivers ..

theorem sampledFilters_of {c : Channel} {x : Section} (h : x.val = c.val) (mA : Nat) (s : State) :
    sampledFilters c mA s =
      s.sense.filters.set x (filterSample (s.cfg.thresholds.get x) mA (s.sense.filters.get x)) := by
  simp only [sampledFilters, channelSection_of h, Option.elim]

theorem sampledFilters_other {c : Channel} {x : Section} (h : x.val ≠ c.val) (mA : Nat) (s : State) :
    (sampledFilters c mA s).get x = s.sense.filters.get x := by
  unfold sampledFilters
  cases hc : channelSection c with
  | none => rfl
  | some y =>
    have hy : c.val = y.val := asId_eq_some.1 hc
    simp only [Option.elim]
    rw [Table.get_set, if_neg]
    rintro rfl
    exact h hy.symm

/-! ## The next conversion (R76) -/

/-- The conversion at the head of the queue starts with its channel's held value, or the converter is idle. -/
theorem startConversion_starts {p q : Sense} {waiting : List Request} {keep : Channel → Prop}
    (hq : q.queue = waiting) (hheld : ∀ e, keep e → q.held.get e = p.held.get e)
    (hkeep : ∀ r ∈ waiting, keep r.ch) :
    (waiting = [] → (startConversion q).queue = [] ∧ (startConversion q).inflight = none) ∧
    ∀ r rs, waiting = r :: rs → (startConversion q).queue = rs ∧ (startConversion q).held.get r.ch = none ∧
      (∀ x, p.held.get r.ch = some x → (startConversion q).inflight = some ⟨r, x⟩) ∧
      ∀ e, e ≠ r.ch → keep e → (startConversion q).held.get e = p.held.get e := by
  refine ⟨fun h => ?_, fun r rs h => ?_⟩
  · simp only [startConversion, hq, h, and_self]
  · have hs : startConversion q = { q with
        queue := rs, inflight := some ⟨r, (q.held.get r.ch).getD 0⟩, held := q.held.set r.ch none } := by
      simp only [startConversion, hq, h]
    rw [hs]
    refine ⟨rfl, by simp, fun x hx => ?_, fun e he hk => ?_⟩
    · rw [hheld _ (hkeep r (by rw [h]; exact .head _)), hx]; rfl
    · show (q.held.set r.ch none).get e = _
      rw [Table.get_set, if_neg he, hheld e hk]

theorem startConversion_slots (q : Sense) : (startConversion q).slots = q.slots := by
  unfold startConversion; split <;> rfl

theorem startConversion_filters (q : Sense) : (startConversion q).filters = q.filters := by
  unfold startConversion; split <;> rfl

theorem startConversion_queue {q : Sense} {r : Request} (h : r ∈ (startConversion q).queue) : r ∈ q.queue := by
  unfold startConversion at h
  split at h
  · exact h
  · next hq => rw [hq]; exact .tail _ h

theorem conversionEnd_of {s : State} {v : Conversion} (h : s.sense.inflight = some v) : conversionEnd s =
    (if v.req.discard then s else deliver v.req.ch (sampleOf v.value) s).withSense
      (startConversion (if v.req.discard then s else deliver v.req.ch (sampleOf v.value) s).sense) := by
  simp only [conversionEnd, h]

end Sys2Proof.Machine
end

section

namespace Sys2Proof.Proofs.Samples

open Sys2Proof.Machine Sys2Proof.Safety

/-- The slot and the trip test are over (R79, R80): what they leave of the converter and the channels. -/
structure Tested (s : State) (c : Channel) (mA : Nat) (trips : Prop) (waiting : List Request) (t : State) : Prop where
  cfg : t.cfg = s.cfg
  filters : t.sense.filters = s.sense.filters
  queue : t.sense.queue = waiting
  held : ∀ e, (trips → e ≠ c) → t.sense.held.get e = s.sense.held.get e
  others : ∀ e, e ≠ c → t.sense.slots.get e = s.sense.slots.get e ∧ (t.channels.get e).state = (s.channels.get e).state
  kept : ¬ trips → (t.channels.get c).state = (s.channels.get c).state ∧ t.sense.slots.get c =
    if (s.channels.get c).state = .driving ∨ (s.channels.get c).state = .dead then some mA else s.sense.slots.get c
  tripped : trips → (t.channels.get c).state = .cut ∧ (t.channels.get c).applied.duty = 0 ∧
    (t.channels.get c).staged = none ∧ t.sense.slots.get c =
      if (s.channels.get c).state = .off then (s.sense.slots.get c).map fun _ => 0 else some 0

section

variable {s : State} {c : Channel} {mA : Nat} {trips : Prop} {waiting : List Request}
  (htrips : trips ↔ (s.cfg.bridge.get c).trip ≤ mA ∧ (s.channels.get c).state ≠ .cut)
  (hw : trips → waiting = s.sense.queue.filter fun r => r.ch ≠ c) (hw' : ¬ trips → waiting = s.sense.queue)
include htrips hw hw'

theorem tripTest_tested : Tested s c mA trips waiting (tripTest c mA (writeSlot c mA s)) := by
  have hw1 : (writeSlot c mA s).cfg = s.cfg ∧ (writeSlot c mA s).channels = s.channels := by
    rw [writeSlot_eq]; exact ⟨rfl, rfl⟩
  by_cases h : trips
  · obtain ⟨hm, hc⟩ := htrips.1 h
    rw [tripTest_of_trip (by rw [hw1.1]; exact hm) (by rw [hw1.2]; exact hc), releaseCut_eq mA hc]
    generalize hcut : State.withSense _ _ = cut
    have hd := (cutNotice_delivers c cut).trans (raise_delivers (.trip c mA) (cutNotice c cut))
    have hcutc : (cut.channels.get c).state = .cut := by rw [← hcut]; simp
    have hself := hd.shut c (.inr hcutc)
    refine ⟨by rw [hd.cfg, ← hcut]; rfl, by rw [hd.sense, ← hcut]; rfl, by rw [hd.sense, ← hcut, hw h]; rfl,
      fun e he => ?_, fun e he => ⟨?_, ?_⟩, fun hn => absurd h hn, fun _ => ?_⟩
    · rw [hd.sense, ← hcut]
      simp [Table.get_set, he h]
    · rw [hd.sense, ← hcut]
      simp [Table.get_set, he]
    · rw [hd.asks e, ← hcut]
      simp [Table.get_set, he]
    · rw [hself, hd.sense, ← hcut]
      simp
  · rw [htrips, not_and_or, Nat.not_le, not_not] at h
    rw [tripTest_of_kept (by rw [hw1.1, hw1.2]; exact h), writeSlot_eq]
    have hn : ¬ trips := by rw [htrips, not_and_or, Nat.not_le, not_not]; exact h
    exact ⟨rfl, rfl, (hw' hn).symm, fun _ _ => rfl, fun e he => ⟨writeSlot_other he mA s, rfl⟩,
      fun _ => ⟨rfl, writeSlot_slot c mA s⟩, fun h => absurd h hn⟩

end

/-- Settles O19: a kept sample goes through the steps of its delivery, then the next conversion starts. -/
theorem samplesAreDelivered : Obligations.SamplesAreDelivered := by
  intro s v c mA trips waiting starts hr hv hc hmA htrips hw hw' hstarts
  subst hc
  have hmA' : sampleOf v.value = mA := (sampleOf_eq _).trans hmA.symm
  have hleft : ∀ r ∈ waiting, trips → r.ch ≠ v.req.ch := fun r hr ht => by
    rw [hw ht] at hr; simpa using (List.mem_filter.1 hr).2
  have hexec := happens (f := conversionEnd) hr (conversionEnd_of hv)
  refine ⟨fun hd => ?_, fun ht => ?_, fun hd => ?_⟩
  · have hn : ¬ trips := fun h => by rw [(htrips.1 h).1] at hd; cases hd
    refine ⟨startConversion s.sense, ?_, (hstarts _).2 ?_, startConversion_slots _, startConversion_filters _⟩
    · rw [if_pos hd] at hexec; exact hexec
    · exact startConversion_starts (hw' hn).symm (fun _ _ => rfl) hleft
  · obtain ⟨hd, hm, hcut⟩ := htrips.1 ht
    rw [if_neg (by simp [hd]), hmA'] at hexec
    have hw1 : (writeSlot v.req.ch mA s).cfg = s.cfg ∧ (writeSlot v.req.ch mA s).channels = s.channels := by
      rw [writeSlot_eq]; exact ⟨rfl, rfl⟩
    have htrip := tripTest_of_trip (c := v.req.ch) (mA := mA) (s := writeSlot v.req.ch mA s)
      (by rw [hw1.1]; exact hm) (by rw [hw1.2]; exact hcut)
    rw [deliver, htrip, releaseCut_eq mA hcut, ← hw ht] at hexec
    refine ⟨_, _, _, rfl, fun x hx => cutNotice_of_section hx _, fun n hn => ?_, rfl, hexec⟩
    rw [cutNotice_of_axis hn, axisCutNotice, State.modAxis, Table.modify_eq_set]
    rfl
  · have ht := tripTest_tested (s := s) (c := v.req.ch) (mA := mA) (trips := trips) (waiting := waiting)
      (htrips.trans (and_iff_right hd)) hw hw'
    rw [if_neg (by simp [hd]), hmA', deliver] at hexec
    generalize tripTest v.req.ch mA (writeSlot v.req.ch mA s) = u at ht hexec
    have ho := occupancyStep_delivers v.req.ch mA u
    generalize occupancyStep v.req.ch mA u = w at ho hexec
    have hqueue : w.sense.queue = waiting := by rw [ho.sense]; exact ht.queue
    have hslots : w.sense.slots = u.sense.slots := by rw [ho.sense]; rfl
    have hlast : (w.withSense (startConversion w.sense)).sense.filters = sampledFilters v.req.ch mA u :=
      (startConversion_filters _).trans (by rw [ho.sense]; rfl)
    have hstate (e : Channel) : (w.channels.get e).state = (u.channels.get e).state := by rw [ho.asks e]; rfl
    refine ⟨_, hexec, (hstarts _).2 ?_, fun hn hs => ?_, fun h => ?_, fun hm hs => ?_, fun e he => ?_,
      fun hm hs => ?_, fun x hx f g hf hg => ?_, fun x hx => ?_⟩
    · exact startConversion_starts hqueue (fun e he => by rw [ho.sense]; exact ht.held e he) hleft
    · refine (congrArg (Table.get · v.req.ch) (startConversion_slots _)).trans ?_
      rw [hslots, (ht.kept hn).2, if_neg]
      rcases hs with hs | hs <;> simp [hs]
    · refine (congrArg (Table.get · v.req.ch) (startConversion_slots _)).trans ?_
      rw [hslots, (ht.tripped h).2.2.2]
    · have hn : ¬ trips := fun h => absurd (htrips.1 h).2.1 (Nat.not_le.2 hm)
      refine ⟨(congrArg (Table.get · v.req.ch) (startConversion_slots _)).trans ?_, ?_⟩
      · rw [hslots, (ht.kept hn).2, if_pos hs]
      · exact (hstate _).trans (ht.kept hn).1
    · refine ⟨(congrArg (Table.get · e) (startConversion_slots _)).trans ?_, (hstate e).trans (ht.others e he).2⟩
      rw [hslots, (ht.others e he).1]
    · have h := htrips.2 ⟨hd, hm, hs⟩
      obtain ⟨hcut, hduty, hstaged, -⟩ := ht.tripped h
      have hsame : w.channels.get v.req.ch = u.channels.get v.req.ch := ho.shut _ (.inr hcut)
      refine ⟨(hstate _).trans hcut, ?_, ?_, fun r hr => ?_⟩
      · exact (congrArg (fun x : ChannelRun => x.applied.duty) hsame).trans hduty
      · exact (congrArg (fun x : ChannelRun => x.staged) hsame).trans hstaged
      · have hr' := startConversion_queue hr
        rw [hqueue] at hr'
        exact hleft r hr' h
    · have hg' : g = filterSample (s.cfg.thresholds.get x) mA f := by
        rw [hg, hlast, sampledFilters_of hx, Table.get_set, if_pos rfl, ht.cfg, ht.filters, hf]
      rw [hg']
      exact ⟨fun h => filterSample_above h f, fun h => filterSample_below h f, filterSample_occupied ..⟩
    · rw [hlast, sampledFilters_other hx, ht.filters]

end Sys2Proof.Proofs.Samples
end

section
-- One theorem after the other: side by side, waiting proofs would pile up.
set_option Elab.async false
/-! SUPPORT. What the halt leaves when it comes into force (R66, R75, R79, R146, R167). -/

namespace Sys2Proof.Machine

open Sys2Proof.Safety

/-! ## The converter when channels are released (R75, R79) -/

theorem releases_sense (cs : List Channel) (s : State) :
    (cs.foldl (fun s c => releaseChannel .off c s) s).sense.inflight = s.sense.inflight ∧
    (cs.foldl (fun s c => releaseChannel .off c s) s).sense.filters = s.sense.filters ∧
    (cs.foldl (fun s c => releaseChannel .off c s) s).sense.queue = s.sense.queue.filter (fun q => decide (q.ch ∉ cs)) ∧
    ∀ k, (cs.foldl (fun s c => releaseChannel .off c s) s).sense.held.get k =
        (if k ∈ cs then none else s.sense.held.get k) ∧
      (cs.foldl (fun s c => releaseChannel .off c s) s).sense.slots.get k =
        if k ∈ cs then (s.sense.slots.get k).map fun _ => 0 else s.sense.slots.get k := by
  induction cs generalizing s with
  | nil => exact ⟨rfl, rfl, by simp, fun k => by simp⟩
  | cons c cs ih =>
    have hone : (releaseChannel .off c s).sense = dropRequest c s.sense := rfl
    obtain ⟨h1, h2, h3, h4⟩ := ih (releaseChannel .off c s)
    rw [List.foldl_cons]
    refine ⟨h1, h2, ?_, fun k => ?_⟩
    · rw [h3, hone, dropRequest, List.filter_filter]
      refine List.filter_congr fun q _ => ?_
      rw [Bool.eq_iff_iff]
      simp [and_comm]
    · obtain ⟨h5, h6⟩ := h4 k
      rw [h5, h6, hone]
      by_cases hk : k = c
      · subst hk
        by_cases hm : k ∈ cs <;> simp [dropRequest, hm, Option.map_map, Function.comp_def]
      · simp [dropRequest, Table.get_set, Table.get_modify, hk]

theorem releaseAll_sense (s : State) :
    (releaseAll s).sense.inflight = s.sense.inflight ∧ (releaseAll s).sense.filters = s.sense.filters ∧
    (releaseAll s).sense.queue = (s.sense.queue.filter fun q => decide ((s.channels.get q.ch).state = .cut)) ∧
    (∀ k, (s.channels.get k).state = .cut → (releaseAll s).sense.held.get k = s.sense.held.get k ∧
      (releaseAll s).sense.slots.get k = s.sense.slots.get k) ∧
    ∀ k, (s.channels.get k).state ≠ .cut → (releaseAll s).sense.held.get k = none ∧
      (releaseAll s).sense.slots.get k = (s.sense.slots.get k).map fun _ => 0 := by
  have hmem (k : Channel) : k ∈ (ids 24).filter (fun c => (s.channels.get c).state != .cut) ↔
      (s.channels.get k).state ≠ .cut := by simp [mem_ids]
  obtain ⟨h1, h2, h3, h4⟩ := releases_sense ((ids 24).filter fun c => (s.channels.get c).state != .cut) s
  refine ⟨h1, h2, h3.trans (List.filter_congr fun q _ => ?_), fun k hk => ?_, fun k hk => ?_⟩
  · simp only [hmem, not_not]
  · obtain ⟨h5, h6⟩ := h4 k
    rw [if_neg (by rw [hmem]; exact fun h => h hk)] at h5 h6
    exact ⟨h5, h6⟩
  · obtain ⟨h5, h6⟩ := h4 k
    rw [if_pos ((hmem k).2 hk)] at h5 h6
    exact ⟨h5, h6⟩

/-! ## The trains at the halt (R146) -/

/-- A train once the halt has taken it, before any turnabout. -/
theorem haltTrain_eq (x : TrainRun) : haltTrain x = if x.state = .waiting ∨ x.moving = true then { x with
    state := .halted, speed := 0, target := 0, duty := 0, cause := none, reason := none } else x := by
  cases h : x.state <;> simp [haltTrain, TrainRun.moving, h]

/-- The trains that turn about when the halt has taken them. -/
def State.turning (s : State) : List Train :=
  (List.finRange 6).filter fun n => decide ((s.trains.get n).state = .halted ∧ (s.trains.get n).pending ≠ none)

theorem mem_turning (s : State) (n : Train) : n ∈ s.turning ↔
    (s.trains.get n).state = .halted ∧ (s.trains.get n).pending ≠ none := by simp [State.turning]

/-- The pending turnabouts, one after another. -/
def turnabouts (ns : List Train) (s : State) : State := ns.foldl (fun a n => turnabout n a) s

theorem turnabouts_cons (n : Train) (ns : List Train) (s : State) :
    turnabouts (n :: ns) s = turnabouts ns (turnabout n s) := rfl

theorem haltTrains_eq (s : State) : haltTrains s =
    turnabouts (s.withTrains (s.trains.map haltTrain)).turning (s.withTrains (s.trains.map haltTrain)) := by
  have h : (s.withTrains (s.trains.map haltTrain)).turning = (ids 6).filter fun n =>
      decide (((s.withTrains (s.trains.map haltTrain)).trains.get n).state = .halted) &&
        ((s.withTrains (s.trains.map haltTrain)).trains.get n).pending.isSome :=
    List.filter_congr fun n _ => by rw [Bool.eq_iff_iff]; simp [Option.isSome_iff_ne_none]
  rw [h]; rfl

theorem turnabouts_traffic (ns : List Train) (s : State) : Traffic s (turnabouts ns s) :=
  .foldl (fun s n => turnabout_traffic n s) ns s

theorem turnabouts_heeds (ns : List Train) (s : State) : Heeds s (turnabouts ns s) :=
  .foldl (fun s n => turnabout_heeds n s) ns s

/-- A train that turns about, or another: its state, motion, mode and route stay. -/
theorem turnabout_keeps (n m : Train) (s : State) :
    ((turnabout n s).trains.get m).state = (s.trains.get m).state ∧
    ((turnabout n s).trains.get m).speed = (s.trains.get m).speed ∧
    ((turnabout n s).trains.get m).target = (s.trains.get m).target ∧
    ((turnabout n s).trains.get m).duty = (s.trains.get m).duty ∧
    ((turnabout n s).trains.get m).mode = (s.trains.get m).mode ∧
    ((turnabout n s).trains.get m).route = (s.trains.get m).route := by
  by_cases h : m = n
  · subst h; rw [turnabout_train]; exact ⟨rfl, rfl, rfl, rfl, rfl, rfl⟩
  · rw [turnabout_other h]; exact ⟨rfl, rfl, rfl, rfl, rfl, rfl⟩

theorem turnabouts_keep (ns : List Train) (m : Train) (s : State) :
    ((turnabouts ns s).trains.get m).state = (s.trains.get m).state ∧
    ((turnabouts ns s).trains.get m).speed = (s.trains.get m).speed ∧
    ((turnabouts ns s).trains.get m).target = (s.trains.get m).target ∧
    ((turnabouts ns s).trains.get m).duty = (s.trains.get m).duty ∧
    ((turnabouts ns s).trains.get m).mode = (s.trains.get m).mode ∧
    ((turnabouts ns s).trains.get m).route = (s.trains.get m).route := by
  induction ns generalizing s with
  | nil => exact ⟨rfl, rfl, rfl, rfl, rfl, rfl⟩
  | cons n ns ih =>
    obtain ⟨h1, h2, h3, h4, h5, h6⟩ := ih (turnabout n s)
    obtain ⟨g1, g2, g3, g4, g5, g6⟩ := turnabout_keeps n m s
    rw [turnabouts_cons]
    exact ⟨h1.trans g1, h2.trans g2, h3.trans g3, h4.trans g4, h5.trans g5, h6.trans g6⟩

/-- A train that does not turn about keeps its place. -/
theorem turnabouts_other {ns : List Train} {m : Train} (h : m ∉ ns) (s : State) :
    ((turnabouts ns s).trains.get m).span = (s.trains.get m).span ∧
    ((turnabouts ns s).trains.get m).headPos = (s.trains.get m).headPos ∧
    ((turnabouts ns s).trains.get m).orientation = (s.trains.get m).orientation := by
  induction ns generalizing s with
  | nil => exact ⟨rfl, rfl, rfl⟩
  | cons n ns ih =>
    rw [turnabouts_cons]
    obtain ⟨h1, h2, h3⟩ := ih (fun g => h (.tail _ g)) (turnabout n s)
    have hne : m ≠ n := fun e => h (e ▸ .head _)
    rw [turnabout_other hne] at h1 h2 h3
    exact ⟨h1, h2, h3⟩

/-! ## The part once the halt has come into force -/

/-- The part once the halt has come into force, before its cause is reported. -/
def halted (s : State) : State := haltAxes (haltTrains (releaseAll s))

theorem enterHalt_eq (r : Report) (s : State) : enterHalt r s = (halted s).raise r := rfl

theorem haltedAtOnce_turns (s : State) : halted s =
    (turnabouts (haltedAtOnce s).turning (haltedAtOnce s)).withAxes (halted s).axes := by
  unfold halted
  rw [haltTrains_eq]; rfl

theorem haltedAtOnce_eq (s : State) : haltedAtOnce s =
    ((s.withChannels (releaseAll s).channels).withSense (releaseAll s).sense).withTrains (s.trains.map haltTrain) := by
  unfold haltedAtOnce
  rw [releaseAll_eq]
  rfl

theorem haltedAtOnce_train (s : State) (n : Train) :
    (haltedAtOnce s).trains.get n = haltTrain (s.trains.get n) := by
  rw [haltedAtOnce_eq]; exact Table.get_map ..

theorem halted_channels {s : State} (h : s.halt = true) : (halted s).channels = (releaseAll s).channels := by
  have hh : (haltedAtOnce s).halt = true := by rw [haltedAtOnce_eq]; exact h
  rw [haltedAtOnce_turns]
  refine Table.ext fun c => ?_
  exact (turnabouts_heeds (haltedAtOnce s).turning (haltedAtOnce s)).shut c (.inl hh)

theorem halted_sense (s : State) : (halted s).sense = (releaseAll s).sense := by
  rw [haltedAtOnce_turns]
  exact (turnabouts_traffic (haltedAtOnce s).turning (haltedAtOnce s)).sense

theorem halted_trains (s : State) : (halted s).trains = (turnabouts (haltedAtOnce s).turning (haltedAtOnce s)).trains := by
  rw [haltedAtOnce_turns]; rfl

theorem halted_axes (s : State) : (halted s).axes = s.axes.map haltAxis := by
  have h : (haltTrains (releaseAll s)).axes = s.axes := by
    rw [haltTrains_eq]
    exact (turnabouts_traffic _ _).axes.trans (by rw [releaseAll_eq]; rfl)
  unfold halted haltAxes
  rw [h]; rfl

theorem halted_same (s : State) : (halted s).floods = s.floods ∧ (halted s).cfg = s.cfg ∧ (halted s).stopc = s.stopc := by
  have h := turnabouts_traffic (haltedAtOnce s).turning (haltedAtOnce s)
  rw [haltedAtOnce_turns]
  refine ⟨h.floods.trans ?_, h.cfg.trans ?_, h.stopc.trans ?_⟩ <;> rw [haltedAtOnce_eq] <;> rfl

theorem haltAxis_state (a : AxisRun) : (haltAxis a).state = if a.state = .stalled then .stalled else .halted := by
  cases h : a.state <;> simp [haltAxis, h]

/-- The reservations agree still when the halt has taken channels and trains. -/
theorem haltedAtOnce_agree {s : State} (h : ReservationsAgree s) : ReservationsAgree (haltedAtOnce s) := by
  refine Moves.agree (k := ⟨True, False, False⟩) trivial ?_ ((releaseAll_keeps s).agree h)
  refine (Move.trains (withTrains_shifts ((releaseAll s).trains.map haltTrain) _) rfl fun m => ?_).one
  rw [State.withTrains_trains, Table.get_map]
  exact haltTrain_move id _

end Sys2Proof.Machine
end

section

namespace Sys2Proof.Proofs.Halt

open Sys2Proof.Machine Sys2Proof.Safety

/-- What the halt leaves of the trains (R146, R157). -/
theorem halted_train {s : State} {n : Train} {x : TrainRun} (hx : x = s.trains.get n) :
    (x.state = .waiting ∨ x.moving = true →
      ((halted s).trains.get n).state = .halted ∧ ((halted s).trains.get n).speed = 0 ∧
      ((halted s).trains.get n).target = 0 ∧ ((halted s).trains.get n).duty = 0 ∧
      ((halted s).trains.get n).mode = x.mode ∧ ((halted s).trains.get n).route = x.route) ∧
    (x.state ≠ .waiting → x.moving = false → ((halted s).trains.get n).state = x.state) ∧
    (x.state = .waiting ∨ x.moving = true →
      (x.pending = none → ((halted s).trains.get n).span = x.span ∧ ((halted s).trains.get n).headPos = x.headPos ∧
        ((halted s).trains.get n).orientation = x.orientation) ∧
      (x.pending ≠ none → (∀ m, m ≠ n → (s.trains.get m).pending = none) →
        TurnedAbout s n x ((halted s).trains.get n))) := by
  subst hx
  have hpending (m : Train) : ((haltedAtOnce s).trains.get m).pending = (s.trains.get m).pending := by
    rw [haltedAtOnce_train, haltTrain_eq]; split <;> rfl
  obtain ⟨h1, h2, h3, h4, h5, h6⟩ := turnabouts_keep (haltedAtOnce s).turning n (haltedAtOnce s)
  rw [halted_trains]
  rw [haltedAtOnce_train, haltTrain_eq] at h1 h2 h3 h4 h5 h6
  refine ⟨fun h => ?_, fun hw hm => ?_, fun h => ⟨fun hp => ?_, fun hp hothers => ?_⟩⟩
  · rw [if_pos h] at h1 h2 h3 h4 h5 h6
    exact ⟨h1, h2, h3, h4, h5, h6⟩
  · rw [if_neg (not_or.2 ⟨hw, by simp [hm]⟩)] at h1
    exact h1
  · have hn : n ∉ (haltedAtOnce s).turning := by rw [mem_turning, hpending]; exact fun g => g.2 hp
    obtain ⟨g1, g2, g3⟩ := turnabouts_other hn (haltedAtOnce s)
    rw [haltedAtOnce_train, haltTrain_eq, if_pos h] at g1 g2 g3
    exact ⟨g1, g2, g3⟩
  · have hself : (haltedAtOnce s).trains.get n = { s.trains.get n with
        state := .halted, speed := 0, target := 0, duty := 0, cause := none, reason := none } := by
      rw [haltedAtOnce_train, haltTrain_eq, if_pos h]
    have hturn : (haltedAtOnce s).turning = [n] := by
      have honly (m : Train) : ((haltedAtOnce s).trains.get m).state = .halted ∧
          ((haltedAtOnce s).trains.get m).pending ≠ none ↔ m = n := by
        rw [hpending]
        refine ⟨fun g => by_contra fun hne => g.2 (hothers m hne), ?_⟩
        rintro rfl
        exact ⟨by rw [hself], hp⟩
      rw [State.turning, List.filter_congr (q := fun m => decide (m = n)) fun m _ => by simp only [honly],
        List.filter_eq, List.count_eq_one_of_mem (List.nodup_finRange 6) (List.mem_finRange n)]
      rfl
    obtain ⟨t1, t2, t3, t4, t5, t6, t7⟩ := turnabout_turned n (haltedAtOnce s)
    have hcfg : (haltedAtOnce s).cfg = s.cfg := by rw [haltedAtOnce_eq]; rfl
    rw [hself] at t1 t2 t6 t7
    rw [hcfg] at t6 t7
    rw [hturn, turnabouts_cons]
    generalize turnabout n (haltedAtOnce s) = t at *
    exact ⟨t1, t2, t3, t4, t5, t6, fun ha => t7 (haltedAtOnce_agree ha)⟩

/-- Settles O16: the state the halt leaves is `halted`, by its parts. -/
theorem haltComesIntoForce : Obligations.HaltComesIntoForce := by
  refine fun s => ⟨fun c line r hh hr hc => ?_, fun hh ht => answers ht ?_, fun u hh hr hl hu => happens hr ?_⟩
  · obtain ⟨hline, hlatch⟩ : s.stopc.line = false ∧ s.stopc.latch = false := by simpa [State.halt] using hh
    obtain ⟨t, ht, hexec, hl, hlt⟩ : ∃ t : State, t = (s.withSys
          (if line then { s.sys with pins := { s.sys.pins with stop := true } } else s.sys)).withStopc t.stopc ∧
        exec c s = (if line then acts ((halted t).raise r) else replies ((halted t).raise r) .ok) ∧
        t.stopc.line = line ∧ t.stopc.latch = true := by
      rcases hc with ⟨rfl, rfl, rfl⟩ | ⟨rfl, rfl, rfl, ht⟩
      · refine ⟨(withStopPin true s).withStopc ⟨true, 0, true⟩, rfl, happens (f := acceptAssert) hr ?_, rfl, rfl⟩
        have hline' : ¬ (withStopPin true s).stopc.line = true := by
          show ¬ s.stopc.line = true
          simp [hline]
        have hhalt' : ¬ (withStopPin true s).halt = true := by
          show ¬ s.halt = true
          simp [hh]
        rw [acceptAssert, if_neg hline', setLatch]
        exact if_neg hhalt'
      · refine ⟨s.withStopc { s.stopc with latch := true }, rfl, answers ht ?_, hline, rfl⟩
        rw [takeStop, if_neg (by simp [hh])]
        rfl
    have hchannels : t.channels = s.channels := by rw [ht]; rfl
    have htrains : t.trains = s.trains := by rw [ht]; rfl
    have hsense : t.sense = s.sense := by rw [ht]; rfl
    have hcfg : t.cfg = s.cfg := by rw [ht]; rfl
    have hsys : t.sys = if line then { s.sys with pins := { s.sys.pins with stop := true } } else s.sys := by
      rw [ht]; rfl
    have hbase : t = (s.withSys t.sys).withStopc t.stopc := by rw [hsys]; exact ht
    have hhalt : t.halt = true := by simp [State.halt, hlt]
    obtain ⟨hfloods, hcfg', hstopc⟩ := halted_same t
    have htrain (n : Train) := halted_train (s := t) (n := n) rfl
    have hch := halted_channels hhalt
    obtain ⟨q1, q2, q3, q4, q5⟩ := releaseAll_sense t
    rw [← halted_sense] at q1 q2 q3 q4 q5
    rw [htrains] at htrain
    rw [hsense] at q1 q2 q3
    rw [hchannels] at q3
    rw [hchannels, hsense] at q4 q5
    have hchannel (k : Channel) : (halted t).channels.get k =
        if (s.channels.get k).state = .cut then s.channels.get k else (s.channels.get k).released .off := by
      rw [hch, releaseAll_channel, hchannels]
    refine ⟨halted t, hexec, by rw [hstopc, hl], by rw [hstopc, hlt], fun k => ?_, fun n h => (htrain n).1 h,
      fun n => (htrain n).2.1, fun n => ?_, hfloods.trans (by rw [ht]; rfl), hcfg'.trans hcfg, q1, q2, q3,
      fun k hk => ⟨?_, q4 k hk⟩, q5, fun n x hx h => ?_, haltedAtOnce t, _, ?_, ?_, fun n x hx => ?_, rfl,
      haltedAtOnce_turns t⟩
    · rw [hchannel]
      split
      · next h => exact ⟨h, rfl, fun g => absurd h g⟩
      · exact ⟨rfl, rfl, fun _ => ⟨rfl, rfl, rfl⟩⟩
    · rw [halted_axes, Table.get_map, haltAxis_state, show t.axes = s.axes by rw [ht]; rfl]
    · rw [hchannel, if_pos hk]
    · subst hx
      refine ⟨((htrain n).2.2 h).1, fun hp ho => ?_⟩
      have hagree : ReservationsAgree s → ReservationsAgree t := fun ha => by rw [ht]; exact ha
      obtain ⟨t1, t2, t3, t4, t5, t6, t7⟩ := ((htrain n).2.2 h).2 hp ho
      rw [hcfg] at t6 t7
      exact ⟨t1, t2, t3, t4, t5, t6, fun ha => t7 (hagree ha)⟩
    · have hv := haltedAtOnce_eq t
      rw [hstopc, hch, halted_sense, hv]
      exact congrArg (fun a => ((State.withChannels a _).withSense _).withTrains _) hbase
    · rw [haltedAtOnce_eq]
      exact hsys
    · rw [hx, haltedAtOnce_train, htrains, haltTrain_eq]
  · rw [takeStop, if_pos hh]; rfl
  · have hline : ¬ (withStopPin true s).stopc.line = true := by
      show ¬ s.stopc.line = true
      simp [hl]
    rw [acceptAssert, if_neg hline, setLatch, hu]
    exact if_pos hh

end Sys2Proof.Proofs.Halt
end

section
-- One theorem after the other: side by side, waiting proofs would pile up.
set_option Elab.async false
/-! SUPPORT. What placing, lifting and finding a train leave, a train that is lost, and a CUT notice (R144, R145,
R147, R148). -/

namespace Sys2Proof.Machine

open Sys2Proof.Safety

/-! ## The supervision timer after a taken line (R156) -/

theorem restartCabTimer_keeps (n : Train) (s : State) : (restartCabTimer n s).units = s.units ∧
    ((restartCabTimer n s).trains.get n).state = (s.trains.get n).state := by
  cases h : (s.trains.get n).mode with
  | route => rw [restartCabTimer_of_route h]; exact ⟨rfl, rfl⟩
  | cab => rw [restartCabTimer_of_cab h, State.modTrain_self]; exact ⟨rfl, rfl⟩

/-- A `TRAIN n` line that is taken and leaves the train in ROUTE mode. -/
theorem trainLine_of_route {n : Train} {f : Train → State → Ans} {s t : State} (h : f n s = taken t)
    (hm : (t.trains.get n).mode = .route) : trainLine n.val f s = (t, .ok) := by
  rw [trainLine_of_ok h, restartCabTimer_of_route hm]

/-! ## Withdrawals (R120) -/

theorem withdraw_unit (n : Train) (s : State) (u : Section) : (withdraw n s).units.get u =
    if (s.trains.get n).request = some u
    then { s.units.get u with waiting := (s.units.get u).waiting.erase n } else s.units.get u := by
  cases h : (s.trains.get n).request with
  | none => rw [withdraw_of_none h]; rfl
  | some v =>
    rw [withdraw_of_some h, (unitNotice_calls ..).units]
    show (s.units.set v _).get u = _
    rw [Table.get_set]
    by_cases hu : u = v
    · subst hu; simp
    · rw [if_neg hu, if_neg (by simpa using Ne.symm hu)]

theorem withdraw_line (n : Train) (s : State) : (withdraw n s).line = s.line := by
  cases h : (s.trains.get n).request with
  | none => rw [withdraw_of_none h]; rfl
  | some u => rw [withdraw_of_some h, (unitNotice_calls ..).line]; rfl

/-- A train that has withdrawn its request waits for no unit (R120). -/
theorem withdraw_waits {n : Train} {s : State} {u : Section} (hnodup : (s.units.get u).waiting.Nodup)
    (hwaits : n ∈ (s.units.get u).waiting → (s.trains.get n).request = some u) :
    n ∉ ((withdraw n s).units.get u).waiting := by
  rw [withdraw_unit]
  split
  · exact hnodup.not_mem_erase
  · next h => exact fun hn => h (hwaits hn)

/-! ## The powered set over throws, notices, grants and releases (R128, R129) -/

/-- A section of the span of a placed train is powered. -/
def PowersIn (n : Train) (z : Section) (s : State) : Prop :=
  (s.trains.get n).state ≠ .unplaced ∧ (∃ f ∈ (s.trains.get n).span, f.sec = z) ∧
    ∃ f ∈ (s.trains.get n).powered, f.sec = z

theorem powersIn_congr {n : Train} {z : Section} {s t : State} (h : t.trains = s.trains) :
    PowersIn n z s → PowersIn n z t := by unfold PowersIn; rw [h]; exact id

theorem Stirs.powersIn {n : Train} {z : Section} {s t : State} (h : Stirs s t) : PowersIn n z s → PowersIn n z t := by
  induction h with
  | same _ ht _ _ => exact powersIn_congr ht
  | refresh m s =>
    rintro ⟨hp, ⟨f, hf, hz⟩, hpow⟩
    by_cases hm : n = m
    · subst hm
      have hpl : (s.trains.get n).placed = true := placed_iff.2 hp
      unfold PowersIn
      rw [refreshAuthority_train, TrainRun.withWalk, if_pos hpl]
      exact ⟨hp, ⟨f, hf, hz⟩, f, (mem_poweredSet ..).2 (.inl hf), hz⟩
    · unfold PowersIn
      rw [refreshAuthority_other hm]
      exact ⟨hp, ⟨f, hf, hz⟩, hpow⟩
  | trans _ _ ih ih' => exact fun h => ih' (ih h)

theorem grantCore_powersIn {n : Train} {z : Section} (m : Train) (u : Section) {s : State} :
    PowersIn n z s → PowersIn n z (grantCore m u s) := by
  unfold PowersIn; rw [grantCore_train]; exact id

theorem grant_powersIn {n : Train} {z : Section} (quiet : Bool) (m : Train) (u : Section) {s : State}
    (h : PowersIn n z s) : PowersIn n z (grant quiet m u s) := by
  rw [grant_eq]
  refine Stirs.powersIn ((askThrows_stirs ..).trans (.refresh ..)) ?_
  split
  · exact grantCore_powersIn m u h
  · exact (unitNotice_stirs ..).powersIn (grantCore_powersIn m u h)

/-- A release of another unit leaves a section of the span powered. -/
theorem release_powersIn {n : Train} {z : Section} (quiet : Bool) {u : Section} {s : State}
    (hu : s.cfg.unitKey z ≠ some u) (h : PowersIn n z s) : PowersIn n z (release quiet n s u) := by
  have dropped : PowersIn n z (dropUnit n u s) := by
    obtain ⟨hp, hspan, f, hf, hz⟩ := h
    unfold PowersIn
    rw [dropUnit_trains]
    exact ⟨hp, hspan, f, by simpa [hz, hf] using hu, hz⟩
  have strayed (xs : List Section) : Stirs (dropUnit n u s) (if quiet then reportStrays xs (dropUnit n u s)
      else unitNotice u (reportStrays xs (dropUnit n u s))) :=
    .ite _ (fun _ => .foldl (fun s _ => raise_stirs _ s) xs _) fun _ =>
      .trans (.foldl (fun s _ => raise_stirs _ s) xs _) (unitNotice_stirs ..)
  unfold release releaseHeld
  split
  · dsimp only
    split
    · exact (strayed _).powersIn dropped
    · split
      · exact (strayed _).powersIn dropped
      · exact grant_powersIn _ _ _ dropped
  · exact h

theorem releases_powersIn {n : Train} {z : Section} (quiet : Bool) (us : List Section) {s : State}
    (hu : ∀ u ∈ us, s.cfg.unitKey z ≠ some u) (h : PowersIn n z s) :
    PowersIn n z (us.foldl (release quiet n) s) := by
  induction us generalizing s with
  | nil => exact h
  | cons u us ih =>
    refine ih (fun v hv => ?_) (release_powersIn quiet (hu u (.head _)) h)
    rw [(release_traffic quiet n s u).cfg]
    exact hu v (.tail _ hv)

theorem withdraw_powersIn {n : Train} {z : Section} {s : State} (h : PowersIn n z s) : PowersIn n z (withdraw n s) := by
  have hself (t : State) (ht : t.trains = s.trains) : PowersIn n z (t.modTrain n TrainRun.withdrawn) := by
    unfold PowersIn
    rw [State.modTrain_self, ht]
    exact h
  cases hr : (s.trains.get n).request with
  | none => rw [withdraw_of_none hr]; exact hself s rfl
  | some u => rw [withdraw_of_some hr]; exact (unitNotice_stirs ..).powersIn (hself _ rfl)

/-! ## Placing, lifting and finding (R147, R148) -/

/-- A train just placed, its unit granted (R147). -/
theorem placeTrain_train (n : Train) (x : Section) (e : End) (u : Section) (s : State) :
    (placeTrain n x e u s).trains.get n =
      { TrainRun.placedIn x e (placedHead s.cfg (s.trainDef n) x) with
        holdings := [u]
        authority := ((placeTrain n x e u s).trains.get n).authority
        powered := ((placeTrain n x e u s).trains.get n).powered } := by
  have h := grant_redraws false n u
    (s.modTrain n fun _ => TrainRun.placedIn x e (placedHead s.cfg (s.trainDef n) x)) n
  rw [grantCore_train, State.modTrain_self] at h
  simp only [if_true] at h
  exact h

theorem placeTrain_unit {n : Train} (x : Section) (e : End) {u : Section} {s : State}
    (hw : n ∉ (s.units.get u).waiting) :
    (placeTrain n x e u s).units.get u = ⟨some n, (s.units.get u).waiting⟩ := by
  rw [placeTrain, grant_unit, if_pos rfl, State.modTrain_units, List.erase_of_not_mem hw]

/-- A train that is lifted holds nothing and waits for nothing (R148). -/
theorem liftTrain_leaves {n : Train} {s : State} (ha : ReservationsAgree s) :
    (liftTrain n s).trains.get n = TrainRun.reset ∧
    (∀ u, ((liftTrain n s).units.get u).holder ≠ some n) ∧ ∀ u, n ∉ ((liftTrain n s).units.get u).waiting := by
  have hw := Moves.agree (k := ⟨True, False, False⟩) trivial (withdraw_moves n s) ha
  obtain ⟨h1, h2⟩ := releaseAll_self ((withdraw n s).trains.get n).holdings hw (withdraw_self n s).2
  rw [foldl_erase_self] at h1
  have hr := Moves.agree (k := ⟨True, False, False⟩) trivial
    (Moves.foldl (release_moves false n) ((withdraw n s).trains.get n).holdings _) hw
  have hunits : (liftTrain n s).units =
      (((withdraw n s).trains.get n).holdings.foldl (release false n) (withdraw n s)).units :=
    (restPowered_asks n _).units
  rw [hunits]
  refine ⟨State.modTrain_self .., fun u hu => ?_, fun u hu => ?_⟩
  · have := (hr.1 n u).2 hu
    rw [h1] at this; cases this
  · have := (hr.2.2.1 n u).1 hu
    rw [h2] at this; cases this

theorem liftTrain_cfg (n : Train) (s : State) : (liftTrain n s).cfg = s.cfg :=
  (restPowered_asks n _).cfg.trans ((Traffic.foldl (release_traffic false n) _ _).cfg.trans (withdraw_traffic n s).cfg)

/-- A powered section of the span whose unit is not held is sent duty 0 (R129; log 48). -/
theorem liftTrain_staged {n : Train} {s : State} {z : Section} (h : PowersIn n z s) (hz : s.holds n z = false)
    (hh : s.halt = false) (hc : (s.channels.get (sectionChannel z)).state ≠ .cut) :
    ((liftTrain n s).channels.get (sectionChannel z)).staged =
      some ⟨0, (s.channels.get (sectionChannel z)).applied.pol⟩ := by
  obtain ⟨t, ht⟩ : ∃ t, t = ((withdraw n s).trains.get n).holdings.foldl (release false n) (withdraw n s) := ⟨_, rfl⟩
  have htraffic : Traffic s t := ht ▸ (withdraw_traffic n s).trans (.foldl (release_traffic false n) _ _)
  have hpow : PowersIn n z t := by
    rw [ht]
    refine releases_powersIn false _ (fun u hu hk => ?_) (withdraw_powersIn h)
    rw [(withdraw_traffic n s).cfg] at hk
    rw [(withdraw_self n s).1] at hu
    rw [(holds_iff ..).2 ⟨u, hk, hu⟩] at hz
    cases hz
  obtain ⟨-, -, f, hf, rfl⟩ := hpow
  have := restSections_staged (xs := (t.trains.get n).powered.map fun e => e.sec) (s := t)
    (List.mem_map.2 ⟨f, hf, rfl⟩) (htraffic.halt.trans hh) (by rw [htraffic.asks]; exact hc)
  rw [htraffic.asks] at this
  rw [← this, liftTrain]
  show ((restPowered n _).channels.get _).staged = _
  rw [← ht]
  rfl

/-- The state in which a train that is found has its place, before it gives up its other units (R148). -/
def foundAt (n : Train) (x : Section) (e : End) (u : Section) (s : State) : State :=
  if ((s.modTrain n (TrainRun.foundIn x e (placedHead s.cfg (s.trainDef n) x))).units.get u).holder = some n
  then s.modTrain n (TrainRun.foundIn x e (placedHead s.cfg (s.trainDef n) x))
  else grant false n u (s.modTrain n (TrainRun.foundIn x e (placedHead s.cfg (s.trainDef n) x)))

theorem findTrain_eq (n : Train) (x : Section) (e : End) (u : Section) (s : State) : findTrain n x e u s =
    refreshAuthority n ((((foundAt n x e u s).trains.get n).holdings.filter fun v => v != u).foldl
      (release false n) (foundAt n x e u s)) := rfl

theorem foundAt_reserves (n : Train) (x : Section) (e : End) (u : Section) (s : State) :
    TrainsReserve (s.modTrain n (TrainRun.foundIn x e (placedHead s.cfg (s.trainDef n) x))) (foundAt n x e u s) := by
  unfold foundAt
  split
  · exact .refl _
  · exact grant_reserves _ _ _ _

theorem findTrain_train (n : Train) (x : Section) (e : End) (u : Section) (s : State) :
    (findTrain n x e u s).trains.get n =
      (TrainRun.foundIn x e (placedHead s.cfg (s.trainDef n) x) (s.trains.get n)).reserving
        ((findTrain n x e u s).trains.get n) := by
  obtain ⟨t, ht⟩ : ∃ t, t = (((foundAt n x e u s).trains.get n).holdings.filter fun v => v != u).foldl
    (release false n) (foundAt n x e u s) := ⟨_, rfl⟩
  have h : TrainsReserve (s.modTrain n (TrainRun.foundIn x e (placedHead s.cfg (s.trainDef n) x)))
      (refreshAuthority n t) :=
    (ht ▸ (foundAt_reserves n x e u s).trans (releases_reserve false n _ _) :
      TrainsReserve _ t).trans (.ofRedraw (refreshAuthority_redraws n t).trains)
  have h := h n
  rw [State.modTrain_self, ht] at h
  exact h

section

variable {n : Train} {x : Section} {e : End} {u : Section} {s : State} (ha : ReservationsAgree s)
  (hl : (s.trains.get n).state = .lost)
  (hh : (s.units.get u).holder = none ∨ (s.units.get u).holder = some n)
include ha hl hh

theorem foundAt_agree : ReservationsAgree (foundAt n x e u s) := by
  refine Moves.agree (k := ⟨True, False, False⟩) trivial (Moves.trans (modTrain_move ?_)
    (Moves.ite _ (fun _ => .refl _) fun hn => grant_moves (hh.resolve_right hn) ?_ False.elim)) ha
  · have hm : (s.trains.get n).moving = false := by simp [TrainRun.moving, hl]
    exact .of_placed rfl rfl rfl (by simp [TrainRun.foundIn]) (fun f => ⟨fun _ => f.speed hm,
      by simp [TrainRun.foundIn], by simp [TrainRun.foundIn], by simp [TrainRun.foundIn, TrainRun.moving]⟩)
      False.elim
  · rw [State.modTrain_self]; rfl

/-- A train that is found holds its new unit, and no other (R148). -/
theorem findTrain_holdings :
    ((findTrain n x e u s).trains.get n).holdings = [u] := by
  have hagree := foundAt_agree (x := x) (e := e) ha hl hh
  have hu : u ∈ ((foundAt n x e u s).trains.get n).holdings := by
    unfold foundAt
    split
    · next h => rw [State.modTrain_self]; exact (ha.1 n u).2 h
    · rw [grant_holdings, if_pos rfl]; simp
  have hnodup := hagree.2.1 n
  rw [findTrain_eq, (refreshAuthority_redraws ..).trains n]
  show ((List.foldl _ _ _ : State).trains.get n).holdings = _
  rw [releases_holdings _ hagree, ← List.diff_eq_foldl, hnodup.sdiff_eq_filter]
  have honly : ((foundAt n x e u s).trains.get n).holdings.filter
      (fun v => decide (v ∉ ((foundAt n x e u s).trains.get n).holdings.filter fun v => v != u)) =
      ((foundAt n x e u s).trains.get n).holdings.filter fun v => v = u :=
    List.filter_congr fun v hv => by rw [Bool.eq_iff_iff]; simp [hv]
  rw [honly, List.filter_eq, List.count_eq_one_of_mem hnodup hu]
  rfl

theorem findTrain_units (hr : (s.trains.get n).request = none) (v : Section) :
    ((findTrain n x e u s).units.get v).holder = some n ↔ v = u := by
  have hagree : ReservationsAgree (findTrain n x e u s) :=
    Moves.agree (k := ⟨True, False, False⟩) trivial (findTrain_moves id x e hl hh fun _ => hr) ha
  rw [← hagree.1 n v, findTrain_holdings ha hl hh, List.mem_singleton]

end

/-! ## Trains that are lost or FAULTED (R144, R145) -/

theorem loseTrain_eq (n : Train) (s : State) : loseTrain n s = (withdraw n (restPowered n (s.modTrain n fun t =>
    { t with state := .lost, speed := 0, target := 0, duty := 0, cause := none }))).raise (.lost n) := rfl

theorem loseTrain_train (n : Train) (s : State) : (loseTrain n s).trains.get n =
    { (TrainRun.withdrawn { s.trains.get n with
        state := .lost, speed := 0, target := 0, duty := 0, cause := none }) with
      authority := ((loseTrain n s).trains.get n).authority
      powered := ((loseTrain n s).trains.get n).powered } := by
  have hraise (t : State) : (t.raise (.lost n)).trains = t.trains := by rw [State.raise_eq]; rfl
  rw [loseTrain_eq, hraise, withdraw_train, if_pos rfl, (restPowered_asks ..).same, State.modTrain_self]

theorem loseTrain_waits {n : Train} {s : State} (ha : ReservationsAgree s) (u : Section) :
    n ∉ ((loseTrain n s).units.get u).waiting := by
  obtain ⟨-, -, hwaits, hnodup, -⟩ := ha
  have hraise (t : State) : (t.raise (.lost n)).units = t.units := by rw [State.raise_eq]; rfl
  rw [loseTrain_eq, hraise]
  refine withdraw_waits ?_ fun h => ?_
  · rw [(restPowered_asks ..).units]; exact hnodup u
  · rw [(restPowered_asks ..).units] at h
    rw [(restPowered_asks ..).same, State.modTrain_self]
    exact (hwaits n u).1 h

/-- Without a request of the train, its powered sections are sent duty 0. -/
theorem loseTrain_staged {n : Train} {s : State} (hr : (s.trains.get n).request = none) (hh : s.halt = false)
    {e : SpanElt} (he : e ∈ (s.trains.get n).powered) (hc : (s.channels.get (sectionChannel e.sec)).state ≠ .cut) :
    ((loseTrain n s).channels.get (sectionChannel e.sec)).staged =
      some ⟨0, (s.channels.get (sectionChannel e.sec)).applied.pol⟩ := by
  have hraise (t : State) : (t.raise (.lost n)).channels = t.channels := by rw [State.raise_eq]; rfl
  rw [loseTrain_eq, hraise, withdraw_of_none (by rw [(restPowered_asks ..).same, State.modTrain_self]; exact hr)]
  refine restSections_staged (s := s.modTrain n _) ?_ hh hc
  rw [State.modTrain_self]
  exact List.mem_map.2 ⟨e, he, rfl⟩

/-- The fields of a FAULTED train (R145). -/
def TrainRun.faulted (t : TrainRun) : TrainRun :=
  { t with
    state := .faulted, speed := 0, target := 0, duty := 0, pending := none, cause := none
    reason := none, dwell := 0, served := t.served || decide (t.state = .dwelling) }

theorem faultTrain_eq (s : State) (n : Train) : faultTrain s n =
    withdraw n (((s.modTrain n TrainRun.faulted).heldSections n).foldl restSection (s.modTrain n TrainRun.faulted)) :=
  rfl

theorem faultTrain_train (s : State) (n m : Train) : (faultTrain s n).trains.get m =
    { (if m = n then (s.trains.get m).faulted.withdrawn else s.trains.get m) with
      authority := ((faultTrain s n).trains.get m).authority, powered := ((faultTrain s n).trains.get m).powered } := by
  rw [faultTrain_eq, withdraw_train, (restSections_asks ..).same, State.modTrain_get]
  split <;> rfl

theorem faultTrain_line (s : State) (n : Train) : (faultTrain s n).line = s.line := by
  rw [faultTrain_eq, withdraw_line, (restSections_asks ..).line]; rfl

/-- Each of several trains becomes FAULTED, the others keep all but authority and powered set. -/
theorem faultTrains_train {ns : List Train} (hn : ns.Nodup) (s : State) (m : Train) :
    (ns.foldl faultTrain s).trains.get m =
      { (if m ∈ ns then (s.trains.get m).faulted.withdrawn else s.trains.get m) with
        authority := ((ns.foldl faultTrain s).trains.get m).authority
        powered := ((ns.foldl faultTrain s).trains.get m).powered } := by
  induction ns generalizing s with
  | nil => simp
  | cons n ns ih =>
    obtain ⟨hnot, hn⟩ := List.nodup_cons.1 hn
    rw [List.foldl_cons, ih hn, faultTrain_train]
    by_cases h : m = n
    · subst h
      simp only [hnot, List.mem_cons, true_or, if_true, if_false]
    · simp only [h, List.mem_cons, false_or, if_false]
      split <;> rfl

theorem mem_heldSections (s : State) (n : Train) (x : Section) : x ∈ s.heldSections n ↔ s.holds n x = true := by
  simp [State.heldSections]

/-- Without a request of the train, its held sections are sent duty 0, and nothing else is sent. -/
theorem faultTrain_channels {s : State} {n : Train} (h : (s.trains.get n).request = none) :
    (faultTrain s n).channels = ((s.heldSections n).foldl restSection s).channels := by
  have hheld : (s.modTrain n TrainRun.faulted).heldSections n = s.heldSections n :=
    List.filter_congr fun x _ => by
      unfold State.holds
      rw [State.modTrain_self]
      rfl
  rw [faultTrain_eq, withdraw_of_none (by rw [(restSections_asks ..).same, State.modTrain_self]; exact h), hheld]
  show (List.foldl restSection (s.modTrain n TrainRun.faulted) (s.heldSections n)).channels = _
  refine Table.ext fun c => ?_
  rw [restSections_channel, restSections_channel]
  rfl

theorem sectionCutNotice_eq (x : Section) (s : State) : sectionCutNotice x s =
    ((ids 6).filter fun n => (s.trains.get n).placed && s.holds n x).foldl faultTrain s := rfl

/-- Duty 0 once sent stands, and the sections of a train among them are sent it. -/
theorem faultTrains_staged (ns : List Train) {s : State} {n : Train} {w : Section}
    (hr : ∀ m, (s.trains.get m).request = none) (hh : s.halt = false)
    (hc : (s.channels.get (sectionChannel w)).state ≠ .cut) (hw : s.holds n w = true)
    (h : n ∈ ns ∨ (s.channels.get (sectionChannel w)).staged =
      some ⟨0, (s.channels.get (sectionChannel w)).applied.pol⟩) :
    ((ns.foldl faultTrain s).channels.get (sectionChannel w)).staged =
      some ⟨0, (s.channels.get (sectionChannel w)).applied.pol⟩ := by
  induction ns generalizing s with
  | nil => exact h.resolve_left nofun
  | cons m ns ih =>
    have htraffic := faultTrain_traffic s m
    have hch := faultTrain_channels (hr m)
    have hhold : (faultTrain s m).holds n w = true := by
      rw [holds_iff] at hw ⊢
      rw [htraffic.cfg, faultTrain_train]
      split <;> exact hw
    have hst : ((faultTrain s m).channels.get (sectionChannel w)).applied =
        (s.channels.get (sectionChannel w)).applied := by rw [htraffic.asks]
    have := ih (s := faultTrain s m) (fun k => ?_) (htraffic.halt.trans hh) (by rw [htraffic.asks]; exact hc) hhold ?_
    · rw [List.foldl_cons, this, hst]
    · rw [faultTrain_train]
      split
      · rfl
      · exact hr k
    · rw [hst]
      by_cases hm : n ∈ ns
      · exact .inl hm
      · refine .inr ?_
        rw [hch, restSections_channel]
        split
        · rfl
        · next hnot =>
          rcases h with h | h
          · rcases List.mem_cons.1 h with rfl | h
            · exact absurd ⟨⟨w, (mem_heldSections ..).2 hw, rfl⟩, hh, hc⟩ hnot
            · exact absurd h hm
          · exact h

end Sys2Proof.Machine
end

section

namespace Sys2Proof.Proofs.Placing

open Sys2Proof.Machine Sys2Proof.Safety

/-- Settles O33: each line by its branch, the acts by `placeTrain_train` and `liftTrain_leaves`. -/
theorem placingAndLifting : Obligations.PlacingAndLifting := by
  intro s n x e ht ha
  refine ⟨fun u hu hst ho hh => ?_, fun hu => refuses ht ?_, fun hu h => refuses ht ?_,
    fun u hu hst ho hh => refuses ht ?_, fun h => ?_, fun h1 h2 => refuses ht ?_⟩
  · have hp : (s.trains.get n).placed = false := by
      rw [Bool.eq_false_iff, Ne, placed_iff]; exact fun h => h hst
    have hact : placeAct x.val e n s = taken (placeTrain n x e u s) := by
      simp [placeAct, hu, hp, ho, hh]
    have hw : n ∉ (s.units.get u).waiting := fun h => by
      have := (ha.2.2.1 n u).1 h
      rw [(ha.2.2.2.2.2.2 n hp).2.2] at this
      cases this
    have hy := placeTrain_train n x e u s
    refine ⟨placeTrain n x e u s, _, answers ht (trainLine_of_route hact (by rw [hy]; rfl)), rfl, ?_⟩
    rw [placeTrain_unit x e hw, hy]
    exact ⟨rfl, rfl, rfl, rfl, rfl, rfl, rfl, rfl, rfl, (grant_traffic ..).cfg⟩
  · exact trainLine_of_refused (by simp [placeAct, hu])
  · obtain ⟨u, hu⟩ := Option.ne_none_iff_exists'.1 hu
    refine trainLine_of_refused ?_
    simp only [placeAct, asId_val, hu]
    exact if_pos (h.imp placed_iff.2 id)
  · have hp : (s.trains.get n).placed = false := by
      rw [Bool.eq_false_iff, Ne, placed_iff]; exact fun h => h hst
    refine trainLine_of_refused ?_
    simp only [placeAct, asId_val, hu]
    rw [if_neg (by simp [hp, ho]), if_pos (Option.isSome_iff_ne_none.2 hh)]
  · have hact : liftAct n s = taken (liftTrain n s) := by
      rw [liftAct, if_pos]
      simpa [TrainRun.liftable] using h
    obtain ⟨hy, hholder, hwaits⟩ := liftTrain_leaves (n := n) ha
    refine ⟨liftTrain n s, answers ht (trainLine_of_route hact (by rw [hy]; rfl)), hy, hholder, hwaits,
      liftTrain_cfg n s, fun hh z hc hpow hspan hz => liftTrain_staged ⟨?_, hspan, hpow⟩ hz hh hc⟩
    rcases h with h | h <;> simp [h]
  · refine trainLine_of_refused (if_neg ?_)
    simpa [TrainRun.liftable] using ⟨h1, h2⟩

/-- Settles O34: a lost train by `loseTrain_train`, a CUT notice by `faultTrains_train`, the lines by their branches. -/
theorem findingAndResuming : Obligations.FindingAndResuming := by
  refine ⟨fun s t n x y hx ht hy => ?_, fun s t z n x y ht hx hy => ?_, fun s n x e ht ha => ?_⟩
  · subst hx ht hy
    rw [loseTrain_train]
    exact ⟨rfl, rfl, rfl, rfl, rfl, rfl, rfl, rfl, rfl, rfl, rfl,
      ⟨_, loseTrain_eq n s, by rw [withdraw_line, (restPowered_asks ..).line]; rfl⟩, (loseTrain_traffic n s).cfg,
      loseTrain_waits, fun hr hh e he hc => loseTrain_staged hr hh he hc⟩
  · subst hx ht hy
    have hmem : n ∈ (ids 6).filter (fun n => (s.trains.get n).placed && s.holds n z) ↔
        (s.trains.get n).state ≠ .unplaced ∧ s.holds n z = true := by
      simp [placed_iff]
    have htrain := faultTrains_train (((ids_pairwise 6).imp Fin.ne_of_lt).filter fun n => (s.trains.get n).placed && s.holds n z) s n
    refine ⟨fun hp hz => ?_, fun h => ?_, ?_, (sectionCutNotice_traffic z s).cfg, fun hr hh hp hz w hw hc => ?_⟩
    · rw [sectionCutNotice_eq, htrain, if_pos (hmem.2 ⟨hp, hz⟩)]
      exact ⟨rfl, rfl, rfl, rfl, rfl, rfl, rfl, rfl, rfl, fun h => by simp [TrainRun.withdrawn, TrainRun.faulted, h],
        rfl, rfl, rfl, rfl, rfl⟩
    · rw [if_neg fun hm => by simp [hmem.1 hm] at h] at htrain
      exact htrain
    · exact List.foldlRecOn _ faultTrain (motive := fun t => t.line = s.line) rfl fun t h m _ =>
        (faultTrain_line t m).trans h
    · exact faultTrains_staged _ hr hh hc hw (.inl (hmem.2 ⟨hp, hz⟩))
  · refine ⟨fun u hu hst ho hr hh => ?_, fun hu h => refuses ht ?_, fun u h hu hst ho hhold hne => refuses ht ?_,
      fun hst hcut => ?_, fun hst hcut => refuses ht ?_, fun hst => refuses ht ?_⟩
    · have hact : findAct x.val e n s = taken (findTrain n x e u s) := by
        have : ¬ ((s.units.get u).holder ≠ none ∧ (s.units.get u).holder ≠ some n) := by
          rcases hh with h | h <;> simp [h]
        simp only [findAct, asId_val, hu]
        rw [if_neg (by simp [hst, ho]), if_neg this]
      have hy := findTrain_train n x e u s
      refine ⟨findTrain n x e u s, _, answers ht (trainLine_of_route hact (by rw [hy]; rfl)), rfl, ?_, ?_, ?_, ?_, ?_,
        findTrain_holdings ha hst hh, ?_, (findTrain_units ha hst hh hr u).2 rfl,
        fun v hv h => hv ((findTrain_units ha hst hh hr v).1 h)⟩ <;> rw [hy] <;> rfl
    · obtain ⟨u, hu⟩ := Option.ne_none_iff_exists'.1 hu
      refine trainLine_of_refused ?_
      simp only [findAct, asId_val, hu]
      exact if_pos (by simpa using h)
    · refine trainLine_of_refused ?_
      simp only [findAct, asId_val, hu]
      rw [if_neg (by simp [hst, ho]), if_pos (by simp [hhold, hne])]
    · have hact : resumeAct n s = taken (comeBack s n) := by
        rw [resumeAct, if_neg (by simp [hst]), if_neg]
        simpa [State.sectionCut, mem_heldSections] using hcut
      obtain ⟨hunits, hstate⟩ := restartCabTimer_keeps n (comeBack s n)
      refine ⟨restartCabTimer n (comeBack s n), answers ht (trainLine_of_ok hact), ?_, ?_⟩
      · rw [hunits, comeBack_eq]; rfl
      · rw [hstate, comeBack_eq, State.modTrain_self]
        rw [backFrom_state]
    · refine trainLine_of_refused ?_
      rw [resumeAct, if_neg (by simp [hst]), if_pos]
      simpa [State.sectionCut, mem_heldSections] using hcut
    · exact trainLine_of_refused (if_pos hst)

end Sys2Proof.Proofs.Placing
end

section
-- One theorem after the other: side by side, waiting proofs would pile up.
set_option Elab.async false
/-! SUPPORT. Serving a stop, coming to rest, route starts, parking and CAB lines as changes of one train's record
(R139, R141, R151, R152, R156, R157). -/

namespace Sys2Proof.Machine

open Sys2Proof.Safety

theorem modTrain_congr {s : State} {n : Train} {f g : TrainRun → TrainRun}
    (h : f (s.trains.get n) = g (s.trains.get n)) : s.modTrain n f = s.modTrain n g := by
  unfold State.modTrain
  rw [Table.modify_eq_set, Table.modify_eq_set, h]

/-- Throws and notices leave all of a train but its authority and its powered set. -/
theorem Stirs.redraws {s t : State} (h : Stirs s t) : TrainsRedraw s t := by
  induction h with
  | same _ ht _ _ => exact fun m => by rw [ht]
  | refresh m s => exact (refreshAuthority_redraws m s).trains
  | trans _ _ ih ih' => exact fun m => by rw [ih' m, ih m]

/-! ## The turnabout in a changed record (R157) -/

/-- Two records agree in what a turnabout reads and writes. -/
structure TrainRun.Alike (x y : TrainRun) : Prop where
  span : y.span = x.span
  orientation : y.orientation = x.orientation
  headPos : y.headPos = x.headPos
  holdings : y.holdings = x.holdings

theorem TrainRun.Alike.refl (x : TrainRun) : x.Alike x := ⟨rfl, rfl, rfl, rfl⟩

/-- A train has turned about from a state whose configuration and whose record of it agree in what is turned, and
what has changed since is none of it. -/
theorem turned_of_alike {s t : State} {n : Train} {x y z : TrainRun} (hc : t.cfg = s.cfg)
    (ha : ReservationsAgree s → ReservationsAgree t) (hx : x.Alike (t.trains.get n))
    (hz : z = (turnabout n t).trains.get n) (hy : z.Alike y)
    (hp : y.pending = z.pending) (hr : y.request = z.request) (hd : y.deadlock = z.deadlock) :
    TurnedAbout s n x y := by
  obtain ⟨h1, h2, h3, h4, h5, h6, h7⟩ := turnabout_turned n t
  rw [← hz] at h1 h2 h3 h4 h5 h6 h7
  rw [hx.span, hx.headPos, hc] at h6
  refine ⟨?_, ?_, hp.trans h3, hr.trans h4, hd.trans h5, fun e len tail he hl ht => hy.headPos.trans (h6 e len tail he hl ht),
    fun h => ?_⟩
  · rw [hy.span, h1, hx.span]
  · rw [hy.orientation, h2, hx.orientation]
  · rw [hy.holdings, h7 (ha h), hx.span, hx.holdings, hc]

theorem turnabout_units {s : State} (n : Train) (ha : ReservationsAgree s) (u : Section) :
    ((turnabout n s).units.get u).holder = some n ↔
      (s.units.get u).holder = some n ∧ ∃ e ∈ (s.trains.get n).span, s.cfg.unitKey e.sec = some u := by
  rw [← (turnabout_agree (n := n) ha).1 n u, turnabout_holdings ha, ← ha.1 n u, List.mem_filter, decide_eq_true_eq]

/-- A turnabout leaves the mode, the step and the configuration, so the step wanted. -/
theorem turnabout_wanted (n : Train) (s : State) : (turnabout n s).wanted n = s.wanted n := by
  unfold State.wanted
  rw [(turnabout_traffic n s).cfg, turnabout_train]
  rfl

/-! ## Serving a stop (R141) -/

/-- A train at rest at a served stop. -/
def TrainRun.stopped (t : TrainRun) : TrainRun :=
  { t with served := true, cause := none, reason := none, target := 0, speed := 0, duty := 0 }

/-- A train whose dwell is over: it waits, for no reason but a deadlock, or under the halt is HALTED. -/
def TrainRun.resumed (halt : Bool) (t : TrainRun) : TrainRun :=
  { t with
    dwell := 0, state := if halt then .halted else .waiting, cause := none
    reason := if t.deadlock = true ∧ halt = false then some .deadlock else none }

theorem waitingRun_undwelled (halt : Bool) (t : TrainRun) :
    waitingRun halt none { t with dwell := 0 } = t.resumed halt := by
  cases halt <;> cases h : t.deadlock <;> simp [waitingRun, TrainRun.resumed, TrainRun.waitReason, h]

theorem serveStop_of_end {n : Train} {s : State} (h : s.servedDwell n = none) : serveStop n s =
    refreshAuthority n (s.modTrain n fun t => { t.stopped with state := .parked, route := none }) := by
  simp only [serveStop, h]
  rw [modTrain_modTrain]
  rfl

theorem serveStop_of_dwell {n : Train} {s : State} {k : Nat} (h : s.servedDwell n = some k) (hk : k ≠ 0) :
    serveStop n s =
      refreshAuthority n (s.modTrain n fun t => { t.stopped with state := .dwelling, dwell := k }) := by
  obtain ⟨k, rfl⟩ := Nat.exists_eq_succ_of_ne_zero hk
  simp only [serveStop, h]
  rw [modTrain_modTrain]
  rfl

theorem serveStop_of_zero {n : Train} {s : State} (h : s.servedDwell n = some 0) : serveStop n s =
    refreshAuthority n (askAllThrows n (s.modTrain n fun t => t.stopped.resumed s.halt)) := by
  have hrun : (fun t : TrainRun => waitingRun s.halt none { t.stopped with dwell := 0 }) =
      fun t => t.stopped.resumed s.halt :=
    funext fun t => waitingRun_undwelled ..
  simp only [serveStop, h]
  rw [enterWaiting, enterWaitingFor_eq, modTrain_modTrain, modTrain_modTrain, ← hrun]
  rfl

theorem servedDwell_of_route {n : Train} {s : State} {r : RouteId} {i : Nat} {d : RouteDef}
    (hr : (s.trains.get n).route = some (r, i)) (hd : s.cfg.routes.get r = some d) : s.servedDwell n =
      if d.atEnd i && !d.loop then none
      else some (((d.at i).bind fun p => p.stop.map fun st => st.dwell).getD 0) := by
  simp only [State.servedDwell, hr, hd]

section

variable {n : Train} {s : State} {r : RouteId} {i : Nat} {d : RouteDef}
  (hr : (s.trains.get n).route = some (r, i)) (hd : s.cfg.routes.get r = some d)
include hr hd

theorem servedDwell_of_end (hl : d.loop = false) (hi : d.positions.length = i + 1) : s.servedDwell n = none := by
  rw [servedDwell_of_route hr hd, if_pos]
  simp [RouteDef.atEnd, hl, hi]

theorem servedDwell_of_stop {p : RoutePos} {st : Stop} (h : d.loop = true ∨ d.positions.length ≠ i + 1)
    (hp : d.positions[i]? = some p) (hs : p.stop = some st) : s.servedDwell n = some st.dwell := by
  rw [servedDwell_of_route hr hd, if_neg]
  · simp [RouteDef.at, hp, hs]
  · rcases h with h | h <;> simp [RouteDef.atEnd, h]

end

/-- What serving a stop leaves of the train, by the dwell of its stop (R141). -/
theorem serveStop_cases (n : Train) (s : State) : ∃ f : TrainRun → TrainRun,
    ((s.servedDwell n = none ∧ f = fun t => { t.stopped with state := .parked, route := none }) ∨
      (s.servedDwell n = some 0 ∧ f = fun t => t.stopped.resumed s.halt) ∨
      ∃ k, k ≠ 0 ∧ s.servedDwell n = some k ∧ f = fun t => { t.stopped with state := .dwelling, dwell := k }) ∧
    TrainsRedraw (s.modTrain n f) (serveStop n s) := by
  cases h : s.servedDwell n with
  | none =>
    refine ⟨_, .inl ⟨rfl, rfl⟩, ?_⟩
    rw [serveStop_of_end h]
    exact (refreshAuthority_redraws ..).trains
  | some k =>
    by_cases hk : k = 0
    · subst hk
      refine ⟨_, .inr (.inl ⟨rfl, rfl⟩), ?_⟩
      rw [serveStop_of_zero h]
      exact ((askAllThrows_stirs ..).trans (.refresh ..)).redraws
    · refine ⟨_, .inr (.inr ⟨k, hk, rfl, rfl⟩), ?_⟩
      rw [serveStop_of_dwell h hk]
      exact (refreshAuthority_redraws ..).trains

/-! ## Parking, waiting and stopping -/

/-- A train that has become PARKED. -/
def TrainRun.parked (t : TrainRun) : TrainRun :=
  { t with state := .parked, target := 0, cause := none, reason := none, dwell := 0 }

/-- A moving train that stops by a command. -/
def TrainRun.halting (t : TrainRun) : TrainRun :=
  { t with state := .stopping, target := 0, cause := some .command, cabSince := false }

theorem park_eq (n : Train) (s : State) : park n s = s.modTrain n TrainRun.parked := rfl

theorem startStopping_eq (n : Train) (s : State) : startStopping .command n s = s.modTrain n TrainRun.halting := rfl

theorem waitingRun_state (halt : Bool) (r : Option WaitReason) (t : TrainRun) :
    (waitingRun halt r t).state = if halt then .halted else .waiting := by cases halt <;> rfl

theorem waitingRun_alike (halt : Bool) (r : Option WaitReason) (t : TrainRun) : t.Alike (waitingRun halt r t) ∧
    (waitingRun halt r t).pending = t.pending ∧ (waitingRun halt r t).request = t.request ∧
    (waitingRun halt r t).deadlock = t.deadlock ∧ (waitingRun halt r t).cause = none := by
  cases halt <;> exact ⟨⟨rfl, rfl, rfl, rfl⟩, rfl, rfl, rfl, rfl⟩

theorem waitingRun_undead (halt : Bool) {t : TrainRun} (h : t.deadlock = false) : waitingRun halt none t =
    { t with state := if halt then .halted else .waiting, cause := none, reason := none } := by
  cases halt <;> simp [waitingRun, TrainRun.waitReason, h]

theorem endDwell_eq (n : Train) (s : State) : endDwell n s =
    askAllThrows n (s.modTrain n (TrainRun.resumed s.halt)) := by
  rw [endDwell, enterWaiting, enterWaitingFor_eq, modTrain_modTrain]
  simp only [State.modTrain_halt, waitingRun_undwelled]

/-! ## Coming to rest (R139) -/

section

variable {n : Train} {s : State}

theorem comeToRest_of_served (hc : (s.trains.get n).cause = some .stop)
    (h : (s.trains.get n).mode = .route ∧ s.headStop n ≠ none) : comeToRest n s = serveStop n s := by
  simp only [comeToRest, hc]
  exact if_pos ⟨h.1, Option.isSome_iff_ne_none.2 h.2⟩

theorem comeToRest_of_wait (h : (s.trains.get n).cause = some .authority ∨
    ((s.trains.get n).cause = some .stop ∧ ¬ ((s.trains.get n).mode = .route ∧ s.headStop n ≠ none))) :
    comeToRest n s = s.modTrain n (waitingRun s.halt (some .authority)) := by
  rcases h with h | ⟨h, hn⟩
  · simp only [comeToRest, h]; rfl
  · simp only [comeToRest, h]
    exact if_neg fun g => hn ⟨g.1, Option.isSome_iff_ne_none.1 g.2⟩

theorem comeToRest_of_command (hc : (s.trains.get n).cause = some .command)
    (hp : (s.trains.get n).pending = none ∨ (s.trains.get n).pending = some (s.trains.get n).orientation) :
    comeToRest n s = s.modTrain n TrainRun.parked := by
  simp only [comeToRest, hc, restByCommand]
  exact if_neg (by rcases hp with hp | hp <;> simp [hp])

theorem comeToRest_of_turn {o : Orientation} (hc : (s.trains.get n).cause = some .command)
    (hp : (s.trains.get n).pending = some o) (ho : o ≠ (s.trains.get n).orientation) :
    comeToRest n s = (turnabout n s).modTrain n fun t =>
      if s.wanted n = 0 ∨ ((s.trains.get n).mode = .route ∧ (s.trains.get n).route = none)
      then t.parked else waitingRun s.halt none t := by
  simp only [comeToRest, hc, restByCommand]
  rw [if_pos (by simp [hp, ho]), turnabout_wanted]
  split
  · exact park_eq ..
  · rw [enterWaiting, enterWaitingFor_eq, (turnabout_traffic n s).halt]

end

/-! ## Route starts (R151) -/

/-- A train that starts a route. -/
def TrainRun.started (r : RouteId) (t : TrainRun) : TrainRun :=
  { t with mode := .route, route := some (r, 0), served := true, dwell := 0, cabTimer := none }

/-- The state of a route start before the train asks for its throws. -/
def setOut (n : Train) (r : RouteId) (turn : Bool) (s : State) : State :=
  (withdraw n (if turn then turnabout n s else s)).modTrain n (TrainRun.started r)

theorem setOut_halt (n : Train) (r : RouteId) (turn : Bool) (s : State) : (setOut n r turn s).halt = s.halt := by
  have h : Traffic s (withdraw n (if turn then turnabout n s else s)) := by
    cases turn
    · exact withdraw_traffic n s
    · exact (turnabout_traffic n s).trans (withdraw_traffic ..)
  exact h.halt

theorem setOut_train (n : Train) (r : RouteId) (turn : Bool) (s : State) : (setOut n r turn s).trains.get n =
    { (((if turn then turnabout n s else s).trains.get n).withdrawn.started r) with
      authority := ((setOut n r turn s).trains.get n).authority
      powered := ((setOut n r turn s).trains.get n).powered } := by
  rw [setOut, State.modTrain_self, withdraw_train, if_pos rfl]
  rfl

theorem startRoute_eq (n : Train) (r : RouteId) (turn : Bool) (s : State) : startRoute n r turn s =
    (refreshAuthority n (askAllThrows n (setOut n r turn s))).modTrain n fun t =>
      { t with state := if s.halt then .halted else .waiting, cause := none, reason := none } := by
  have hst : Stirs (setOut n r turn s) (refreshAuthority n (askAllThrows n (setOut n r turn s))) :=
    (askAllThrows_stirs ..).trans (.refresh ..)
  have he : startRoute n r turn s = enterWaiting n (refreshAuthority n (askAllThrows n (setOut n r turn s))) := rfl
  rw [he, enterWaiting, enterWaitingFor_eq, hst.heeds.halt, setOut_halt]
  refine modTrain_congr (waitingRun_undead _ ?_)
  rw [hst.redraws n, setOut_train]
  rfl

theorem startRoute_train (n : Train) (r : RouteId) (turn : Bool) (s : State) : (startRoute n r turn s).trains.get n =
    { (((if turn then turnabout n s else s).trains.get n).withdrawn.started r) with
      state := if s.halt then .halted else .waiting, cause := none, reason := none
      authority := ((startRoute n r turn s).trains.get n).authority
      powered := ((startRoute n r turn s).trains.get n).powered } := by
  have hst : Stirs (setOut n r turn s) (refreshAuthority n (askAllThrows n (setOut n r turn s))) :=
    (askAllThrows_stirs ..).trans (.refresh ..)
  rw [startRoute_eq, State.modTrain_self, hst.redraws n, setOut_train]

theorem startPath_of {t : TrainRun} {d : RouteDef} {p : RoutePos} {h : SpanElt} (hp : d.positions.head? = some p)
    (hh : t.span.getLast? = some h) : startPath t d =
      if h.sec ≠ p.sec then none else if h.entry = p.entry then some false
      else if t.span.length = 1 then some true else none := by
  simp only [startPath, TrainRun.head, hp, hh]

/-! ## Parking a train in ROUTE mode (R152) -/

theorem parkRoute_train (n : Train) (s : State) : (parkRoute n s).trains.get n =
    { (if (s.trains.get n).moving then TrainRun.halting else TrainRun.parked)
        { (s.trains.get n).withdrawn with route := none, served := false } with
      authority := ((parkRoute n s).trains.get n).authority
      powered := ((parkRoute n s).trains.get n).powered } := by
  obtain ⟨t, ht⟩ : ∃ t, t = (withdraw n s).modTrain n fun t => { t with route := none, served := false } := ⟨_, rfl⟩
  have hself : t.trains.get n = { ({ (s.trains.get n).withdrawn with route := none, served := false } : TrainRun) with
      authority := (t.trains.get n).authority, powered := (t.trains.get n).powered } := by
    rw [ht, State.modTrain_self, withdraw_train, if_pos rfl]
  have hm : (t.trains.get n).moving = (s.trains.get n).moving := by rw [hself]; rfl
  have hp : parkRoute n s = if (s.trains.get n).moving then t.modTrain n TrainRun.halting
      else t.modTrain n TrainRun.parked := by rw [← hm, ht]; rfl
  rw [hp]
  split <;> rw [State.modTrain_self, hself] <;> rfl

end Sys2Proof.Machine
end

section

namespace Sys2Proof.Proofs.Dispatch

open Sys2Proof.Machine Sys2Proof.Safety

/-- What a turnabout leaves. -/
theorem turnabout_leaves (s : State) (n : Train) : TurnedAbout s n (s.trains.get n) ((turnabout n s).trains.get n) ∧
    (∃ v, turnabout n s = refreshAuthority n v) ∧ (turnabout n s).cfg = s.cfg ∧
    (ReservationsAgree s → ∀ u, ((turnabout n s).units.get u).holder = some n ↔
      (s.units.get u).holder = some n ∧ ∃ e ∈ (s.trains.get n).span, s.cfg.unitKey e.sec = some u) :=
  ⟨turnabout_turned n s, ⟨_, turnabout_eq n s⟩, (turnabout_traffic n s).cfg, fun ha => turnabout_units n ha⟩

section

variable {s : State} {n : Train} {r : RouteId} {d : RouteDef} {p : RoutePos} {h : SpanElt}
  (hd : s.cfg.routes.get r = some d) (hst : (s.trains.get n).state = .parked ∨ (s.trains.get n).state = .dwelling)
  (hp : d.positions.head? = some p) (hh : (s.trains.get n).span.getLast? = some h)
include hd hst hp hh

theorem go_taken (hsec : h.sec = p.sec) (hent : h.entry = p.entry ∨ (s.trains.get n).span.length = 1) :
    takeTrainGo n.val r.val s = (startRoute n r (!decide (h.entry = p.entry)) s, .ok) := by
  have hstart : (s.trains.get n).startable = true := by simpa [TrainRun.startable] using hst
  have hpath : startPath (s.trains.get n) d = some (!decide (h.entry = p.entry)) := by
    rw [startPath_of hp hh, if_neg (not_not.2 hsec)]
    by_cases he : h.entry = p.entry
    · rw [if_pos he, decide_eq_true he]; rfl
    · rw [if_neg he, if_pos (hent.resolve_left he), decide_eq_false he]; rfl
  refine trainLine_of_route ?_ (by rw [startRoute_train]; rfl)
  simp only [goAct, asId_val, hd, hstart, hpath]
  rfl

theorem go_refused (hno : h.sec ≠ p.sec ∨ (h.entry ≠ p.entry ∧ (s.trains.get n).span.length ≠ 1)) :
    takeTrainGo n.val r.val s = refuse .path s := by
  have hstart : (s.trains.get n).startable = true := by simpa [TrainRun.startable] using hst
  have hpath : startPath (s.trains.get n) d = none := by
    rw [startPath_of hp hh]
    rcases hno with h | ⟨h, hl⟩
    · exact if_pos h
    · rw [if_neg h, if_neg hl, ite_self]
  refine trainLine_of_refused ?_
  simp only [goAct, asId_val, hd, hstart, hpath]
  rfl

end

/-- A route start of a train that does not turn leaves its place, one that turns leaves it turned about. -/
theorem startRoute_turned (n : Train) (r : RouteId) (s : State) :
    TurnedAbout s n (s.trains.get n) ((startRoute n r true s).trains.get n) := by
  obtain ⟨z, hz⟩ : ∃ z, z = (turnabout n s).trains.get n := ⟨_, rfl⟩
  have hr : z.request = none := by rw [hz, turnabout_train]
  have hd : z.deadlock = false := by rw [hz, turnabout_train]
  have hy := startRoute_train n r true s
  rw [if_pos rfl, ← hz] at hy
  exact turned_of_alike (t := s) rfl id (.refl _) hz (by rw [hy]; exact ⟨rfl, rfl, rfl, rfl⟩) (by rw [hy]; rfl)
    (by rw [hy, hr]; rfl) (by rw [hy, hd]; rfl)

/-- `PARK` of a train in ROUTE mode that is in service and not PARKED. -/
theorem park_taken {s : State} {n : Train} (hm : (s.trains.get n).mode = .route)
    (hd : (s.trains.get n).drivable = true) (hp : (s.trains.get n).state ≠ .parked) :
    takeTrainPark n.val s = (parkRoute n s, .ok) := by
  refine trainLine_of_route ?_ ?_
  · simp only [parkAct, hd, hm]
    exact if_neg hp
  · rw [parkRoute_train]
    split <;> exact hm

/-- Settles O35: the turnabout by its own lemmas, a served stop by its dwell, coming to rest by the stop cause, a route
start by `startRoute_train`, `PARK` by `parkRoute_train`, the end of a dwell by `endDwell_eq`. -/
theorem dispatchLines : Obligations.DispatchLines := by
  refine ⟨turnabout_leaves, fun s n x y hx hy => ?_, fun s n x r i d p st rest hx hr hd hp hs hrest => ?_,
    fun s t n x y served hx ht hy hserved => ?_, fun s n x hx => ⟨fun r d p h ht hd hst hp hh hsec hent => ?_,
      fun r d p h ht hd hst hp hh hno => ?_, fun r ht hd => ?_, fun r ht hd hpk hdw => ?_, fun ht hm hmv => ?_,
      fun ht hm hst => ?_, fun ht hm hst => ?_, fun ht hst => ?_, fun hr hst => ?_, fun hr hst => ?_⟩⟩
  · subst hx hy
    obtain ⟨f, hf, hd⟩ := serveStop_cases n s
    rw [hd n, State.modTrain_self]
    rcases hf with ⟨h, rfl⟩ | ⟨h, rfl⟩ | ⟨k, hk, h, rfl⟩
    · refine ⟨rfl, rfl, rfl, rfl, rfl, rfl, rfl, fun _ => rfl, fun r i d hr hd => ⟨fun _ _ => ⟨rfl, rfl⟩,
        fun p st hlast hp hs => ?_⟩⟩
      rw [servedDwell_of_stop hr hd hlast hp hs] at h
      cases h
    · refine ⟨rfl, rfl, rfl, rfl, rfl, rfl, rfl, fun hw => ?_, fun r i d hr hd => ⟨fun hl hi => ?_,
        fun p st hlast hp hs => ?_⟩⟩
      · have : s.halt = true := by
          by_contra hh
          exact hw (by simp [TrainRun.resumed, hh])
        simp [TrainRun.resumed, this]
      · rw [servedDwell_of_end hr hd hl hi] at h
        cases h
      · rw [servedDwell_of_stop hr hd hlast hp hs, Option.some_inj] at h
        exact ⟨rfl, fun hne => absurd h hne, fun _ => ⟨rfl, rfl⟩⟩
    · refine ⟨rfl, rfl, rfl, rfl, rfl, rfl, rfl, fun _ => rfl, fun r i d hr hd => ⟨fun hl hi => ?_,
        fun p st hlast hp hs => ?_⟩⟩
      · rw [servedDwell_of_end hr hd hl hi] at h
        cases h
      · rw [servedDwell_of_stop hr hd hlast hp hs, Option.some_inj] at h
        exact ⟨rfl, fun _ => ⟨rfl, h.symm⟩, fun h0 => absurd (h.symm.trans h0) hk⟩
  · subst hx
    have hrest : rest = TrainRun.stopped := funext hrest
    subst hrest
    refine ⟨fun hl hi => serveStop_of_end (servedDwell_of_end hr hd hl hi), fun hlast =>
      ⟨serveStop_of_dwell (servedDwell_of_stop hr hd hlast hp hs), fun h0 => ?_⟩⟩
    have hz := servedDwell_of_stop hr hd hlast hp hs
    rw [h0] at hz
    exact ⟨_, _, rfl, askAllThrows_asks n _, serveStop_of_zero hz⟩
  · subst hx ht hy
    refine ⟨fun hc h => comeToRest_of_served hc (hserved.1 h), fun h => comeToRest_of_wait (by rwa [hserved] at h),
      comeToRest_of_command, fun o hc hp ho => ?_⟩
    rw [comeToRest_of_turn hc hp ho, State.modTrain_self]
    obtain ⟨z, hz⟩ : ∃ z, z = (turnabout n s).trains.get n := ⟨_, rfl⟩
    rw [← hz]
    split
    · exact ⟨turned_of_alike (t := s) rfl id (.refl _) hz ⟨rfl, rfl, rfl, rfl⟩ rfl rfl rfl, rfl, rfl⟩
    · obtain ⟨hw, hp, hr, hd, hcause⟩ := waitingRun_alike s.halt none z
      exact ⟨turned_of_alike (t := s) rfl id (.refl _) hz hw hp hr hd, hcause, waitingRun_state ..⟩
  · subst hx
    have hy := startRoute_train n r (!decide (h.entry = p.entry)) s
    refine ⟨_, _, answers ht (go_taken hd hst hp hh hsec hent), rfl, by rw [hy],
      by rw [hy]; rfl, by rw [hy]; rfl, by rw [hy]; rfl, by rw [hy]; rfl, by rw [hy]; rfl, by rw [hy]; rfl,
      fun he => ?_, fun he => ?_, setOut n r (!decide (h.entry = p.entry)) s, _, ?_, askAllThrows_asks n _,
      startRoute_eq n r _ s⟩
    · rw [hy, decide_eq_true he]
      exact ⟨rfl, rfl, rfl⟩
    · rw [decide_eq_false he]
      exact startRoute_turned n r s
    · by_cases he : h.entry = p.entry <;> simp [setOut, he] <;> rfl
  · subst hx
    exact refuses ht (go_refused hd hst hp hh hno)
  · exact refuses ht (trainLine_of_refused (by simp only [goAct, asId_val, hd]))
  · obtain ⟨d, hd⟩ := Option.ne_none_iff_exists'.1 hd
    subst hx
    refine refuses ht (trainLine_of_refused ?_)
    simp only [goAct, asId_val, hd]
    exact if_pos (by simp [TrainRun.startable, hpk, hdw])
  · subst hx
    have hst : (s.trains.get n).state = .running ∨ (s.trains.get n).state = .stopping := moving_iff.1 hmv
    have hd : (s.trains.get n).drivable = true := by rcases hst with h | h <;> simp only [TrainRun.drivable, h]
    have hy := parkRoute_train n s
    rw [hmv, if_pos rfl] at hy
    refine ⟨_, _, answers ht (park_taken hm hd ?_), rfl, ?_⟩
    · rcases hst with h | h <;> simp [h]
    · rw [hy]
      exact ⟨rfl, rfl, rfl, rfl, rfl, rfl⟩
  · subst hx
    have hd : (s.trains.get n).drivable = true := by rcases hst with h | h <;> simp only [TrainRun.drivable, h]
    have hmv : (s.trains.get n).moving = false := by rcases hst with h | h <;> simp only [TrainRun.moving, h]
    have hy := parkRoute_train n s
    rw [hmv, if_neg Bool.false_ne_true] at hy
    refine ⟨_, _, answers ht (park_taken hm hd ?_), rfl, ?_⟩
    · rcases hst with h | h <;> simp [h]
    · rw [hy]
      exact ⟨rfl, rfl, rfl⟩
  · subst hx
    refine answers ht (trainLine_of_route ?_ hm)
    have hd : (s.trains.get n).drivable = true := by simp only [TrainRun.drivable, hst]
    simp only [parkAct, hd, hm]
    exact if_pos hst
  · subst hx
    refine refuses ht (trainLine_of_refused (if_pos ?_))
    rcases hst with h | h | h | h <;> simp only [TrainRun.drivable, h]
  · subst hx
    have hrun : dwellEnd n s = askAllThrows n (s.modTrain n (TrainRun.resumed s.halt)) :=
      (if_pos hst).trans (endDwell_eq n s)
    have hy := (askAllThrows_stirs n (s.modTrain n (TrainRun.resumed s.halt))).redraws n
    rw [State.modTrain_self] at hy
    refine ⟨_, _, happens (f := dwellEnd n) hr hrun, rfl, ?_⟩
    rw [hy]
    exact ⟨rfl, rfl, rfl, rfl, askAllThrows_asks n _⟩
  · subst hx
    exact happens (f := dwellEnd n) hr (if_neg hst)

end Sys2Proof.Proofs.Dispatch
end

section
-- One theorem after the other: side by side, waiting proofs would pile up.
set_option Elab.async false
/-! SUPPORT. CAB lines as changes of one train's record (R156). -/

namespace Sys2Proof.Machine

open Sys2Proof.Safety

/-! ## A train becomes a CAB train -/

/-- The fields a CAB line sets. -/
def TrainRun.inCab (step : Nat) (t : TrainRun) : TrainRun :=
  { t with mode := .cab, cabStep := step, route := none, served := false, dwell := 0, cabSince := true }

/-- A CAB train at its line: a request given up with the route, and a train at rest WAITING. -/
def TrainRun.cabbed (halt : Bool) (step : Nat) (t : TrainRun) : TrainRun :=
  let z := (if t.mode = .route then t.withdrawn else t).inCab step
  if t.startable then waitingRun halt none z else z

theorem enterCab_train (n : Train) (step : Nat) (s : State) : (enterCab n step s).trains.get n =
    { (s.trains.get n).cabbed s.halt step with
      authority := ((enterCab n step s).trains.get n).authority
      powered := ((enterCab n step s).trains.get n).powered } := by
  obtain ⟨v, hv⟩ : ∃ v, v = if (s.trains.get n).mode = .route then withdraw n s else s := ⟨_, rfl⟩
  have hself : v.trains.get n =
      { (if (s.trains.get n).mode = .route then (s.trains.get n).withdrawn else s.trains.get n) with
        authority := (v.trains.get n).authority, powered := (v.trains.get n).powered } := by
    rw [hv]
    split
    · rw [withdraw_train, if_pos rfl]
    · rfl
  have hh : v.halt = s.halt := by
    rw [hv]
    split
    · exact (withdraw_traffic n s).halt
    · rfl
  have he : enterCab n step s = if (s.trains.get n).startable
      then (v.modTrain n (TrainRun.inCab step)).modTrain n (waitingRun s.halt none)
      else v.modTrain n (TrainRun.inCab step) := by
    rw [← hh, hv]; rfl
  rw [he]
  unfold TrainRun.cabbed
  split
  · rw [State.modTrain_self, State.modTrain_self, hself]
    cases s.halt <;> rfl
  · rw [State.modTrain_self, hself]
    rfl

theorem cabbed_keeps (halt : Bool) (step : Nat) (t : TrainRun) : t.Alike (t.cabbed halt step) ∧
    (t.cabbed halt step).mode = .cab ∧ (t.cabbed halt step).route = none ∧ (t.cabbed halt step).cabStep = step ∧
    (t.cabbed halt step).speed = t.speed ∧ (t.cabbed halt step).pending = t.pending ∧
    (t.cabbed halt step).cabSince = true := by
  unfold TrainRun.cabbed
  cases halt <;> cases t.startable <;> cases t.mode <;> exact ⟨⟨rfl, rfl, rfl, rfl⟩, rfl, rfl, rfl, rfl, rfl, rfl⟩

theorem cabbed_request (halt : Bool) (step : Nat) (t : TrainRun) :
    (t.cabbed halt step).request = if t.mode = .route then none else t.request := by
  unfold TrainRun.cabbed
  cases halt <;> cases t.startable <;> cases t.mode <;> rfl

theorem cabbed_state (halt : Bool) (step : Nat) (t : TrainRun) : (t.cabbed halt step).state =
    if t.state = .parked ∨ t.state = .dwelling then (if halt then .halted else .waiting) else t.state := by
  have hs : (if t.mode = .route then t.withdrawn else t).state = t.state := by split <;> rfl
  have hst : t.startable = true ↔ t.state = .parked ∨ t.state = .dwelling := by simp [TrainRun.startable]
  unfold TrainRun.cabbed
  simp only [hst]
  split
  · exact waitingRun_state ..
  · exact hs

theorem cabbed_moving (halt : Bool) (step : Nat) (t : TrainRun) : (t.cabbed halt step).moving = t.moving := by
  unfold TrainRun.moving
  rw [cabbed_state]
  by_cases h : t.state = .parked ∨ t.state = .dwelling
  · rw [if_pos h]
    rcases h with h | h <;> rw [h] <;> cases halt <;> rfl
  · rw [if_neg h]

/-! ## The turn a CAB line asks for -/

/-- The state of a CAB line after its orientation. -/
def cabOriented (n : Train) (o : Option Orientation) (s : State) : State :=
  match o with
  | none => s
  | some o => if o = (s.trains.get n).orientation then s else cabTurn n o s

theorem driveCab_eq (n : Train) (step : Nat) (o : Option Orientation) (s : State) : driveCab n step o s =
    if step = 0 then cabZero n (cabOriented n o (enterCab n step s)) else cabOriented n o (enterCab n step s) := rfl

section

variable {n : Train} {o : Option Orientation} {q : Orientation} {s : State}

theorem cabOriented_of_same (h : o = none ∨ o = some (s.trains.get n).orientation) : cabOriented n o s = s := by
  rcases h with rfl | rfl
  · rfl
  · exact if_pos rfl

theorem cabOriented_of_rest (ho : o = some q) (hq : q ≠ (s.trains.get n).orientation)
    (hv : (s.trains.get n).speed = 0) : cabOriented n o s = turnabout n s := by
  subst ho
  exact (if_neg hq).trans (if_pos hv)

theorem cabOriented_of_motion (ho : o = some q) (hq : q ≠ (s.trains.get n).orientation)
    (hv : (s.trains.get n).speed ≠ 0) : (cabOriented n o s).trains.get n =
      { ({ s.trains.get n with pending := some q } : TrainRun).withdrawn.halting with
        authority := ((cabOriented n o s).trains.get n).authority
        powered := ((cabOriented n o s).trains.get n).powered } := by
  subst ho
  have he : cabOriented n (some q) s = (withdraw n (s.modTrain n fun t => { t with pending := some q })).modTrain n
      TrainRun.halting := (if_neg hq).trans (if_neg hv)
  rw [he, State.modTrain_self, withdraw_train, if_pos rfl, State.modTrain_self]
  rfl

/-- A CAB line's orientation is the present one, turns a train at rest about, or stops a moving one to turn. -/
theorem cabOriented_cases (n : Train) (o : Option Orientation) (s : State) :
    (o = none ∨ o = some (s.trains.get n).orientation) ∨
    (∃ q, o = some q ∧ q ≠ (s.trains.get n).orientation ∧ (s.trains.get n).speed = 0) ∨
    ∃ q, o = some q ∧ q ≠ (s.trains.get n).orientation ∧ (s.trains.get n).speed ≠ 0 := by
  cases o with
  | none => exact .inl (.inl rfl)
  | some q =>
    by_cases hq : q = (s.trains.get n).orientation
    · exact .inl (.inr (by rw [hq]))
    · by_cases hv : (s.trains.get n).speed = 0
      · exact .inr (.inl ⟨q, rfl, hq, hv⟩)
      · exact .inr (.inr ⟨q, rfl, hq, hv⟩)

end

/-- Two records of a train agree in what the orientation of a CAB line does not change. -/
structure TrainRun.Drives (x y : TrainRun) : Prop where
  mode : y.mode = x.mode
  route : y.route = x.route
  step : y.cabStep = x.cabStep
  speed : y.speed = x.speed
  request : x.request = none → y.request = none
  moving : x.moving = true → y.moving = true

theorem TrainRun.Drives.refl (x : TrainRun) : x.Drives x := ⟨rfl, rfl, rfl, rfl, id, id⟩

theorem cabOriented_drives (n : Train) (o : Option Orientation) (s : State) :
    (s.trains.get n).Drives ((cabOriented n o s).trains.get n) := by
  rcases cabOriented_cases n o s with h | ⟨q, ho, hq, hv⟩ | ⟨q, ho, hq, hv⟩
  · rw [cabOriented_of_same h]; exact .refl _
  · rw [cabOriented_of_rest ho hq hv, turnabout_train]
    exact ⟨rfl, rfl, rfl, rfl, fun _ => rfl, id⟩
  · rw [cabOriented_of_motion ho hq hv]
    exact ⟨rfl, rfl, rfl, rfl, fun _ => rfl, fun _ => rfl⟩

/-! ## A step of 0 -/

/-- A train at a CAB line with its step: a step of 0 stops it. -/
def TrainRun.stepped (step : Nat) (t : TrainRun) : TrainRun :=
  if step = 0 then (if t.moving then t.halting else t.parked) else t

theorem driveCab_train (n : Train) (step : Nat) (o : Option Orientation) (s : State) :
    (driveCab n step o s).trains.get n = ((cabOriented n o (enterCab n step s)).trains.get n).stepped step := by
  rw [driveCab_eq]
  unfold TrainRun.stepped cabZero
  split
  · split
    · exact State.modTrain_self ..
    · exact State.modTrain_self ..
  · rfl

theorem stepped_of_ne {step : Nat} (h : step ≠ 0) (t : TrainRun) : t.stepped step = t := if_neg h

theorem stepped_of_moving {t : TrainRun} (h : t.moving = true) : t.stepped 0 = t.halting := by
  rw [TrainRun.stepped, if_pos rfl, if_pos h]

theorem stepped_of_rest {t : TrainRun} (h : t.moving = false) : t.stepped 0 = t.parked := by
  rw [TrainRun.stepped, if_pos rfl, if_neg (by simp [h])]

theorem stepped_keeps (step : Nat) (t : TrainRun) : t.Alike (t.stepped step) ∧
    (t.stepped step).mode = t.mode ∧ (t.stepped step).route = t.route ∧ (t.stepped step).cabStep = t.cabStep ∧
    (t.stepped step).speed = t.speed ∧ (t.stepped step).pending = t.pending ∧
    (t.stepped step).request = t.request ∧ (t.stepped step).deadlock = t.deadlock := by
  unfold TrainRun.stepped
  split
  · split <;> exact ⟨⟨rfl, rfl, rfl, rfl⟩, rfl, rfl, rfl, rfl, rfl, rfl, rfl⟩
  · exact ⟨.refl t, rfl, rfl, rfl, rfl, rfl, rfl, rfl⟩

/-! ## The supervision timer -/

theorem cabExpiry_of_running {n : Train} {s : State} (h : (s.trains.get n).cabTimer ≠ none) : cabExpiry n s =
    if (s.trains.get n).cabStep = 0 then s.modTrain n fun t => { t with cabTimer := none }
    else (if (s.trains.get n).moving
      then (s.modTrain n fun t => { t with cabTimer := none, cabStep := 0 }).modTrain n TrainRun.halting
      else if (s.trains.get n).state = .waiting
      then (s.modTrain n fun t => { t with cabTimer := none, cabStep := 0 }).modTrain n TrainRun.parked
      else s.modTrain n fun t => { t with cabTimer := none, cabStep := 0 }).raise (.cab n) := by
  obtain ⟨v, hv⟩ := Option.ne_none_iff_exists'.1 h
  simp only [cabExpiry, hv]
  rw [modTrain_modTrain, State.modTrain_self, State.modTrain_self]
  rfl

end Sys2Proof.Machine
end

section

namespace Sys2Proof.Proofs.Cab

open Sys2Proof.Machine Sys2Proof.Safety

section

variable {s : State} {n : Train} {step : Nat} {o : Option Orientation}

theorem drivable_iff (t : TrainRun) : t.drivable = true ↔
    t.state = .parked ∨ t.state = .waiting ∨ t.moving = true ∨ t.state = .dwelling := by
  unfold TrainRun.drivable TrainRun.moving
  cases t.state <;> simp

/-- The train of a taken CAB line, its supervision timer started. -/
def driven (s : State) (n : Train) (step : Nat) (o : Option Orientation) : TrainRun :=
  { ((cabOriented n o (enterCab n step s)).trains.get n).stepped step with
    cabTimer := some (s.cfg.trains.get n).cabTime }

/-- What a CAB line leaves whatever its step and its orientation. -/
theorem driven_keeps (s : State) (n : Train) (step : Nat) (o : Option Orientation) :
    (driven s n step o).mode = .cab ∧ (driven s n step o).route = none ∧ (driven s n step o).cabStep = step ∧
    (driven s n step o).speed = (s.trains.get n).speed ∧
    ((s.trains.get n).mode = .route → (driven s n step o).request = none) := by
  have hx := enterCab_train n step s
  obtain ⟨-, hmode, hroute, hstep, hspeed, -, -⟩ := cabbed_keeps s.halt step (s.trains.get n)
  obtain ⟨dmode, droute, dstep, dspeed, drequest, -⟩ := cabOriented_drives n o (enterCab n step s)
  obtain ⟨-, smode, sroute, sstep, sspeed, -, srequest, -⟩ :=
    stepped_keeps step ((cabOriented n o (enterCab n step s)).trains.get n)
  refine ⟨?_, ?_, ?_, ?_, fun hm => ?_⟩
  · exact smode.trans (dmode.trans (by rw [hx]; exact hmode))
  · exact sroute.trans (droute.trans (by rw [hx]; exact hroute))
  · exact sstep.trans (dstep.trans (by rw [hx]; exact hstep))
  · exact sspeed.trans (dspeed.trans (by rw [hx]; exact hspeed))
  · refine srequest.trans (drequest ?_)
    rw [hx]
    exact (cabbed_request ..).trans (if_pos hm)

theorem cab_taken (hd : (s.trains.get n).drivable = true) : ∃ t : State,
    takeTrainCab n.val step o s = (t, okOr (decide (31 < step))) ∧ t.trains.get n = driven s n (min step 31) o := by
  have hact : cabAct step o n s = (driveCab n (min step 31) o s, okOr (decide (31 < step))) := by
    rw [cabAct, if_pos hd]; rfl
  have hy := driveCab_train n (min step 31) o s
  have hmode : ((driveCab n (min step 31) o s).trains.get n).mode = .cab := by
    rw [hy]
    exact (driven_keeps s n (min step 31) o).1
  have hcfg : (driveCab n (min step 31) o s).cfg = s.cfg :=
    (driveCab_moves (k := .none) id _ _ (drivable_placed hd)).traffic.cfg
  refine ⟨_, trainLine_of_taken hact (okOr_ne_no _), ?_⟩
  rw [restartCabTimer_of_cab hmode, hcfg, State.modTrain_self, hy]
  rfl

/-- With its present orientation, or none given, a train keeps orientation, pending turn and request. -/
theorem driven_same (h : o = none ∨ o = some (s.trains.get n).orientation) :
    driven s n step o = { ((enterCab n step s).trains.get n).stepped step with
      cabTimer := some (s.cfg.trains.get n).cabTime } := by
  unfold driven
  rw [cabOriented_of_same]
  rw [enterCab_train]
  rwa [(cabbed_keeps s.halt step (s.trains.get n)).1.orientation]

theorem driven_turned {q : Orientation} (ha : ReservationsAgree s → ReservationsAgree (enterCab n step s))
    (hc : (enterCab n step s).cfg = s.cfg) (ho : o = some q)
    (hq : q ≠ (s.trains.get n).orientation) (hv : (s.trains.get n).speed = 0) :
    TurnedAbout s n (s.trains.get n) (driven s n step o) := by
  have hx := enterCab_train n step s
  obtain ⟨halike, -, -, -, hspeed, -, -⟩ := cabbed_keeps s.halt step (s.trains.get n)
  have hor : ((enterCab n step s).trains.get n).orientation = (s.trains.get n).orientation := by
    rw [hx]; exact halike.orientation
  have he : cabOriented n o (enterCab n step s) = turnabout n (enterCab n step s) :=
    cabOriented_of_rest ho (by rwa [hor]) (by rw [hx]; exact hspeed.trans hv)
  obtain ⟨z, hz⟩ : ∃ z, z = (turnabout n (enterCab n step s)).trains.get n := ⟨_, rfl⟩
  obtain ⟨salike, -, -, -, -, spending, srequest, sdead⟩ := stepped_keeps step z
  unfold driven
  rw [he, ← hz]
  refine turned_of_alike hc ha ?_ hz ⟨salike.span, salike.orientation, salike.headPos, salike.holdings⟩ spending
    srequest sdead
  rw [hx]
  exact ⟨halike.span, halike.orientation, halike.headPos, halike.holdings⟩

/-- A moving train told the other orientation stops to turn. -/
theorem driven_stops {q : Orientation} (ho : o = some q) (hq : q ≠ (s.trains.get n).orientation)
    (hv : (s.trains.get n).speed ≠ 0) : (driven s n step o).orientation = (s.trains.get n).orientation ∧
      (driven s n step o).pending = some q ∧ (driven s n step o).state = .stopping ∧
      (driven s n step o).target = 0 ∧ (driven s n step o).cause = some .command ∧
      (driven s n step o).request = none ∧ (driven s n step o).cabSince = false := by
  have hx := enterCab_train n step s
  obtain ⟨halike, -, -, -, hspeed, -, -⟩ := cabbed_keeps s.halt step (s.trains.get n)
  have hor : ((enterCab n step s).trains.get n).orientation = (s.trains.get n).orientation := by
    rw [hx]; exact halike.orientation
  have hm := cabOriented_of_motion ho (s := enterCab n step s) (n := n) (by rwa [hor])
    (by rw [hx]; exact fun h => hv (hspeed.symm.trans h))
  unfold driven TrainRun.stepped
  rw [hm]
  split <;> exact ⟨hor, rfl, rfl, rfl, rfl, rfl, rfl⟩

/-- A step of 0 stops a train that moves, and parks one that does not. -/
theorem driven_zero (hm : (s.trains.get n).moving = true) : (driven s n 0 o).state = .stopping ∧
    (driven s n 0 o).cause = some .command ∧ (driven s n 0 o).cabSince = false := by
  have hmove : ((cabOriented n o (enterCab n 0 s)).trains.get n).moving = true := by
    refine (cabOriented_drives n o _).moving ?_
    rw [enterCab_train]
    exact (cabbed_moving ..).trans hm
  unfold driven
  rw [stepped_of_moving hmove]
  exact ⟨rfl, rfl, rfl⟩

theorem driven_parked (hm : (s.trains.get n).moving = false) (hv : (s.trains.get n).speed = 0) :
    (driven s n 0 o).state = .parked := by
  have hx := enterCab_train n 0 s
  have hxm : ((enterCab n 0 s).trains.get n).moving = false := by rw [hx]; exact (cabbed_moving ..).trans hm
  have hxv : ((enterCab n 0 s).trains.get n).speed = 0 := by
    rw [hx]; exact (cabbed_keeps s.halt 0 (s.trains.get n)).2.2.2.2.1.trans hv
  have hmove : ((cabOriented n o (enterCab n 0 s)).trains.get n).moving = false := by
    rcases cabOriented_cases n o (enterCab n 0 s) with h | ⟨q, ho, hq, h0⟩ | ⟨q, ho, hq, h0⟩
    · rw [cabOriented_of_same h]; exact hxm
    · rw [cabOriented_of_rest ho hq h0, turnabout_train]; exact hxm
    · exact absurd hxv h0
  unfold driven
  rw [stepped_of_rest hmove]
  rfl

end

/-- Settles O36: a CAB line by what it leaves of the train (`driven`), the supervision expiry by its branches. -/
theorem cabDriving : Obligations.CabDriving := by
  intro s n x hx
  subst hx
  refine ⟨fun step o ht hst => ?_, fun step o ht hst => refuses ht (trainLine_of_refused (if_neg ?_)), fun hm => ?_,
    fun hr h => happens hr ?_, fun hr h h0 => happens hr ?_, fun hr h h0 hm => happens hr ?_, fun hr h h0 hw => ?_⟩
  · have hd : (s.trains.get n).drivable = true := (drivable_iff _).2 hst
    obtain ⟨t, hline, hy⟩ := cab_taken (step := step) (o := o) hd
    obtain ⟨hmode, hroute, hstep, hspeed, hrequest⟩ := driven_keeps s n (min step 31) o
    have hm : Moves .none s (enterCab n (min step 31) s) := enterCab_moves id ..
    have hagree : ReservationsAgree s → ReservationsAgree (enterCab n (min step 31) s) :=
      Moves.agree (k := ⟨True, False, False⟩) trivial (enterCab_moves id ..)
    obtain ⟨kalike, -, -, -, -, kpending, ksince⟩ := cabbed_keeps s.halt (min step 31) (s.trains.get n)
    have hne (h : step ≠ 0) : min step 31 ≠ 0 := by omega
    refine ⟨t, _, answers ht hline, hy.symm, hmode, hroute, hstep, rfl, hspeed, fun h0 ho => ?_, fun h0 ho => ?_,
      fun q ho hq hv => driven_turned hagree hm.traffic.cfg ho hq hv, hrequest, fun hcab ho => ?_,
      fun q ho hq hv _ => driven_stops ho hq hv, fun h0 hmv => ?_, fun h0 hmv hv => ?_⟩
    · rw [driven_same ho, stepped_of_ne (hne h0), enterCab_train]
      exact ⟨kalike.orientation, cabbed_state ..⟩
    · rw [driven_same ho, stepped_of_ne (hne h0), enterCab_train]
      exact ⟨ksince, kpending⟩
    · rw [driven_same ho]
      refine (stepped_keeps ..).2.2.2.2.2.2.1.trans ?_
      rw [enterCab_train]
      exact (cabbed_request ..).trans (if_neg (by simp [hcab]))
    · subst h0; exact driven_zero hmv
    · subst h0; exact driven_parked hmv hv
  · rw [drivable_iff]
    rcases hst with h | h | h | h <;> simp [TrainRun.moving, h]
  · have hline : takeTrainPark n.val s = takeTrainCab n.val 0 none s := by
      have hact : parkAct n s = cabAct 0 none n s := by
        unfold parkAct cabAct
        simp only [hm]
        cases (s.trains.get n).drivable <;> rfl
      unfold takeTrainPark takeTrainCab trainLine
      simp only [asId_val, hact]
    show command (takeTrainPark n.val) s = command (takeTrainCab n.val 0 none) s
    unfold command lineCommand whenReady
    rw [hline]
  · simp only [cabExpiry, h]
  · rw [cabExpiry_of_running h, if_pos h0]
  · rw [cabExpiry_of_running h, if_neg h0, if_pos hm, modTrain_modTrain]
    rfl
  · have hm : (s.trains.get n).moving = false := by simp only [TrainRun.moving, hw]
    refine ⟨_, happens hr (by rw [cabExpiry_of_running h, if_neg h0, if_neg (by simp [hm]), if_pos hw]), ?_⟩
    rw [State.modTrain_self, State.modTrain_self]
    exact ⟨rfl, rfl, rfl⟩

end Sys2Proof.Proofs.Cab
end

section
-- One theorem after the other: side by side, waiting proofs would pile up.
set_option Elab.async false
/-! SUPPORT. The ways along a list of sections: which are found, and that they are the first (R94, R149). -/

namespace Sys2Proof.Machine

open Sys2Proof.Safety

theorem other_other (e : End) : other (other e) = e := by cases e <;> rfl

/-! ## The ways into a section -/

theorem mem_waysTo {c : Scene} {x u : Section} {e f : End} :
    f ∈ c.waysTo x e u ↔ Leads c ⟨x, other e⟩ ⟨u, f⟩ := by
  rw [← Scene.meets_iff_leads]
  simp only [Scene.waysTo, Scene.meets, other_other, List.mem_map, List.mem_filter, List.any_eq_true, beq_iff_eq]
  constructor
  · rintro ⟨p, ⟨hp, hs⟩, he⟩
    exact ⟨p, hp, by rw [← hs, ← he]⟩
  · rintro ⟨p, hp, he⟩
    exact ⟨p, ⟨hp, by rw [he]⟩, by rw [he]⟩

/-- Of two ways into a section the earlier goes through the normal leg of a turnout, the later through its reverse
leg (R94). -/
theorem waysTo_before {c : Scene} {x u : Section} {e f g : End} {as bs : List End}
    (h : c.waysTo x e u = as ++ f :: bs) (hg : g ∈ bs) : ∃ t d, c.link ⟨x, e⟩ = .leg t .trunk ∧
      c.turnouts.get t = some d ∧ ⟨u, f⟩ = d.normal ∧ ⟨u, g⟩ = d.reverse := by
  have hlen : 2 ≤ (c.waysTo x e u).length := by
    have := List.length_pos_of_mem hg
    rw [h, List.length_append, List.length_cons]
    omega
  unfold Scene.waysTo Scene.exits at h hlen
  cases hl : c.link ⟨x, e⟩ with
  | buffer => simp [hl] at hlen
  | join v i =>
    simp only [hl] at hlen
    exact absurd (hlen.trans (by simpa using List.length_filter_le _ _)) (by simp)
  | leg t l =>
    cases l with
    | branch b =>
      cases ht : c.turnouts.get t with
      | none => simp [hl, ht] at hlen
      | some d =>
        simp only [hl, ht] at hlen
        exact absurd (hlen.trans (by simpa using List.length_filter_le _ _)) (by simp)
    | trunk =>
      cases ht : c.turnouts.get t with
      | none => simp [hl, ht] at hlen
      | some d =>
        refine ⟨t, d, rfl, ht, ?_⟩
        simp only [hl, ht, List.filter_cons, List.filter_nil] at h hlen
        by_cases hn : d.normal.sec = u
        · by_cases hr : d.reverse.sec = u
          · simp only [hn, hr, beq_self_eq_true, if_true, List.map_cons, List.map_nil] at h
            obtain ⟨b', bs, rfl⟩ := List.exists_cons_of_ne_nil (List.ne_nil_of_mem hg)
            have has : as = [] := by
              have hl := congrArg List.length h
              simp only [List.length_append, List.length_cons, List.length_nil] at hl
              exact List.length_eq_zero_iff.1 (by omega)
            subst has
            cases h
            obtain rfl := List.mem_singleton.1 hg
            exact ⟨by rw [← hn], by rw [← hr]⟩
          · simp [hn, hr] at hlen
        · by_cases hr : d.reverse.sec = u <;> simp [hn, hr] at hlen

/-! ## The first ways -/

/-- The ends found along a list of sections lead one into another (R149). -/
theorem chooseWays_passable {c : Scene} {xs : List Section} : ∀ {x : Section} {e : End} {es : List SecEnd},
    c.chooseWays x e xs = some es → es.map SecEnd.sec = xs ∧ Passable c (⟨x, other e⟩ :: es) := by
  induction xs with
  | nil =>
    intro x e es h
    cases h
    exact ⟨rfl, passable_single _ _⟩
  | cons u us ih =>
    intro x e es h
    obtain ⟨f, hf, h⟩ := List.exists_of_findSome?_eq_some h
    obtain ⟨rest, hr, rfl⟩ := Option.map_eq_some_iff.1 h
    obtain ⟨hsec, hpass⟩ := ih hr
    rw [other_other] at hpass
    exact ⟨by rw [List.map_cons, hsec], (passable_cons ..).2 ⟨mem_waysTo.1 hf, hpass⟩⟩

/-- Where none are found, no ends lead one into another along the sections. -/
theorem chooseWays_none {c : Scene} {xs : List Section} : ∀ {x : Section} {e : End}, c.chooseWays x e xs = none →
    ∀ qs : List SecEnd, qs.map SecEnd.sec = xs → ¬ Passable c (⟨x, other e⟩ :: qs) := by
  induction xs with
  | nil => exact fun h => nomatch h
  | cons u us ih =>
    intro x e h qs hqs hp
    obtain ⟨⟨u', f⟩, rest, rfl, rfl, hrest⟩ := List.map_eq_cons_iff.1 hqs
    obtain ⟨hl, hp⟩ := (passable_cons ..).1 hp
    have hnone := List.findSome?_eq_none_iff.1 h f (mem_waysTo.2 hl)
    refine ih (x := u') (e := other f) (Option.map_eq_none_iff.1 hnone) rest hrest ?_
    rwa [other_other]

/-- The ends after the first two are the first choice, and the second is where no other passes or a turnout is
passed by its normal leg. -/
theorem firstWays_cons {c : Scene} {p q : SecEnd} {ps : List SecEnd} (h : FirstWays c 1 (q :: ps))
    (hq : ∀ q' qs, q'.sec = q.sec → q' ≠ q → qs.map SecEnd.sec = ps.map SecEnd.sec → Passable c (p :: q' :: qs) →
      ∃ t d, c.link ⟨p.sec, other p.e⟩ = .leg t .trunk ∧ c.turnouts.get t = some d ∧ q = d.normal ∧ q' = d.reverse) :
    FirstWays c 1 (p :: q :: ps) := by
  intro qs i a b hsec hpass hi htake ha hb hab
  refine ⟨fun h0 => absurd h0 (by omega), fun o _ ho => ?_⟩
  obtain ⟨p', qs, rfl, -, hsecs⟩ := List.map_eq_cons_iff.1 hsec
  obtain ⟨q', qs, rfl, hq', hrest⟩ := List.map_eq_cons_iff.1 hsecs
  obtain ⟨i, rfl⟩ := Nat.exists_eq_add_of_le' hi
  obtain ⟨rfl, htakes⟩ := List.cons_eq_cons.1 htake
  rcases i with _ | i
  · cases ha
    cases hb
    cases ho
    exact hq _ qs hq' (Ne.symm hab) hrest hpass
  · exact (h (q' :: qs) (i + 1) a b hsecs ((passable_cons ..).1 hpass).2 (by omega) htakes ha hb
      hab).2 o (by omega) ho

/-- The ends found are the first choice (R149; log 17). -/
theorem chooseWays_first {c : Scene} {xs : List Section} : ∀ {x : Section} {e : End} {es : List SecEnd},
    c.chooseWays x e xs = some es → FirstWays c 1 (⟨x, other e⟩ :: es) := by
  induction xs with
  | nil =>
    intro x e es h
    cases h
    intro qs i a b _ _ hi _ ha
    obtain ⟨i, rfl⟩ := Nat.exists_eq_add_of_le' hi
    cases ha
  | cons u us ih =>
    intro x e es h
    obtain ⟨as, f, bs, hways, h, hbefore⟩ := List.findSome?_eq_some_iff.1 h
    obtain ⟨rest, hr, rfl⟩ := Option.map_eq_some_iff.1 h
    have hfirst := ih hr
    rw [other_other] at hfirst
    refine firstWays_cons hfirst fun q' qs hsec hne hqs hp => ?_
    obtain ⟨hl, hp⟩ := (passable_cons ..).1 hp
    obtain ⟨v, g⟩ := q'
    obtain rfl : v = u := hsec
    have hgf : g ≠ f := fun h => hne (by rw [h])
    have hg : g ∈ as ++ f :: bs := hways ▸ mem_waysTo.2 hl
    have hg : g ∈ bs := by
      rcases List.mem_append.1 hg with hg | hg
      · have hnone := Option.map_eq_none_iff.1 (hbefore g hg)
        rw [(chooseWays_passable hr).1] at hqs
        exact absurd (by rwa [other_other]) (chooseWays_none hnone qs hqs)
      · exact (List.mem_cons.1 hg).resolve_left hgf
    rw [other_other]
    exact waysTo_before hways hg

/-! ## The positions of a route -/

theorem stopAtLast_append (st : Stop) (ps : List RoutePos) (p : RoutePos) :
    stopAtLast st (ps ++ [p]) = ps ++ [{ p with stop := some st }] := by
  induction ps with
  | nil => rfl
  | cons q ps ih =>
    cases ps with
    | nil => rfl
    | cons r ps => exact congrArg (q :: ·) ih

theorem leadsTo_iff (c : Scene) (p q : RoutePos) :
    c.leadsTo p q = true ↔ Leads c ⟨p.sec, p.entry⟩ ⟨q.sec, q.entry⟩ :=
  Scene.meets_iff_leads c ⟨p.sec, p.entry⟩ ⟨q.sec, q.entry⟩

theorem closesLoop_iff (c : Scene) (ps : List RoutePos) : closesLoop c ps = true ↔
    ∃ a z, (entries ps).head? = some a ∧ (entries ps).getLast? = some z ∧ Leads c z a := by
  unfold closesLoop entries
  rw [List.head?_map, List.getLast?_map]
  cases hh : ps.head? with
  | none => simp
  | some p0 =>
    cases hl : ps.getLast? with
    | none => simp
    | some p => simp [leadsTo_iff]

/-- The ends found for a new route from an end of its first section (R149). -/
def leavingBy (c : Scene) (x : Section) (xs : List Section) (e : End) : Option (List RoutePos) :=
  (c.chooseWays x e xs).map fun es => ⟨x, other e, none⟩ :: es.map positionAt

theorem buildRoute_eq_some {c : Scene} {xs : List Section} {ps : List RoutePos} (h : buildRoute c xs = some ps) :
    ∃ es : List SecEnd, ps = es.map positionAt ∧ es.map SecEnd.sec = xs ∧ Passable c es ∧ FirstWays c 0 es := by
  cases xs with
  | nil => cases h
  | cons x xs =>
    obtain ⟨as, e, bs, hends, h, hbefore⟩ := List.findSome?_eq_some_iff.1 h
    obtain ⟨es, hes, rfl⟩ := Option.map_eq_some_iff.1 h
    obtain ⟨hsec, hpass⟩ := chooseWays_passable hes
    refine ⟨⟨x, other e⟩ :: es, rfl, by rw [List.map_cons, hsec], hpass,
      fun qs i a b hqs hp hi htake ha hb hab => ?_⟩
    rcases i with _ | i
    · refine ⟨fun _ => ?_, fun o h0 => absurd h0 (by omega)⟩
      cases ha
      obtain ⟨⟨y, f⟩, qs, rfl, rfl, hqs'⟩ := List.map_eq_cons_iff.1 hqs
      cases hb
      cases e with
      | b => rfl
      | a =>
        have hf : f = .a := by
          cases f with
          | a => rfl
          | b => exact absurd rfl hab
        subst hf
        have hb : End.b ∈ as := by
          rcases as with _ | ⟨k, as⟩
          · exact absurd (List.cons_eq_cons.1 hends).1 (by decide)
          · rw [← (List.cons_eq_cons.1 hends).1]; exact .head _
        have hnone := Option.map_eq_none_iff.1 (hbefore .b hb)
        exact absurd hp (chooseWays_none hnone qs (hqs'.trans hsec))
    · exact chooseWays_first hes qs (i + 1) a b hqs hp (by omega) htake ha hb hab

theorem buildRoute_eq_none {c : Scene} {xs : List Section} (h : buildRoute c xs = none) (hx : xs ≠ [])
    (qs : List SecEnd) (hq : qs.map SecEnd.sec = xs) : ¬ Passable c qs := by
  cases xs with
  | nil => exact absurd rfl hx
  | cons x xs =>
    obtain ⟨⟨y, f⟩, qs, rfl, rfl, hqs⟩ := List.map_eq_cons_iff.1 hq
    have hnone := Option.map_eq_none_iff.1 (List.findSome?_eq_none_iff.1 h (other f) (by cases f <;> simp [other]))
    have := chooseWays_none hnone qs hqs
    rwa [other_other] at this

end Sys2Proof.Machine
end

section

namespace Sys2Proof.Proofs.Routes

open Sys2Proof.Machine Sys2Proof.Safety

theorem routeInUse_iff (s : State) (r : RouteId) : s.routeInUse r = true ↔
    ∃ n i, (s.trains.get n).state ≠ .unplaced ∧ (s.trains.get n).route = some (r, i) := by
  unfold State.routeInUse
  rw [Table.any_iff]
  refine exists_congr fun n => ?_
  rw [Bool.and_eq_true, placed_iff, beq_iff_eq, Option.map_eq_some_iff]
  constructor
  · rintro ⟨hp, ⟨r', i⟩, h, rfl⟩
    exact ⟨i, hp, h⟩
  · rintro ⟨i, hp, h⟩
    exact ⟨hp, (r, i), h, rfl⟩

/-! ## The lines, while no SAVE is in flight -/

section

variable {s : State} {r : RouteId} (hs : settable s)
include hs

theorem define_line (xs : List Section) : takeRouteDefine r.val (xs.map Fin.val) s =
    if xs.length < 2 ∨ 32 < xs.length then refuse .range s
    else if (xs.any fun x => !s.cfg.defined x) = true then refuse .unknown s
    else if s.routeInUse r = true then refuse .state s
    else (buildRoute s.cfg xs).elim (refuse .path s) fun ps =>
      taken (setRoute r (some ⟨stopAtLast ⟨0, none⟩ ps, false⟩) s) := by
  simp only [takeRouteDefine, asId_val, asIds_map, unlessBusy_of_settable hs]
  cases buildRoute s.cfg xs <;> rfl

theorem drop_line : takeRouteDrop r.val s =
    if s.routeInUse r = true then refuse .state s else taken (setRoute r none s) := by
  simp only [takeRouteDrop, asId_val, unlessBusy_of_settable hs]

variable {d : RouteDef} (hd : s.cfg.routes.get r = some d)
include hd

theorem add_line (xs : List Section) : takeRouteAdd r.val (xs.map Fin.val) s =
    if 32 < d.positions.length + xs.length then refuse .range s
    else if (xs.any fun x => !s.cfg.defined x) = true then refuse .unknown s
    else if s.routeInUse r = true then refuse .state s
    else (appendPositions s.cfg d xs).elim (refuse .path s) fun ps =>
      if d.loop = true ∧ closesLoop s.cfg ps = false then refuse .path s
      else if s.cfg.stopsHold ⟨ps, d.loop⟩ = false then refuse .conflict s
      else taken (setRoute r (some ⟨ps, d.loop⟩) s) := by
  simp only [takeRouteAdd, asId_val, asIds_map, unlessBusy_of_settable hs, hd]
  cases appendPositions s.cfg d xs <;> rfl

theorem stop_line (i dwell : Nat) (mark : Option MarkId) : takeRouteStop r.val i dwell (mark.map Fin.val) s =
    if 3600 < dwell ∨ d.positions.length ≤ i then refuse .range s
    else if s.routeInUse r = true then refuse .state s
    else if s.cfg.stopsHold (d.setStop i (some ⟨dwell, mark⟩)) = true
    then taken (setRoute r (some (d.setStop i (some ⟨dwell, mark⟩))) s) else refuse .conflict s := by
  cases mark <;>
    simp only [takeRouteStop, Option.map_none, Option.map_some, asId_val, unlessBusy_of_settable hs, hd, beyondRoute,
      decide_eq_true_eq]

theorem stopNone_line (i : Nat) : takeRouteStopNone r.val i s =
    if d.positions.length ≤ i then refuse .range s
    else if s.routeInUse r = true then refuse .state s
    else if d.positions.length = i + 1 then refuse .conflict s
    else taken (setRoute r (some (d.setStop i none)) s) := by
  simp only [takeRouteStopNone, asId_val, unlessBusy_of_settable hs, hd, beyondRoute, decide_eq_true_eq,
    RouteDef.atEnd, beq_iff_eq]

theorem loop_line (on : Bool) : takeRouteLoop r.val on s =
    if s.routeInUse r = true then refuse .state s
    else if on = true ∧ closesLoop s.cfg d.positions = false then refuse .path s
    else taken (setRoute r (some { d with loop := on }) s) := by
  simp only [takeRouteLoop, asId_val, unlessBusy_of_settable hs, hd]

/-- Lines that change a route in use are refused (R150). -/
theorem inUse_refused (hu : s.routeInUse r = true) :
    exec (.routeDrop r.val) s = replies s (.no .state) ∧
    (∀ on, exec (.routeLoop r.val on) s = replies s (.no .state)) ∧
    (∀ xs : List Section, 2 ≤ xs.length → xs.length ≤ 32 → (∀ x ∈ xs, s.cfg.defined x = true) →
      exec (.routeDefine r.val (xs.map Fin.val)) s = replies s (.no .state)) ∧
    (∀ xs : List Section, d.positions.length + xs.length ≤ 32 → (∀ x ∈ xs, s.cfg.defined x = true) →
      exec (.routeAdd r.val (xs.map Fin.val)) s = replies s (.no .state)) ∧
    ∀ i dwell (mark : Option MarkId), i < d.positions.length → dwell ≤ 3600 →
      exec (.routeStop r.val i dwell (mark.map Fin.val)) s = replies s (.no .state) ∧
      exec (.routeStopNone r.val i) s = replies s (.no .state) := by
  refine ⟨refuses hs.1 ?_, fun on => refuses hs.1 ?_, fun xs h2 h32 hx => refuses hs.1 ?_,
    fun xs h32 hx => refuses hs.1 ?_, fun i dwell mark hi hw => ⟨refuses hs.1 ?_, refuses hs.1 ?_⟩⟩
  · rw [drop_line hs, if_pos hu]
  · rw [loop_line hs hd, if_pos hu]
  · rw [define_line hs, if_neg (by omega), if_neg (by simpa using hx), if_pos hu]
  · rw [add_line hs hd, if_neg (by omega), if_neg (by simpa using hx), if_pos hu]
  · rw [stop_line hs hd, if_neg (by omega), if_pos hu]
  · rw [stopNone_line hs hd, if_neg (by omega), if_pos hu]

end

theorem append_some {c : Scene} {d : RouteDef} {ds : List RoutePos} {p : RoutePos} {xs : List Section}
    (hp : d.positions = ds ++ [p]) : appendPositions c d xs = (c.chooseWays p.sec (other p.entry) xs).map fun es =>
      ds ++ stopAtLast (p.stop.getD ⟨0, none⟩) (⟨p.sec, p.entry, none⟩ :: es.map positionAt) := by
  simp only [appendPositions, hp, List.getLast?_concat, List.dropLast_concat]

/-- Settles O37: each line by its branches, the positions found by `chooseWays_first`. -/
theorem routeLines : Obligations.RouteLines := by
  refine ⟨routeInUse_iff, fun s r d hs hu hd => inUse_refused hs hd hu, stopAtLast_append, fun s r put hs hu hput => ?_⟩
  have hnu : ¬ s.routeInUse r = true := by simp [hu]
  refine ⟨fun xs h2 h32 hx => ?_, fun xs h2 h32 hx => refuses hs.1 ?_, fun xs hl => refuses hs.1 ?_,
      fun d ds p xs hd hp h32 hx => ?_,
      fun d xs hd h32 => refuses hs.1 ?_, fun d i dwell mark ps hd hi hw hps => ?_,
      fun d i dwell mark hd h => refuses hs.1 ?_,
      fun d i hd => ⟨fun hi => answers hs.1 ?_, fun hi => refuses hs.1 ?_, fun hi => refuses hs.1 ?_⟩,
      fun d loops hd hloops => ?_, answers hs.1 ?_⟩
  · have hline : takeRouteDefine r.val (xs.map Fin.val) s = (buildRoute s.cfg xs).elim (refuse .path s) fun ps =>
        taken (setRoute r (some ⟨stopAtLast ⟨0, none⟩ ps, false⟩) s) := by
      rw [define_line hs, if_neg (by omega), if_neg (by simpa using hx), if_neg hnu]
    have hne : xs ≠ [] := by rintro rfl; simp at h2
    refine ⟨fun ⟨qs, hq, hqp⟩ => ?_, fun hno => refuses hs.1 ?_⟩
    · cases hb : buildRoute s.cfg xs with
      | none => exact absurd hqp (buildRoute_eq_none hb hne qs hq)
      | some ps =>
        obtain ⟨es, rfl, hsec, hpass, hfirst⟩ := buildRoute_eq_some hb
        rw [hb] at hline
        exact ⟨es, answers hs.1 (hline.trans (by rw [hput]; rfl)), hsec, hpass, hfirst⟩
    · cases hb : buildRoute s.cfg xs with
      | none => rw [hline, hb]; rfl
      | some ps =>
        obtain ⟨es, -, hsec, hpass, -⟩ := buildRoute_eq_some hb
        exact absurd hpass (hno es hsec)
  · rw [define_line hs, if_neg (by omega), if_pos (by simpa using hx)]
  · rw [define_line hs, if_pos hl]
  · have hline : takeRouteAdd r.val (xs.map Fin.val) s = (appendPositions s.cfg d xs).elim (refuse .path s) fun ps =>
        if d.loop = true ∧ closesLoop s.cfg ps = false then refuse .path s
        else if s.cfg.stopsHold ⟨ps, d.loop⟩ = false then refuse .conflict s
        else taken (setRoute r (some ⟨ps, d.loop⟩) s) := by
      rw [add_line hs hd, if_neg (by omega), if_neg (by simpa using hx), if_neg hnu]
    rw [append_some hp] at hline
    refine ⟨fun ⟨qs, hq, hqp⟩ => ?_, fun hno => refuses hs.1 ?_⟩
    · cases hw : s.cfg.chooseWays p.sec (other p.entry) xs with
      | none =>
        have := chooseWays_none hw qs hq
        rw [other_other] at this
        exact absurd hqp this
      | some es =>
        obtain ⟨hsec, hpass⟩ := chooseWays_passable hw
        have hfirst := chooseWays_first hw
        rw [other_other] at hpass hfirst
        obtain ⟨ps, hps⟩ : ∃ ps, ps = ds ++ stopAtLast (p.stop.getD ⟨0, none⟩)
            (⟨p.sec, p.entry, none⟩ :: es.map positionAt) := ⟨_, rfl⟩
        rw [hw, Option.map_some, Option.elim_some, ← hps] at hline
        refine ⟨es, ps, hsec, hpass, hfirst, hps, fun loops hloops => ?_⟩
        rw [← closesLoop_iff] at hloops
        have hopen (hl : d.loop = false ∨ loops) : ¬ (d.loop = true ∧ closesLoop s.cfg ps = false) := by
          rintro ⟨hd, hc⟩
          rcases hl with hl | hl
          · rw [hl] at hd; cases hd
          · rw [hloops.1 hl] at hc; cases hc
        have hfits := s.cfg.stopsHold_iff ⟨ps, d.loop⟩
        refine ⟨fun hl hn => refuses hs.1 ?_, fun hl hfit => answers hs.1 ?_, fun hl hfit => refuses hs.1 ?_⟩
        · rw [hloops, Bool.not_eq_true] at hn
          rw [hline, if_pos ⟨hl, hn⟩]
        · rw [hline, if_neg (hopen hl), if_neg (by rw [hfits.2 hfit]; exact nofun), hput]
          rfl
        · rw [hline, if_neg (hopen hl), if_pos (Bool.eq_false_iff.2 fun h => hfit (hfits.1 h))]
    · cases hw : s.cfg.chooseWays p.sec (other p.entry) xs with
      | none => rw [hline, hw]; rfl
      | some es =>
        obtain ⟨hsec, hpass⟩ := chooseWays_passable hw
        rw [other_other] at hpass
        exact absurd hpass (hno es hsec)
  · rw [add_line hs hd, if_pos h32]
  · have hset : d.setStop i (some ⟨dwell, mark⟩) = ⟨ps, d.loop⟩ := by rw [hps]; rfl
    have hline : takeRouteStop r.val i dwell (mark.map Fin.val) s = if s.cfg.stopsHold ⟨ps, d.loop⟩ = true
        then taken (setRoute r (some ⟨ps, d.loop⟩) s) else refuse .conflict s := by
      rw [stop_line hs hd, if_neg (by omega), if_neg hnu, hset]
    have hfits := s.cfg.stopsHold_iff ⟨ps, d.loop⟩
    exact ⟨fun hfit => answers hs.1 (hline.trans ((if_pos (hfits.2 hfit)).trans (by rw [hput]; rfl))),
      fun hfit => refuses hs.1 (hline.trans (if_neg fun h => hfit (hfits.1 h)))⟩
  · rw [stop_line hs hd, if_pos h.symm]
  · rw [stopNone_line hs hd, if_neg (by omega), if_neg hnu, if_neg (by omega), hput]; rfl
  · rw [stopNone_line hs hd, if_neg (by omega), if_neg hnu, if_pos hi.symm]
  · rw [stopNone_line hs hd, if_pos hi]
  · rw [← closesLoop_iff] at hloops
    have hline (on : Bool) : takeRouteLoop r.val on s = if on = true ∧ closesLoop s.cfg d.positions = false
        then refuse .path s else taken (setRoute r (some { d with loop := on }) s) := by
      rw [loop_line hs hd, if_neg hnu]
    refine ⟨answers hs.1 ((hline false).trans ((if_neg (by simp)).trans (by rw [hput]; rfl))),
      fun h => answers hs.1 ((hline true).trans ((if_neg (by simp [hloops.1 h])).trans (by rw [hput]; rfl))),
      fun h => refuses hs.1 ((hline true).trans (if_pos ⟨rfl, ?_⟩))⟩
    rwa [hloops, Bool.not_eq_true] at h
  · rw [drop_line hs, if_neg hnu]; rfl

end Sys2Proof.Proofs.Routes
end

section
-- One theorem after the other: side by side, waiting proofs would pile up.
set_option Elab.async false
/-! SUPPORT. The records of the layout: what a section's record gives, what setting an end changes, units, and the
routes against the layout (R91, R92, R95, R97, R99). -/

namespace Sys2Proof.Machine

open Sys2Proof.Safety

/-! ## Section records -/

section

variable {c : Scene} {x : Section}

theorem defined_iff : c.defined x = true ↔ c.sections.get x ≠ none := Option.isSome_iff_ne_none

theorem link_of_defined {d : SectionDef} (h : c.sections.get x = some d) (e : End) : c.link ⟨x, e⟩ = d.link e := by
  simp only [Scene.link, h]

theorem link_of_undefined (h : c.sections.get x = none) (e : End) : c.link ⟨x, e⟩ = .buffer := by
  simp only [Scene.link, h]

theorem setLink_link_self (d : SectionDef) (l : EndLink) (e f : End) :
    (d.setLink l e).link f = if e = f then l else d.link f := by
  cases e <;> cases f <;> rfl

theorem setLink_get (p : SecEnd) (l : EndLink) : (c.setLink p l).sections.get x =
    if x = p.sec then (c.sections.get x).map fun d => d.setLink l p.e else c.sections.get x :=
  Table.get_modify ..

theorem setLink_lengthOf (p : SecEnd) (l : EndLink) : (c.setLink p l).lengthOf x = c.lengthOf x := by
  unfold Scene.lengthOf
  rw [setLink_get]
  by_cases hx : x = p.sec
  · rw [if_pos hx]
    cases c.sections.get x with
    | none => rfl
    | some d => cases p with | mk y e => cases e <;> rfl
  · rw [if_neg hx]

theorem setLink_keeps_defined (p : SecEnd) (l : EndLink) : (c.setLink p l).defined x = c.defined x :=
  setLink_defined c p l x

/-- Setting an end of a defined section changes that end, and no other. -/
theorem setLink_link (p z : SecEnd) (l : EndLink) :
    (c.setLink p l).link z = if p = z ∧ c.defined z.sec = true then l else c.link z := by
  obtain ⟨x, e⟩ := z
  cases h : c.sections.get x with
  | none =>
    have hn : (c.setLink p l).sections.get x = none := by rw [setLink_get, h]; simp
    rw [link_of_undefined h, link_of_undefined hn, if_neg]
    rintro ⟨-, hd⟩
    exact defined_iff.1 hd h
  | some d =>
    have hd : c.defined x = true := defined_iff.2 (by simp [h])
    by_cases hx : x = p.sec
    · have hs : (c.setLink p l).sections.get x = some (d.setLink l p.e) := by rw [setLink_get, if_pos hx, h]; rfl
      rw [link_of_defined hs, link_of_defined h, setLink_link_self]
      obtain ⟨y, f⟩ := p
      obtain rfl : x = y := hx
      simp [hd]
    · have hs : (c.setLink p l).sections.get x = some d := by rw [setLink_get, if_neg hx, h]
      rw [link_of_defined hs, link_of_defined h, if_neg]
      rintro ⟨rfl, -⟩
      exact hx rfl

theorem setLink_buffer (p z : SecEnd) : (c.setLink p .buffer).link z = if p = z then .buffer else c.link z := by
  rw [setLink_link]
  by_cases hp : p = z
  · rw [if_pos hp]
    split
    · rfl
    · next h =>
      cases hs : c.sections.get z.sec with
      | none => exact link_of_undefined hs z.e
      | some d => exact absurd ⟨hp, defined_iff.2 (by simp [hs])⟩ h
  · rw [if_neg hp, if_neg fun h => hp h.1]

/-! ## Runs and units (R96, R97) -/

theorem runOf_eq_some {r : RunId} (h : c.runOf x = some r) : ∃ xs, c.runs.get r = some xs ∧ x ∈ xs := by
  have hr := List.find?_some h
  cases hx : c.runs.get r with
  | none => simp [hx] at hr
  | some xs => exact ⟨xs, rfl, by simpa [hx] using hr⟩

theorem runOf_eq_none : c.runOf x = none ↔ ∀ r xs, c.runs.get r = some xs → x ∉ xs := by
  unfold Scene.runOf
  rw [find_ids_eq_none]
  refine forall_congr' fun r => ?_
  cases hx : c.runs.get r <;> simp

theorem lower_eq (x y : Section) : lower x y = min x y := by
  unfold lower
  rw [min_def]
  rfl

/-- The lowest-numbered of a list's sections. -/
theorem foldl_lower (xs : List Section) (x : Section) :
    xs.foldl lower x ∈ x :: xs ∧ ∀ y ∈ x :: xs, xs.foldl lower x ≤ y := by
  induction xs generalizing x with
  | nil => simp
  | cons z xs ih =>
    obtain ⟨hm, hle⟩ := ih (lower x z)
    rw [List.foldl_cons]
    have hmin := hle _ (.head _)
    rw [lower_eq] at hm hmin hle ⊢
    refine ⟨?_, fun y hy => ?_⟩
    · rcases List.mem_cons.1 hm with h | h
      · rw [h]
        rcases min_choice x z with h | h <;> rw [h] <;> simp
      · simp [h]
    · rcases List.mem_cons.1 hy with rfl | hy
      · exact hmin.trans (min_le_left ..)
      · rcases List.mem_cons.1 hy with rfl | hy
        · exact hmin.trans (min_le_right ..)
        · exact hle y (.tail _ hy)

theorem unitKey_of_single (h : c.sections.get x ≠ none) (hr : c.runOf x = none) : c.unitKey x = some x := by
  obtain ⟨d, hd⟩ := Option.ne_none_iff_exists'.1 h
  simp only [Scene.unitKey, hd, hr]
  rfl

theorem unitKey_of_run {r : RunId} {xs : List Section} (h : c.sections.get x ≠ none) (hr : c.runOf x = some r)
    (hx : c.runs.get r = some xs) : c.unitKey x = some (xs.foldl lower x) := by
  obtain ⟨d, hd⟩ := Option.ne_none_iff_exists'.1 h
  simp only [Scene.unitKey, hd, hr, Option.bind_some, hx]

/-! ## Routes against the layout (R99) -/

theorem waysHold_iff (d : RouteDef) (ps : List RoutePos) : c.waysHold d ps = true ↔
    Passable c (entries ps) ∧ (d.loop = true → ∀ a z, (entries d.positions).head? = some a →
      (entries ps).getLast? = some z → Leads c z a) := by
  induction ps with
  | nil =>
    refine iff_of_true rfl ⟨passable_nil c, fun _ a z _ h => ?_⟩
    cases h
  | cons p ps ih =>
    cases ps with
    | nil =>
      refine Iff.trans ?_ (and_iff_right (passable_single c ⟨p.sec, p.entry⟩)).symm
      have hhead : (entries d.positions).head? = d.positions.head?.map fun p => ⟨p.sec, p.entry⟩ := List.head?_map
      rw [hhead]
      unfold Scene.waysHold
      cases d.positions.head? with
      | none => simp
      | some q =>
        cases d.loop <;> simp [leadsTo_iff, entries]
    | cons q ps =>
      have hp := passable_cons c ⟨p.sec, p.entry⟩ ⟨q.sec, q.entry⟩ (entries ps)
      have hlast : (entries (p :: q :: ps)).getLast? = (entries (q :: ps)).getLast? := rfl
      have hw : c.waysHold d (p :: q :: ps) = (c.leadsTo p q && c.waysHold d (q :: ps)) := rfl
      rw [hw, Bool.and_eq_true, ih, leadsTo_iff, hlast, ← and_assoc]
      exact and_congr_left fun _ => hp.symm

theorem routesAgree_iff : c.routesAgree = true ↔ ∀ (r : RouteId) d, c.routes.get r = some d →
    Passable c (entries d.positions) ∧ StopsFit c d.positions ∧
    (d.loop = true → ∀ a z, (entries d.positions).head? = some a → (entries d.positions).getLast? = some z →
      Leads c z a) := by
  unfold Scene.routesAgree
  rw [Table.all_iff]
  refine forall_congr' fun r => ?_
  cases h : c.routes.get r with
  | none => simp
  | some d =>
    simp only [Bool.and_eq_true, waysHold_iff, Scene.stopsHold_iff, Option.some.injEq, forall_eq']
    tauto

end

/-! ## Layout lines (R99) -/

theorem anyPlaced_iff (s : State) : s.anyPlaced = true ↔ ∃ n, (s.trains.get n).state ≠ .unplaced := by
  unfold State.anyPlaced
  rw [Table.any_iff]
  exact exists_congr fun n => placed_iff

theorem layoutEdit_of_layable {s : State} (h : layable s) (f : State → Ans) : layoutEdit s f = f s := by
  unfold layoutEdit
  rw [h.1.2, h.2]
  rfl

theorem layoutEdit_of_placed {s : State} (hs : settable s) (h : s.anyPlaced = true) (f : State → Ans) :
    layoutEdit s f = refuse .layout s := by
  unfold layoutEdit
  rw [hs.2, h]
  rfl

theorem layoutTaken_of_agree {c : Scene} (h : c.routesAgree = true) (s : State) :
    layoutTaken c s = taken (s.withCfg c) := if_pos h

theorem layoutRebuilt_of_agree {c : Scene} (h : c.routesAgree = true) (s : State) :
    layoutRebuilt c s = taken (rebuildUnits c s) := if_pos h

theorem endValue_val (p : SecEnd) : endValue ⟨p.sec.val, p.e⟩ = some p := by
  simp only [endValue, asId_val, Option.map_some]

theorem reportStrays_keeps (xs : List Section) (s : State) :
    (reportStrays xs s).cfg = s.cfg ∧ (reportStrays xs s).units = s.units :=
  List.foldlRecOn xs _ (motive := fun t : State => t.cfg = s.cfg ∧ t.units = s.units) ⟨rfl, rfl⟩ fun t h x _ => by
    rw [State.raise_eq]; exact h

/-- The units of the rebuilt layout, all free. -/
def unitsFreed (c : Scene) (s : State) : State := (s.withCfg c).withUnits (Table.replicate 20 ⟨none, []⟩)

theorem rebuildUnits_eq (c : Scene) (s : State) : rebuildUnits c s =
    reportStrays ((unitsFreed c s).strays.filter fun x => !s.stray x) (unitsFreed c s) := rfl

theorem rebuildUnits_leaves (c : Scene) (s : State) :
    (rebuildUnits c s).cfg = c ∧ ∀ u, (rebuildUnits c s).units.get u = ⟨none, []⟩ := by
  obtain ⟨hc, hu⟩ := reportStrays_keeps ((unitsFreed c s).strays.filter fun x => !s.stray x) (unitsFreed c s)
  rw [rebuildUnits_eq, hc, hu]
  exact ⟨rfl, fun u => Table.get_replicate ..⟩

theorem stray_of_free {s : State} (h : ∀ u, (s.units.get u).holder = none) (x : Section) :
    s.stray x = (s.cfg.defined x && s.occupied x) := by
  have hh : s.holderOf x = none := by
    unfold State.holderOf
    cases s.cfg.unitKey x with
    | none => rfl
    | some u => exact h u
  simp [State.stray, hh]

/-- Of all numbers one alone passes a test. -/
theorem filter_ids_single {k : Nat} {x : Fin k} {p : Fin k → Bool} (h : ∀ z, z ≠ x → p z = false) :
    (ids k).filter p = if p x = true then [x] else [] := by
  have hp : p = fun z => z == x && p x := by
    funext z
    by_cases hz : z = x
    · subst hz; simp
    · rw [h z hz]; simp [hz]
  have hnodup : (ids k).Nodup := (ids_pairwise k).imp Fin.ne_of_lt
  split
  · next hx =>
    rw [hp, hx]
    simp only [Bool.and_true]
    rw [List.filter_beq, List.count_eq_one_of_mem hnodup (mem_ids x)]
    rfl
  · next hx =>
    rw [hp, Bool.eq_false_iff.2 hx]
    simp

/-- Where no train holds a unit, the rebuild reports the section that has become stray (R114). -/
theorem rebuildUnits_of_free {c : Scene} {s : State} {x : Section} (hu : ∀ u, (s.units.get u).holder = none)
    (hx : ∀ z, z ≠ x → c.sections.get z ≠ none → s.cfg.sections.get z ≠ none ∨ s.occupied z = false) :
    rebuildUnits c s = if s.cfg.sections.get x = none ∧ c.sections.get x ≠ none ∧ s.occupied x = true
      then (unitsFreed c s).raise (.stray x) else unitsFreed c s := by
  have hfree (u : Section) : ((unitsFreed c s).units.get u).holder = none := by
    show ((Table.replicate 20 UnitRec.free).get u).holder = none
    rw [Table.get_replicate]
    rfl
  have hstrays : (unitsFreed c s).strays.filter (fun z => !s.stray z) =
      if s.cfg.sections.get x = none ∧ c.sections.get x ≠ none ∧ s.occupied x = true then [x] else [] := by
    have hpass (z : Section) : ((!s.stray z) && (unitsFreed c s).stray z) = true ↔
        s.cfg.sections.get z = none ∧ c.sections.get z ≠ none ∧ s.occupied z = true := by
      rw [stray_of_free hu, stray_of_free hfree]
      show (!(s.cfg.defined z && s.occupied z) && (c.defined z && s.occupied z)) = true ↔ _
      have hd : s.cfg.sections.get z = none ↔ s.cfg.defined z = false := by
        rw [Bool.eq_false_iff, Ne, defined_iff, not_not]
      rw [← defined_iff, hd]
      cases s.occupied z <;> cases s.cfg.defined z <;> simp
    unfold State.strays
    rw [List.filter_filter, filter_ids_single (x := x)]
    · simp only [hpass]
    · intro z hz
      rw [Bool.eq_false_iff, Ne, hpass]
      rintro ⟨h1, h2, h3⟩
      rcases hx z hz h2 with h | h
      · exact h h1
      · rw [h] at h3; cases h3
  rw [rebuildUnits_eq, hstrays]
  split <;> rfl

/-! ## What stands in the way of a SECTION line (R92) -/

theorem markBeyond_iff (c : Scene) (x : Section) (mm : Nat) : c.markBeyond x mm = true ↔
    ∃ m d, c.marks.get m = some d ∧ d.sec = x ∧ mm < d.offset := by
  unfold Scene.markBeyond
  rw [Table.any_iff]
  refine exists_congr fun m => ?_
  cases c.marks.get m <;> simp

/-- Some object of a table stands in the way. -/
theorem any_object_iff {α : Type} {k : Nat} (t : Table (Option α) k) (f : Option α → Bool) (hf : f none = false) :
    t.data.any f = true ↔ ∃ i d, t.get i = some d ∧ f (some d) = true := by
  rw [Table.any_iff]
  refine exists_congr fun i => ?_
  cases t.get i <;> simp [hf]

theorem sectionNamed_iff (c : Scene) (x : Section) : c.sectionNamed x = true ↔
    c.link ⟨x, .a⟩ ≠ .buffer ∨ c.link ⟨x, .b⟩ ≠ .buffer ∨ (∃ r xs, c.runs.get r = some xs ∧ x ∈ xs) ∨
      (∃ m k, c.marks.get m = some k ∧ k.sec = x) ∨ (∃ k d, c.crossings.get k = some d ∧ d.sec = x) ∨
      ∃ r d, c.routes.get r = some d ∧ ∃ p ∈ d.positions, p.sec = x := by
  have hrun : (c.runOf x).isSome = true ↔ ∃ r xs, c.runs.get r = some xs ∧ x ∈ xs := by
    rw [Option.isSome_iff_ne_none, Ne, runOf_eq_none]
    simp only [not_forall, not_not, exists_prop]
  unfold Scene.sectionNamed
  simp only [Bool.or_eq_true, bne_iff_ne, or_assoc]
  rw [hrun, any_object_iff c.marks _ rfl, any_object_iff c.crossings _ rfl, any_object_iff c.routes _ rfl]
  simp only [beq_iff_eq, List.any_eq_true]

end Sys2Proof.Machine
end

section

namespace Sys2Proof.Proofs.Layout

open Sys2Proof.Machine Sys2Proof.Safety

/-- What a section's record gives, and what setting an end changes. -/
theorem records (c : Scene) (x : Section) : (c.defined x = true ↔ c.sections.get x ≠ none) ∧
    (∀ d, c.sections.get x = some d → c.lengthOf x = d.length ∧ c.link ⟨x, .a⟩ = d.endA ∧
      c.link ⟨x, .b⟩ = d.endB) ∧
    (c.sections.get x = none → ∀ e, c.link ⟨x, e⟩ = .buffer) ∧
    (∀ r, c.runOf x = some r → ∃ xs, c.runs.get r = some xs ∧ x ∈ xs) ∧
    (c.runOf x = none → ∀ r xs, c.runs.get r = some xs → x ∉ xs) ∧
    ∀ (p : SecEnd) (l : EndLink) (d : Scene), d = c.setLink p l → d = { c with sections := d.sections } ∧
      d.defined x = c.defined x ∧ d.lengthOf x = c.lengthOf x ∧
      ∀ e, d.link ⟨x, e⟩ = if p = ⟨x, e⟩ ∧ c.defined x = true then l else c.link ⟨x, e⟩ := by
  refine ⟨defined_iff, fun d hd => ⟨lengthOf_of_defined hd, link_of_defined hd .a, link_of_defined hd .b⟩,
    link_of_undefined, fun r => runOf_eq_some, runOf_eq_none.1, fun p l d hd => ?_⟩
  subst hd
  exact ⟨rfl, setLink_keeps_defined p l, setLink_lengthOf p l, fun e => setLink_link p ⟨x, e⟩ l⟩

theorem units (c : Scene) (x : Section) : (c.sections.get x = none → c.unitKey x = none) ∧
    (c.sections.get x ≠ none → (∀ r xs, c.runs.get r = some xs → x ∉ xs) → c.unitKey x = some x) ∧
    ∀ r xs, c.sections.get x ≠ none → c.runs.get r = some xs → x ∈ xs →
      (∀ j ys, c.runs.get j = some ys → x ∈ ys → j = r) →
      ∃ k ∈ xs, c.unitKey x = some k ∧ ∀ y ∈ xs, k ≤ y := by
  refine ⟨unitKey_of_undefined, fun hx hr => unitKey_of_single hx (runOf_eq_none.2 hr), fun r xs hx hr hm huniq => ?_⟩
  have hrun : c.runOf x = some r := by
    cases h : c.runOf x with
    | none => exact absurd hm (runOf_eq_none.1 h r xs hr)
    | some j =>
      obtain ⟨ys, hy, hmem⟩ := runOf_eq_some h
      rw [huniq j ys hy hmem]
  obtain ⟨hmem, hle⟩ := foldl_lower xs x
  refine ⟨_, ?_, unitKey_of_run hx hrun hr, fun y hy => hle y (.tail _ hy)⟩
  rcases List.mem_cons.1 hmem with h | h
  · rw [h]; exact hm
  · exact h

section

variable {s : State} {x : Section} (hs : layable s)
include hs

theorem length_line {mm : Nat} (h : 100 ≤ mm) (h' : mm ≤ 9999)
    (hm : ∀ m d, s.cfg.marks.get m = some d → d.sec = x → d.offset ≤ mm) : takeSectionLength x.val mm s =
      (s.cfg.sections.get x).elim
        (layoutRebuilt { s.cfg with sections := s.cfg.sections.set x (some ⟨mm, .buffer, .buffer⟩) } s)
        fun d => layoutTaken { s.cfg with sections := s.cfg.sections.set x (some { d with length := mm }) } s := by
  have hmark : ¬ s.cfg.markBeyond x mm = true := by
    rw [markBeyond_iff]
    rintro ⟨m, d, hd, hx, hlt⟩
    exact absurd (hm m d hd hx) (by omega)
  simp only [takeSectionLength, asId_val, layoutEdit_of_layable hs]
  rw [if_neg (by omega), if_neg hmark]
  cases s.cfg.sections.get x <;> rfl

theorem drop_line (hx : s.cfg.sections.get x ≠ none) : takeSectionDrop x.val s =
    if s.cfg.sectionNamed x = true then refuse .conflict s
    else layoutRebuilt { s.cfg with sections := s.cfg.sections.set x none } s := by
  obtain ⟨d, hd⟩ := Option.ne_none_iff_exists'.1 hx
  simp only [takeSectionDrop, asId_val, layoutEdit_of_layable hs, hd]

theorem join_line (e : End) (y : SecEnd) (hx : s.cfg.sections.get x ≠ none) (hy : s.cfg.sections.get y.sec ≠ none) :
    takeSectionJoin x.val e ⟨y.sec.val, y.e⟩ s =
      if x = y.sec ∨ s.cfg.link ⟨x, e⟩ ≠ .buffer ∨ s.cfg.link y ≠ .buffer then refuse .conflict s
      else layoutTaken ((s.cfg.setLink ⟨x, e⟩ (.join y.sec y.e)).setLink y (.join x e)) s := by
  simp only [takeSectionJoin, asId_val, endValue_val, layoutEdit_of_layable hs]
  exact if_neg (by simp [defined_iff.2 hx, defined_iff.2 hy])

theorem buffer_line (e : End) (hx : s.cfg.sections.get x ≠ none) : (s.cfg.link ⟨x, e⟩ = .buffer →
      takeSectionBuffer x.val e s = taken s) ∧
    (∀ y f, s.cfg.link ⟨x, e⟩ = .join y f → takeSectionBuffer x.val e s =
      layoutTaken ((s.cfg.setLink ⟨x, e⟩ .buffer).setLink ⟨y, f⟩ .buffer) s) ∧
    ∀ t l, s.cfg.link ⟨x, e⟩ = .leg t l → takeSectionBuffer x.val e s = refuse .conflict s := by
  have hd : ¬ s.cfg.defined x = false := by simp [defined_iff.2 hx]
  refine ⟨fun h => ?_, fun y f h => ?_, fun t l h => ?_⟩ <;>
    simp only [takeSectionBuffer, asId_val, layoutEdit_of_layable hs, h] <;> exact if_neg hd

end

/-- Settles O21: the records by `setLink_link`, units by `foldl_lower`, routes by `waysHold_iff`, the rebuild by
`rebuildUnits_of_free`, and each line by its branches. -/
theorem sectionLines : Obligations.SectionLines := by
  refine ⟨records, fun c => routesAgree_iff, units, fun s x hs => ⟨fun c => rebuildUnits_leaves c s,
    fun c v hv hu hx => ?_, fun mm c h h' hx hm hc ha => answers hs.1.1 ?_,
    fun mm d c h h' hx hm hc ha => answers hs.1.1 ?_, fun mm m k h h' hk hkx hlt => refuses hs.1.1 ?_,
    fun mm h => refuses hs.1.1 ?_, fun hx => answers hs.1.1 ?_, fun c hx ha hb hr hm hk hroute hc hagree =>
      answers hs.1.1 ?_, fun hx hnamed => refuses hs.1.1 ?_, fun e y f c hxy hx hy hxe hyf hc ha => ?_,
    fun e f hx => refuses hs.1.1 ?_, fun e y f c hx hl hc ha => answers hs.1.1 ?_,
    fun e hx hl => answers hs.1.1 ((buffer_line hs e hx).1 hl),
    fun e t l hx hl => refuses hs.1.1 ((buffer_line hs e hx).2.2 t l hl)⟩⟩
  · rw [hv]
    exact rebuildUnits_of_free hu hx
  · rw [length_line hs h h' hm, hx, Option.elim_none, ← hc, layoutRebuilt_of_agree ha]; rfl
  · rw [length_line hs h h' hm, hx, Option.elim_some, ← hc, layoutTaken_of_agree ha]; rfl
  · simp only [takeSectionLength, asId_val, layoutEdit_of_layable hs]
    rw [if_neg (by omega), if_pos ((markBeyond_iff ..).2 ⟨m, k, hk, hkx, hlt⟩)]
  · simp only [takeSectionLength, asId_val]
    exact if_pos h
  · simp only [takeSectionDrop, asId_val, layoutEdit_of_layable hs, hx]; rfl
  · have hnamed : ¬ s.cfg.sectionNamed x = true := by
      rw [sectionNamed_iff]
      rintro (h | h | ⟨r, xs, h, h'⟩ | ⟨m, k, h, h'⟩ | ⟨k, d, h, h'⟩ | ⟨r, d, h, p, h', h''⟩)
      · exact h ha
      · exact h hb
      · exact runOf_eq_none.1 hr r xs h h'
      · exact hm m k h h'
      · exact hk k d h h'
      · exact hroute r d h p h' h''
    rw [drop_line hs hx, if_neg hnamed, ← hc, layoutRebuilt_of_agree hagree]; rfl
  · rw [drop_line hs hx, if_pos ((sectionNamed_iff ..).2 hnamed)]
  · have hline := join_line hs e ⟨y, f⟩ hx hy
    rw [if_neg (by simp [hxy, hxe, hyf]), ← hc, layoutTaken_of_agree ha] at hline
    have hne : (⟨y, f⟩ : SecEnd) ≠ ⟨x, e⟩ := fun h => hxy (congrArg SecEnd.sec h).symm
    have hdx : s.cfg.defined x = true := defined_iff.2 hx
    have hdy : s.cfg.defined y = true := defined_iff.2 hy
    refine ⟨answers hs.1.1 hline, ?_, ?_, fun z hzx hzy => ?_⟩ <;>
      rw [hc, setLink_link, setLink_keeps_defined, setLink_link]
    · rw [if_neg fun h => hne h.1, if_pos ⟨rfl, hdx⟩]
    · rw [if_pos ⟨rfl, hdy⟩]
    · rw [if_neg fun h => hzy h.1.symm, if_neg fun h => hzx h.1.symm]
  · have hline := join_line hs e ⟨x, f⟩ hx hx
    rwa [if_pos (.inl rfl)] at hline
  · rw [(buffer_line hs e hx).2.1 y f hl, ← hc, layoutTaken_of_agree ha]; rfl

end Sys2Proof.Proofs.Layout
end

section
-- One theorem after the other: side by side, waiting proofs would pile up.
set_option Elab.async false
/-! SUPPORT. The legs of a turnout, given back and attached, and what stands in the way of the lines of turnouts, runs,
marks and crossings (R95, R96, R98, R105). -/

namespace Sys2Proof.Machine

open Sys2Proof.Safety

theorem releaseLegs_of_undefined {c : Scene} {t : TurnoutId} (h : c.turnouts.get t = none) : c.releaseLegs t = c := by
  simp only [Scene.releaseLegs, h]

theorem releaseLegs_of_defined {c : Scene} {t : TurnoutId} {d : TurnoutDef} (h : c.turnouts.get t = some d) :
    c.releaseLegs t = ((c.setLink d.trunk .buffer).setLink d.normal .buffer).setLink d.reverse .buffer := by
  simp only [Scene.releaseLegs, h]

theorem releaseLegs_eq (c : Scene) (t : TurnoutId) :
    c.releaseLegs t = { c with sections := (c.releaseLegs t).sections } := by
  cases h : c.turnouts.get t with
  | none => rw [releaseLegs_of_undefined h]
  | some d => rw [releaseLegs_of_defined h]; rfl

theorem releaseLegs_section (c : Scene) (t : TurnoutId) (x : Section) :
    (c.releaseLegs t).defined x = c.defined x ∧ (c.releaseLegs t).lengthOf x = c.lengthOf x := by
  cases h : c.turnouts.get t with
  | none => rw [releaseLegs_of_undefined h]; exact ⟨rfl, rfl⟩
  | some d =>
    rw [releaseLegs_of_defined h]
    simp only [setLink_keeps_defined, setLink_lengthOf, and_self]

/-- The legs of a turnout given back end in buffers, the other ends stay (R95). -/
theorem releaseLegs_link {c : Scene} {t : TurnoutId} {d : TurnoutDef} (h : c.turnouts.get t = some d) (z : SecEnd) :
    (c.releaseLegs t).link z = if z = d.trunk ∨ z = d.normal ∨ z = d.reverse then .buffer else c.link z := by
  rw [releaseLegs_of_defined h, setLink_buffer, setLink_buffer, setLink_buffer]
  by_cases h1 : d.reverse = z
  · simp [h1]
  · by_cases h2 : d.normal = z
    · simp [h2]
    · by_cases h3 : d.trunk = z
      · simp [h3]
      · simp [h1, h2, h3, Ne.symm h1, Ne.symm h2, Ne.symm h3]

/-- The three ends of a turnout with its legs attached, and the others (R95). -/
theorem attachLegs_link {c : Scene} {t : TurnoutId} {d : TurnoutDef} (z : SecEnd) (hz : c.defined z.sec = true) :
    (c.attachLegs t d).link z = if d.reverse = z then .leg t (.branch .reverse)
      else if d.normal = z then .leg t (.branch .normal) else if d.trunk = z then .leg t .trunk else c.link z := by
  have hd : ({ c with turnouts := c.turnouts.set t (some d) } : Scene).defined z.sec = true := hz
  unfold Scene.attachLegs
  simp only [setLink_link, setLink_keeps_defined, hd, and_true]
  rfl

theorem attachLegs_other {c : Scene} {t : TurnoutId} {d : TurnoutDef} {z : SecEnd} (h1 : z ≠ d.trunk)
    (h2 : z ≠ d.normal) (h3 : z ≠ d.reverse) : (c.attachLegs t d).link z = c.link z := by
  unfold Scene.attachLegs
  rw [setLink_link, if_neg fun h => h3 h.1.symm, setLink_link, if_neg fun h => h2 h.1.symm, setLink_link,
    if_neg fun h => h1 h.1.symm]
  rfl

theorem attachLegs_turnout (c : Scene) (t : TurnoutId) (d : TurnoutDef) :
    (c.attachLegs t d).turnouts.get t = some d := Table.get_set_self ..

theorem concerns_iff (d : Driver) (t : TurnoutId) : d.concerns t = true ↔
    (∃ p, d.pulse = some p ∧ p.entry.t = t) ∨ ∃ e ∈ d.queue, e.t = t := by
  unfold Driver.concerns
  rw [Bool.or_eq_true, List.any_eq_true]
  refine or_congr ?_ (by simp)
  cases d.pulse <;> simp

theorem inOtherRun_iff (c : Scene) (r : RunId) (xs : List Section) : c.inOtherRun r xs = true ↔
    ∃ x ∈ xs, ∃ k, c.runOf x = some k ∧ k ≠ r := by
  unfold Scene.inOtherRun
  rw [List.any_eq_true]
  refine exists_congr fun x => and_congr_right fun _ => ?_
  cases c.runOf x <;> simp

theorem offsetBeyond_eq_false {c : Scene} {x : Section} {mm : Nat} (h : ∀ d, c.sections.get x = some d → mm ≤ d.length) :
    c.offsetBeyond x mm = false := by
  unfold Scene.offsetBeyond
  cases hd : c.sections.get x with
  | none => rfl
  | some d => exact decide_eq_false (Nat.not_lt.2 (h d hd))

theorem otherCrossing_ne (k : CrossingId) : otherCrossing k ≠ k := by revert k; decide

theorem crossingIdle_iff (s : State) (k : CrossingId) : s.crossingIdle k = true ↔ (s.crossings.get k).state = .idle :=
  beq_iff_eq

theorem crossingClash_eq_false {c : Scene} {k : CrossingId} {d : CrossingDef} (hl : d.lampA ≠ d.lampB)
    (h : ∀ j o, j ≠ k → c.crossings.get j = some o → d.lampA ≠ o.lampA ∧ d.lampA ≠ o.lampB ∧ d.lampB ≠ o.lampA ∧
      d.lampB ≠ o.lampB ∧ d.sec ≠ o.sec) : c.crossingClash k d = false := by
  unfold Scene.crossingClash
  cases ho : c.crossings.get (otherCrossing k) with
  | none => simp [hl]
  | some o =>
    obtain ⟨h1, h2, h3, h4, h5⟩ := h _ o (otherCrossing_ne k) ho
    simp [hl, h1, h2, h3, h4, h5]

end Sys2Proof.Machine
end

section

namespace Sys2Proof.Proofs.Objects

open Sys2Proof.Machine Sys2Proof.Safety

section

variable {s : State} (hs : layable s)
include hs

theorem legs_line (t : TurnoutId) (p q r : SecEnd) (hp : s.cfg.defined p.sec = true) (hq : s.cfg.defined q.sec = true)
    (hr : s.cfg.defined r.sec = true) (hd : s.driver.concerns t = false) :
    takeTurnoutLegs t.val ⟨p.sec.val, p.e⟩ ⟨q.sec.val, q.e⟩ ⟨r.sec.val, r.e⟩ s =
      if (s.cfg.releaseLegs t).legsClash ⟨p, q, r⟩ = true then refuse .conflict s
      else layoutTaken ((s.cfg.releaseLegs t).attachLegs t ⟨p, q, r⟩) s := by
  simp only [takeTurnoutLegs, asId_val, endValue_val, layoutEdit_of_layable hs]
  rw [if_neg (by simp [hp, hq, hr]), if_neg (by simp [hd])]

theorem turnoutDrop_line {t : TurnoutId} {d : TurnoutDef} (ht : s.cfg.turnouts.get t = some d) :
    takeTurnoutDrop t.val s = if s.driver.concerns t = true then refuse .state s
      else if { s.cfg.releaseLegs t with turnouts := (s.cfg.releaseLegs t).turnouts.set t none : Scene }.routesAgree
      then taken ((s.withCfg { s.cfg.releaseLegs t with
          turnouts := (s.cfg.releaseLegs t).turnouts.set t none }).withDriver
        { s.driver with points := s.driver.points.set t none })
      else refuse .conflict s := by
  simp only [takeTurnoutDrop, asId_val, layoutEdit_of_layable hs, ht]

end

/-- Every layout line is refused while a train is placed (R99). -/
theorem placed_refused {s : State} (hs : settable s) (h : s.anyPlaced = true) :
    (∀ (x : Section) mm, 100 ≤ mm → mm ≤ 9999 →
        exec (.sectionLength x.val mm) s = replies s (.no .layout)) ∧
      (∀ (x y : Section) e f, exec (.sectionDrop x.val) s = replies s (.no .layout) ∧
        exec (.sectionJoin x.val e ⟨y.val, f⟩) s = replies s (.no .layout) ∧
        exec (.sectionBuffer x.val e) s = replies s (.no .layout)) ∧
      (∀ (t : TurnoutId) (p q r : SecEnd),
        exec (.turnoutLegs t.val ⟨p.sec.val, p.e⟩ ⟨q.sec.val, q.e⟩ ⟨r.sec.val, r.e⟩) s =
          replies s (.no .layout) ∧
        exec (.turnoutDrop t.val) s = replies s (.no .layout)) ∧
      (∀ (r : RunId) (xs : List Section), 2 ≤ xs.length → xs.length ≤ 8 →
        exec (.runDefine r.val (xs.map Fin.val)) s = replies s (.no .layout)) ∧
      (∀ r : RunId, exec (.runDrop r.val) s = replies s (.no .layout)) ∧
      (∀ (m : MarkId) (x : Section) mm k, (∀ d, s.cfg.sections.get x = some d → mm ≤ d.length) →
        exec (.markDefine m.val x.val mm k) s = replies s (.no .layout)) ∧
      (∀ m : MarkId, exec (.markDrop m.val) s = replies s (.no .layout)) ∧
      (∀ (k : CrossingId) (x : Section) (a b : LampId) v lead bell, v ≤ 255 → 1 ≤ lead → lead ≤ 10 →
        exec (.crossingDefine k.val x.val a.val b.val v lead bell) s = replies s (.no .layout)) ∧
      ∀ k : CrossingId, exec (.crossingDrop k.val) s = replies s (.no .layout) := by
  have hno (f : State → Ans) := layoutEdit_of_placed hs h f
  refine ⟨fun x mm h1 h2 => refuses hs.1 ?_, fun x y e f => ⟨refuses hs.1 ?_, refuses hs.1 ?_, refuses hs.1 ?_⟩,
    fun t p q r => ⟨refuses hs.1 ?_, refuses hs.1 ?_⟩, fun r xs h1 h2 => refuses hs.1 ?_, fun r => refuses hs.1 ?_,
    fun m x mm k hm => refuses hs.1 ?_, fun m => refuses hs.1 ?_, fun k x a b v lead bell h1 h2 h3 => refuses hs.1 ?_,
    fun k => refuses hs.1 ?_⟩
  · simp only [takeSectionLength, asId_val, hno]
    exact if_neg (by omega)
  · simp only [takeSectionDrop, asId_val, hno]
  · simp only [takeSectionJoin, asId_val, endValue_val ⟨y, f⟩, hno]
  · simp only [takeSectionBuffer, asId_val, hno]
  · simp only [takeTurnoutLegs, asId_val, endValue_val, hno]
  · simp only [takeTurnoutDrop, asId_val, hno]
  · simp only [takeRunDefine, asId_val, asIds_map, hno]
    exact if_neg (by omega)
  · simp only [takeRunDrop, asId_val, hno]
  · simp only [takeMarkDefine, asId_val, hno]
    exact if_neg (by simp [offsetBeyond_eq_false hm])
  · simp only [takeMarkDrop, asId_val, hno]
  · simp only [takeCrossingDefine, asId_val, hno]
    exact if_neg (by omega)
  · simp only [takeCrossingDrop, asId_val, hno]

/-- Settles O22: the legs by `releaseLegs_link` and `attachLegs_link`, each line by its branches. -/
theorem layoutObjects : Obligations.LayoutObjects := by
  refine ⟨fun c d t hd => ?_, concerns_iff, fun s => ⟨anyPlaced_iff s,
    fun t p q r c hs hp hq hr hd h1 h2 h3 h4 h5 b1 b2 b3 hc ha => ?_,
    fun t d c hs ht hd hc ha => answers hs.1.1 ?_, fun t d hs ht hd => refuses hs.1.1 ?_,
    fun r xs c hs h1 h2 hn hx hc ha => answers hs.1.1 ?_, fun r xs ht h => refuses ht ?_,
    fun r c hs hr hc ha => answers hs.1.1 ?_, fun m x d mm k c hs hx hm hc ha => answers hs.1.1 ?_,
    fun m c hs hc => ⟨fun ha => answers hs.1.1 ?_, fun ha => refuses hs.1.1 ?_⟩,
    fun k d hs hx hf h1 h2 hi hl ho => answers hs.1.1 ?_, fun k hs hi => answers hs.1.1 ?_,
    fun k hs hi => refuses hs.1.1 ?_, placed_refused⟩⟩
  · subst hd
    exact ⟨releaseLegs_eq c t, releaseLegs_of_undefined, releaseLegs_section c t, fun k => releaseLegs_link⟩
  · have hclash : ¬ (s.cfg.releaseLegs t).legsClash ⟨p, q, r⟩ = true := by
      simp [Scene.legsClash, h1, h2, h3, h4, h5, b1, b2, b3]
    have hline := legs_line hs t p q r hp hq hr hd
    rw [if_neg hclash, ← hc, layoutTaken_of_agree ha] at hline
    have hdef (z : SecEnd) (hz : s.cfg.defined z.sec = true) : (s.cfg.releaseLegs t).defined z.sec = true :=
      (releaseLegs_section s.cfg t z.sec).1.trans hz
    refine ⟨answers hs.1.1 hline, ?_, ?_, ?_, ?_, fun z hzp hzq hzr => ?_⟩ <;> rw [hc]
    · exact attachLegs_turnout ..
    · rw [attachLegs_link p (hdef p hp), if_neg h2.symm, if_neg h1.symm, if_pos rfl]
    · rw [attachLegs_link q (hdef q hq), if_neg h3.symm, if_pos rfl]
    · rw [attachLegs_link r (hdef r hr), if_pos rfl]
    · exact attachLegs_other hzp hzq hzr
  · rw [turnoutDrop_line hs ht, if_neg (by simp [hd]), ← hc, if_pos ha]; rfl
  · rw [turnoutDrop_line hs ht, if_pos hd]
  · simp only [takeRunDefine, asId_val, asIds_map, layoutEdit_of_layable hs]
    have hother : ¬ s.cfg.inOtherRun r xs = true := by
      rw [inOtherRun_iff]
      rintro ⟨x, hmem, k, hk, hne⟩
      exact hne ((hx x hmem).2 k hk)
    rw [if_neg (by omega), if_neg (by simpa using fun x h => (hx x h).1), if_neg (by simp [hn, hother]), ← hc,
      layoutRebuilt_of_agree ha]
    rfl
  · simp only [takeRunDefine, asId_val, asIds_map]
    exact if_pos h
  · obtain ⟨xs, hxs⟩ := Option.ne_none_iff_exists'.1 hr
    simp only [takeRunDrop, asId_val, layoutEdit_of_layable hs, hxs]
    rw [← hc, layoutRebuilt_of_agree ha]; rfl
  · simp only [takeMarkDefine, asId_val, layoutEdit_of_layable hs]
    rw [if_neg, if_neg, ← hc, layoutTaken_of_agree ha]
    · rfl
    · simp [defined_iff.2 (show s.cfg.sections.get x ≠ none by simp [hx])]
    · rw [offsetBeyond_eq_false fun e he => ?_]
      · exact nofun
      · rw [hx] at he; cases he; exact hm
  · simp only [takeMarkDrop, asId_val, layoutEdit_of_layable hs]
    rw [← hc, layoutTaken_of_agree ha]; rfl
  · simp only [takeMarkDrop, asId_val, layoutEdit_of_layable hs]
    rw [← hc]
    exact if_neg (by simp [ha])
  · simp only [takeCrossingDefine, asId_val, layoutEdit_of_layable hs]
    rw [if_neg (by omega), if_neg (by simp [hx]), if_neg (by simp [State.crossingIdle, hi]),
      crossingClash_eq_false hl ho]
    rfl
  · simp only [takeCrossingDrop, asId_val, layoutEdit_of_layable hs]
    exact if_neg (by simp [State.crossingIdle, hi])
  · simp only [takeCrossingDrop, asId_val, layoutEdit_of_layable hs]
    exact if_pos (by simp [State.crossingIdle, hi])

end Sys2Proof.Proofs.Objects
end

section
-- One theorem after the other: side by side, waiting proofs would pile up.
set_option Elab.async false
/-! SUPPORT. The steps of a ramp tick, one after another (R135 to R140, R153). -/

namespace Sys2Proof.Machine

open Sys2Proof.Safety

/-! ## The state test (R137, R138, R140) -/

theorem departureHold_iff (a : Account) : a.departureHold = true ↔ a.level = .departuresHeld := by
  unfold Account.departureHold
  cases a.level <;> simp

section

variable {n : Train} {s : State} {a : Authority} (ha : (s.trains.get n).authority = some a)
include ha

theorem stateTest_of_waiting (h : (s.trains.get n).state = .waiting) : stateTest n s = departureTest n a s := by
  simp only [stateTest, ha, h]

theorem stateTest_of_running (h : (s.trains.get n).state = .running) : stateTest n s = runningTest n a s := by
  simp only [stateTest, ha, h]

theorem stateTest_of_stopping (h : (s.trains.get n).state = .stopping) : stateTest n s = stoppingTest n a s := by
  simp only [stateTest, ha, h]

end

/-- The state test leaves a train that neither waits nor moves. -/
theorem stateTest_of_rest {n : Train} {s : State} (hw : (s.trains.get n).state ≠ .waiting)
    (hm : (s.trains.get n).moving = false) : stateTest n s = s := by
  unfold stateTest
  cases (s.trains.get n).authority with
  | none => rfl
  | some a => cases hst : (s.trains.get n).state <;> simp_all [TrainRun.moving]

theorem depart_eq (v : Nat) (n : Train) (s : State) : depart v n s =
    if s.account.level = .departuresHeld then s.modTrain n fun t => { t with reason := some .budget }
    else s.modTrain n fun t => { t with state := .running, target := v, reason := none } := by
  have h := departureHold_iff s.account
  unfold depart
  by_cases hl : s.account.level = .departuresHeld
  · rw [if_pos (h.2 hl), if_pos hl]; rfl
  · rw [if_neg fun g => hl (h.1 g), if_neg hl]

theorem returnToRunning_eq (n : Train) (s : State) : returnToRunning n s =
    s.modTrain n fun t => { t with state := .running, target := s.wanted n, cause := none } := rfl

/-- A moving train that a test stops. -/
def TrainRun.braked (atStop : Bool) (t : TrainRun) : TrainRun :=
  { t with state := .stopping, target := 0, cabSince := false, cause := some (if atStop then .stop else .authority) }

theorem brakingTest_eq (n : Train) (a : Authority) (s : State) : brakingTest n a s =
    if (testDistance (s.trainDef n) (s.trains.get n).speed : Int) < a.dist then s
    else s.modTrain n (TrainRun.braked a.atStop) := rfl

/-! ## What the tests leave of a train that goes on moving -/

/-- A train's speed and head position are what they were. -/
def StaysPut (n : Train) (s t : State) : Prop :=
  (t.trains.get n).speed = (s.trains.get n).speed ∧ (t.trains.get n).headPos = (s.trains.get n).headPos

theorem StaysPut.refl (n : Train) (s : State) : StaysPut n s s := ⟨rfl, rfl⟩

theorem StaysPut.trans {n : Train} {s t u : State} (h : StaysPut n s t) (k : StaysPut n t u) : StaysPut n s u :=
  ⟨k.1.trans h.1, k.2.trans h.2⟩

theorem StaysPut.modTrain {n : Train} {s : State} {f : TrainRun → TrainRun}
    (h : (f (s.trains.get n)).speed = (s.trains.get n).speed ∧ (f (s.trains.get n)).headPos = (s.trains.get n).headPos) :
    StaysPut n s (s.modTrain n f) := by unfold StaysPut; rwa [State.modTrain_self]

theorem StaysPut.ite {n : Train} (p : Prop) [Decidable p] {s t u : State} (h : p → StaysPut n s t)
    (g : ¬ p → StaysPut n s u) : StaysPut n s (if p then t else u) := by
  split
  · next hp => exact h hp
  · next hp => exact g hp

theorem brakingTest_stays (n : Train) (a : Authority) (s : State) : StaysPut n s (brakingTest n a s) := by
  rw [brakingTest_eq]
  exact .ite _ (fun _ => .refl ..) fun _ => .modTrain ⟨rfl, rfl⟩

theorem runningTest_stays (n : Train) (a : Authority) (s : State) : StaysPut n s (runningTest n a s) := by
  unfold runningTest creepTest
  refine .ite _ (fun _ => .modTrain ⟨rfl, rfl⟩) fun _ => ?_
  refine StaysPut.trans (.modTrain ⟨rfl, rfl⟩) (.ite _ (fun _ => ?_) fun _ => brakingTest_stays ..)
  exact .ite _ (fun _ => .modTrain ⟨rfl, rfl⟩) fun _ => .refl ..

theorem stoppingTest_stays (n : Train) (a : Authority) (s : State) : StaysPut n s (stoppingTest n a s) := by
  have hback : StaysPut n s (returnToRunning n s) := .modTrain ⟨rfl, rfl⟩
  unfold stoppingTest
  dsimp only
  split
  · exact .ite _ (fun _ => hback) fun _ => .refl ..
  · exact .ite _ (fun _ => hback.trans (brakingTest_stays ..)) fun _ => .refl ..
  · exact .refl ..
  · exact .refl ..

/-- A departure test serves a stop, or leaves the train where it is. -/
theorem departureTest_stays (n : Train) (a : Authority) (s : State) :
    departureTest n a s = serveStop n s ∨ StaysPut n s (departureTest n a s) := by
  have hdepart (v : Nat) : StaysPut n s (depart v n s) :=
    .ite _ (fun _ => .modTrain ⟨rfl, rfl⟩) fun _ => .modTrain ⟨rfl, rfl⟩
  unfold departureTest
  dsimp only
  split
  · exact .inr (.modTrain ⟨rfl, rfl⟩)
  · split
    · exact .inr (.modTrain ⟨rfl, rfl⟩)
    · split
      · exact .inr (hdepart _)
      · split
        · exact .inr (hdepart _)
        · split
          · exact .inl rfl
          · exact .inr (.modTrain ⟨rfl, rfl⟩)

theorem stateTest_stays (n : Train) (s : State) : stateTest n s = serveStop n s ∨ StaysPut n s (stateTest n s) := by
  unfold stateTest
  split
  · exact .inr (.refl ..)
  · split
    · exact departureTest_stays ..
    · exact .inr (runningTest_stays ..)
    · exact .inr (stoppingTest_stays ..)
    all_goals exact .inr (.refl ..)

/-- A train that has served a stop stands (R141). -/
theorem serveStop_moving (n : Train) (s : State) : ((serveStop n s).trains.get n).moving = false := by
  obtain ⟨f, hf, hd⟩ := serveStop_cases n s
  rw [hd n, State.modTrain_self]
  rcases hf with ⟨-, rfl⟩ | ⟨-, rfl⟩ | ⟨k, -, -, rfl⟩
  · rfl
  · cases s.halt <;> rfl
  · rfl

/-! ## Motion (R136) -/

theorem moveTrain_of_moving {n : Train} {s : State} (h : (s.trains.get n).moving = true) : moveTrain n s =
    s.modTrain n fun t =>
      { t with
        speed := rampSpeed (s.trainDef n) t.speed t.target
        duty := dutyOf (s.trainDef n) (rampSpeed (s.trainDef n) t.speed t.target)
        headPos := t.headPos + speedOf (s.trainDef n) (rampSpeed (s.trainDef n) t.speed t.target) } := if_pos h

theorem moveTrain_of_rest {n : Train} {s : State} (h : (s.trains.get n).moving = false) : moveTrain n s = s :=
  if_neg (by simp [h])

theorem moveTrain_moving (n : Train) (s : State) :
    ((moveTrain n s).trains.get n).moving = (s.trains.get n).moving := by
  cases h : (s.trains.get n).moving with
  | false => rw [moveTrain_of_rest h, h]
  | true => rw [moveTrain_of_moving h, State.modTrain_self]; exact h

/-! ## The checks (R139, R140, R144) -/

/-- The train has passed its stop mark by more than 200 mm. -/
def PastMark (n : Train) (s : State) : Prop :=
  ∃ p, s.headMarkPos n = some p ∧ p + Config.overshoot < (s.trains.get n).headPos

section

variable {n : Train} {s : State} {h : SpanElt} (hh : (s.trains.get n).head = some h)

/-- A check that only a moving train undergoes. -/
def whileMoving (n : Train) (f : State → State) (s : State) : State := if (s.trains.get n).moving then f s else s

/-- A train past its limit is lost. -/
def lostCheck (n : Train) (h : SpanElt) (s : State) : State :=
  if lostLimit (s.cfg.lengthOf h.sec) < (s.trains.get n).headPos then loseTrain n s else s

/-- A train that has stopped comes to rest. -/
def restCheck (n : Train) (s : State) : State :=
  if (s.trains.get n).state = .stopping ∧ (s.trains.get n).speed = 0 then comeToRest n s else s

include hh in
theorem checkTrain_eq : checkTrain n s =
    restCheck n (whileMoving n (overshootCheck n) (whileMoving n (lostCheck n h) s)) := by
  simp only [checkTrain, hh]
  rfl

theorem whileMoving_of_rest {f : State → State} {s : State} (hm : (s.trains.get n).moving = false) :
    whileMoving n f s = s := if_neg (by simp [hm])

theorem restCheck_of_rest {s : State} (hm : (s.trains.get n).moving = false) : restCheck n s = s := by
  refine if_neg ?_
  rintro ⟨hst, -⟩
  simp [TrainRun.moving, hst] at hm

theorem checkTrain_of_rest (hm : (s.trains.get n).moving = false) : checkTrain n s = s := by
  cases hh : (s.trains.get n).head with
  | none => simp only [checkTrain, hh]
  | some h => rw [checkTrain_eq hh, whileMoving_of_rest hm, whileMoving_of_rest hm, restCheck_of_rest hm]

theorem loseTrain_moving (n : Train) (s : State) : ((loseTrain n s).trains.get n).moving = false := by
  rw [loseTrain_train]; rfl

theorem stopAtMark_moving (n : Train) (s : State) : ((stopAtMark n s).trains.get n).moving = false :=
  serveStop_moving ..

include hh

theorem checkTrain_of_lost (hm : (s.trains.get n).moving = true)
    (hl : lostLimit (s.cfg.lengthOf h.sec) < (s.trains.get n).headPos) : checkTrain n s = loseTrain n s := by
  have hr := loseTrain_moving n s
  have hlost : whileMoving n (lostCheck n h) s = loseTrain n s := (if_pos hm).trans (if_pos hl)
  rw [checkTrain_eq hh, hlost, whileMoving_of_rest hr, restCheck_of_rest hr]

theorem checkTrain_of_past (hm : (s.trains.get n).moving = true)
    (hl : ¬ lostLimit (s.cfg.lengthOf h.sec) < (s.trains.get n).headPos) (hp : PastMark n s) :
    checkTrain n s = stopAtMark n (s.raise (.markMiss n)) := by
  obtain ⟨p, hpos, hpast⟩ := hp
  have ho : overshootCheck n s = stopAtMark n (s.raise (.markMiss n)) := by
    simp only [overshootCheck, hpos]
    exact if_pos hpast
  have hlost : whileMoving n (lostCheck n h) s = s := (if_pos hm).trans (if_neg hl)
  have hover : whileMoving n (overshootCheck n) s = stopAtMark n (s.raise (.markMiss n)) := (if_pos hm).trans ho
  rw [checkTrain_eq hh, hlost, hover, restCheck_of_rest (stopAtMark_moving ..)]

theorem checkTrain_of_near (hm : (s.trains.get n).moving = true)
    (hl : ¬ lostLimit (s.cfg.lengthOf h.sec) < (s.trains.get n).headPos) (hp : ¬ PastMark n s) : checkTrain n s =
      if (s.trains.get n).state = .stopping ∧ (s.trains.get n).speed = 0 then comeToRest n s else s := by
  have ho : overshootCheck n s = s := by
    unfold overshootCheck
    cases hpos : s.headMarkPos n with
    | none => rfl
    | some p => exact if_neg fun hlt => hp ⟨p, hpos, hlt⟩
  have hlost : whileMoving n (lostCheck n h) s = s := (if_pos hm).trans (if_neg hl)
  have hover : whileMoving n (overshootCheck n) s = s := (if_pos hm).trans ho
  rw [checkTrain_eq hh, hlost, hover]
  rfl

end

/-- A train that comes to rest moves no more (R139). -/
theorem comeToRest_moving (n : Train) (s : State) : ((comeToRest n s).trains.get n).moving = false := by
  have hwait (halt : Bool) (r : Option WaitReason) (t : TrainRun) : (waitingRun halt r t).moving = false := by
    cases halt <;> rfl
  have hpark (t : State) : ((park n t).trains.get n).moving = false := by rw [park_eq, State.modTrain_self]; rfl
  have henter (r : Option WaitReason) (t : State) : ((enterWaitingFor r n t).trains.get n).moving = false := by
    rw [enterWaitingFor_eq, State.modTrain_self]; exact hwait ..
  unfold comeToRest
  split
  · split
    · exact serveStop_moving ..
    · exact henter ..
  · exact henter ..
  · unfold restByCommand
    dsimp only
    split
    · split
      · exact hpark _
      · exact henter ..
    · exact hpark _
  · exact henter ..

/-- The checks leave a train that still moves after them. -/
theorem checkTrain_of_moving {n : Train} {s : State} (h : ((checkTrain n s).trains.get n).moving = true) :
    checkTrain n s = s := by
  cases hm : (s.trains.get n).moving with
  | false => exact checkTrain_of_rest hm
  | true =>
    cases hh : (s.trains.get n).head with
    | none => simp only [checkTrain, hh]
    | some e =>
      by_cases hl : lostLimit (s.cfg.lengthOf e.sec) < (s.trains.get n).headPos
      · rw [checkTrain_of_lost hh hm hl, loseTrain_moving] at h
        cases h
      · by_cases hp : PastMark n s
        · rw [checkTrain_of_past hh hm hl hp, stopAtMark_moving] at h
          cases h
        · rw [checkTrain_of_near hh hm hl hp] at h ⊢
          split at h
          · rw [comeToRest_moving] at h
            cases h
          · next hr => exact if_neg hr

/-! ## Staged pairs (R128, R129) -/

/-- An open channel has a staged pair. -/
def Fed (c : Channel) (s : State) : Prop :=
  s.halt = false → (s.channels.get c).state ≠ .cut → (s.channels.get c).staged ≠ none

theorem fed_congr {c : Channel} {s t : State} (hc : t.channels = s.channels) (hh : t.halt = s.halt) (h : Fed c s) :
    Fed c t := by
  unfold Fed
  rw [hc, hh]
  exact h

/-- A duty request feeds its channel, and starves none. -/
theorem dutyRequest_fed (c d : Channel) (p : Drive) (s : State) (h : c = d ∨ Fed c s) : Fed c (dutyRequest d p s) := by
  intro hh hc
  have hhalt : (dutyRequest d p s).halt = s.halt := Traffic.halt (dutyRequest_asks d p s).toTraffic
  rw [hhalt] at hh
  rw [(dutyRequest_asks d p s).asks] at hc
  rw [dutyRequest_channel]
  split
  · exact nofun
  · next hn =>
    rcases h with rfl | h
    · exact absurd ⟨rfl, hh, hc⟩ hn
    · exact h hh hc

theorem restSections_fed {c : Channel} (xs : List Section) {s : State} (h : Fed c s) :
    Fed c (xs.foldl restSection s) :=
  List.foldlRecOn xs restSection (motive := Fed c) h fun t ht _ _ => dutyRequest_fed _ _ _ t (.inr ht)

theorem driveSections_fed {c : Channel} (duty : Nat) (es : List SpanElt) {s : State}
    (h : (∃ e ∈ es, sectionChannel e.sec = c) ∨ Fed c s) : Fed c (es.foldl (driveSection duty) s) := by
  induction es generalizing s with
  | nil => exact h.resolve_left nofun
  | cons e es ih =>
    refine ih ?_
    rcases h with ⟨f, hf, hc⟩ | h
    · rcases List.mem_cons.1 hf with rfl | hf
      · exact .inr (dutyRequest_fed _ _ _ s (.inl hc.symm))
      · exact .inl ⟨f, hf, hc⟩
    · exact .inr (dutyRequest_fed _ _ _ s (.inr h))

/-- The open channels of a train's powered set have staged pairs. -/
def Energised (n : Train) (s : State) : Prop := ∀ e ∈ (s.trains.get n).powered, Fed (sectionChannel e.sec) s

theorem energised_congr {n : Train} {s t : State} (hc : t.channels = s.channels) (hh : t.halt = s.halt)
    (hp : (t.trains.get n).powered = (s.trains.get n).powered) (h : Energised n s) : Energised n t := by
  intro e he
  rw [hp] at he
  exact fed_congr hc hh (h e he)

theorem refreshAuthority_energised {n m : Train} {s : State} (h : Energised n s) :
    Energised n (refreshAuthority m s) := by
  by_cases hp : (s.trains.get m).state = .unplaced
  · rw [refreshAuthority_of_unplaced hp]
    intro e he
    rw [State.modTrain_get] at he
    split at he
    · cases he
    · exact fed_congr rfl rfl (h e he)
  · have hfed {c : Channel} (hc : (∃ e ∈ poweredSet (s.trains.get m) (s.walk m true), sectionChannel e.sec = c ∧
        ∀ f ∈ (s.trains.get m).powered, f.sec ≠ e.sec) ∨ Fed c s) : Fed c (refreshAuthority m s) := by
      rw [refreshAuthority_of_placed hp]
      refine fed_congr (s := redrawn ..) rfl rfl (restSections_fed _ (driveSections_fed _ _ ?_))
      rcases hc with ⟨e, he, hc, hf⟩ | hc
      · exact .inl ⟨e, List.mem_filter.2 ⟨he, by rw [Bool.not_eq_true', among_eq_false]; exact hf⟩, hc⟩
      · exact .inr hc
    intro e he
    by_cases hm : n = m
    · subst hm
      by_cases hold : ∃ f ∈ (s.trains.get n).powered, f.sec = e.sec
      · obtain ⟨f, hf, hs⟩ := hold
        exact hfed (.inr (hs ▸ h f hf))
      · refine hfed (.inl ⟨e, ?_, rfl, fun f hf hs => hold ⟨f, hf, hs⟩⟩)
        rw [refreshAuthority_train, TrainRun.withWalk, if_pos (placed_iff.2 hp)] at he
        exact he
    · rw [refreshAuthority_other hm] at he
      exact hfed (.inr (h e he))

theorem Stirs.energised {n : Train} {s t : State} (h : Stirs s t) : Energised n s → Energised n t := by
  induction h with
  | same hc ht hs _ => exact energised_congr hc (by simp [State.halt, hs]) (by rw [ht])
  | refresh m s => exact refreshAuthority_energised
  | trans _ _ ih ih' => exact fun h => ih' (ih h)

theorem sendPower_energised (n : Train) (s : State) : Energised n (sendPower n s) := by
  intro e he
  rw [(sendPower_asks n s).same] at he
  exact restSections_fed _ (driveSections_fed _ _ (.inl ⟨e, he, rfl⟩))

/-! ## The look-ahead (R153) -/

/-- What a request for a unit comes to (R115, R116). -/
theorem requestUnit_cases (n : Train) (u : Section) (s : State) : requestUnit n u s = s ∨
    requestUnit n u s = grant false n u s ∨
    (∃ m, requestUnit n u s = (s.modTrain n TrainRun.deadlocked).raise (.deadlock n u m)) ∨
    requestUnit n u s = unitNotice u (queueCore n u s) := by
  unfold requestUnit
  dsimp only
  split
  · exact .inl rfl
  · split
    · exact .inr (.inl rfl)
    · split
      · exact .inr (.inr (.inl ⟨_, rfl⟩))
      · exact .inr (.inr (.inr rfl))

theorem lookAhead_cases (n : Train) (s : State) : lookAhead n s = s ∨ ∃ u, lookAhead n s = requestUnit n u s := by
  unfold lookAhead
  dsimp only
  split
  · split
    · exact .inl rfl
    · split
      · exact .inl rfl
      · split
        · exact .inl rfl
        · next u _ => exact .inr ⟨u, rfl⟩
  · exact .inl rfl

theorem requestUnit_energised {n m : Train} {u : Section} {s : State} (h : Energised m s) :
    Energised m (requestUnit n u s) := by
  rcases requestUnit_cases n u s with e | e | ⟨k, e⟩ | e <;> rw [e]
  · exact h
  · have hcore : Energised m (grantCore n u s) :=
      energised_congr (s := s) rfl rfl (by rw [grantCore_train]) h
    rw [grant_eq]
    refine Stirs.energised ((askThrows_stirs ..).trans (.refresh ..)) ?_
    split
    · exact hcore
    · exact (unitNotice_stirs ..).energised hcore
  · refine (raise_stirs ..).energised (energised_congr (s := s) rfl rfl ?_ h)
    rw [State.modTrain_get]
    split <;> rfl
  · refine (unitNotice_stirs ..).energised (energised_congr (s := s) rfl rfl ?_ h)
    rw [queueCore_train]
    split <;> rfl

theorem lookAhead_energised {n m : Train} {s : State} (h : Energised m s) : Energised m (lookAhead n s) := by
  rcases lookAhead_cases n s with e | ⟨u, e⟩ <;> rw [e]
  · exact h
  · exact requestUnit_energised h

/-- What a request leaves of the train that makes it: all but its reservations, its deadlock marks with the reason,
its authority and its powered set. -/
theorem requestUnit_train (n : Train) (u : Section) (s : State) : (requestUnit n u s).trains.get n =
    { (s.trains.get n).reserving ((requestUnit n u s).trains.get n) with
      deadlock := ((requestUnit n u s).trains.get n).deadlock
      reason := ((requestUnit n u s).trains.get n).reason } := by
  rcases requestUnit_cases n u s with e | e | ⟨k, e⟩ | e <;> rw [e]
  · exact rfl
  · rw [grant_reserves false n u s n]; rfl
  · rw [(raise_stirs _ _).redraws n, State.modTrain_self]; rfl
  · rw [(unitNotice_stirs _ _).redraws n, queueCore_train, if_pos rfl]; rfl

theorem lookAhead_train (n : Train) (s : State) : (lookAhead n s).trains.get n =
    { (s.trains.get n).reserving ((lookAhead n s).trains.get n) with
      deadlock := ((lookAhead n s).trains.get n).deadlock
      reason := ((lookAhead n s).trains.get n).reason } := by
  rcases lookAhead_cases n s with e | ⟨u, e⟩ <;> rw [e]
  · exact rfl
  · exact requestUnit_train n u s

/-- The look-ahead does not move a train. -/
theorem lookAhead_keeps (n : Train) (s : State) :
    ((lookAhead n s).trains.get n).moving = (s.trains.get n).moving ∧
    ((lookAhead n s).trains.get n).speed = (s.trains.get n).speed ∧
    ((lookAhead n s).trains.get n).duty = (s.trains.get n).duty ∧
    ((lookAhead n s).trains.get n).headPos = (s.trains.get n).headPos ∧
    ((lookAhead n s).trains.get n).target = (s.trains.get n).target := by
  have h := lookAhead_train n s
  generalize (lookAhead n s).trains.get n = y at h
  rw [h]
  exact ⟨rfl, rfl, rfl, rfl, rfl⟩

/-- The look-ahead of a train asks for the next unit. -/
def State.asksAhead (s : State) (n : Train) : Prop :=
  ((s.trains.get n).looksAhead = true ∧ (s.trains.get n).request = none ∧ (s.trains.get n).deadlock = false) ∧
    ¬ ((s.walk n false).atStop = true ∨
      ((lookaheadDistance (s.trainDef n) (s.wanted n) : Nat) : Int) ≤ (s.walk n false).dist)

theorem lookAhead_of_asks {n : Train} {s : State} {p : PathElt} {ps : List PathElt} {u : Section} (h : s.asksAhead n)
    (hr : (s.walk n false).rest = p :: ps) (hu : s.cfg.unitKey p.sec = some u) :
    lookAhead n s = requestUnit n u s := by
  unfold lookAhead
  dsimp only
  rw [if_pos h.1]
  simp only [hr, hu]
  exact if_neg h.2

theorem lookAhead_of_none {n : Train} {s : State} (h : ¬ s.asksAhead n ∨ (s.walk n false).rest = [] ∨
    ∃ p ps, (s.walk n false).rest = p :: ps ∧ s.cfg.unitKey p.sec = none) : lookAhead n s = s := by
  unfold lookAhead
  dsimp only
  split
  · next hl =>
    rcases h with h | h | ⟨p, ps, h, hu⟩
    · have hfar := not_not.1 fun hn => h ⟨hl, hn⟩
      split
      · rfl
      · exact if_pos hfar
    · simp only [h]
    · simp only [h, hu, ite_self]
  · rfl

theorem sendPower_heeds (n : Train) (s : State) : Heeds s (sendPower n s) :=
  .trans (.foldl (fun s _ => dutyRequest_heeds _ _ s) _ s) (restSections_heeds ..)

theorem looksAhead_iff (t : TrainRun) : t.looksAhead = true ↔ t.state = .waiting ∨ t.moving = true := by
  unfold TrainRun.looksAhead TrainRun.moving
  cases t.state <;> simp

/-! ## The retry (R116, R122) -/

theorem retryStep_of_set {n : Train} {s : State} (hd : (s.trains.get n).deadlock = true)
    (hr : (s.trains.get n).retry = true) : retryStep n s =
      askAllThrows n (s.modTrain n fun t => { t with deadlock := false, retry := false }) := by
  unfold retryStep
  exact if_pos (by rw [hd, hr]; rfl)

theorem retryStep_of_clear {n : Train} {s : State}
    (h : (s.trains.get n).deadlock = false ∨ (s.trains.get n).retry = false) : retryStep n s = s := by
  unfold retryStep
  exact if_neg (by rcases h with h | h <;> simp [h])

/-- A record but for its authority, powered set and deadlock marks. -/
def TrainRun.marking (x y : TrainRun) : TrainRun :=
  { x with authority := y.authority, powered := y.powered, deadlock := y.deadlock, retry := y.retry }

/-- The retry and the fresh authority before the state test. -/
theorem prepared_train (n : Train) (s : State) : (refreshAuthority n (retryStep n s)).trains.get n =
    (s.trains.get n).marking ((refreshAuthority n (retryStep n s)).trains.get n) := by
  rw [(refreshAuthority_redraws ..).trains n]
  by_cases h : (s.trains.get n).deadlock = true ∧ (s.trains.get n).retry = true
  · rw [retryStep_of_set h.1 h.2, (askAllThrows_stirs ..).redraws n, State.modTrain_self]; rfl
  · rw [retryStep_of_clear]
    · rfl
    · rwa [not_and_or, Bool.not_eq_true, Bool.not_eq_true] at h

theorem prepared_authority {n : Train} {s : State} (h : (s.trains.get n).state ≠ .unplaced) :
    ((refreshAuthority n (retryStep n s)).trains.get n).authority ≠ none := by
  have hst : ((retryStep n s).trains.get n).state ≠ .unplaced := by
    have hp := prepared_train n s
    rw [(refreshAuthority_redraws ..).trains n] at hp
    have := congrArg TrainRun.state hp
    exact fun e => h (this.symm.trans e)
  rw [refreshAuthority_train, TrainRun.withWalk, if_pos (placed_iff.2 hst)]
  exact nofun

end Sys2Proof.Machine
end

section

namespace Sys2Proof.Proofs.Ramp

open Sys2Proof.Machine Sys2Proof.Safety

/-! ## The state test -/

theorem room_cast (d : TrainDef) (v : Nat) :
    ((testDistance d v : Nat) : Int) = stoppingDistance d v + speedOf d v + 300 := by
  simp only [testDistance, Config.brakeMargin]
  push_cast
  rfl

theorem wanted_eq (s : State) (n : Train) : s.wanted n =
    match (s.trains.get n).mode with | .route => (s.cfg.trains.get n).service | .cab => (s.trains.get n).cabStep := rfl

section

variable {s : State} {n : Train} {x : TrainRun} {d : TrainDef} {w tgt : Nat} {a : Authority}
  {put : (TrainRun → TrainRun) → State} {room : Nat → Int} {served marked : Prop}
  (hx : x = s.trains.get n) (hd : d = s.cfg.trains.get n) (hw : w = s.wanted n) (ha : x.authority = some a)
  (hput : ∀ f, put f = s.modTrain n f) (hroom : ∀ v, room v = stoppingDistance d v + speedOf d v + 300)
include hx hd hw ha hput hroom

theorem waiting_test (hserved : served ↔ x.mode = .route ∧ s.headStop n ≠ none) (hst : x.state = .waiting) :
    (w = 0 → stateTest n s = put fun y => { y with
      state := .parked, target := 0, cause := none, reason := none, dwell := 0 }) ∧
    (w ≠ 0 → x.deadlock = true → stateTest n s = put fun y => { y with reason := some .deadlock }) ∧
    (w ≠ 0 → x.deadlock = false →
      (∀ v, (room (16 * w) < a.dist ∧ v = w) ∨
          (a.dist ≤ room (16 * w) ∧ a.atStop = true ∧ 300 < a.dist ∧ v = min w d.creep) →
        stateTest n s =
          if s.account.level = .departuresHeld then put fun y => { y with reason := some .budget }
          else put fun y => { y with state := .running, target := v, reason := none }) ∧
      (a.dist ≤ room (16 * w) → a.atStop = false ∨ a.dist ≤ 300 →
        (served → stateTest n s = serveStop n s) ∧
        (¬ served → stateTest n s = put fun y => { y with reason := some .authority }))) := by
  have hroom16 : ((testDistance (s.trainDef n) (16 * s.wanted n) : Nat) : Int) = room (16 * w) := by
    rw [room_cast, hroom, hw, hd]; rfl
  subst hx hw
  rw [stateTest_of_waiting ha hst]
  unfold departureTest
  simp only [hput, hroom16]
  have hmargin : ((Config.brakeMargin : Nat) : Int) = 300 := rfl
  rw [hmargin]
  refine ⟨fun h0 => if_pos h0, fun h0 hdl => ?_, fun h0 hdl => ⟨fun v hv => ?_, fun hr hs => ⟨fun h => ?_, fun h => ?_⟩⟩⟩
  · rw [if_neg h0, if_pos hdl]; rfl
  · rw [if_neg h0, if_neg (by simp [hdl])]
    rcases hv with ⟨hr, rfl⟩ | ⟨hr, hs, h3, rfl⟩
    · rw [if_pos hr, depart_eq]
    · rw [if_neg (by omega), if_pos ⟨hs, h3⟩, depart_eq, hd]; rfl
  · rw [if_neg h0, if_neg (by simp [hdl]), if_neg (by omega), if_neg, if_pos]
    · obtain ⟨hm, hstop⟩ := hserved.1 h
      exact ⟨hm, Option.isSome_iff_ne_none.2 hstop⟩
    · rintro ⟨h1, h2⟩
      rcases hs with hs | hs
      · rw [hs] at h1; cases h1
      · omega
  · rw [if_neg h0, if_neg (by simp [hdl]), if_neg (by omega), if_neg, if_neg]
    · rfl
    · exact fun g => h (hserved.2 ⟨g.1, Option.isSome_iff_ne_none.1 g.2⟩)
    · rintro ⟨h1, h2⟩
      rcases hs with hs | hs
      · rw [hs] at h1; cases h1
      · omega

theorem running_test (hmarked : marked ↔ a.atStop = true ∧ s.nextStopMark n ≠ none)
    (htgt : tgt = if a.atStop = true ∧ x.target ≤ d.creep then min w x.target else w) (hst : x.state = .running) :
    (w = 0 → stateTest n s = put fun y => { y with
      state := .stopping, target := 0, cause := some .command, cabSince := false }) ∧
    (w ≠ 0 → marked → stateTest n s = put fun y => { y with
      target := if d.creep < tgt ∧ a.dist ≤ (stoppingDistance d x.speed : Int)
          - stoppingDistance d (16 * d.creep) + speedOf d x.speed + 300 then d.creep else tgt }) ∧
    (w ≠ 0 → ¬ marked → stateTest n s =
      if room x.speed < a.dist then put fun y => { y with target := tgt }
      else put fun y => { y with
        state := .stopping, target := 0, cabSince := false
        cause := some (if a.atStop then .stop else .authority) }) := by
  subst hx
  have hdef : s.trainDef n = d := hd.symm
  obtain ⟨t, ht⟩ : ∃ t, t = s.modTrain n fun y => { y with target := tgt } := ⟨_, rfl⟩
  have hrun : w ≠ 0 → stateTest n s = if a.atStop = true ∧ (t.nextStopMark n).isSome
      then creepTest n a t else brakingTest n a t := fun h0 => by
    have htarget : t = s.modTrain n fun y => { y with
        target := if a.atStop && decide (y.target ≤ (s.trainDef n).creep) then min (s.wanted n) y.target
          else s.wanted n } := by
      rw [ht]
      refine modTrain_congr ?_
      rw [htgt, hdef, hw]
      simp only [Bool.and_eq_true, decide_eq_true_eq]
    rw [stateTest_of_running ha hst, htarget]
    exact if_neg (hw ▸ h0)
  have hself : t.trains.get n = { s.trains.get n with target := tgt } := by rw [ht, State.modTrain_self]
  have hmark : t.nextStopMark n = s.nextStopMark n := by
    have hpath : t.path n = s.path n := by unfold State.path; rw [hself, ht]; rfl
    unfold State.nextStopMark
    rw [hpath]
  have hcond : (a.atStop = true ∧ (t.nextStopMark n).isSome = true) ↔ marked := by
    rw [hmark, Option.isSome_iff_ne_none, hmarked]
  refine ⟨fun h0 => ?_, fun h0 hm => ?_, fun h0 hm => ?_⟩
  · rw [stateTest_of_running ha hst, hput]
    exact if_pos (hw ▸ h0)
  · rw [hrun h0, if_pos (hcond.2 hm), hput]
    have htd : t.trainDef n = d := by rw [ht]; exact hdef
    unfold creepTest
    simp only [hself, htd]
    have hmargin : ((Config.brakeMargin : Nat) : Int) = 300 := rfl
    rw [hmargin]
    by_cases hc : d.creep < tgt ∧ a.dist ≤ (stoppingDistance d (s.trains.get n).speed : Int)
        - stoppingDistance d (16 * d.creep) + speedOf d (s.trains.get n).speed + 300
    · simp only [if_pos hc]
      rw [ht, modTrain_modTrain]
    · simp only [if_neg hc]
      exact ht
  · rw [hrun h0, if_neg fun h => hm (hcond.1 h), brakingTest_eq, hself]
    have htd : t.trainDef n = d := by rw [ht]; exact hdef
    simp only [htd, room_cast, hroom, hput]
    rw [ht, modTrain_modTrain]
    rfl

theorem stopping_test (hst : x.state = .stopping) :
    (x.cause = some .authority → stateTest n s =
      if room x.speed < a.dist then put fun y => { y with state := .running, target := w, cause := none } else s) ∧
    ∀ again : Prop, (again ↔ x.mode = .cab ∧ 0 < x.cabStep ∧ x.cabSince = true) →
      (x.cause = some .stop ∨ (x.cause = some .command ∧ ¬ again) → stateTest n s = s) ∧
      (x.cause = some .command → again → stateTest n s =
        if room x.speed < a.dist then put fun y => { y with state := .running, target := w, cause := none }
        else put fun y => { y with
          state := .stopping, target := 0, cabSince := false
          cause := some (if a.atStop then .stop else .authority) }) := by
  have hspeed : ((testDistance (s.trainDef n) x.speed : Nat) : Int) = room x.speed := by
    rw [room_cast, hroom, hd]; rfl
  have hgone : x.commandGone = true ↔ x.mode = .cab ∧ 0 < x.cabStep ∧ x.cabSince = true := by
    unfold TrainRun.commandGone
    cases x.mode <;> simp
  subst hx hw
  rw [stateTest_of_stopping ha hst]
  simp only [hput]
  refine ⟨fun hc => ?_, fun again hag => ⟨fun hc => ?_, fun hc hagain => ?_⟩⟩
  · simp only [stoppingTest, hc, hspeed]
    rfl
  · rcases hc with hc | ⟨hc, hn⟩
    · simp only [stoppingTest, hc]
    · simp only [stoppingTest, hc]
      exact if_neg fun h => hn (hag.2 (hgone.1 h))
  · simp only [stoppingTest, hc]
    rw [if_pos (hgone.2 (hag.1 hagain)), brakingTest_eq, returnToRunning_eq, modTrain_modTrain, State.modTrain_self,
      ← hspeed]
    rfl

end

/-! ## Power -/

/-- Step 6 sends the train's duty over its powered set, and duty 0 over the rest of its units. -/
theorem power (s : State) (n : Train) : sendPower n s = s.withChannels (sendPower n s).channels ∧
    (s.halt = true → sendPower n s = s) ∧
    (s.halt = false → ∀ c : Section, (s.channels.get (sectionChannel c)).state ≠ .cut →
      (∀ e ∈ (s.trains.get n).powered, e.sec = c → (∀ f ∈ (s.trains.get n).powered, f.sec = c → f = e) →
        ((sendPower n s).channels.get (sectionChannel c)).staged =
          some ⟨if (s.trains.get n).moving then (s.trains.get n).duty else 0, travelPol e.entry⟩) ∧
      (s.holds n c = true → (∀ e ∈ (s.trains.get n).powered, e.sec ≠ c) →
        ((sendPower n s).channels.get (sectionChannel c)).staged =
          some ⟨0, (s.channels.get (sectionChannel c)).applied.pol⟩)) ∧
    ∀ c : Channel, (∀ z, sectionChannel z = c → s.holds n z = false ∧ ∀ e ∈ (s.trains.get n).powered, e.sec ≠ z) →
      (sendPower n s).channels.get c = s.channels.get c := by
  obtain ⟨duty, hduty⟩ : ∃ duty, duty = if (s.trains.get n).moving then (s.trains.get n).duty else 0 := ⟨_, rfl⟩
  obtain ⟨v, hv⟩ : ∃ v, v = (s.trains.get n).powered.foldl (driveSection duty) s := ⟨_, rfl⟩
  obtain ⟨xs, hxs⟩ : ∃ xs, xs = (s.heldSections n).filter fun x => !(s.trains.get n).powered.any fun e => e.sec == x :=
    ⟨_, rfl⟩
  have hsend : sendPower n s = xs.foldl restSection v := by rw [hv, hxs, hduty]; rfl
  have hasks : Asks s v := hv ▸ driveSections_asks ..
  have hmem (z : Section) : z ∈ xs ↔ s.holds n z = true ∧ ∀ e ∈ (s.trains.get n).powered, e.sec ≠ z := by
    rw [hxs, List.mem_filter, mem_heldSections]
    simp
  have hother (c : Channel) (h : ∀ z, sectionChannel z = c → z ∉ xs) :
      (sendPower n s).channels.get c = v.channels.get c := by
    rw [hsend, restSections_channel, if_neg]
    rintro ⟨⟨z, hz, hc⟩, -⟩
    exact h z hc hz
  refine ⟨(sendPower_asks n s).eq, fun hh => ?_, fun hh c hc => ⟨fun e he hec hone => ?_, fun hhold hnone => ?_⟩,
    fun c hc => ?_⟩
  · rw [(sendPower_asks n s).eq]
    have hch : (sendPower n s).channels = s.channels := Table.ext fun c => (sendPower_heeds n s).shut c (.inl hh)
    rw [hch]
    rfl
  · subst hec
    rw [hother, hv, driveSections_staged he hone hh hc, hduty]
    intro z hz hzs
    exact ((hmem z).1 hzs).2 e he (sectionChannel_inj.1 hz).symm
  · rw [hsend, restSections_staged ((hmem c).2 ⟨hhold, hnone⟩) ((Traffic.halt hasks.toTraffic).trans hh)
      (by rw [hasks.asks]; exact hc), hasks.asks]
  · rw [hother c fun z hz hzs => absurd (hc z hz).1 (by simp [((hmem z).1 hzs).1]), hv,
      driveSections_channel_other fun e he hec => (hc e.sec hec).2 e he rfl]

/-! ## The look-ahead -/

theorem ahead (s : State) (n : Train) (asks : Prop) (hasks : asks ↔
      ((s.trains.get n).state = .waiting ∨ (s.trains.get n).moving = true) ∧ (s.trains.get n).request = none ∧
      (s.trains.get n).deadlock = false ∧ (s.walk n false).atStop = false ∧
      (s.walk n false).dist < stoppingDistance (s.cfg.trains.get n) (16 * s.wanted n) + 5000 +
        30 * ((s.cfg.trains.get n).step (s.wanted n)).2) :
    (∀ p ps u, asks → (s.walk n false).rest = p :: ps → s.cfg.unitKey p.sec = some u →
      lookAhead n s = requestUnit n u s) ∧
    (¬ asks ∨ (s.walk n false).rest = [] ∨
      (∃ p ps, (s.walk n false).rest = p :: ps ∧ s.cfg.unitKey p.sec = none) → lookAhead n s = s) := by
  have hdist : ((lookaheadDistance (s.trainDef n) (s.wanted n) : Nat) : Int) =
      stoppingDistance (s.cfg.trains.get n) (16 * s.wanted n) + 5000 +
        30 * ((s.cfg.trains.get n).step (s.wanted n)).2 := by
    simp only [lookaheadDistance, Config.lookahead, State.trainDef]
    push_cast
    rfl
  have hiff : asks ↔ s.asksAhead n := by
    rw [hasks, State.asksAhead, looksAhead_iff, hdist, not_or, Bool.not_eq_true, not_le, and_assoc, and_assoc]
  rw [hiff]
  exact ⟨fun p ps u h hr hu => lookAhead_of_asks h hr hu, lookAhead_of_none⟩

/-! ## The checks -/

theorem checks (s : State) (n : Train) (h : SpanElt) (len : Nat) (past : Prop)
    (hh : (s.trains.get n).span.getLast? = some h) (hlen : len = s.cfg.lengthOf h.sec)
    (hpast : past ↔ ∃ m d, s.headStop n = some (some m) ∧ s.cfg.marks.get m = some d ∧
      entryRelative s.cfg h.sec h.entry d.offset + 2000 < (s.trains.get n).headPos) :
    ((s.trains.get n).moving = false → checkTrain n s = s) ∧
    ((s.trains.get n).moving = true → 10 * len + max 2000 (5 * len) < (s.trains.get n).headPos →
      checkTrain n s = loseTrain n s) ∧
    ((s.trains.get n).moving = true → (s.trains.get n).headPos ≤ 10 * len + max 2000 (5 * len) →
      (past → checkTrain n s = stopAtMark n (s.raise (.markMiss n))) ∧
      (¬ past → (s.trains.get n).state = .stopping → (s.trains.get n).speed = 0 →
        checkTrain n s = comeToRest n s) ∧
      (¬ past → (s.trains.get n).state = .running ∨ (s.trains.get n).speed ≠ 0 → checkTrain n s = s)) := by
  have hhead : (s.trains.get n).head = some h := hh
  have hmark : PastMark n s ↔ past := by
    rw [hpast]
    unfold PastMark State.headMarkPos
    simp only [hhead]
    rcases s.headStop n with _ | _ | m
    · simp
    · simp
    · simp [Config.overshoot]
  have hlost : lostLimit (s.cfg.lengthOf h.sec) = 10 * len + max 2000 (5 * len) := by rw [hlen]; rfl
  refine ⟨checkTrain_of_rest, fun hm hl => checkTrain_of_lost hhead hm (hlost ▸ hl), fun hm hl => ?_⟩
  have hnear : ¬ lostLimit (s.cfg.lengthOf h.sec) < (s.trains.get n).headPos := by rw [hlost]; exact Nat.not_lt.2 hl
  refine ⟨fun hp => checkTrain_of_past hhead hm hnear (hmark.2 hp), fun hp hst hv => ?_, fun hp hrun => ?_⟩
  · rw [checkTrain_of_near hhead hm hnear fun g => hp (hmark.1 g), if_pos ⟨hst, hv⟩]
  · rw [checkTrain_of_near hhead hm hnear fun g => hp (hmark.1 g), if_neg]
    rintro ⟨hst, hv⟩
    rcases hrun with h | h
    · rw [hst] at h; cases h
    · exact h hv

/-! ## The tick -/

section

variable {s : State} {n : Train} (hp : (s.trains.get n).state ≠ .unplaced)
include hp

theorem rampTick_of_placed : rampTick n s = lookAhead n (sendPower n (checkTrain n (moveTrain n (stateTest n
    (refreshAuthority n (retryStep n s)))))) := if_pos (placed_iff.2 hp)

/-- A train out of motion that does not wait keeps all but its authority, its powered set and its marks. -/
theorem tick_of_rest (hw : (s.trains.get n).state ≠ .waiting) (hm : (s.trains.get n).moving = false) :
    (rampTick n s).trains.get n = (s.trains.get n).marking ((rampTick n s).trains.get n) := by
  have hx := prepared_train n s
  obtain ⟨p, hpp⟩ : ∃ p, p = refreshAuthority n (retryStep n s) := ⟨_, rfl⟩
  rw [← hpp] at hx
  have hpw : (p.trains.get n).state ≠ .waiting := by rw [hx]; exact hw
  have hpm : (p.trains.get n).moving = false := by rw [hx]; exact hm
  have hsend : (sendPower n p).trains = p.trains := (sendPower_asks n p).same
  have hno : ¬ (sendPower n p).asksAhead n := by
    rintro ⟨⟨hl, -⟩, -⟩
    rw [looksAhead_iff, hsend] at hl
    rcases hl with hl | hl
    · exact hpw hl
    · rw [hpm] at hl; cases hl
  have ht : rampTick n s = sendPower n p := by
    rw [rampTick_of_placed hp, ← hpp, stateTest_of_rest hpw hpm, moveTrain_of_rest hpm, checkTrain_of_rest hpm,
      lookAhead_of_none (.inl hno)]
  rw [ht, hsend]
  exact hx

/-- A WAITING train whose wanted step is 0 is parked where it stands. -/
theorem tick_of_unwanted (hw : (s.trains.get n).state = .waiting) (h0 : s.wanted n = 0) :
    ((rampTick n s).trains.get n).state = .parked ∧
      ((rampTick n s).trains.get n).headPos = (s.trains.get n).headPos := by
  have hx := prepared_train n s
  have hauth := prepared_authority hp
  have hcfg : (refreshAuthority n (retryStep n s)).cfg = s.cfg :=
    ((retryStep_traffic n s).trans (refreshAuthority_traffic ..)).cfg
  obtain ⟨p, hpp⟩ : ∃ p, p = refreshAuthority n (retryStep n s) := ⟨_, rfl⟩
  rw [← hpp] at hx hauth hcfg
  obtain ⟨a, ha⟩ := Option.ne_none_iff_exists'.1 hauth
  have hwant : p.wanted n = 0 := by
    rw [← h0]
    unfold State.wanted
    rw [hcfg, hx]
    rfl
  have htest : stateTest n p = p.modTrain n TrainRun.parked := by
    rw [stateTest_of_waiting ha (by rw [hx]; exact hw)]
    exact if_pos hwant
  have hself : (p.modTrain n TrainRun.parked).trains.get n = (p.trains.get n).parked := State.modTrain_self ..
  obtain ⟨q, hq⟩ : ∃ q, q = p.modTrain n TrainRun.parked := ⟨_, rfl⟩
  rw [← hq] at htest hself
  have hqm : (q.trains.get n).moving = false := by rw [hself]; rfl
  have hsend : (sendPower n q).trains = q.trains := (sendPower_asks n q).same
  have hno : ¬ (sendPower n q).asksAhead n := by
    rintro ⟨⟨hl, -⟩, -⟩
    rw [hsend, hself] at hl
    cases hl
  have ht : rampTick n s = sendPower n q := by
    rw [rampTick_of_placed hp, ← hpp, htest, moveTrain_of_rest hqm, checkTrain_of_rest hqm,
      lookAhead_of_none (.inl hno)]
  rw [ht, hsend, hself, hx]
  exact ⟨rfl, rfl⟩

/-- A train that moves after its tick has been moved by it (R136). -/
theorem tick_of_moving (hm : ((rampTick n s).trains.get n).moving = true) :
    ((rampTick n s).trains.get n).speed =
        rampSpeed (s.trainDef n) (s.trains.get n).speed ((rampTick n s).trains.get n).target ∧
      ((rampTick n s).trains.get n).duty = dutyOf (s.trainDef n) ((rampTick n s).trains.get n).speed ∧
      ((rampTick n s).trains.get n).headPos =
        (s.trains.get n).headPos + speedOf (s.trainDef n) ((rampTick n s).trains.get n).speed := by
  have hx := prepared_train n s
  have hcfg : (stateTest n (refreshAuthority n (retryStep n s))).cfg = s.cfg :=
    (((retryStep_traffic n s).trans (refreshAuthority_traffic ..)).trans (stateTest_traffic ..)).cfg
  have hstays := stateTest_stays n (refreshAuthority n (retryStep n s))
  rw [rampTick_of_placed hp] at hm ⊢
  obtain ⟨p, hpp⟩ : ∃ p, p = refreshAuthority n (retryStep n s) := ⟨_, rfl⟩
  rw [← hpp] at hx hcfg hstays hm ⊢
  obtain ⟨q, hq⟩ : ∃ q, q = stateTest n p := ⟨_, rfl⟩
  rw [← hq] at hcfg hstays hm ⊢
  obtain ⟨hmoves, hv, hduty, hpos, htarget⟩ := lookAhead_keeps n (sendPower n (checkTrain n (moveTrain n q)))
  rw [hv, hduty, hpos, htarget, (sendPower_asks ..).same]
  rw [hmoves, (sendPower_asks ..).same] at hm
  have hcheck : checkTrain n (moveTrain n q) = moveTrain n q := checkTrain_of_moving hm
  rw [hcheck] at hm ⊢
  have hqm : (q.trains.get n).moving = true := (moveTrain_moving n q).symm.trans hm
  have hplace : StaysPut n p q := by
    rcases hstays with h | h
    · rw [h, serveStop_moving] at hqm
      cases hqm
    · exact h
  obtain ⟨hspeed, hplaces⟩ := hplace
  rw [hx] at hspeed hplaces
  have hdef : q.trainDef n = s.trainDef n := by unfold State.trainDef; rw [hcfg]
  rw [moveTrain_of_moving hqm, State.modTrain_self, hdef, hspeed, hplaces]
  exact ⟨rfl, rfl, rfl⟩

/-- After a tick every open channel of the powered set has a staged pair. -/
theorem tick_energised : Energised n (rampTick n s) := by
  rw [rampTick_of_placed hp]
  exact lookAhead_energised (sendPower_energised _ _)

end

/-- Settles O32: the tick step by step, by the lemmas on each step. -/
theorem rampTicks : Obligations.RampTicks := by
  refine ⟨fun s n x hx => ?_, fun s n x d hr hx hd => ?_, fun s n x hx => ?_,
    fun s n x d w tgt a put room served marked hx hd hw ha hput hroom hserved hmarked htgt =>
      ⟨waiting_test hx hd hw ha hput hroom hserved, running_test hx hd hw ha hput hroom hmarked htgt,
        stopping_test hx hd hw ha hput hroom, fun h1 h2 => stateTest_of_rest (hx ▸ h1) (hx ▸ h2)⟩,
    fun s t n x hx ht => ?_, fun s n x d w asks hx hd hw hasks => ?_,
    fun s n x h len past hx hh hlen hpast => ?_⟩
  · subst hx
    exact ⟨moving_iff, rfl⟩
  · subst hx hd
    have htraffic := rampTick_traffic n s
    refine ⟨fun h => happens hr (if_neg (by rw [placed_iff]; exact fun g => g h)),
      fun h => happens hr (rampTick_of_placed h), rampTick n s, _, happens hr rfl, rfl, htraffic.cfg, htraffic.clock,
      htraffic.sense, tick_of_rest, fun hw h0 => tick_of_unwanted (by rw [hw]; exact nofun) hw h0, fun hm => ?_,
      fun hm hh e he hc => ?_⟩
    · have hp : (s.trains.get n).state ≠ .unplaced := fun h => by
        have : rampTick n s = s := if_neg (by rw [placed_iff]; exact fun g => g h)
        rw [this] at hm
        simp [TrainRun.moving, h] at hm
      obtain ⟨hv, hduty, hpos⟩ := tick_of_moving hp hm
      exact ⟨hduty, hpos, hv⟩
    · have hp : (s.trains.get n).state ≠ .unplaced := fun h => by
        have : rampTick n s = s := if_neg (by rw [placed_iff]; exact fun g => g h)
        rw [this] at hm
        simp [TrainRun.moving, h] at hm
      exact tick_energised hp e he (htraffic.halt.trans hh) (by rw [htraffic.asks]; exact hc)
  · subst hx
    refine ⟨fun hd hr => ?_, retryStep_of_clear⟩
    rw [retryStep_of_set hd hr]
    exact askAllThrows_asks n _
  · subst hx ht
    exact power s n
  · subst hx hd hw
    exact ahead s n asks hasks
  · subst hx
    refine checks s n h len past hh hlen (hpast.trans ?_)
    subst hlen
    refine exists_congr fun m => exists_congr fun d => ?_
    cases h.entry <;> rfl

end Sys2Proof.Proofs.Ramp
end

section
-- One theorem after the other: side by side, waiting proofs would pile up.
set_option Elab.async false
/-! SUPPORT. Homes and the end of settling (R197). -/

namespace Sys2Proof.Machine

open Sys2Proof.Safety

/-- A home's train is placed as by `TRAIN n PLACE` (R147). -/
theorem placeHome_of_home {s : State} {n : Train} {x : SecEnd} (h : (s.cfg.trains.get n).home = some x) :
    placeHome s n = (placeAct x.sec.val x.e n s).1 := by
  simp only [placeHome, State.trainDef, h]

/-- The outcome of the act of placing (R147). -/
theorem placeAct_of_unit {x : Section} {u : Section} {s : State} (h : s.cfg.unitKey x = some u) (e : End) (n : Train) :
    (placeAct x.val e n s).1 = if (s.trains.get n).placed = true ∨ s.occupied x = false then s
      else if (s.units.get u).holder.isSome = true then s else placeTrain n x e u s := by
  simp only [placeAct, asId_val, h]
  split
  · rfl
  · split <;> rfl

theorem placeAct_of_undefined {x : Section} {s : State} (h : s.cfg.unitKey x = none) (e : End) (n : Train) :
    (placeAct x.val e n s).1 = s := by
  simp only [placeAct, asId_val, h]
  rfl

/-- The strays of a state, in ascending order. -/
theorem strays_eq {s : State} {xs : List Section} (hxs : xs.Pairwise fun x y => x < y)
    (h : ∀ x, x ∈ xs ↔ s.stray x = true) : xs = s.strays := by
  have hp : s.strays.Pairwise fun x y => x < y := (ids_pairwise 20).filter _
  refine List.Perm.eq_of_pairwise (fun a b _ _ hab hba => absurd (lt_trans hab hba) (lt_irrefl a)) hxs hp ?_
  rw [List.perm_ext_iff_of_nodup (hxs.imp fun h => h.ne) (hp.imp fun h => h.ne)]
  intro x
  rw [h]
  simp [State.strays]

end Sys2Proof.Machine
end

section

namespace Sys2Proof.Proofs.Settling

open Sys2Proof.Machine Sys2Proof.Safety

/-- Settles O50: the expiry by its definition, with the strays in order by `strays_eq`; a home by `placeTrain_train`. -/
theorem settlingEnds : Obligations.SettlingEnds := by
  refine ⟨fun s u xs hr hset hu hxs hmem => happens hr ?_, fun s hr hset => happens hr (if_neg (by simp [hset])),
    fun s n => ⟨fun h => ?_, fun x hx => ⟨fun h => ?_, fun u h hu hh => ?_, fun u hu hh ho hst hhold => ?_⟩⟩⟩
  · obtain ⟨v, hv⟩ : ∃ v, v = (u.withSys { u.sys with ready := true, settling := false }).raise .ready := ⟨_, rfl⟩
    have hexp : settlingExpiry s = reportStrays v.strays v := by
      rw [hv, hu]
      exact if_pos hset
    have hstray : xs = v.strays := by
      refine strays_eq hxs fun x => (hmem x).trans ?_
      rw [stray_iff, hv, State.raise_eq]
      rfl
    rw [hexp, ← hv, hstray]
    rfl
  · simp only [placeHome, State.trainDef, h]
  · rw [placeHome_of_home hx]
    cases hu : s.cfg.unitKey x.sec with
    | none => exact placeAct_of_undefined hu ..
    | some u =>
      rw [placeAct_of_unit hu, if_pos]
      rcases h with h | h | h
      · rw [h] at hu; cases hu
      · exact .inr h
      · exact .inl (placed_iff.2 h)
  · rw [placeHome_of_home hx, placeAct_of_unit hu, hh]
    simp
  · have hp : ¬ ((s.trains.get n).placed = true ∨ s.occupied x.sec = false) := by
      rw [placed_iff]
      simp [hst, ho]
    rw [placeHome_of_home hx, placeAct_of_unit hu, if_neg hp, if_neg (by simp [hh])]
    refine ⟨_, rfl, ?_⟩
    rw [placeTrain_train]
    exact ⟨rfl, rfl, rfl, by rw [placeTrain, grant_unit, if_pos rfl]⟩

end Sys2Proof.Proofs.Settling
end

section
-- One theorem after the other: side by side, waiting proofs would pile up.
set_option Elab.async false
/-! SUPPORT. What a step notice and a jump notice leave: overrides, recompose requests, program values, the quiet
flag, timetable entries and settled groups (R3, R9, R25, R29, R110, R141, R155, R160). -/

namespace Sys2Proof.Machine

open Sys2Proof.Safety

/-! ## What stays of the light while trains and crossings act -/

/-- Overrides stay, and a compose in flight and a pending request are kept. -/
structure Relit (s t : State) : Prop where
  lamps : ∀ i, (t.sky.lamps.get i).override = (s.sky.lamps.get i).override
  floods : t.sky.floods = s.sky.floods
  compose : s.sky.compose ≠ none → t.sky.compose ≠ none
  pending : s.matrix.pending = true → t.matrix.pending = true

theorem Relit.of_same {s t : State} (hs : t.sky = s.sky) (hm : t.matrix = s.matrix) : Relit s t :=
  ⟨fun _ => by rw [hs], by rw [hs], by rw [hs]; exact id, by rw [hm]; exact id⟩

theorem Relit.trans {s t u : State} (h : Relit s t) (k : Relit t u) : Relit s u :=
  ⟨fun i => (k.lamps i).trans (h.lamps i), k.floods.trans h.floods, k.compose ∘ h.compose, k.pending ∘ h.pending⟩

theorem groupPass_override (c : Scene) (t : Nat) (y : Sky) (i : LampId) :
    ((groupPass c t y).lamps.get i).override = (y.lamps.get i).override := by
  obtain ⟨-, hin, hout, -⟩ := passGroups_get (ids_pairwise 16 |>.imp fun h => h.ne) c t y
  cases hg : (c.lamps.get i).group with
  | none => rw [groupPass, hout i hg]
  | some g =>
    rw [groupPass, hin i g hg, if_pos (mem_ids g), passedLamp]
    split <;> rfl

theorem groupPass_floods (c : Scene) (t : Nat) (y : Sky) : (groupPass c t y).floods = y.floods :=
  (passGroups_get (ids_pairwise 16 |>.imp fun h => h.ne) c t y).2.2.2

theorem requestRecompose_relit (s : State) : Relit s (requestRecompose s) := by
  rw [requestRecompose_eq]
  split
  · next h =>
    exact ⟨fun i => groupPass_override _ _ _ i, groupPass_floods .., fun g => absurd h.1 g, id⟩
  · exact ⟨fun _ => rfl, rfl, id, fun _ => rfl⟩

theorem requestForClaim_relit (old : Table LampRun 192) (i : LampId) (s : State) :
    Relit s (requestForClaim old i s) := by
  unfold requestForClaim
  split
  · exact .of_same rfl rfl
  · exact requestRecompose_relit s

/-- A change of claims leaves the overrides. -/
theorem changeClaims_relit (d : CrossingDef) {f : LampRun → LampRun} (hf : ∀ l, (f l).override = l.override)
    (s : State) : Relit s (changeClaims d f s) := by
  refine Relit.trans (t := s.withSky { s.sky with lamps := (s.sky.lamps.modify d.lampA f).modify d.lampB f })
    ⟨fun i => ?_, rfl, id, id⟩ ((requestForClaim_relit _ d.lampA _).trans (requestForClaim_relit _ d.lampB _))
  show (((s.sky.lamps.modify d.lampA f).modify d.lampB f).get i).override = _
  simp only [Table.get_modify]
  split_ifs <;> simp [hf]

theorem claimLamp_override (k : CrossingId) (l : LampRun) : (claimLamp k l).override = l.override := by
  unfold claimLamp; split <;> rfl

theorem unclaimLamp_override (k : CrossingId) (l : LampRun) : (unclaimLamp k l).override = l.override := by
  unfold unclaimLamp; split <;> rfl

theorem crossingAct_relit (k : CrossingId) (s : State) : Relit s (crossingAct s k) := by
  have entered (r : CrossingRun → CrossingRun) (d : CrossingDef) {f : LampRun → LampRun}
      (hf : ∀ l, (f l).override = l.override) :
      Relit s (crossingNotice k (bellUpdate (changeClaims d f (s.modCrossing k r)))) := by
    have hr := crossingNotice_redraws k (bellUpdate (changeClaims d f (s.modCrossing k r)))
    refine .trans (t := s.modCrossing k r) (.of_same rfl rfl) (.trans (changeClaims_relit d hf _)
      (.trans (t := bellUpdate (changeClaims d f (s.modCrossing k r))) ?_ (.of_same hr.sky hr.matrix)))
    rw [bellUpdate_eq]
    exact .of_same rfl rfl
  rcases crossingAct_cases s k with e | ⟨d, -, ⟨-, -, e⟩ | ⟨-, -, e⟩⟩ <;> rw [e]
  · exact .of_same rfl rfl
  · exact entered _ d (claimLamp_override k)
  · exact entered _ d (unclaimLamp_override k)

/-- Whatever the traffic controller does leaves overrides and keeps recompose requests. -/
theorem Moves.relit {k : Care} {s t : State} (hm : Moves k s t) : Relit s t := by
  refine hm.keeps_touch (P := Relit s) (fun {a b} c h => h.trans ?_) (.of_same rfl rfl)
  cases c with
  | shift hs => exact .of_same hs.sky hs.matrix
  | crossing c => exact crossingAct_relit c a
  | report r => rw [State.raise_eq]; exact .of_same rfl rfl
  | throw e => exact .of_same (requestThrow_drives ..).sky (requestThrow_drives ..).matrix

/-- A recompose request is still there after what the traffic controller does. -/
theorem recomposeAsked_of_relit {s t u : State} (h : RecomposeAsked s t) (k : Relit t u) : RecomposeAsked s u :=
  ⟨fun a b => k.compose (h.1 a b), fun a => k.pending (h.2 a)⟩

theorem requestRecompose_asks {s t : State} (hc : t.sky.compose = s.sky.compose) (hm : t.matrix = s.matrix) :
    RecomposeAsked s (requestRecompose t) := by
  rw [requestRecompose_eq, hc, hm]
  split
  · next h => exact ⟨fun _ _ => by simp [startCompose], fun g => g.elim (absurd h.1) fun g => by simp [h.2] at g⟩
  · next h => exact ⟨fun a b => absurd ⟨a, b⟩ h, fun _ => rfl⟩

/-! ## Program values and the quiet flag (R110, R160) -/

theorem setQuietFrom_eq (t : Nat) (s : State) : setQuietFrom t s = s.withBell (setQuietFrom t s).bell := by
  rw [setQuietFrom, bellUpdate_eq]; rfl

theorem bellUpdate_sounding (s : State) : (bellUpdate s).bell.sounding = (bellUpdate s).bellDue := by
  have hdue : (bellUpdate s).bellDue = s.bellDue := by
    rw [bellUpdate_eq]
    exact bellDue_congr (bellUpdate_quiet s) rfl rfl
  rw [hdue]
  cases h : s.bellDue with
  | false => rw [bellUpdate_of_stop h]; rfl
  | true =>
    cases hs : s.bell.sounding with
    | false => rw [bellUpdate_of_start h hs]; rfl
    | true => rw [bellUpdate_of_sounding h hs, hs]

theorem inQuietWindow_iff_exists (w : Option (Nat × Nat)) (t : Nat) : inQuietWindow w t = true ↔
    ∃ f e, w = some (f, e) ∧ if f < e then f ≤ t ∧ t < e else f ≤ t ∨ t < e := by
  cases w with
  | none => simp [inQuietWindow]
  | some p => obtain ⟨f, e⟩ := p; rw [inQuietWindow_iff]; simp

/-- The last part of every notice of scene time. -/
theorem followsTime_of_same {s x : State} (hc : x.cfg = s.cfg) (ha : x.axes = s.axes) (t : Nat) :
    FollowsTime s (setQuietFrom t (setProgramValues t x)) t := by
  refine ⟨fun n => ?_, ?_, bellUpdate_sounding _⟩
  · rw [setQuietFrom_eq]
    simp [setProgramValues, hc, ha]
  · rw [setQuietFrom, bellUpdate_quiet, ← hc]
    exact inQuietWindow_iff_exists _ _

theorem setQuietFrom_setProgramValues (t : Nat) (s : State) : ∃ x y,
    setQuietFrom t (setProgramValues t s) = (s.withAxes x).withBell y := ⟨_, _, setQuietFrom_eq _ _⟩

/-! ## Overrides that expire (R29) -/

theorem expireWhere_eq (p : Nat → Bool) (o : Option Override) :
    expireWhere p o = o.filter fun v => !v.expiry.any p := by
  cases o with
  | none => rfl
  | some v =>
    obtain ⟨l, x⟩ := v
    cases x with
    | none => rfl
    | some e => cases h : p e <;> simp [expireWhere, Option.filter, h]

/-! ## Timetable entries that a step passes (R155) -/

theorem passes_start (t0 t1 : Nat) : passes t0 t1 t0 = false := by
  unfold passes
  split
  · simp
  · split
    · simp; omega
    · rfl

theorem mem_passedEntries {t0 t1 : Nat} {es : List TimeEntry} {e : TimeEntry} :
    e ∈ passedEntries t0 t1 es ↔ e ∈ es ∧ passes t0 t1 e.time = true := by
  simp only [passedEntries, List.mem_append, List.mem_filter, decide_eq_true_eq]
  rw [← and_or_left]
  exact and_iff_left (Nat.lt_or_ge _ _)

/-- Entry `a` stands before entry `b`: its time is passed first, or in the same second by a lower train. -/
def TimeEntry.PassedBefore (t0 : Nat) (a b : TimeEntry) : Prop :=
  (a.time + 86400 - t0) % 86400 < (b.time + 86400 - t0) % 86400 ∨ (a.time = b.time ∧ a.train < b.train)

theorem passedEntries_pairwise {t0 t1 : Nat} {es : List TimeEntry} (h0 : t0 < 86400)
    (hes : ∀ e ∈ es, e.time < 86400)
    (ho : es.Pairwise fun x y => x.time < y.time ∨ (x.time = y.time ∧ x.train < y.train)) :
    (passedEntries t0 t1 es).Pairwise (TimeEntry.PassedBefore t0) := by
  have hin : ∀ {e}, e ∈ es.filter (fun e => passes t0 t1 e.time) → e.time < 86400 ∧ e.time ≠ t0 := fun {e} he => by
    obtain ⟨he, hp⟩ := List.mem_filter.1 he
    refine ⟨hes e he, fun h => ?_⟩
    rw [h, passes_start] at hp
    cases hp
  have hord := ho.filter fun e => passes t0 t1 e.time
  refine List.pairwise_append.2 ⟨?_, ?_, fun a ha b hb => ?_⟩
  · refine (hord.filter _).imp_of_mem fun {a b} ha hb h => ?_
    obtain ⟨ha, ha0⟩ := List.mem_filter.1 ha
    obtain ⟨hb, hb0⟩ := List.mem_filter.1 hb
    have hal := hin ha
    have hbl := hin hb
    simp only [decide_eq_true_eq] at ha0 hb0
    exact h.imp_left fun h => by omega
  · refine (hord.filter _).imp_of_mem fun {a b} ha hb h => ?_
    obtain ⟨ha, ha0⟩ := List.mem_filter.1 ha
    obtain ⟨hb, hb0⟩ := List.mem_filter.1 hb
    have hal := hin ha
    have hbl := hin hb
    simp only [decide_eq_true_eq] at ha0 hb0
    exact h.imp_left fun h => by omega
  · obtain ⟨ha, ha0⟩ := List.mem_filter.1 ha
    obtain ⟨hb, hb0⟩ := List.mem_filter.1 hb
    have hal := hin ha
    have hbl := hin hb
    simp only [decide_eq_true_eq] at ha0 hb0
    exact .inl (by omega)

/-! ## An entry fires (R155) -/

/-- A route start is found exactly where the head stands at the route's first position, facing its way or able
to turn. -/
theorem startPath_eq_some {t : TrainRun} {d : RouteDef} {turn : Bool} : startPath t d = some turn ↔
    ∃ p h, d.positions.head? = some p ∧ t.span.getLast? = some h ∧ h.sec = p.sec ∧
      (h.entry = p.entry ∨ t.span.length = 1) ∧ turn = !decide (h.entry = p.entry) := by
  cases hp : d.positions.head? with
  | none =>
    refine iff_of_false ?_ (by simp)
    simp only [startPath, hp]
    cases t.head <;> simp
  | some p =>
    cases hh : t.span.getLast? with
    | none => exact iff_of_false (by simp [startPath, TrainRun.head, hh]) (by simp)
    | some h =>
      rw [startPath_of hp hh]
      by_cases hs : h.sec = p.sec
      · by_cases he : h.entry = p.entry
        · simp [hs, he, eq_comm]
        · by_cases hl : t.span.length = 1 <;> simp [hs, he, hl, eq_comm]
      · simp [hs]

theorem fireEntry_of_start {s : State} {e : TimeEntry} {d : RouteDef} {turn : Bool}
    (hd : s.cfg.routes.get e.route = some d) (hst : (s.trains.get e.train).startable = true)
    (hp : startPath (s.trains.get e.train) d = some turn) : fireEntry s e = startRoute e.train e.route turn s := by
  simp only [fireEntry, hd, hst, hp, if_true]

theorem fireEntry_of_missed {s : State} {e : TimeEntry}
    (h : ∀ d turn, s.cfg.routes.get e.route = some d → (s.trains.get e.train).startable = true →
      startPath (s.trains.get e.train) d ≠ some turn) : fireEntry s e = s.raise (.missed e.train e.route) := by
  unfold fireEntry
  split
  · rfl
  · next d hd =>
    split
    · next hst =>
      split
      · rfl
      · next turn hp => exact absurd hp (h d turn hd hst)
    · rfl

theorem startable_iff {t : TrainRun} : t.startable = true ↔ t.state = .parked ∨ t.state = .dwelling := by
  simp [TrainRun.startable]

/-! ## Settling every group (R25) -/

/-- What settling leaves of the groups that it passes over, and of the others. -/
theorem settleGroups_get {gs : List GroupId} (hn : gs.Nodup) (c : Scene) (t : Nat) (y : Sky) :
    (∀ g, (c.groups.get g).kind = .dimmed ∨ g ∉ gs →
      (gs.foldl (settleGroup c t) y).groups.get g = y.groups.get g ∧
      ∀ i, (c.lamps.get i).group = some g → (gs.foldl (settleGroup c t) y).lamps.get i = y.lamps.get i) ∧
    (∀ g dark, (c.groups.get g).kind = .switched → g ∈ gs →
      (dark = true ↔ skyValue c .ambient t < (c.groups.get g).threshold) →
      (gs.foldl (settleGroup c t) y).groups.get g = ⟨if dark then .dark else .light, t, true⟩ ∧
      ∀ i, (c.lamps.get i).group = some g → (gs.foldl (settleGroup c t) y).lamps.get i =
        { y.lamps.get i with frozen := if dark then (c.groups.get g).onLevel else 0 }) ∧
    (∀ i, ((gs.foldl (settleGroup c t) y).lamps.get i).override = (y.lamps.get i).override) ∧
    (gs.foldl (settleGroup c t) y).floods = y.floods := by
  induction gs generalizing y with
  | nil => exact ⟨fun g _ => ⟨rfl, fun _ _ => rfl⟩, fun g dark _ h => absurd h List.not_mem_nil, fun _ => rfl, rfl⟩
  | cons k gs ih =>
    obtain ⟨hk, hn⟩ := List.nodup_cons.1 hn
    obtain ⟨still, settled, expiry, floods⟩ := ih hn (settleGroup c t y k)
    have one : ((c.groups.get k).kind = .dimmed ∧ settleGroup c t y k = y) ∨ ∃ dark,
        ((dark = true ↔ skyValue c .ambient t < (c.groups.get k).threshold) ∧
          settleGroup c t y k = { freezeMembers c k (fun _ _ => if dark then (c.groups.get k).onLevel else 0) y with
            groups := y.groups.set k ⟨if dark then .dark else .light, t, true⟩ }) := by
      cases hkind : (c.groups.get k).kind with
      | dimmed => exact .inl ⟨rfl, by simp only [settleGroup, hkind]⟩
      | switched =>
        have hd : decide (skyValue c .ambient t < (c.groups.get k).threshold) = true ↔
          skyValue c .ambient t < (c.groups.get k).threshold := decide_eq_true_iff
        exact .inr ⟨_, hd, settleGroup_of_switched hkind t y hd⟩
    have other : ∀ g, g ≠ k → (settleGroup c t y k).groups.get g = y.groups.get g ∧
        ∀ i, (c.lamps.get i).group = some g → (settleGroup c t y k).lamps.get i = y.lamps.get i := by
      intro g hg
      obtain ⟨-, e⟩ | ⟨dark, -, e⟩ := one <;> rw [e]
      · exact ⟨rfl, fun _ _ => rfl⟩
      · refine ⟨by simp [Table.get_set, hg], fun i hi => ?_⟩
        show (freezeMembers c k _ y).lamps.get i = _
        rw [freezeMembers_get, if_neg (by rw [hi]; simpa using hg)]
    have same : (∀ i, ((settleGroup c t y k).lamps.get i).override = (y.lamps.get i).override) ∧
        (settleGroup c t y k).floods = y.floods := by
      obtain ⟨-, e⟩ | ⟨dark, -, e⟩ := one <;> rw [e]
      · exact ⟨fun _ => rfl, rfl⟩
      · refine ⟨fun i => ?_, rfl⟩
        show ((freezeMembers c k _ y).lamps.get i).override = _
        rw [freezeMembers_get]
        split <;> rfl
    refine ⟨fun g hg => ?_, fun g dark hs hg hd => ?_, fun i => (expiry i).trans (same.1 i), floods.trans same.2⟩
    · obtain ⟨h1, h2⟩ := still g (hg.imp_right fun h => fun hm => h (List.mem_cons_of_mem _ hm))
      by_cases hgk : g = k
      · subst hgk
        have e : settleGroup c t y g = y := by
          have hdim := hg.resolve_right fun h => h List.mem_cons_self
          simp only [settleGroup, hdim]
        rw [e] at h1 h2
        rw [List.foldl_cons, e]
        exact ⟨h1, h2⟩
      · obtain ⟨o1, o2⟩ := other g hgk
        exact ⟨h1.trans o1, fun i hi => (h2 i hi).trans (o2 i hi)⟩
    · by_cases hgk : g = k
      · subst hgk
        obtain ⟨h1, h2⟩ := still g (.inr hk)
        have e := settleGroup_of_switched hs t y hd
        refine ⟨h1.trans (by rw [e]; simp), fun i hi => (h2 i hi).trans ?_⟩
        rw [e]
        show (freezeMembers c g _ y).lamps.get i = _
        rw [freezeMembers_get, if_pos hi]
      · obtain ⟨o1, o2⟩ := other g hgk
        obtain ⟨h1, h2⟩ := settled g dark hs ((List.mem_cons.1 hg).resolve_left hgk) hd
        exact ⟨h1, fun i hi => by rw [List.foldl_cons, h2 i hi, o2 i hi]⟩

/-- A group settled at the scene time of a compose does not turn at it. -/
theorem turns_of_settled {d : GroupDef} {a t : Nat} (h : d.threshold ≤ 255) {dark : Bool}
    (hd : dark = true ↔ a < d.threshold) : d.turns ⟨if dark then .dark else .light, t, true⟩ a = none := by
  refine turns_eq_none (fun h1 => ?_) fun h2 => ?_
  · obtain ⟨-, hdir, hlt⟩ := turns_eq_dark.1 h1
    rw [hd.2 hlt] at hdir
    cases hdir
  · obtain ⟨-, hdir, hlt⟩ := turns_eq_light.1 h2
    cases dark with
    | false => cases hdir
    | true => have := hd.1 rfl; omega

/-- A compose request leaves a group that does not turn at its scene time, and the group's lamps. -/
theorem requestRecompose_still {s : State} {g : GroupId}
    (h : (s.cfg.groups.get g).turns (s.sky.groups.get g) (ambientAt s.cfg s.clock.noticed) = none)
    (hr : (s.cfg.groups.get g).kind = .switched → (s.sky.groups.get g).settled = true) :
    (requestRecompose s).sky.groups.get g = s.sky.groups.get g ∧
      ∀ i, (s.cfg.lamps.get i).group = some g → (requestRecompose s).sky.lamps.get i = s.sky.lamps.get i := by
  rw [requestRecompose_eq]
  split
  · obtain ⟨hgroups, hin, -, -⟩ := passGroups_get (ids_pairwise 16 |>.imp fun h => h.ne) s.cfg s.clock.noticed s.sky
    refine ⟨(hgroups g).trans ?_, fun i hi => (hin i g hi).trans ?_⟩
    · rw [if_pos (mem_ids g)]
      simp only [passedGroup, h]
      split
      · next hk =>
        generalize s.sky.groups.get g = r at *
        simp [hr hk]
        cases r; simp_all
      · rfl
    · rw [if_pos (mem_ids g), passedLamp, h]; rfl
  · exact ⟨rfl, fun _ _ => rfl⟩

end Sys2Proof.Machine
end

section
namespace Sys2Proof.Proofs.Clocks

open Sys2Proof.Machine Sys2Proof.Safety

theorem clockLines (s : State) :
    (runs s → s.clock.running = false → exec .clockStep s = acts s) ∧
    (runs s → s.clock.running = true → s.clock.acc + s.cfg.clockRate < 16 →
      exec .clockStep s =
        acts (s.withClock { s.clock with acc := s.clock.acc + s.cfg.clockRate })) ∧
    (∀ d r t1, runs s → s.clock.running = true → s.clock.acc + s.cfg.clockRate = 16 * d + r →
      r < 16 → 1 ≤ d → t1 = (s.clock.time + d) % 86400 →
      exec .clockStep s = acts (stepNotice s.clock.time t1 d (s.withClock ⟨t1, r, true, t1⟩))) ∧
    (∀ t, takes s → timeOk t →
      exec (.clockSet t) s =
        replies (jumpNotice s.clock.time (secs t) (s.withClock ⟨secs t, 0, s.clock.running, secs t⟩))
          (.data [.time (secs t)])) ∧
    (∀ t, takes s → ¬ timeOk t → exec (.clockSet t) s = replies s (.no .range)) ∧
    (takes s →
      exec .clockRun s = replies (s.withClock { s.clock with running := true }) .ok ∧
      exec .clockHold s = replies (s.withClock { s.clock with running := false }) .ok) ∧
    (∀ n, settable s →
      exec (.clockRate n) s =
        replies (setting s fun c => { c with clockRate := max 1 (min 1440 n) })
          (okOr (decide (n < 1 ∨ 1440 < n)))) ∧
    (∀ t, settable s → timeOk t →
      exec (.clockStart t) s =
        replies ((setting s fun c => { c with startTime := secs t }).withNextStart (some (secs t))) .ok) ∧
    (∀ t, takes s → ¬ timeOk t → exec (.clockStart t) s = replies s (.no .range)) ∧
    ∀ n t, savingNow s → timeOk t →
      exec (.clockRate n) s = replies s (.no .busy) ∧
      exec (.clockStart t) s = replies s (.no .busy) := by
  refine ⟨fun hr hrun => happens (f := clockStep) hr (if_neg (by simp [hrun])), fun hr hrun hlt => ?_,
    fun d r t1 hr hrun hsum hlt hd ht => ?_, fun t h ht => ?_, fun t h ht => ?_, fun h => ⟨answers h rfl, answers h rfl⟩,
    fun n h => ?_, fun t h ht => ?_, fun t h ht => ?_, fun n t h ht => ⟨?_, ?_⟩⟩
  · refine happens (f := clockStep) hr ((if_pos hrun).trans ((if_pos ?_).trans ?_))
    · exact Nat.div_eq_of_lt hlt
    · rw [Nat.mod_eq_of_lt hlt]
  · refine happens (f := clockStep) hr ((if_pos hrun).trans ?_)
    have hd' : advanceOf s.clock.acc s.cfg.clockRate = d := by rw [advanceOf]; omega
    have hacc : (s.clock.acc + s.cfg.clockRate) % 16 = r := by omega
    rw [runStep, hd', hacc, if_neg (by omega), ht, ← hrun]
    rfl
  · exact answers h (by simp only [takeClockSet, timeValue_of_ok ht]; rfl)
  · exact refuses h (by simp only [takeClockSet, timeValue_of_not_ok ht])
  · refine answers h.1 (settles h ?_)
    have hc : clampNat 1 1440 n ≠ n ↔ n < 1 ∨ 1440 < n := by rw [clampNat]; omega
    simp only [takenClamped, okOr, setting, hc]
    rfl
  · exact answers h.1 (by simp only [takeClockStart, timeValue_of_ok ht]; exact settles h rfl)
  · exact refuses h (by simp only [takeClockStart, timeValue_of_not_ok ht])
  · exact refuses h.1 (if_pos h.2)
  · exact refuses h.1 (by simp only [takeClockStart, timeValue_of_ok ht]; exact if_pos h.2)

/-- The light after the sky engine's part of a step notice. -/
theorem skyStep_light (t0 t1 : Nat) (s : State) : RecomposeAsked s (skyStep t0 t1 s) ∧
    (∀ i, ((skyStep t0 t1 s).sky.lamps.get i).override =
      (s.sky.lamps.get i).override.filter fun v => !v.expiry.any (passes t0 t1)) ∧
    ∀ i, (skyStep t0 t1 s).sky.floods.get i =
      (s.sky.floods.get i).filter fun v => !v.expiry.any (passes t0 t1) := by
  have hr := requestRecompose_relit (s.withSky (expireOverrides (passes t0 t1) s.sky))
  refine ⟨requestRecompose_asks rfl rfl, fun i => (hr.lamps i).trans ?_, fun i => ?_⟩
  · simp [expireOverrides, expireWhere_eq]
  · rw [skyStep, hr.floods]
    simp [expireOverrides, expireWhere_eq]

theorem stepNotices (s : State) (t0 t1 d : Nat) :
    RecomposeAsked s (stepNotice t0 t1 d s) ∧ FollowsTime s (stepNotice t0 t1 d s) t1 ∧
    (stepNotice t0 t1 d s).cfg = s.cfg ∧ (stepNotice t0 t1 d s).clock = s.clock ∧
    (∀ i, ((stepNotice t0 t1 d s).sky.lamps.get i).override =
      (s.sky.lamps.get i).override.filter fun v => !v.expiry.any (passes t0 t1)) ∧
    (∀ i, (stepNotice t0 t1 d s).sky.floods.get i =
      (s.sky.floods.get i).filter fun v => !v.expiry.any (passes t0 t1)) ∧
    ∃ es : List TimeEntry,
      stepNotice t0 t1 d s = setQuietFrom t1 (setProgramValues t1
        ((ids 6).foldl (takeDwell d) (es.foldl fireEntry (skyStep t0 t1 s)))) ∧
      (∀ e, e ∈ es ↔ e ∈ s.cfg.timetable ∧ passes t0 t1 e.time = true ∧ s.cfg.autorun = true ∧
        s.sys.ready = true) ∧
      (ordered s.cfg → t0 < 86400 → (∀ e ∈ s.cfg.timetable, e.time < 86400) →
        es.Pairwise (TimeEntry.PassedBefore t0)) := by
  have hsky : Traffic s (skyStep t0 t1 s) :=
    ((Lights.ofSky ..).trans
      (requestRecompose_lights (s.withSky (expireOverrides (passes t0 t1) s.sky)))).toTraffic
  have hlight := skyStep_light t0 t1 s
  have hdef : stepNotice t0 t1 d s = setQuietFrom t1 (setProgramValues t1 (trafficStep t0 t1 d (skyStep t0 t1 s))) := rfl
  generalize stepNotice t0 t1 d s = u at hdef ⊢
  generalize skyStep t0 t1 s = w at hsky hlight hdef ⊢
  obtain ⟨asked, lamps, floods⟩ := hlight
  have hmoves : Moves .none w (trafficStep t0 t1 d w) := trafficStep_moves (k := .none) id ..
  obtain ⟨v, hv⟩ : ∃ v, v = trafficStep t0 t1 d w := ⟨_, rfl⟩
  rw [← hv] at hmoves hdef
  have htraffic := hsky.trans hmoves.traffic
  obtain ⟨x, y, hlast⟩ := setQuietFrom_setProgramValues t1 v
  have hfollows := followsTime_of_same htraffic.cfg htraffic.axes t1
  have hrelit : Relit w u := by
    rw [hdef, hlast]
    exact hmoves.relit.trans (.of_same rfl rfl)
  refine ⟨recomposeAsked_of_relit asked hrelit, by rw [hdef]; exact hfollows, ?_, ?_, fun i => (hrelit.lamps i).trans (lamps i),
    fun i => by rw [hrelit.floods, floods], ?_⟩
  · rw [hdef, hlast]; exact htraffic.cfg
  · rw [hdef, hlast]; exact htraffic.clock
  · rw [hdef, hv]
    have hfire : (w.cfg.autorun && w.sys.ready) = true ↔ s.cfg.autorun = true ∧ s.sys.ready = true := by
      rw [hsky.cfg, hsky.sys, Bool.and_eq_true]
    by_cases h : s.cfg.autorun = true ∧ s.sys.ready = true
    · refine ⟨passedEntries t0 t1 s.cfg.timetable, ?_, fun e => ?_, fun ho h0 hes =>
        passedEntries_pairwise h0 hes ho.2.2.2.1⟩
      · rw [trafficStep, if_pos (hfire.2 h), hsky.cfg]
      · rw [mem_passedEntries]
        exact and_congr_right fun _ => (and_iff_left h).symm
    · refine ⟨[], ?_, fun e => iff_of_false List.not_mem_nil fun g => h g.2.2, fun _ _ _ => .nil⟩
      rw [trafficStep, if_neg fun g => h (hfire.1 g)]
      rfl

theorem entries (s : State) (e : TimeEntry) (starts : Prop)
    (hst : starts ↔ ∃ d p h, s.cfg.routes.get e.route = some d ∧
      ((s.trains.get e.train).state = .parked ∨ (s.trains.get e.train).state = .dwelling) ∧
      d.positions.head? = some p ∧ (s.trains.get e.train).span.getLast? = some h ∧ h.sec = p.sec ∧
      (h.entry = p.entry ∨ (s.trains.get e.train).span.length = 1)) :
    (¬ starts → fireEntry s e = s.raise (.missed e.train e.route)) ∧
    (starts → takes s →
      exec (.trainGo e.train.val e.route.val) s = replies (fireEntry s e) .ok) := by
  rw [hst]
  refine ⟨fun h => fireEntry_of_missed fun d turn hd hs hp => h ?_, ?_⟩
  · obtain ⟨p, x, hpos, hx, hsec, hent, -⟩ := startPath_eq_some.1 hp
    exact ⟨d, p, x, hd, startable_iff.1 hs, hpos, hx, hsec, hent⟩
  · rintro ⟨d, p, x, hd, hs, hpos, hx, hsec, hent⟩ ht
    rw [fireEntry_of_start hd (startable_iff.2 hs)
      (startPath_eq_some.2 ⟨p, x, hpos, hx, hsec, hent, rfl⟩)]
    exact answers ht (Proofs.Dispatch.go_taken hd hs hpos hx hsec hent)

theorem dwells (s : State) (n : Train) (d : Nat) :
    ((s.trains.get n).state ≠ .dwelling → takeDwell d s n = s) ∧
    ((s.trains.get n).state = .dwelling → d < (s.trains.get n).dwell →
      takeDwell d s n = s.modTrain n fun y => { y with dwell := (s.trains.get n).dwell - d }) ∧
    ((s.trains.get n).state = .dwelling → (s.trains.get n).dwell ≤ d →
      ((takeDwell d s n).trains.get n).state = (if s.halt then .halted else .waiting) ∧
      ((takeDwell d s n).trains.get n).dwell = 0 ∧
      ((takeDwell d s n).trains.get n).route = (s.trains.get n).route ∧
      (runs s → exec (.dwellEnd n) s = acts (takeDwell d s n))) := by
  refine ⟨fun h => if_neg h, fun h hd => ?_, fun h hd => ?_⟩
  · rw [takeDwell, if_pos h, if_neg (Nat.not_le.2 hd)]
    exact modTrain_congr rfl
  · have hend : takeDwell d s n = endDwell n s := by rw [takeDwell, if_pos h, if_pos hd]
    have hy := (askAllThrows_stirs n (s.modTrain n (TrainRun.resumed s.halt))).redraws n
    rw [State.modTrain_self] at hy
    rw [hend]
    refine ⟨?_, ?_, ?_, fun hr => happens (f := dwellEnd n) hr (if_pos h)⟩ <;> rw [endDwell_eq, hy] <;> rfl

/-- The sky after a jump notice, before its recompose request. -/
theorem jumpNotices (s : State) (old new : Nat) :
    RecomposeAsked s (jumpNotice old new s) ∧ FollowsTime s (jumpNotice old new s) new ∧
    (jumpNotice old new s).cfg = s.cfg ∧ (jumpNotice old new s).clock = s.clock ∧
    (jumpNotice old new s).trains = s.trains ∧ (jumpNotice old new s).units = s.units ∧
    (jumpNotice old new s).driver = s.driver ∧
    (jumpNotice old new s).line =
      (s.raise (.skipped (s.cfg.timetable.filter fun e => passes old new e.time).length)).line ∧
    (∀ i, ((jumpNotice old new s).sky.lamps.get i).override =
      (s.sky.lamps.get i).override.filter fun v => v.expiry.isNone) ∧
    (∀ i, (jumpNotice old new s).sky.floods.get i = (s.sky.floods.get i).filter fun v => v.expiry.isNone) ∧
    (s.clock.noticed = new → ThresholdsInRange s → ∀ (g : GroupId) (d : GroupDef) (dir : Direction),
      d = s.cfg.groups.get g → dir = (if skyValue s.cfg .ambient new < d.threshold then .dark else .light) →
      (d.kind = .dimmed → (jumpNotice old new s).sky.groups.get g = s.sky.groups.get g) ∧
      (d.kind = .switched → (jumpNotice old new s).sky.groups.get g = ⟨dir, new, true⟩ ∧
        ∀ i, (s.cfg.lamps.get i).group = some g →
          ((jumpNotice old new s).sky.lamps.get i).frozen = if dir = .dark then d.onLevel else 0)) := by
  obtain ⟨v, hv⟩ : ∃ v, v = s.withSky (expireOverrides (fun _ => true) (settleAll s.cfg new s.sky)) := ⟨_, rfl⟩
  have hl := requestRecompose_lights v
  have hrelit := requestRecompose_relit v
  have hcfg : v.cfg = s.cfg := by rw [hv]; rfl
  have hclock : v.clock = s.clock := by rw [hv]; rfl
  have hfilter (o : Option Override) : expireWhere (fun _ => true) o = o.filter fun v => v.expiry.isNone := by
    rw [expireWhere_eq]
    congr 1; funext x; cases x.expiry <;> rfl
  obtain ⟨still, settled, expiry, floods⟩ := settleGroups_get (ids_pairwise 16 |>.imp fun h => h.ne) s.cfg new s.sky
  obtain ⟨w, hw⟩ : ∃ w, w = requestRecompose v := ⟨_, rfl⟩
  rw [← hw] at hl hrelit
  have hj : jumpNotice old new s = setQuietFrom new (setProgramValues new (trafficJump old new w)) := by
    rw [hw, hv]; rfl
  have hraise : trafficJump old new w = w.withLine
      (s.raise (.skipped (s.cfg.timetable.filter fun e => passes old new e.time).length)).line := by
    have hline : w.line = s.line := hl.line.trans (by rw [hv]; rfl)
    have hsys : w.sys = s.sys := hl.sys.trans (by rw [hv]; rfl)
    rw [trafficJump, hl.cfg, hcfg, List.countP_eq_length_filter, State.raise_eq w, State.raise_eq s]
    simp only [State.raise, hline, hsys]
    split
    · rfl
    · rw [hline]; rfl
  obtain ⟨x, y, hlast⟩ := setQuietFrom_setProgramValues new (trafficJump old new w)
  have hasked : RecomposeAsked s w := by
    rw [hw]
    exact requestRecompose_asks (by rw [hv]; exact settleAll_compose ..) (by rw [hv]; rfl)
  have hfollows : FollowsTime s (jumpNotice old new s) new := by
    rw [hj]
    refine followsTime_of_same ?_ ?_ new <;> rw [hraise]
    · exact hl.cfg.trans hcfg
    · exact hl.axes.trans (by rw [hv]; rfl)
  rw [hj] at hfollows ⊢
  rw [hlast, hraise] at hfollows ⊢
  refine ⟨hasked, hfollows, hl.cfg.trans hcfg, hl.clock.trans hclock, hl.same.trans (by rw [hv]; rfl),
    hl.units.trans (by rw [hv]; rfl), hl.driver.trans (by rw [hv]; rfl), rfl, fun i => (hrelit.lamps i).trans ?_,
    fun i => ?_, fun ht hth g d dir hd hdir => ⟨fun hk => ?_, fun hk => ?_⟩⟩
  · rw [hv]
    simp [expireOverrides, hfilter, settleAll, expiry]
  · show w.sky.floods.get i = _
    rw [hrelit.floods, hv]
    simp [expireOverrides, hfilter, settleAll, floods]
  · subst hd
    have hnone : (v.cfg.groups.get g).turns (v.sky.groups.get g) (ambientAt v.cfg v.clock.noticed) = none := by
      rw [hcfg]
      refine turns_eq_none (fun h => ?_) fun h => ?_
      · have := (turns_eq_dark.1 h).1; rw [hk] at this; cases this
      · have := (turns_eq_light.1 h).1; rw [hk] at this; cases this
    have hreq := (requestRecompose_still hnone (by rw [hcfg, hk]; nofun)).1
    rw [← hw] at hreq
    exact hreq.trans (by rw [hv]; exact (still g (.inl hk)).1)
  · subst hd
    obtain ⟨dark, hdark⟩ : ∃ b, b = decide (skyValue s.cfg .ambient new < (s.cfg.groups.get g).threshold) := ⟨_, rfl⟩
    have hd : dark = true ↔ skyValue s.cfg .ambient new < (s.cfg.groups.get g).threshold := by
      rw [hdark, decide_eq_true_iff]
    have hdir' : dir = if dark = true then .dark else .light := by rw [hdir]; simp only [hd]
    obtain ⟨hg, hlamps⟩ := settled g dark hk (mem_ids g) hd
    have hvg : v.sky.groups.get g = ⟨if dark = true then .dark else .light, new, true⟩ := by rw [hv]; exact hg
    have hnone : (v.cfg.groups.get g).turns (v.sky.groups.get g) (ambientAt v.cfg v.clock.noticed) = none := by
      rw [hvg, hcfg, hclock, ht]
      exact turns_of_settled (hth g).1 hd
    obtain ⟨hreq, hreqLamps⟩ := requestRecompose_still hnone fun _ => by rw [hvg]
    rw [← hw] at hreq hreqLamps
    refine ⟨hreq.trans (hvg.trans (by rw [hdir'])), fun i hi => ?_⟩
    have hframe := hreqLamps i (by rw [hcfg]; exact hi)
    show (w.sky.lamps.get i).frozen = _
    rw [hframe, hv, hdir']
    have := hlamps i hi
    simp only [expireOverrides, settleAll, State.withSky_sky, Table.get_map, this]
    cases dark <;> simp

/-- Settles O5. -/
theorem clockCommands : Obligations.ClockCommands := by
  refine ⟨fun s => ?_, fun s u t0 t1 d hu => hu ▸ stepNotices s t0 t1 d,
    fun s e x starts hx hst => entries s e starts (hx ▸ hst), fun s u n x d hx hu => by
      rw [hx, hu]; exact dwells s n d, fun s u old new hu => hu ▸ jumpNotices s old new⟩
  obtain ⟨h1, h2, h3, h4⟩ := clockLines s
  refine ⟨h1, h2, fun d r t1 hr hrun hsum hlt hd ht => ?_, h4⟩
  obtain ⟨-, -, hcfg, hclock, -⟩ := stepNotices (s.withClock ⟨t1, r, true, t1⟩) s.clock.time t1 d
  exact ⟨_, h3 d r t1 hr hrun hsum hlt hd ht, hclock, hcfg, rfl⟩

end Sys2Proof.Proofs.Clocks
end

section
-- One theorem after the other: side by side, waiting proofs would pile up.
set_option Elab.async false
/-! SUPPORT. What a device reset loads and leaves (R196). -/

namespace Sys2Proof.Machine

open Sys2Proof.Safety

/-! ## What settling and the pass over the groups leave of the sky -/

/-- Only the groups and the frozen levels of the lamps differ. -/
structure Sky.Grouped (y z : Sky) : Prop where
  rest : z = { y with groups := z.groups, lamps := z.lamps }
  lamps : ∀ i, z.lamps.get i = { y.lamps.get i with frozen := (z.lamps.get i).frozen }

theorem Sky.Grouped.refl (y : Sky) : Sky.Grouped y y := ⟨rfl, fun _ => rfl⟩

theorem Sky.Grouped.trans {x y z : Sky} (h : Sky.Grouped x y) (k : Sky.Grouped y z) : Sky.Grouped x z :=
  ⟨k.rest.trans (by rw [h.rest]), fun i => (k.lamps i).trans (by rw [h.lamps i])⟩

theorem freezeMembers_grouped (c : Scene) (g : GroupId) (f : LampId → LampRun → Nat) (y : Sky)
    (x : Table GroupRun 16) : Sky.Grouped y { freezeMembers c g f y with groups := x } := by
  refine ⟨rfl, fun i => ?_⟩
  show (freezeMembers c g f y).lamps.get i = { y.lamps.get i with frozen := ((freezeMembers c g f y).lamps.get i).frozen }
  rw [freezeMembers_get]
  split <;> rfl

theorem settleGroup_grouped (c : Scene) (t : Nat) (y : Sky) (g : GroupId) :
    Sky.Grouped y (settleGroup c t y g) := by
  unfold settleGroup; dsimp only
  split
  · exact .refl y
  · exact freezeMembers_grouped ..

theorem passGroup_grouped (c : Scene) (t : Nat) (y : Sky) (g : GroupId) : Sky.Grouped y (passGroup c t y g) := by
  unfold passGroup
  dsimp only
  split
  · exact .refl y
  · split
    · exact freezeMembers_grouped ..
    · split
      · exact freezeMembers_grouped ..
      · split
        · exact ⟨rfl, fun _ => rfl⟩
        · exact .refl y

theorem settleAll_grouped (c : Scene) (t : Nat) (y : Sky) : Sky.Grouped y (settleAll c t y) :=
  foldl_frame (R := Sky.Grouped) .refl .trans (settleGroup_grouped c t) _ y

theorem groupPass_grouped (c : Scene) (t : Nat) (y : Sky) : Sky.Grouped y (groupPass c t y) :=
  foldl_frame (R := Sky.Grouped) .refl .trans (passGroup_grouped c t) _ y

/-- A lamp of no group or of a DIMMED group keeps its frozen level when the groups are settled. -/
theorem settleGroup_unfrozen {c : Scene} {i : LampId}
    (h : ∀ g, (c.lamps.get i).group = some g → (c.groups.get g).kind = .dimmed) (t : Nat) (y : Sky) (g : GroupId) :
    (settleGroup c t y g).lamps.get i = y.lamps.get i := by
  cases hk : (c.groups.get g).kind with
  | dimmed => simp only [settleGroup, hk]
  | switched =>
    rw [settleGroup_of_switched hk t y decide_eq_true_iff]
    show (freezeMembers c g _ y).lamps.get i = _
    rw [freezeMembers_get, if_neg]
    intro hi
    have := h g hi
    rw [hk] at this
    cases this

theorem settleAll_unfrozen {c : Scene} {i : LampId}
    (h : ∀ g, (c.lamps.get i).group = some g → (c.groups.get g).kind = .dimmed) (t : Nat) (y : Sky) :
    (settleAll c t y).lamps.get i = y.lamps.get i :=
  foldl_frame (R := fun y z : Sky => z.lamps.get i = y.lamps.get i) (fun _ => rfl) (fun a b => b.trans a)
    (fun y g => settleGroup_unfrozen h t y g) _ y

theorem groupPass_unfrozen {c : Scene} {i : LampId}
    (h : ∀ g, (c.lamps.get i).group = some g → (c.groups.get g).kind = .dimmed) (t : Nat) (y : Sky) :
    (groupPass c t y).lamps.get i = y.lamps.get i := by
  obtain ⟨-, hin, hout, -⟩ := passGroups_get (ids_pairwise 16 |>.imp fun h => h.ne) c t y
  cases hg : (c.lamps.get i).group with
  | none => exact hout i hg
  | some g =>
    rw [groupPass, hin i g hg, if_pos (mem_ids g), passedLamp, turns_eq_none]
    · rfl
    · exact fun e => by have := (turns_eq_dark.1 e).1; rw [h g hg] at this; cases this
    · exact fun e => by have := (turns_eq_light.1 e).1; rw [h g hg] at this; cases this

/-! ## The store and the sky that a device reset sets -/

theorem Store.loaded_eq (x : Store) : x.loaded = if x.state = .valid then x.image else Scene.empty := by
  unfold Store.loaded; cases x.state <;> rfl

theorem Store.afterReset_state (x : Store) : x.afterReset.state = if x.state = .valid then .valid else .invalid := by
  unfold Store.afterReset; cases h : x.state <;> simp [h]

theorem rstSample_of_held {s : State} (h : s.sys.rstHeld = true) (b : Bool) :
    rstSample b s = if b then s else freeReset s := if_pos h

theorem rstSample_of_free {s : State} (h : s.sys.rstHeld = false) : rstSample false s =
    s.withSys { s.sys with rstRun := 0 } := by
  rw [rstSample, h]; rfl

theorem rstSample_of_run {s : State} (h : s.sys.rstHeld = false) : rstSample true s =
    if s.sys.rstRun < 2 then s.withSys { s.sys with rstRun := s.sys.rstRun + 1 } else holdPart s := by
  have hn : s.sys.rstRun + 1 < Config.acceptSamples ↔ s.sys.rstRun < 2 := by
    show s.sys.rstRun + 1 < 3 ↔ _
    omega
  simp only [rstSample, h, hn]
  rfl

end Sys2Proof.Machine
end

section
namespace Sys2Proof.Proofs.Resets

open Sys2Proof.Machine Sys2Proof.Safety

theorem emptyScene (c : Scene) (hc : c = Scene.empty) :
    c.clockRate = 60 ∧ c.startTime = 0 ∧ c.keyframes = [] ∧ c.brightness = 16 ∧ c.scan = .normal ∧
    (∀ g, c.groups.get g = ⟨.dimmed, .linear, 64, 8, 255, 0⟩) ∧ (∀ i, c.lamps.get i = ⟨none, 0⟩) ∧
    c.divider = 1 ∧ c.rows = .normal ∧ c.cols = .normal ∧ (∀ f, c.floodSources.get f = .none) ∧
    (∀ k, c.bridge.get k = ⟨64, 4, true, 1500⟩) ∧ (∀ x, c.thresholds.get x = 6) ∧
    (∀ i, c.filters.get i = 3) ∧ (∀ x, c.sections.get x = none) ∧ (∀ k, c.turnouts.get k = none) ∧
    (∀ k, c.pulses.get k = 150) ∧ (∀ r, c.runs.get r = none) ∧ (∀ m, c.marks.get m = none) ∧
    (∀ k, c.crossings.get k = none) ∧ c.bellTone = 1200 ∧ c.quietWindow = none ∧
    (∀ (n : Train) (d : TrainDef), d = c.trains.get n → d.name = 'T' :: Nat.toDigits 10 n.val ∧
      d.length = 300 ∧ d.accel = 8 ∧ d.decel = 8 ∧ d.creep = 2 ∧ d.service = 12 ∧ d.home = none ∧
      d.cabTime = 3 ∧ ∀ k : Fin 32, d.table.get k = (8 * k.val, 10 * k.val)) ∧
    (∀ r, c.routes.get r = none) ∧ c.timetable = [] ∧ c.autorun = false ∧
    (∀ n, c.axes.get n = ⟨[], .plus, 16, 120, 200, 5000, 100⟩) ∧ c.ceiling = 4000 ∧ c.lampRating = 20 ∧
    c.floodRating = 500 ∧ ∀ w, c.windows.get w = none := by
  subst hc
  have htrain (n : Train) : Scene.empty.trains.get n = TrainDef.empty n := by simp [Scene.empty]
  refine ⟨rfl, rfl, rfl, rfl, rfl, fun _ => ?_, fun _ => ?_, rfl, rfl, rfl, fun _ => ?_, fun _ => ?_, fun _ => ?_,
    fun _ => ?_, fun _ => ?_, fun _ => ?_, fun _ => ?_, fun _ => ?_, fun _ => ?_, fun _ => ?_, rfl, rfl,
    fun n d hd => ?_, fun _ => ?_, rfl, rfl, fun _ => ?_, rfl, rfl, rfl, fun _ => ?_⟩
  case refine_13 =>
    rw [hd, htrain]
    exact ⟨rfl, rfl, rfl, rfl, rfl, rfl, rfl, rfl, fun k => by simp [TrainDef.empty]⟩
  all_goals exact Table.get_replicate ..

theorem resetSources (s : State) (p : ResetPins) : exec (.powerOn p) s = .next (deviceReset p s) ∧
    (s.sys.rstHeld = true → exec (.rstRelease p) s = .next (deviceReset p s)) ∧
    (s.sys.rstHeld = true → ∃ q : ResetPins, q.stop = s.sys.pins.stop ∧
      exec (.rstSample false) s = .next (deviceReset q (s.withFreeDraws (s.freeDraws + 1)))) ∧
    (s.sys.rstHeld = false → exec (.rstRelease p) s = .next s) := by
  refine ⟨rfl, fun h => congrArg _ (if_pos h), fun h => ⟨⟨s.sys.pins.stop, (Config.strapLevels s.freeDraws).1, (Config.strapLevels s.freeDraws).2⟩, rfl,
      congrArg Host.Outcome.next (rstSample_of_held h false)⟩,
    fun h => congrArg _ (if_neg (by simp [h]))⟩

theorem resetHold (s : State) :
    exec .rstAssert s = .next (s.withSys { s.sys with rstHeld := true, rstRun := 0 }) ∧
    (s.sys.rstHeld = true → exec (.rstSample true) s = .next s) ∧
    (s.sys.rstHeld = false → s.sys.rstRun < 2 → exec (.rstSample true) s =
      .next (s.withSys { s.sys with rstRun := s.sys.rstRun + 1 })) ∧
    (s.sys.rstHeld = false → 2 ≤ s.sys.rstRun → exec (.rstSample true) s = exec .rstAssert s) ∧
    (s.sys.rstHeld = false → exec (.rstSample false) s =
      .next (s.withSys { s.sys with rstRun := 0 })) :=
  ⟨rfl, fun h => congrArg _ (rstSample_of_held h true),
    fun h hr => congrArg _ ((rstSample_of_run h).trans (if_pos hr)),
    fun h hr => congrArg _ ((rstSample_of_run h).trans (if_neg (Nat.not_lt.2 hr))),
    fun h => congrArg _ (rstSample_of_free h)⟩

/-- The sky engine after a device reset: every SWITCHED group settled, and the first compose in flight. -/
theorem resetSky (s : State) (p : ResetPins) (c : Scene) (now : Nat) (hc : c = s.store.loaded)
    (hnow : now = s.nextStart.getD c.startTime) :
    (ThresholdsInRange s → ∀ (g : GroupId) (d : GroupDef) (dir : Direction),
      d = c.groups.get g → d.kind = .switched →
      dir = (if skyValue c .ambient now < d.threshold then .dark else .light) →
      (deviceReset p s).sky.groups.get g = ⟨dir, now, true⟩ ∧
      ∀ i, (c.lamps.get i).group = some g →
        ((deviceReset p s).sky.lamps.get i).frozen = if dir = .dark then d.onLevel else 0) ∧
    (∀ i, (∀ g, (c.lamps.get i).group = some g → (c.groups.get g).kind = .dimmed) →
      ((deviceReset p s).sky.lamps.get i).frozen = 0) ∧
    (∀ i, ((deviceReset p s).sky.lamps.get i).override = none ∧ ((deviceReset p s).sky.lamps.get i).claim = none) ∧
    (∀ i, (deviceReset p s).sky.floods.get i = none) ∧ (deviceReset p s).sky.walkPos.val = 0 ∧
    ((deviceReset p s).sky.walkTimer = true ↔ c.scan = .walk) ∧ (deviceReset p s).sky.sums = ⟨0, 0, 0⟩ := by
  have hreset : s.resetTime = now := by rw [State.resetTime, hnow, hc]
  obtain ⟨u, hu⟩ : ∃ u, u = resetState p s := ⟨_, rfl⟩
  have hcfg : u.cfg = c := by rw [hu, hc]; rfl
  have hnoticed : u.clock.noticed = now := by rw [hu, ← hreset]; rfl
  have hsky : u.sky = settleAll c now (Sky.start c now) := by rw [hu, hc, ← hreset]; rfl
  have hlamp (i : LampId) : (Sky.start c now).lamps.get i = LampRun.reset := Table.get_replicate ..
  have hdev : deviceReset p s = startCompose u := by rw [hu]; rfl
  have hreq := deviceReset_eq p s
  rw [← hu] at hreq
  have hgrouped : Sky.Grouped (Sky.start c now) (groupPass u.cfg u.clock.noticed u.sky) := by
    have h := settleAll_grouped c now (Sky.start c now)
    rw [← hsky] at h
    exact h.trans (groupPass_grouped u.cfg u.clock.noticed u.sky)
  have hunfrozen (i : LampId) (hi : ∀ g, (c.lamps.get i).group = some g → (c.groups.get g).kind = .dimmed) :
      (groupPass u.cfg u.clock.noticed u.sky).lamps.get i = LampRun.reset := by
    rw [hcfg, groupPass_unfrozen hi, hsky, settleAll_unfrozen hi, hlamp]
  refine ⟨fun hth g d dir hd hk hdir => ?_, ?_⟩
  · subst hd
    have hthr : (c.groups.get g).threshold ≤ 255 := by
      rw [hc]
      exact loaded_of (P := fun c => (c.groups.get g).threshold ≤ 255) (empty_thresholds g) (hth g).2
    obtain ⟨dark, hdark⟩ : ∃ b, b = decide (skyValue c .ambient now < (c.groups.get g).threshold) := ⟨_, rfl⟩
    have hd : dark = true ↔ skyValue c .ambient now < (c.groups.get g).threshold := by
      rw [hdark, decide_eq_true_iff]
    have hdir' : dir = if dark = true then .dark else .light := by rw [hdir]; simp only [hd]
    obtain ⟨hg, hlamps⟩ := (settleGroups_get (ids_pairwise 16 |>.imp fun h => h.ne) c now (Sky.start c now)).2.1
      g dark hk (mem_ids g) hd
    have hug : u.sky.groups.get g = ⟨if dark = true then .dark else .light, now, true⟩ := by rw [hsky]; exact hg
    have hnone : (u.cfg.groups.get g).turns (u.sky.groups.get g) (ambientAt u.cfg u.clock.noticed) = none := by
      rw [hug, hcfg, hnoticed]
      exact turns_of_settled hthr hd
    obtain ⟨hstill, hstillLamps⟩ := requestRecompose_still hnone fun _ => by rw [hug]
    rw [hreq]
    refine ⟨hstill.trans (hug.trans (by rw [hdir'])), fun i hi => ?_⟩
    rw [hstillLamps i (by rw [hcfg]; exact hi), hsky, settleAll, hlamps i hi, hdir']
    cases dark <;> simp
  · have hpage : ∃ k, (deviceReset p s).sky = { groupPass u.cfg u.clock.noticed u.sky with compose := k } :=
      ⟨_, by rw [hdev]; rfl⟩
    obtain ⟨k, hk⟩ := hpage
    rw [hk]
    generalize groupPass u.cfg u.clock.noticed u.sky = z at hgrouped hunfrozen
    obtain ⟨rest, lamps⟩ := hgrouped
    refine ⟨fun i hi => by rw [hunfrozen i hi]; rfl, fun i => ?_, ?_⟩
    · rw [lamps i, hlamp]; exact ⟨rfl, rfl⟩
    · rw [rest]
      exact ⟨fun i => Table.get_replicate .., rfl, beq_iff_eq, rfl⟩

/-- What a device reset leaves of the other blocks, and of the compose it starts. -/
theorem resetBlocks (s : State) (p : ResetPins) (c : Scene) (now : Nat) (hc : c = s.store.loaded)
    (hnow : now = s.nextStart.getD c.startTime) : ∃ (u : State) (y : Sky), u = resetState p s ∧
      u.cfg = c ∧ u.clock = ⟨now, 0, c.autorun, now⟩ ∧ u.sky.compose = none ∧
      deviceReset p s = startCompose u ∧ startCompose u = u.withSky y ∧
      y.compose = some (composePage (deviceReset p s) now) := by
  have hreset : s.resetTime = now := by rw [State.resetTime, hnow, hc]
  have hclock : (resetState p s).clock = ⟨now, 0, c.autorun, now⟩ := by rw [← hreset, hc]; rfl
  refine ⟨resetState p s, (startCompose (resetState p s)).sky, rfl, hc.symm, hclock, resetState_compose p s, rfl, rfl,
    ?_⟩
  have hnoticed : (resetState p s).clock.noticed = now := by rw [hclock]
  rw [deviceReset]
  generalize resetState p s = u at *
  rw [startCompose, hnoticed]
  rfl

/-- Settles O49: a device reset sets `resetState` and starts the first compose. -/
theorem deviceResets : Obligations.DeviceResets := by
  refine ⟨emptyScene, resetSources, resetHold, fun s t p c now ht hc hnow => ?_⟩
  rw [← Store.loaded_eq] at hc
  have sky := resetSky s p c now hc hnow
  obtain ⟨u, y, hu, hcfg, hclock, hidle, hdev, hstart, hpage⟩ := resetBlocks s p c now hc hnow
  rw [← ht] at sky hpage hdev
  obtain ⟨groups, unfrozen, lamps, floods, walkPos, walkTimer, sums⟩ := sky
  have hsky : t.sky = y := by rw [hdev, hstart]; rfl
  have heq : t = (resetState p s).withSky y := by rw [hdev, hstart, hu]
  have store : t.store = s.store.afterReset := by rw [heq]; rfl
  have bell : t.bell = ⟨inQuietWindow c.quietWindow now, false, false, none⟩ := by
    rw [heq, hc, hnow, hc]; rfl
  have axes (n : Axis) : t.axes.get n = AxisRun.reset (programValue (c.axes.get n).program now) p.stop := by
    rw [heq, hc, hnow, hc]
    exact Table.get_map ..
  have channels (k : Channel) : t.channels.get k = ChannelRun.reset (c.bridge.get k) := by
    rw [heq, hc]
    exact Table.get_map ..
  have inputs (i : InputId) : t.inputs.get i = InputRun.reset := by rw [heq]; exact Table.get_replicate ..
  have line : t.line = CommandLine.reset (Baud.ofStraps p.baud1 p.baud0) := by rw [heq]; rfl
  have pages : t.matrix = ⟨Page.dark, Page.dark, false, false, c.divider, c.rows, c.cols⟩ := by rw [heq, hc]; rfl
  have sense : t.sense = Sense.reset := by rw [heq]; rfl
  have driver : t.driver = Driver.reset := by rw [heq]; rfl
  rw [pages, sense, driver, bell, line]
  refine ⟨by rw [heq, hc]; rfl, by rw [heq]; rfl, by rw [store, afterReset_image],
    by rw [store, Store.afterReset_state], by rw [heq, ← hclock, hu]; rfl, by rw [heq]; exact Bool.or_self _,
    by rw [heq]; rfl, by rw [heq]; rfl, by rw [heq]; rfl, fun k => channels k, fun k => ?_,
    fun k => ⟨Table.get_replicate .., Table.get_replicate ..⟩, fun k => ⟨Table.get_replicate .., Table.get_replicate ..⟩,
    rfl, rfl, rfl, rfl, rfl, fun n => ?_, fun u => ?_, fun k => ?_, fun k => Table.get_replicate .., rfl, rfl, rfl, rfl,
    rfl, fun k => ⟨Table.get_replicate .., Table.get_replicate ..⟩, fun x => Table.get_replicate ..,
    fun i f hf => ?_, rfl, rfl, rfl, inQuietWindow_iff_exists _ _, fun n => axes n, by rw [heq]; rfl, groups,
    unfrozen, lamps, floods, walkPos, walkTimer, sums, by rw [hsky, hpage], ⟨u, hidle, by rw [hu]; rfl, hdev⟩,
    rfl, rfl, rfl, rfl, rfl, rfl, rfl, rfl, rfl, rfl, rfl, ?_⟩
  · rw [heq]; exact Table.get_replicate ..
  · have htrain : t.trains.get n = TrainRun.reset := by rw [heq]; exact Table.get_replicate ..
    rw [htrain]
    rfl
  · rw [heq]; exact Table.get_replicate ..
  · rw [heq]; exact Table.get_replicate ..
  · rw [hf, inputs]
    exact ⟨rfl, rfl, rfl, rfl, rfl⟩
  · cases p.baud1 <;> cases p.baud0 <;> rfl

end Sys2Proof.Proofs.Resets
end

section
-- One theorem after the other: side by side, waiting proofs would pile up.
set_option Elab.async false
/-! SUPPORT. How the tokens of a line are read: words, numbers and scene times, and the tokens that spell them
(R184, section 1.4). -/

namespace Sys2Proof.Machine

open Sys2Proof.Safety

/-! ## Words -/

theorem ofChars_text : ∀ k ∈ Kw.all, Kw.ofChars k.text = some k := by decide +kernel

theorem ofChars_eq_some {cs : List Char} {k : Kw} : Kw.ofChars cs = some k ↔ k ∈ Kw.all ∧ cs = k.text := by
  refine ⟨fun h => ⟨List.mem_of_find?_eq_some h, ?_⟩, fun ⟨hk, e⟩ => by rw [e, ofChars_text k hk]⟩
  exact (beq_iff_eq.1 (List.find?_some (p := fun k : Kw => k.text == cs) h)).symm

theorem text_has_no_colon (k : Kw) : ':' ∉ k.text := by cases k <;> decide

theorem text_not_digits (k : Kw) : k.text.all Char.isDigit = false := by cases k <;> decide

/-! ## Numbers -/

theorem isDigit_of_mem_digits {n : Nat} {c : Char} (h : c ∈ digits n) : c.isDigit = true :=
  Nat.isDigit_of_mem_toDigits (by decide) (by decide) h

theorem digits_ne_nil (n : Nat) : digits n ≠ [] := (plainToken_digits n).1

theorem digits_of_lt {n : Nat} (h : n < 10) : digits n = [Nat.digitChar n] := Nat.toDigits_of_lt_base h

theorem digits_append {m d : Nat} (hm : m ≠ 0) (hd : d < 10) : digits (10 * m + d) = digits m ++ [Nat.digitChar d] := by
  unfold digits
  rw [Nat.toDigits_of_base_le (by decide) (by omega), show (10 * m + d) / 10 = m by omega,
    show (10 * m + d) % 10 = d by omega]

theorem digitChar_of_isDigit {c : Char} (h : c.isDigit = true) :
    c.toNat - 48 < 10 ∧ Nat.digitChar (c.toNat - 48) = c := by
  simp only [Char.isDigit, Bool.and_eq_true, decide_eq_true_eq] at h
  have h1 : 48 ≤ c.toNat := h.1
  have h2 : c.toNat ≤ 57 := h.2
  refine ⟨by omega, ?_⟩
  obtain ⟨d, hd, hc⟩ : ∃ d, d < 10 ∧ c.toNat = 48 + d := ⟨c.toNat - 48, by omega, by omega⟩
  have hof : c = Char.ofNat (48 + d) := by rw [← hc, Char.ofNat_toNat]
  rw [show c.toNat - 48 = d by omega, hof]
  have : d = 0 ∨ d = 1 ∨ d = 2 ∨ d = 3 ∨ d = 4 ∨ d = 5 ∨ d = 6 ∨ d = 7 ∨ d = 8 ∨ d = 9 := by omega
  rcases this with rfl | rfl | rfl | rfl | rfl | rfl | rfl | rfl | rfl | rfl <;> rfl

/-- A run of digits is the number it writes, with zeros before it. -/
theorem digits_of_value {cs : List Char} (hne : cs ≠ []) (h : ∀ c ∈ cs, c.isDigit = true) :
    ∃ k, cs = List.replicate k '0' ++ digits (digitsValue cs) := by
  induction cs using List.reverseRecOn with
  | nil => exact absurd rfl hne
  | append_singleton cs c ih =>
    obtain ⟨hlt, hc⟩ := digitChar_of_isDigit (h c (by simp))
    rw [digitsValue_append]
    by_cases hcs : cs = []
    · refine ⟨0, ?_⟩
      rw [hcs, show digitsValue [] = 0 from rfl, Nat.mul_zero, Nat.zero_add, digits_of_lt hlt, hc]
      rfl
    · obtain ⟨k, e⟩ := ih hcs fun c hc => h c (List.mem_append_left _ hc)
      by_cases hv : digitsValue cs = 0
      · refine ⟨k + 1, ?_⟩
        rw [hv] at e ⊢
        rw [Nat.mul_zero, Nat.zero_add, digits_of_lt hlt, hc, List.replicate_succ', ← show digits 0 = ['0'] from rfl,
          ← e]
      · exact ⟨k, by rw [digits_append hv hlt, hc, ← List.append_assoc, ← e]⟩

theorem digitsValue_zeros (k : Nat) (cs : List Char) : digitsValue (List.replicate k '0' ++ cs) = digitsValue cs := by
  induction k with
  | zero => rfl
  | succ k ih => rw [List.replicate_succ, List.cons_append, ← ih]; rfl

theorem digits_injective {m n : Nat} (h : digits m = digits n) : m = n := by
  rw [← digitsValue_digits m, h, digitsValue_digits]

theorem numberOf_eq_some {cs : List Char} {n : Nat} :
    numberOf cs = some n ↔ NumberToken cs ∧ digitsValue cs = n := by
  have hall : (1 ≤ cs.length ∧ cs.length ≤ 9 ∧ cs.all Char.isDigit = true) ↔ NumberToken cs := by
    rw [List.all_eq_true]; rfl
  unfold numberOf
  split
  · next h => rw [Option.some_inj]; exact (and_iff_right (hall.1 h)).symm
  · next h => exact iff_of_false nofun fun g => h (hall.2 g.1)

theorem numberToken_zeros {k n : Nat} : NumberToken (List.replicate k '0' ++ digits n) ↔
    (List.replicate k '0' ++ digits n).length ≤ 9 := by
  refine ⟨fun h => h.2.1, fun h => ⟨?_, h, fun c hc => ?_⟩⟩
  · have := List.length_pos_iff.2 (digits_ne_nil n)
    simp only [List.length_append]; omega
  · rcases List.mem_append.1 hc with hc | hc
    · rw [List.eq_of_mem_replicate hc]; rfl
    · exact isDigit_of_mem_digits hc

theorem numOk_iff (n : Nat) : numOk n = true ↔ (digits n).length ≤ 9 := by
  rw [numOk, decide_eq_true_iff, digits, Nat.length_toDigits_le_iff (by decide) (by decide)]
  omega

/-- A number token is the number it writes with zeros before it, 9 digits at most (R184). -/
theorem numberOf_eq_some_iff {cs : List Char} {n : Nat} :
    numberOf cs = some n ↔ ∃ k, cs = List.replicate k '0' ++ digits n ∧ cs.length ≤ 9 := by
  rw [numberOf_eq_some]
  constructor
  · rintro ⟨⟨h1, h2, h3⟩, rfl⟩
    obtain ⟨k, e⟩ := digits_of_value (List.length_pos_iff.1 h1) h3
    exact ⟨k, e, h2⟩
  · rintro ⟨k, rfl, h⟩
    exact ⟨numberToken_zeros.2 h, by rw [digitsValue_zeros, digitsValue_digits]⟩

theorem numOk_of_numberOf {cs : List Char} {n : Nat} (h : numberOf cs = some n) : numOk n = true := by
  obtain ⟨k, rfl, hl⟩ := numberOf_eq_some_iff.1 h
  rw [numOk_iff]
  simp only [List.length_append] at hl; omega

theorem ofChars_of_number {cs : List Char} {n : Nat} (h : numberOf cs = some n) : Kw.ofChars cs = none := by
  obtain ⟨⟨-, -, hd⟩, -⟩ := numberOf_eq_some.1 h
  refine ofChars_eq_none fun k _ e => ?_
  have := text_not_digits k
  rw [e, List.all_eq_true.2 hd] at this
  cases this

theorem wordOf_eq_kw {cs : List Char} {k : Kw} : wordOf cs = .kw k ↔ k ∈ Kw.all ∧ cs = k.text := by
  rw [← ofChars_eq_some]
  unfold wordOf
  split <;> simp_all

theorem wordOf_eq_num {cs : List Char} {n : Nat} : wordOf cs = .num n ↔ numberOf cs = some n := by
  constructor
  · intro h
    unfold wordOf at h
    split at h <;> simp_all
  · intro h
    rw [wordOf, ofChars_of_number h, h]

/-! ## Scene times -/

theorem splitColons_of_none {cs : List Char} (h : ':' ∉ cs) (cur : List Char) : splitColons cur cs = [cur ++ cs] := by
  induction cs generalizing cur with
  | nil => simp [splitColons]
  | cons c cs ih =>
    have hc : (c == ':') = false := by
      rw [beq_eq_false_iff_ne]; rintro rfl; exact h List.mem_cons_self
    rw [splitColons, hc, if_neg Bool.false_ne_true, ih fun g => h (List.mem_cons_of_mem _ g), List.append_assoc]; rfl

theorem splitColons_append {a : List Char} (h : ':' ∉ a) (cur b : List Char) :
    splitColons cur (a ++ ':' :: b) = (cur ++ a) :: splitColons [] b := by
  induction a generalizing cur with
  | nil => simp [splitColons]
  | cons c a ih =>
    have hc : (c == ':') = false := by
      rw [beq_eq_false_iff_ne]; rintro rfl; exact h List.mem_cons_self
    rw [List.cons_append, splitColons, hc, if_neg Bool.false_ne_true, ih fun g => h (List.mem_cons_of_mem _ g),
      List.append_assoc]
    rfl

theorem colon_cases (cs : List Char) : ':' ∉ cs ∨ ∃ a b, ':' ∉ a ∧ cs = a ++ ':' :: b := by
  by_cases h : ':' ∈ cs
  · obtain ⟨a, b, e, ha⟩ := List.eq_append_cons_of_mem h
    exact .inr ⟨a, b, ha, e⟩
  · exact .inl h

theorem splitColons_eq_one {cs a : List Char} : splitColons [] cs = [a] ↔ ':' ∉ cs ∧ cs = a := by
  rcases colon_cases cs with h | ⟨x, y, hx, rfl⟩
  · rw [splitColons_of_none h]; simp [h]
  · rw [splitColons_append hx]
    refine iff_of_false (fun h => ?_) fun h => h.1 (by simp)
    have hy := (List.cons.inj h).2
    rcases colon_cases y with hn | ⟨u, v, hu, rfl⟩
    · rw [splitColons_of_none hn] at hy; cases hy
    · rw [splitColons_append hu] at hy; cases hy

/-- The pieces of a token at its first colon. -/
theorem splitColons_eq_cons {cs a b : List Char} {xs : List (List Char)} : splitColons [] cs = a :: b :: xs ↔
    ∃ y, ':' ∉ a ∧ cs = a ++ ':' :: y ∧ splitColons [] y = b :: xs := by
  rcases colon_cases cs with h | ⟨x, y, hx, rfl⟩
  · rw [splitColons_of_none h]
    refine iff_of_false (by simp) ?_
    rintro ⟨y, -, e, -⟩
    exact h (by simp [e])
  · rw [splitColons_append hx]
    constructor
    · intro h
      obtain ⟨e, h⟩ := List.cons.inj h
      rw [List.nil_append] at e
      rw [← e]
      exact ⟨y, hx, rfl, h⟩
    · rintro ⟨z, ha, e, hz⟩
      have hsplit := splitColons_append hx [] y
      rw [e, splitColons_append ha, hz] at hsplit
      exact hsplit.symm

theorem twoDigits_value (n : Nat) : digitsValue (twoDigits n) = n := by
  unfold twoDigits
  split
  · exact (digitsValue_zeros 1 _).trans (digitsValue_digits n)
  · exact digitsValue_digits n

theorem isDigit_of_mem_twoDigits {n : Nat} {c : Char} (h : c ∈ twoDigits n) : c.isDigit = true := by
  unfold twoDigits at h
  split at h
  · rcases List.mem_cons.1 h with rfl | h
    · rfl
    · exact isDigit_of_mem_digits h
  · exact isDigit_of_mem_digits h

theorem no_colon_of_digits {cs : List Char} (h : ∀ c ∈ cs, c.isDigit = true) : ':' ∉ cs :=
  fun g => by have := h _ g; revert this; decide

theorem digits_length_two {n : Nat} (h : 10 ≤ n) : (digits n).length ≤ 2 ↔ n ≤ 99 := by
  rw [digits, Nat.length_toDigits_le_iff (by decide) (by decide)]
  omega

theorem twoDigits_length (n : Nat) : (twoDigits n).length = 2 ↔ n ≤ 99 := by
  unfold twoDigits
  split
  · next h => rw [digits_of_lt h]; simp; omega
  · next h =>
    have hlen : 2 ≤ (digits n).length := by
      have := (Nat.length_toDigits_le_iff (b := 10) (k := 1) (by decide) (by decide)).not.2 (show ¬ n < 10 ^ 1 by omega)
      unfold digits; omega
    have := digits_length_two (n := n) (by omega)
    omega

/-- A field of two digits. -/
theorem timeField_two {cs : List Char} {n : Nat} : timeField 2 cs = some n ↔ n ≤ 99 ∧ cs = twoDigits n := by
  unfold timeField
  constructor
  · intro h
    split at h
    · next hl =>
      obtain ⟨k, rfl, -⟩ := numberOf_eq_some_iff.1 h
      have hpos := List.length_pos_iff.2 (digits_ne_nil n)
      simp only [List.length_append, List.length_replicate] at hl
      by_cases h10 : n < 10
      · have hk : k = 1 := by
          have := congrArg List.length (digits_of_lt h10)
          simp only [List.length_singleton] at this; omega
        rw [hk, twoDigits, if_pos h10]
        exact ⟨by omega, rfl⟩
      · have h99 := (digits_length_two (n := n) (by omega)).1 (by omega)
        have hlen := (twoDigits_length n).2 h99
        rw [twoDigits, if_neg h10] at hlen ⊢
        have hk : k = 0 := by omega
        rw [hk]
        exact ⟨h99, rfl⟩
    · cases h
  · rintro ⟨h, rfl⟩
    have hlen := (twoDigits_length n).2 h
    rw [if_pos ⟨hlen.ge, hlen.le⟩, numberOf_eq_some]
    exact ⟨⟨by omega, by omega, fun c => isDigit_of_mem_twoDigits⟩, twoDigits_value n⟩

/-- A field of one or two digits. -/
theorem timeField_one {cs : List Char} {n : Nat} :
    timeField 1 cs = some n ↔ n ≤ 99 ∧ (cs = digits n ∨ cs = twoDigits n) := by
  constructor
  · intro h
    by_cases h2 : 2 ≤ cs.length
    · have : timeField 2 cs = some n := by
        unfold timeField at h ⊢
        split at h
        · next hl => rw [if_pos ⟨h2, hl.2⟩, h]
        · cases h
      obtain ⟨h1, h2⟩ := timeField_two.1 this
      exact ⟨h1, .inr h2⟩
    · unfold timeField at h
      split at h
      · next hl =>
        obtain ⟨k, rfl, -⟩ := numberOf_eq_some_iff.1 h
        have hpos := List.length_pos_iff.2 (digits_ne_nil n)
        simp only [List.length_append, List.length_replicate] at hl h2
        have hk : k = 0 := by omega
        subst hk
        refine ⟨?_, .inl rfl⟩
        have : (digits n).length ≤ 1 := by omega
        rw [digits, Nat.length_toDigits_le_iff (by decide) (by decide)] at this
        omega
      · cases h
  · rintro ⟨h, rfl | rfl⟩
    · have hpos := List.length_pos_iff.2 (digits_ne_nil n)
      have hlen : (digits n).length ≤ 2 := by
        rw [digits, Nat.length_toDigits_le_iff (by decide) (by decide)]; omega
      unfold timeField
      rw [if_pos ⟨hpos, hlen⟩, numberOf_eq_some]
      exact ⟨⟨hpos, by omega, fun c => isDigit_of_mem_digits⟩, digitsValue_digits n⟩
    · have := timeField_two.2 ⟨h, rfl⟩
      unfold timeField at this ⊢
      have hlen := (twoDigits_length n).2 h
      rw [if_pos ⟨hlen.ge, hlen.le⟩] at this
      rw [if_pos ⟨by omega, hlen.le⟩, this]

/-- A token says scene time `x`: its hours field has one or two digits, and seconds of 0 may be left out
(section 1.4). -/
def SaysTime (x : TimeTok) (cs : List Char) : Prop :=
  ∃ h, (h = digits x.h ∨ h = twoDigits x.h) ∧
    (cs = h ++ ':' :: twoDigits x.m ++ ':' :: twoDigits x.s ∨ (x.s = 0 ∧ cs = h ++ ':' :: twoDigits x.m))

theorem timeOf_eq_some {cs : List Char} {x : TimeTok} : timeOf cs = some x ↔ x.wf = true ∧ SaysTime x cs := by
  have hwf : x.wf = true ↔ x.h ≤ 99 ∧ x.m ≤ 99 ∧ x.s ≤ 99 := by
    simp [TimeTok.wf, and_assoc]
  have hcolon (n : Nat) : ':' ∉ twoDigits n := no_colon_of_digits fun c => isDigit_of_mem_twoDigits
  have hcolon' {h : List Char} (hh : h = digits x.h ∨ h = twoDigits x.h) : ':' ∉ h := by
    rcases hh with rfl | rfl
    · exact no_colon_of_digits fun c => isDigit_of_mem_digits
    · exact hcolon _
  constructor
  · intro e
    unfold timeOf at e
    split at e
    · next h m hs =>
      obtain ⟨y, ha, rfl, hy⟩ := splitColons_eq_cons.1 hs
      obtain ⟨-, rfl⟩ := splitColons_eq_one.1 hy
      split at e
      · next a b hf1 hf2 =>
        obtain rfl := Option.some.inj e
        obtain ⟨h1, h1'⟩ := timeField_one.1 hf1
        obtain ⟨h2, rfl⟩ := timeField_two.1 hf2
        exact ⟨hwf.2 ⟨h1, h2, Nat.zero_le _⟩, h, h1', .inr ⟨rfl, rfl⟩⟩
      · cases e
    · next h m s hs =>
      obtain ⟨y, ha, rfl, hy⟩ := splitColons_eq_cons.1 hs
      obtain ⟨z, hb, rfl, hz⟩ := splitColons_eq_cons.1 hy
      obtain ⟨-, rfl⟩ := splitColons_eq_one.1 hz
      split at e
      · next a b c hf1 hf2 hf3 =>
        obtain rfl := Option.some.inj e
        obtain ⟨h1, h1'⟩ := timeField_one.1 hf1
        obtain ⟨h2, rfl⟩ := timeField_two.1 hf2
        obtain ⟨h3, rfl⟩ := timeField_two.1 hf3
        exact ⟨hwf.2 ⟨h1, h2, h3⟩, h, h1', .inl (by simp)⟩
      · cases e
    · cases e
  · rintro ⟨hx, h, hh, hcs⟩
    obtain ⟨h1, h2, h3⟩ := hwf.1 hx
    have f1 := timeField_one.2 ⟨h1, hh⟩
    have f2 := timeField_two.2 ⟨h2, rfl⟩
    have f3 := timeField_two.2 ⟨h3, rfl⟩
    rcases hcs with rfl | ⟨h0, rfl⟩
    · have hs : splitColons [] (h ++ ':' :: twoDigits x.m ++ ':' :: twoDigits x.s) =
          [h, twoDigits x.m, twoDigits x.s] := by
        rw [List.append_assoc, List.cons_append, splitColons_append (hcolon' hh), splitColons_append (hcolon _),
          splitColons_of_none (hcolon _)]
        rfl
      simp only [timeOf, hs, f1, f2, f3]
    · have hs : splitColons [] (h ++ ':' :: twoDigits x.m) = [h, twoDigits x.m] := by
        rw [splitColons_append (hcolon' hh), splitColons_of_none (hcolon _)]
        rfl
      simp only [timeOf, hs, f1, f2, ← h0]

theorem colon_of_saysTime {x : TimeTok} {cs : List Char} (h : SaysTime x cs) : ':' ∈ cs := by
  obtain ⟨h, -, rfl | ⟨-, rfl⟩⟩ := h <;> simp

theorem wordOf_eq_time {cs : List Char} {x : TimeTok} : wordOf cs = .time x ↔ x.wf = true ∧ SaysTime x cs := by
  rw [← timeOf_eq_some]
  constructor
  · intro h
    unfold wordOf at h
    split at h <;> simp_all
  · intro h
    have hcolon := colon_of_saysTime (timeOf_eq_some.1 h).2
    have hkw : Kw.ofChars cs = none := ofChars_eq_none fun k _ e => text_has_no_colon k (e ▸ hcolon)
    have hnum : numberOf cs = none := by
      cases hn : numberOf cs with
      | none => rfl
      | some n => exact absurd hcolon (no_colon_of_digits (numberOf_eq_some.1 hn).1.2.2)
    rw [wordOf, hkw, hnum, h]

theorem saysTime_spellTime (x : TimeTok) : SaysTime x (spellTime x) := ⟨_, .inr rfl, .inl rfl⟩

theorem wordOf_time {x : TimeTok} (h : x.wf = true) : wordOf (spellTime x) = .time x :=
  wordOf_eq_time.2 ⟨h, saysTime_spellTime x⟩

theorem spellTime_injective {x y : TimeTok} (h : spellTime x = spellTime y) : x = y := by
  have hcolon (n : Nat) : ':' ∉ twoDigits n := no_colon_of_digits fun c => isDigit_of_mem_twoDigits
  have hs (z : TimeTok) : splitColons [] (spellTime z) = [twoDigits z.h, twoDigits z.m, twoDigits z.s] := by
    rw [spellTime, List.append_assoc, List.cons_append, splitColons_append (hcolon _), splitColons_append (hcolon _),
      splitColons_of_none (hcolon _)]
    rfl
  have e := hs x
  rw [h, hs y] at e
  have inj {m n : Nat} (g : twoDigits m = twoDigits n) : m = n := by rw [← twoDigits_value m, g, twoDigits_value]
  obtain ⟨e1, e⟩ := List.cons.inj e
  obtain ⟨e2, e⟩ := List.cons.inj e
  obtain ⟨e3, -⟩ := List.cons.inj e
  cases x; cases y
  simp only [TimeTok.mk.injEq]
  exact ⟨(inj e1).symm, (inj e2).symm, (inj e3).symm⟩

/-! ## Tokens that stand for a spelled token -/

theorem standsFor_kw {t : List Char} {k : Kw} (hk : k ∈ Kw.all) : StandsFor t k.text ↔ wordOf t = .kw k := by
  rw [wordOf_eq_kw, StandsFor]
  constructor
  · rintro (h | ⟨n, j, e, -⟩ | ⟨x, -, e, -⟩)
    · exact ⟨hk, h⟩
    · have := text_not_digits k
      rw [e, List.all_eq_true.2 fun c => isDigit_of_mem_digits] at this
      cases this
    · exact absurd (e ▸ colon_of_saysTime (saysTime_spellTime x)) (text_has_no_colon k)
  · exact fun h => .inl h.2

theorem standsFor_digits {t : List Char} {n : Nat} (hn : numOk n = true) :
    StandsFor t (digits n) ↔ wordOf t = .num n := by
  rw [wordOf_eq_num, numberOf_eq_some_iff, StandsFor]
  constructor
  · rintro (rfl | ⟨m, k, e, rfl, hl⟩ | ⟨x, -, e, -⟩)
    · exact ⟨0, rfl, (numOk_iff n).1 hn⟩
    · exact ⟨k, rfl, hl⟩
    · exact absurd (e ▸ colon_of_saysTime (saysTime_spellTime x))
        (no_colon_of_digits fun c => isDigit_of_mem_digits)
  · rintro ⟨k, rfl, hl⟩
    exact .inr (.inl ⟨n, k, rfl, rfl, hl⟩)

theorem standsFor_time {t : List Char} {x : TimeTok} (hx : x.wf = true) :
    StandsFor t (spellTime x) ↔ wordOf t = .time x := by
  rw [wordOf_eq_time, and_iff_right hx, StandsFor]
  constructor
  · rintro (rfl | ⟨n, k, e, -⟩ | ⟨y, h, e, hh, ht⟩)
    · exact saysTime_spellTime x
    · exact absurd (e ▸ colon_of_saysTime (saysTime_spellTime x))
        (no_colon_of_digits fun c => isDigit_of_mem_digits)
    · obtain rfl := spellTime_injective e
      exact ⟨h, hh, ht⟩
  · rintro ⟨h, hh, ht⟩
    exact .inr (.inr ⟨x, h, rfl, hh, ht⟩)

/-! ## Keywords that spell an operand -/

theorem wordOf_kw {k : Kw} (hk : k ∈ Kw.all) : wordOf k.text = .kw k := wordOf_eq_kw.2 ⟨hk, rfl⟩

theorem endOf_eq_some {w : Word} {x : End} : endOf w = some x ↔ w = wordOf (spellEnd x) := by
  have hk : ∀ y, endOf (wordOf (spellEnd y)) = some y := fun y => by
    cases y <;> (rw [spellEnd, wordOf_kw (by decide)]; rfl)
  refine ⟨fun h => ?_, fun h => by rw [h, hk]⟩
  unfold endOf at h
  split at h <;> cases h <;> exact (wordOf_kw (by decide)).symm

theorem switchOf_eq_some {w : Word} {x : Bool} : switchOf w = some x ↔ w = wordOf (spellSwitch x) := by
  have hk : ∀ y, switchOf (wordOf (spellSwitch y)) = some y := fun y => by
    cases y <;> (rw [spellSwitch, wordOf_kw (by decide)]; rfl)
  refine ⟨fun h => ?_, fun h => by rw [h, hk]⟩
  unfold switchOf at h
  split at h <;> cases h <;> exact (wordOf_kw (by decide)).symm

theorem mirrorOf_eq_some {w : Word} {x : Mirror} : mirrorOf w = some x ↔ w = wordOf (spellMirror x) := by
  have hk : ∀ y, mirrorOf (wordOf (spellMirror y)) = some y := fun y => by
    cases y <;> (rw [spellMirror, wordOf_kw (by decide)]; rfl)
  refine ⟨fun h => ?_, fun h => by rw [h, hk]⟩
  unfold mirrorOf at h
  split at h <;> cases h <;> exact (wordOf_kw (by decide)).symm

theorem polarityOf_eq_some {w : Word} {x : Polarity} : polarityOf w = some x ↔ w = wordOf (spellPolarity x) := by
  have hk : ∀ y, polarityOf (wordOf (spellPolarity y)) = some y := fun y => by
    cases y <;> (rw [spellPolarity, wordOf_kw (by decide)]; rfl)
  refine ⟨fun h => ?_, fun h => by rw [h, hk]⟩
  unfold polarityOf at h
  split at h <;> cases h <;> exact (wordOf_kw (by decide)).symm

theorem orientationOf_eq_some {w : Word} {x : Orientation} : orientationOf w = some x ↔ w = wordOf (spellOrientation x) := by
  have hk : ∀ y, orientationOf (wordOf (spellOrientation y)) = some y := fun y => by
    cases y <;> (rw [spellOrientation, wordOf_kw (by decide)]; rfl)
  refine ⟨fun h => ?_, fun h => by rw [h, hk]⟩
  unfold orientationOf at h
  split at h <;> cases h <;> exact (wordOf_kw (by decide)).symm

theorem transitionOf_eq_some {w : Word} {x : Transition} : transitionOf w = some x ↔ w = wordOf (spellTransition x) := by
  have hk : ∀ y, transitionOf (wordOf (spellTransition y)) = some y := fun y => by
    cases y <;> (rw [spellTransition, wordOf_kw (by decide)]; rfl)
  refine ⟨fun h => ?_, fun h => by rw [h, hk]⟩
  unfold transitionOf at h
  split at h <;> cases h <;> exact (wordOf_kw (by decide)).symm

theorem curveOf_eq_some {w : Word} {x : Curve} : curveOf w = some x ↔ w = wordOf (spellCurve x) := by
  have hk : ∀ y, curveOf (wordOf (spellCurve y)) = some y := fun y => by
    cases y <;> (rw [spellCurve, wordOf_kw (by decide)]; rfl)
  refine ⟨fun h => ?_, fun h => by rw [h, hk]⟩
  unfold curveOf at h
  split at h <;> cases h <;> exact (wordOf_kw (by decide)).symm

theorem scanOf_eq_some {w : Word} {x : ScanMode} : scanOf w = some x ↔ w = wordOf (spellScan x) := by
  have hk : ∀ y, scanOf (wordOf (spellScan y)) = some y := fun y => by
    cases y <;> (rw [spellScan, wordOf_kw (by decide)]; rfl)
  refine ⟨fun h => ?_, fun h => by rw [h, hk]⟩
  unfold scanOf at h
  split at h <;> cases h <;> exact (wordOf_kw (by decide)).symm

theorem sourceOf_eq_some {w : Word} {x : FloodSource} : sourceOf w = some x ↔ w = wordOf (spellSource x) := by
  have hk : ∀ y, sourceOf (wordOf (spellSource y)) = some y := fun y => by
    cases y <;> (rw [spellSource, wordOf_kw (by decide)]; rfl)
  refine ⟨fun h => ?_, fun h => by rw [h, hk]⟩
  unfold sourceOf at h
  split at h <;> cases h <;> exact (wordOf_kw (by decide)).symm

theorem markKindOf_eq_some {w : Word} {x : MarkKind} : markKindOf w = some x ↔ w = wordOf (spellMarkKind x) := by
  have hk : ∀ y, markKindOf (wordOf (spellMarkKind y)) = some y := fun y => by
    cases y <;> (rw [spellMarkKind, wordOf_kw (by decide)]; rfl)
  refine ⟨fun h => ?_, fun h => by rw [h, hk]⟩
  unfold markKindOf at h
  split at h <;> cases h <;> exact (wordOf_kw (by decide)).symm

theorem fixtureKindOf_eq_some {w : Word} {x : FixtureKind} : fixtureKindOf w = some x ↔ w = wordOf (spellFixture x) := by
  have hk : ∀ y, fixtureKindOf (wordOf (spellFixture y)) = some y := fun y => by
    cases y <;> (rw [spellFixture, wordOf_kw (by decide)]; rfl)
  refine ⟨fun h => ?_, fun h => by rw [h, hk]⟩
  unfold fixtureKindOf at h
  split at h <;> cases h <;> exact (wordOf_kw (by decide)).symm

theorem branchOf_eq_some {w : Word} {x : Branch} : branchOf w = some x ↔ w = wordOf (Kw.text (branchKw x)) := by
  have hk : ∀ y, branchOf (wordOf (Kw.text (branchKw y))) = some y := fun y => by
    cases y <;> (rw [branchKw, wordOf_kw (by decide)]; rfl)
  refine ⟨fun h => ?_, fun h => by rw [h, hk]⟩
  unfold branchOf at h
  split at h <;> cases h <;> exact (wordOf_kw (by decide)).symm

theorem groupOf_eq_some {w : Word} {g : Option Nat} (hg : optNumOk g = true) :
    groupOf w = some g ↔ w = wordOf (spellGroup g) := by
  cases g with
  | none =>
    rw [spellGroup, wordOf_kw (by decide)]
    refine ⟨fun h => ?_, fun h => by rw [h]; rfl⟩
    unfold groupOf at h
    split at h <;> cases h
    rfl
  | some n =>
    rw [spellGroup, wordOf_digits hg]
    refine ⟨fun h => ?_, fun h => by rw [h]; rfl⟩
    unfold groupOf at h
    split at h <;> cases h
    rfl

theorem numbersOf_digits {xs : List Nat} (h : xs.all numOk = true) :
    numbersOf ((xs.map digits).map wordOf) = some xs := by
  induction xs with
  | nil => rfl
  | cons x xs ih =>
    rw [List.all_cons, Bool.and_eq_true] at h
    simp only [List.map_cons, wordOf_digits h.1, numbersOf, ih h.2, Option.map_some]

theorem pairsOf_digits {ps : List (Nat × Nat)} (h : pairsOk ps = true) :
    pairsOf ((spellPairs ps).map wordOf) = some ps := by
  induction ps with
  | nil => rfl
  | cons p ps ih =>
    rw [pairsOk, List.all_cons, Bool.and_eq_true, Bool.and_eq_true] at h
    have := ih h.2
    simp only [spellPairs, List.flatMap_cons, List.map_append, List.map_cons, List.map_nil, wordOf_digits h.1.1,
      wordOf_digits h.1.2] at this ⊢
    simp [pairsOf, this]

theorem groupPairsOf_digits {ps : List (Nat × Nat)} (h : pairsOk ps = true) :
    groupPairsOf ((spellGroupPairs ps).map wordOf) = some ps := by
  induction ps with
  | nil => rfl
  | cons p ps ih =>
    rw [pairsOk, List.all_cons, Bool.and_eq_true, Bool.and_eq_true] at h
    have := ih h.2
    have hg : wordOf (Kw.text .g) = .kw .g := wordOf_kw (by decide)
    simp only [spellGroupPairs, List.flatMap_cons, List.map_append, List.map_cons, List.map_nil, wordOf_digits h.1.1,
      wordOf_digits h.1.2, hg] at this ⊢
    simp [groupPairsOf, this]

end Sys2Proof.Machine
end

section
-- One theorem after the other: side by side, waiting proofs would pile up.
set_option Elab.async false
/-! SUPPORT. Every command is read back from the tokens that spell it (sections 11.2 and 11.7). -/

namespace Sys2Proof.Machine

open Sys2Proof.Safety

/-- The tokens that spell command `i` are a verb and words that are read back as `i`. -/
def ReadBack (i : Instr) : Prop := i.wf = true →
  ∃ v us, v ∈ Kw.all ∧ spellTokens i = some (v.text :: us) ∧ ∀ raw, parseVerb raw v (us.map wordOf) = .line i

theorem readBack_of {i : Instr} {v : Kw} {us : List (List Char)} {ws : List Word}
    (h : spellTokens i = some (v.text :: us)) (hv : v ∈ Kw.all) (hw : i.wf = true → us.map wordOf = ws)
    (hp : ∀ raw, parseVerb raw v ws = .line i) : ReadBack i :=
  fun hi => ⟨v, us, hv, h, fun raw => by rw [hw hi, hp]⟩

/-! ## The words of a list of tokens -/

/-- The word for a section end. -/
def endKw : End → Kw
  | .a => .a
  | .b => .b

section
variable {us : List (List Char)} {ws : List Word} (h : us.map wordOf = ws)
include h

theorem words_kw {k : Kw} (hk : k ∈ Kw.all) : (k.text :: us).map wordOf = .kw k :: ws := by
  rw [List.map_cons, wordOf_kw hk, h]

theorem words_num {n : Nat} (hn : numOk n = true) : (digits n :: us).map wordOf = .num n :: ws := by
  rw [List.map_cons, wordOf_digits hn, h]

theorem words_time {x : TimeTok} (hx : x.wf = true) : (spellTime x :: us).map wordOf = .time x :: ws := by
  rw [List.map_cons, wordOf_time hx, h]

theorem words_word (u : List Char) : (u :: us).map wordOf = wordOf u :: ws := by rw [List.map_cons, h]

theorem words_end (e : End) : (spellEnd e :: us).map wordOf = .kw (endKw e) :: ws := by
  cases e
  · exact words_kw (k := .a) h (by decide)
  · exact words_kw (k := .b) h (by decide)

end

/-! ## Forms with keywords -/

theorem keyword_of {α : Type} {w : Word} {o : Option α} {d : α} {f : α → Instr} {a : α} (h : o = some a) :
    keyword w o d f = .line (f a) := by rw [h]; rfl

theorem needing_of {α : Type} {o : Option α} {f : α → Instr} {a : α} (h : o = some a) :
    needing o f = .line (f a) := by rw [h]; rfl

theorem keywords_of {ws : List (Word × Bool)} {i : Instr} (h : ws.all Prod.snd = true) : keywords ws i = .line i :=
  if_pos h

theorem endTokOf_spellEnd (n : Nat) (e : End) : endTokOf n (wordOf (spellEnd e)) = some ⟨n, e⟩ := by
  rw [endTokOf, endOf_eq_some.2 rfl]; rfl

theorem endOf_endKw (e : End) : endOf (.kw (endKw e)) = some e := by cases e <;> rfl

theorem turnoutLegs_words (raw : List (List Char)) (t : Nat) (p q r : EndTok) : parseVerb raw .turnout
    [.num t, .kw .legs, .num p.sec, .kw (endKw p.e), .num q.sec, .kw (endKw q.e), .num r.sec, .kw (endKw r.e)] =
      .line (.turnoutLegs t p q r) := by
  refine (keywords_of ?_).trans ?_
  · simp [Word.hasSome, endOf_endKw]
  · rw [endOf_endKw, endOf_endKw, endOf_endKw]; rfl

theorem parseRun_of_numbers {r x : Nat} {ws : List Word} {xs : List Nat} (h : numbersOf (.num x :: ws) = some xs) :
    parseRun (.num r :: .num x :: ws) = .line (.runDefine r xs) := by simp only [parseRun, h]

theorem parseRoute_of_numbers {r x : Nat} {ws : List Word} {xs : List Nat} (h : numbersOf (.num x :: ws) = some xs) :
    parseRoute (.num r :: .num x :: ws) = .line (.routeDefine r xs) := by simp only [parseRoute, h]

theorem parseKey_of_pairs {t : TimeTok} {w : Word} {tr : Transition} {r g b a : Nat} {ws : List Word}
    {ps : List (Nat × Nat)} (hw : transitionOf w = some tr) (h : groupPairsOf ws = some ps) :
    parseKey (.time t :: w :: .num r :: .num g :: .num b :: .num a :: ws) = .line (.key t tr r g b a ps) := by
  simp only [parseKey, hw, h]

/-! ## The tokens of a command -/

/-- A spelled token: it is plain, and the tokens that stand for it are those that read as the same word. -/
structure Readable (u : List Char) : Prop where
  plain : PlainToken u
  stands : ∀ t, StandsFor t u ↔ wordOf t = wordOf u

theorem readable_kw {k : Kw} (hk : k ∈ Kw.all) : Readable k.text :=
  ⟨plainToken_kw k, fun _ => by rw [standsFor_kw hk, wordOf_kw hk]⟩

theorem readable_digits {n : Nat} (hn : numOk n = true) : Readable (digits n) :=
  ⟨plainToken_digits n, fun _ => by rw [standsFor_digits hn, wordOf_digits hn]⟩

theorem readable_time {x : TimeTok} (hx : x.wf = true) : Readable (spellTime x) :=
  ⟨plainToken_time x, fun _ => by rw [standsFor_time hx, wordOf_time hx]⟩

theorem readable_end (e : End) : Readable (spellEnd e) := by
  cases e <;> (rw [spellEnd]; exact readable_kw (by decide))
theorem readable_switch (b : Bool) : Readable (spellSwitch b) := by
  cases b <;> (rw [spellSwitch]; exact readable_kw (by decide))
theorem readable_mirror (x : Mirror) : Readable (spellMirror x) := by
  cases x <;> (rw [spellMirror]; exact readable_kw (by decide))
theorem readable_polarity (x : Polarity) : Readable (spellPolarity x) := by
  cases x <;> (rw [spellPolarity]; exact readable_kw (by decide))
theorem readable_orientation (x : Orientation) : Readable (spellOrientation x) := by
  cases x <;> (rw [spellOrientation]; exact readable_kw (by decide))
theorem readable_transition (x : Transition) : Readable (spellTransition x) := by
  cases x <;> (rw [spellTransition]; exact readable_kw (by decide))
theorem readable_curve (x : Curve) : Readable (spellCurve x) := by
  cases x <;> (rw [spellCurve]; exact readable_kw (by decide))
theorem readable_scan (x : ScanMode) : Readable (spellScan x) := by
  cases x <;> (rw [spellScan]; exact readable_kw (by decide))
theorem readable_source (x : FloodSource) : Readable (spellSource x) := by
  cases x <;> (rw [spellSource]; exact readable_kw (by decide))
theorem readable_markKind (x : MarkKind) : Readable (spellMarkKind x) := by
  cases x <;> (rw [spellMarkKind]; exact readable_kw (by decide))
theorem readable_fixture (x : FixtureKind) : Readable (spellFixture x) := by
  cases x <;> (rw [spellFixture]; exact readable_kw (by decide))
theorem readable_branch (x : Branch) : Readable (Kw.text (branchKw x)) := by
  cases x <;> (rw [branchKw]; exact readable_kw (by decide))

theorem readable_group {g : Option Nat} (h : optNumOk g = true) : Readable (spellGroup g) := by
  cases g with
  | none => exact readable_kw (k := .none) (by decide)
  | some n => exact readable_digits h

/-- Every token of a list is readable. -/
def AllReadable (us : List (List Char)) : Prop := ∀ u ∈ us, Readable u

theorem allReadable_nil : AllReadable [] := nofun

theorem allReadable_cons {u : List Char} {us : List (List Char)} :
    AllReadable (u :: us) ↔ Readable u ∧ AllReadable us := List.forall_mem_cons

theorem allReadable_append {us vs : List (List Char)} :
    AllReadable (us ++ vs) ↔ AllReadable us ∧ AllReadable vs := List.forall_mem_append

theorem readable_numbers {xs : List Nat} (h : xs.all numOk = true) : AllReadable (xs.map digits) := fun u hu => by
  obtain ⟨n, hn, rfl⟩ := List.mem_map.1 hu
  exact readable_digits (List.all_eq_true.1 h n hn)

theorem readable_pairs {ps : List (Nat × Nat)} (h : pairsOk ps = true) : AllReadable (spellPairs ps) :=
  fun u hu => by
    obtain ⟨p, hp, hu⟩ := List.mem_flatMap.1 hu
    obtain ⟨h1, h2⟩ := Bool.and_eq_true_iff.1 (List.all_eq_true.1 h p hp)
    simp only [List.mem_cons, List.not_mem_nil, or_false] at hu
    rcases hu with rfl | rfl
    · exact readable_digits h1
    · exact readable_digits h2

theorem readable_groupPairs {ps : List (Nat × Nat)} (h : pairsOk ps = true) : AllReadable (spellGroupPairs ps) :=
  fun u hu => by
    obtain ⟨p, hp, hu⟩ := List.mem_flatMap.1 hu
    obtain ⟨h1, h2⟩ := Bool.and_eq_true_iff.1 (List.all_eq_true.1 h p hp)
    simp only [List.mem_cons, List.not_mem_nil, or_false] at hu
    rcases hu with rfl | rfl | rfl
    · exact readable_kw (by decide)
    · exact readable_digits h1
    · exact readable_digits h2

theorem readable_until {x : Option TimeTok} (h : optTimeOk x = true) : AllReadable (spellUntil x) := by
  cases x with
  | none => exact nofun
  | some x => exact List.forall_mem_cons.2 ⟨readable_kw (by decide), List.forall_mem_cons.2 ⟨readable_time h, nofun⟩⟩

theorem readable_endTok {e : EndTok} (h : e.wf = true) : AllReadable (spellEndTok e) :=
  List.forall_mem_cons.2 ⟨readable_digits h, List.forall_mem_cons.2 ⟨readable_end e.e, nofun⟩⟩

/-- The tokens of a well-formed command are readable. The one of a train's name is read as it stands. -/
theorem readable_tokens {i : Instr} (hi : i.wf = true) (hname : ∀ n name, i ≠ .trainName n name)
    {us : List (List Char)} (h : spellTokens i = some us) : AllReadable us := by
  cases i
  case trainName n name => exact absurd rfl (hname n name)
  case routeStop r i d m =>
    simp only [Instr.wf, Bool.and_eq_true] at hi
    obtain ⟨hrest, hm⟩ := hi
    cases m with
    | none =>
      cases h
      simp (disch := first | decide | simp only [hrest]) only [allReadable_cons, allReadable_nil, readable_kw,
        readable_digits, true_and]
    | some m =>
      cases h
      rw [optNumOk] at hm
      simp (disch := first | decide | simp only [hrest, hm]) only [allReadable_cons,
        allReadable_nil, readable_kw, readable_digits, true_and]
  case trainCab n st o =>
    simp only [Instr.wf, Bool.and_eq_true] at hi
    cases o <;> cases h <;>
      simp (disch := first | decide | simp only [hi]) only [allReadable_cons, allReadable_nil, readable_kw,
        readable_digits, readable_orientation, true_and]
  -- events have no tokens; those of the other commands are readable one by one
  any_goals (cases h; done)
  all_goals
    cases h
    simp only [Instr.wf, Bool.and_eq_true] at hi
    simp (disch := first | decide | simp only [hi]) only [allReadable_cons, allReadable_append, allReadable_nil,
      readable_kw, readable_digits, readable_time, readable_end, readable_switch, readable_mirror, readable_polarity,
      readable_transition, readable_curve, readable_scan, readable_source, readable_markKind, readable_fixture,
      readable_branch, readable_group, readable_numbers, readable_pairs, readable_groupPairs, readable_until,
      readable_endTok, and_true]

end Sys2Proof.Machine
end

section
namespace Sys2Proof.Proofs.RoundTrip

open Sys2Proof.Machine Sys2Proof.Safety

/-- Every line command but a train's name is read back from its tokens, whatever the tokens as characters. -/
theorem readBack {i : Instr} (hl : isLine i) (hname : ∀ n name, i ≠ .trainName n name) : ReadBack i := by
  cases i
  case trainName n name => exact absurd rfl (hname n name)
  case groupDimmed g c =>
    exact readBack_of rfl (by decide) (fun h => words_num (words_kw (words_word rfl _) (by decide)) h)
      fun _ => keyword_of (curveOf_eq_some.2 rfl)
  case scan m => exact readBack_of rfl (by decide) (fun _ => words_word rfl _) fun _ => keyword_of (scanOf_eq_some.2 rfl)
  case matrixRows m =>
    exact readBack_of rfl (by decide) (fun _ => words_kw (words_word rfl _) (by decide))
      fun _ => needing_of (mirrorOf_eq_some.2 rfl)
  case matrixCols m =>
    exact readBack_of rfl (by decide) (fun _ => words_kw (words_word rfl _) (by decide))
      fun _ => needing_of (mirrorOf_eq_some.2 rfl)
  case floodSource n x =>
    exact readBack_of rfl (by decide) (fun h => words_num (words_kw (words_word rfl _) (by decide)) h)
      fun _ => needing_of (sourceOf_eq_some.2 rfl)
  case bridgeSense n on =>
    exact readBack_of rfl (by decide) (fun h => words_num (words_kw (words_word rfl _) (by decide)) h)
      fun _ => needing_of (switchOf_eq_some.2 rfl)
  case turnoutThrow t b =>
    exact readBack_of rfl (by decide) (fun h => words_num (words_kw (words_word rfl _) (by decide)) h)
      fun _ => keyword_of (branchOf_eq_some.2 rfl)
  case routeLoop r on =>
    exact readBack_of rfl (by decide) (fun h => words_num (words_kw (words_word rfl _) (by decide)) h)
      fun _ => keyword_of (switchOf_eq_some.2 rfl)
  case timetableAutorun on =>
    exact readBack_of rfl (by decide) (fun _ => words_kw (words_word rfl _) (by decide))
      fun _ => keyword_of (switchOf_eq_some.2 rfl)
  case axisDirection n p =>
    exact readBack_of rfl (by decide) (fun h => words_num (words_kw (words_word rfl _) (by decide)) h)
      fun _ => needing_of (polarityOf_eq_some.2 rfl)
  case sectionBuffer n e =>
    exact readBack_of rfl (by decide) (fun h => words_num (words_end (words_kw rfl (by decide)) e) h)
      fun _ => by cases e <;> rfl
  case lampGroup n g =>
    intro h
    obtain ⟨hn, hg⟩ := Bool.and_eq_true_iff.1 h
    exact readBack_of rfl (by decide) (fun _ => words_num (words_kw (words_word rfl _) (by decide)) hn)
      (fun _ => keyword_of ((groupOf_eq_some hg).2 rfl)) h
  case trainPlace n x e =>
    intro h
    obtain ⟨hn, hx⟩ := Bool.and_eq_true_iff.1 h
    exact readBack_of rfl (by decide)
      (fun _ => words_num (words_kw (words_num (words_word rfl _) hx) (by decide)) hn)
      (fun _ => needing_of (endOf_eq_some.2 rfl)) h
  case trainFind n x e =>
    intro h
    obtain ⟨hn, hx⟩ := Bool.and_eq_true_iff.1 h
    exact readBack_of rfl (by decide)
      (fun _ => words_num (words_kw (words_num (words_word rfl _) hx) (by decide)) hn)
      (fun _ => needing_of (endOf_eq_some.2 rfl)) h
  case trainHome n x e =>
    intro h
    obtain ⟨hn, hx⟩ := Bool.and_eq_true_iff.1 h
    exact readBack_of rfl (by decide)
      (fun _ => words_num (words_kw (words_num (words_word rfl _) hx) (by decide)) hn)
      (fun _ => needing_of (endOf_eq_some.2 rfl)) h
  case sectionJoin n e u =>
    intro h
    obtain ⟨hn, hu⟩ := Bool.and_eq_true_iff.1 h
    exact readBack_of rfl (by decide) (fun _ => words_num (words_end (words_num (words_word rfl _) hu) e) hn)
      (fun _ => by cases e <;> exact keyword_of (endTokOf_spellEnd ..)) h
  case trainCab n st o =>
    intro h
    obtain ⟨hn, hst⟩ := Bool.and_eq_true_iff.1 h
    cases o with
    | none =>
      exact readBack_of rfl (by decide) (fun _ => words_num (words_kw (words_num rfl hst) (by decide)) hn)
        (fun _ => rfl) h
    | some o =>
      exact readBack_of rfl (by decide)
        (fun _ => words_num (words_kw (words_num (words_word rfl _) hst) (by decide)) hn)
        (fun _ => needing_of (orientationOf_eq_some.2 rfl)) h
  case lampGroupStagger n g st =>
    intro h
    simp only [Instr.wf, Bool.and_eq_true] at h
    obtain ⟨⟨hn, hg⟩, hst⟩ := h
    refine readBack_of rfl (by decide)
      (fun _ => words_num (words_kw (words_word (words_kw (words_num rfl hst) (by decide)) _) (by decide)) hn)
      (fun _ => ?_) (by simp [Instr.wf, hn, hg, hst])
    have hw := (groupOf_eq_some hg).2 rfl
    exact (keywords_of (by rw [Word.hasSome, hw]; rfl)).trans (by rw [hw]; rfl)
  case lampRange n m g st k =>
    intro h
    simp only [Instr.wf, Bool.and_eq_true] at h
    obtain ⟨⟨⟨⟨hn, hm⟩, hg⟩, hst⟩, hk⟩ := h
    refine readBack_of rfl (by decide) (fun _ => words_num (words_kw (words_num (words_kw (words_word
        (words_kw (words_num (words_num rfl hk) hst) (by decide)) _) (by decide)) hm) (by decide)) hn)
      (fun _ => ?_) (by simp [Instr.wf, hn, hm, hg, hst, hk])
    have hw := (groupOf_eq_some hg).2 rfl
    exact (keywords_of (by rw [Word.hasSome, hw]; rfl)).trans (by rw [hw]; rfl)
  case lampLevel n v u =>
    intro h
    simp only [Instr.wf, Bool.and_eq_true] at h
    obtain ⟨⟨hn, hv⟩, hu⟩ := h
    cases u with
    | none =>
      exact readBack_of rfl (by decide) (fun _ => words_num (words_kw (words_num rfl hv) (by decide)) hn)
        (fun _ => rfl) (by simp [Instr.wf, hn, hv, hu])
    | some x =>
      exact readBack_of rfl (by decide) (fun _ => words_num (words_kw (words_num
          (words_kw (words_time rfl hu) (by decide)) hv) (by decide)) hn)
        (fun _ => rfl) (by simp [Instr.wf, hn, hv, hu])
  case set f v u =>
    intro h
    simp only [Instr.wf, Bool.and_eq_true] at h
    obtain ⟨⟨hf, hv⟩, hu⟩ := h
    cases u with
    | none =>
      exact readBack_of rfl (by decide) (fun _ => words_num (words_num rfl hv) hf) (fun _ => rfl)
        (by simp [Instr.wf, hf, hv, hu])
    | some x =>
      exact readBack_of rfl (by decide)
        (fun _ => words_num (words_num (words_kw (words_time rfl hu) (by decide)) hv) hf) (fun _ => rfl)
        (by simp [Instr.wf, hf, hv, hu])
  case turnoutLegs t p q r =>
    intro h
    simp only [Instr.wf, Bool.and_eq_true] at h
    obtain ⟨⟨⟨ht, hp⟩, hq⟩, hr⟩ := h
    exact readBack_of rfl (by decide) (fun _ => words_num (words_kw (words_num (words_end (words_num (words_end
        (words_num (words_end rfl r.e) hr) q.e) hq) p.e) hp) (by decide)) ht)
      (fun _ => turnoutLegs_words ..)
      (by simp [Instr.wf, ht, hp, hq, hr])
  case runDefine r xs =>
    intro h
    simp only [Instr.wf, Bool.and_eq_true] at h
    obtain ⟨⟨hr, hne⟩, hxs⟩ := h
    cases xs with
    | nil => cases hne
    | cons x xs =>
      have hx : numOk x = true := (Bool.and_eq_true_iff.1 hxs).1
      have hall := numbersOf_digits hxs
      rw [List.map_cons, List.map_cons, wordOf_digits hx] at hall
      exact readBack_of (us := digits r :: digits x :: xs.map digits) rfl (by decide)
        (fun _ => words_num (words_num rfl hx) hr) (fun _ => parseRun_of_numbers hall) (by simp [Instr.wf, hr, hxs])
  case routeDefine r xs =>
    intro h
    simp only [Instr.wf, Bool.and_eq_true] at h
    obtain ⟨⟨hr, hne⟩, hxs⟩ := h
    cases xs with
    | nil => cases hne
    | cons x xs =>
      have hx : numOk x = true := (Bool.and_eq_true_iff.1 hxs).1
      have hall := numbersOf_digits hxs
      rw [List.map_cons, List.map_cons, wordOf_digits hx] at hall
      exact readBack_of (us := digits r :: digits x :: xs.map digits) rfl (by decide)
        (fun _ => words_num (words_num rfl hx) hr) (fun _ => parseRoute_of_numbers hall) (by simp [Instr.wf, hr, hxs])
  case routeAdd r xs =>
    intro h
    simp only [Instr.wf, Bool.and_eq_true] at h
    obtain ⟨⟨hr, hne⟩, hxs⟩ := h
    cases xs with
    | nil => cases hne
    | cons x xs =>
      exact readBack_of rfl (by decide) (fun _ => words_num (words_kw rfl (by decide)) hr)
        (fun _ => needing_of (numbersOf_digits hxs)) (by simp [Instr.wf, hr, hxs])
  case routeStop r i d m =>
    intro h
    simp only [Instr.wf, Bool.and_eq_true] at h
    obtain ⟨⟨⟨hr, hi⟩, hd⟩, hm⟩ := h
    cases m with
    | none =>
      exact readBack_of rfl (by decide)
        (fun _ => words_num (words_kw (words_num (words_num rfl hd) hi) (by decide)) hr) (fun _ => rfl)
        (by simp [Instr.wf, hr, hi, hd, hm])
    | some m =>
      exact readBack_of rfl (by decide) (fun _ => words_num (words_kw (words_num (words_num
          (words_kw (words_num rfl hm) (by decide)) hd) hi) (by decide)) hr) (fun _ => rfl)
        (by simp [Instr.wf, hr, hi, hd, hm])
  case markDefine m x mm k =>
    intro h
    simp only [Instr.wf, Bool.and_eq_true] at h
    obtain ⟨⟨hm, hx⟩, hmm⟩ := h
    exact readBack_of rfl (by decide) (fun _ => words_num (words_num (words_num (words_word rfl _) hmm) hx) hm)
      (fun _ => keyword_of (markKindOf_eq_some.2 rfl)) (by simp [Instr.wf, hm, hx, hmm])
  case crossingDefine c x a b v l on =>
    intro h
    simp only [Instr.wf, Bool.and_eq_true] at h
    obtain ⟨⟨⟨⟨⟨hc, hx⟩, ha⟩, hb⟩, hv⟩, hl⟩ := h
    refine readBack_of rfl (by decide) (fun _ => words_num (words_num (words_kw (words_num (words_num (words_kw
        (words_num (words_kw (words_num (words_kw (words_word rfl _) (by decide)) hl) (by decide)) hv) (by decide))
        hb) ha) (by decide)) hx) hc)
      (fun _ => ?_) (by simp [Instr.wf, hc, hx, ha, hb, hv, hl])
    have hw : switchOf (wordOf (spellSwitch on)) = some on := switchOf_eq_some.2 rfl
    exact (keywords_of (by rw [Word.hasSome, hw]; rfl)).trans (by rw [hw]; rfl)
  case trainTable n st ps =>
    intro h
    simp only [Instr.wf, Bool.and_eq_true] at h
    obtain ⟨⟨⟨hn, hst⟩, hne⟩, hps⟩ := h
    cases ps with
    | nil => cases hne
    | cons p ps =>
      exact readBack_of rfl (by decide) (fun _ => words_num (words_kw (words_num rfl hst) (by decide)) hn)
        (fun _ => needing_of (pairsOf_digits hps)) (by simp [Instr.wf, hn, hst, hps])
  case mapDefine w base count k first =>
    intro h
    simp only [Instr.wf, Bool.and_eq_true] at h
    obtain ⟨⟨⟨hw, hb⟩, hc⟩, hf⟩ := h
    exact readBack_of rfl (by decide)
      (fun _ => words_num (words_num (words_num (words_word (words_num rfl hf) _) hc) hb) hw)
      (fun _ => needing_of (fixtureKindOf_eq_some.2 rfl)) (by simp [Instr.wf, hw, hb, hc, hf])
  case key t tr r g b a ps =>
    intro h
    simp only [Instr.wf, Bool.and_eq_true] at h
    obtain ⟨⟨⟨⟨⟨ht, hr⟩, hg⟩, hb⟩, ha⟩, hps⟩ := h
    exact readBack_of
      (us := spellTime t :: spellTransition tr :: digits r :: digits g :: digits b :: digits a :: spellGroupPairs ps)
      rfl (by decide)
      (fun _ => words_time (words_word (words_num (words_num (words_num (words_num rfl ha) hb) hg) hr) _) ht)
      (fun _ => parseKey_of_pairs (transitionOf_eq_some.2 rfl) (groupPairsOf_digits hps))
      (by simp [Instr.wf, ht, hr, hg, hb, ha, hps])
  -- events have no line; the other forms are made of fixed keywords, numbers and scene times alone
  any_goals exact absurd rfl hl
  all_goals
    exact readBack_of rfl (by decide) (fun h => by
      simp only [Instr.wf, Bool.and_eq_true] at h
      simp (disch := simp [Kw.all, h]) only [List.map_cons, List.map_nil, wordOf_kw, wordOf_digits, wordOf_time]
      rfl) fun _ => rfl

/-- A line of a verb and tokens is read by its verb. -/
theorem parseLine_of_tokens {cs : List Char} {v : Kw} {us : List (List Char)} (hv : v ∈ Kw.all)
    (h : lineTokens cs = v.text :: us) :
    parseLine cs = (parseVerb (v.text :: us) v (us.map wordOf)).afterRuns (us.map wordOf) := by
  simp only [parseLine, h, List.map_cons, wordOf_kw hv]

/-- Settles O3: the tokens of a spelled line are plain, so the line splits back into them, and each is read as the
word it spells. -/
theorem linesRoundTrip : Obligations.LinesRoundTrip := by
  intro i cs hi hspell
  obtain ⟨us, hus, rfl⟩ := Option.map_eq_some_iff.1 hspell
  by_cases hname : ∃ n name, i = .trainName n name
  · obtain ⟨n, name, rfl⟩ := hname
    have hn : numOk n = true := (Bool.and_eq_true_iff.1 hi).1
    have hplain := Laws.PlainTokens.trainName n name hi us hus
    cases hus
    rw [parseLine_of_tokens (by decide) (lineTokens_joinToks hplain),
      words_num (words_kw (words_word rfl name) (by decide)) hn]
    rfl
  · have hother : ∀ n name, i ≠ .trainName n name := fun n name e => hname ⟨n, name, e⟩
    obtain ⟨v, ws, hv, htokens, hparse⟩ := readBack (by rw [isLine, hus]; nofun) hother hi
    obtain rfl := Option.some.inj (hus.symm.trans htokens)
    have hplain : Plain (v.text :: ws) := fun u hu => (readable_tokens hi hother hus u hu).plain
    rw [parseLine_of_tokens hv (lineTokens_joinToks hplain), hparse]
    rfl

end Sys2Proof.Proofs.RoundTrip
end

section
-- One theorem after the other: side by side, waiting proofs would pile up.
set_option Elab.async false
/-! SUPPORT. The end of a written line, the choice of the next, the report queue, and the texts of replies and reports
(R181, R183, R185, R187, R188). -/

namespace Sys2Proof.Machine

open Sys2Proof.Safety

/-! ## Texts -/

/-- Tokens with single spaces between them: the first, and each of the others after a space. -/
theorem joinToks_cons (t : List Char) (ts : List (List Char)) :
    joinToks (t :: ts) = t ++ ts.flatMap fun u => ' ' :: u := by
  induction ts generalizing t with
  | nil => simp [joinToks]
  | cons u us ih => rw [joinToks, ih u, List.flatMap_cons, List.append_assoc]; rfl; exact nofun

theorem twoDigits_eq {k : Nat} (h : k < 100) : twoDigits k = [Nat.digitChar (k / 10), Nat.digitChar (k % 10)] := by
  unfold twoDigits
  split
  · next hk => rw [digits_of_lt hk, Nat.div_eq_of_lt hk, Nat.mod_eq_of_lt hk]; rfl
  · next hk =>
    have e := digits_append (m := k / 10) (d := k % 10) (by omega) (by omega)
    rw [show 10 * (k / 10) + k % 10 = k by omega, digits_of_lt (n := k / 10) (by omega)] at e
    exact e

theorem timeText_eq {h m x : Nat} {two : Nat → List Char} (hh : h ≤ 23) (hm : m ≤ 59) (hx : x ≤ 59)
    (htwo : ∀ k, two k = [Nat.digitChar (k / 10), Nat.digitChar (k % 10)]) :
    timeText (h * 3600 + m * 60 + x) = two h ++ ':' :: two m ++ ':' :: two x := by
  have h1 : (h * 3600 + m * 60 + x) / 3600 = h := by omega
  have h2 : (h * 3600 + m * 60 + x) / 60 % 60 = m := by omega
  have h3 : (h * 3600 + m * 60 + x) % 60 = x := by omega
  rw [timeText, h1, h2, h3, twoDigits_eq (by omega), twoDigits_eq (by omega), twoDigits_eq (by omega), htwo, htwo, htwo]
  rfl

/-! ## The transmitter (R187) -/

section
variable {l : CommandLine}

theorem offer_of_writing (h : l.writing ≠ none) : l.offer = l := by
  obtain ⟨w, hw⟩ := Option.ne_none_iff_exists'.1 h
  simp only [CommandLine.offer, hw]

theorem offer_of_none (h : l.writing = none) (hr : l.headReply = none) (hp : l.reports = []) :
    l.offer = { l with gap := false } := by
  simp only [CommandLine.offer, h, hr, hp]

theorem offer_of_reply {r : Reply} (h : l.writing = none) (hr : l.headReply = some r)
    (hp : l.reports = [] ∨ l.lastReport ≠ some false) : l.offer = { l with writing := some (.reply r) } := by
  cases hl : l.reports with
  | nil => simp only [CommandLine.offer, h, hr, hl]
  | cons p ps =>
    have hlast := hp.resolve_left (by simp [hl])
    simp only [CommandLine.offer, h, hr, hl, if_neg hlast]

theorem startReport_of_cons {p : Report} {ps : List Report} (h : l.reports = p :: ps) : l.startReport =
    { l with
      writing := some (.report p), dropped := 0
      reports := if 0 < l.dropped then ps ++ [.dropped l.dropped] else ps } := by
  rw [CommandLine.startReport, h]
  by_cases hd : l.dropped = 0
  · simp [hd]
  · simp [hd, Nat.pos_of_ne_zero hd]

theorem offer_of_report {p : Report} {ps : List Report} (h : l.writing = none) (hp : l.reports = p :: ps)
    (hr : l.headReply = none ∨ l.lastReport = some false) : l.offer = l.startReport := by
  cases hh : l.headReply with
  | none => simp only [CommandLine.offer, h, hh, hp]
  | some r =>
    have hlast := hr.resolve_left (by simp [hh])
    simp only [CommandLine.offer, h, hh, hp, if_pos hlast]

end

theorem replyDone_of_overrun {l : CommandLine} {k : Nat} {es : List Entry} (h : l.order = .overrun k :: es) :
    l.replyDone = { l with order := if k ≤ 1 then es else .overrun (k - 1) :: es } := by
  simp only [CommandLine.replyDone, h]

/-- The end of a written reply but the `OK` of a `RESET`. -/
theorem lineDone_of_reply {s : State} {r : Reply} (h : s.line.writing = some (.reply r)) (hr : r ≠ .resetOk) :
    lineDone s = s.withLine { s.line.replyDone with writing := none, lastReport := some false, gap := true } := by
  unfold lineDone
  rw [h]
  cases r with
  | resetOk => exact absurd rfl hr
  | ok | clamped | nomap | data | no => rfl

end Sys2Proof.Machine
end

section
namespace Sys2Proof.Proofs.Written

open Sys2Proof.Machine Sys2Proof.Safety

/-- The end of a written line, by what was written. -/
theorem linesWritten (s : State) (u : CommandLine) (hr : runs s) (hu : u = { s.line with writing := none }) :
    (s.line.writing = none → exec .lineWritten s = acts s) ∧
    (∀ r, s.line.writing = some (.report r) →
      exec .lineWritten s = acts (s.withLine { u with lastReport := some true, gap := true })) ∧
    (s.line.writing = some (.reply .resetOk) →
      ∃ p : ResetPins, p.stop = s.sys.pins.stop ∧
        exec .lineWritten s = acts (deviceReset p (s.withFreeDraws (s.freeDraws + 1)))) ∧
    (∀ r es, r ≠ .resetOk → s.line.writing = some (.reply r) →
      (∀ b, s.line.order = .slot b :: es → exec .lineWritten s =
        acts (s.withLine ({ u with lastReport := some false, gap := true, order := es }.setSlot b .empty))) ∧
      (∀ d, s.line.order = .direct d :: es → exec .lineWritten s =
        acts (s.withLine { u with lastReport := some false, gap := true, order := es })) ∧
      (s.line.order = .overrun 1 :: es → exec .lineWritten s =
        acts (s.withLine { u with lastReport := some false, gap := true, order := es })) ∧
      (∀ k, 1 ≤ k → s.line.order = .overrun (k + 1) :: es → exec .lineWritten s =
        acts (s.withLine { u with lastReport := some false, gap := true, order := .overrun k :: es }))) := by
  subst hu
  refine ⟨fun h => happens (f := lineDone) hr ?_, fun r h => happens (f := lineDone) hr ?_,
    fun h => ⟨⟨s.sys.pins.stop, (Config.strapLevels s.freeDraws).1, (Config.strapLevels s.freeDraws).2⟩, rfl,
      happens (f := lineDone) hr ?_⟩, fun r es hres h => ⟨fun b ho => ?_,
    fun d ho => ?_, fun ho => ?_, fun k hk ho => ?_⟩⟩
  · rw [lineDone, h]
  · rw [lineDone, h]
  · rw [lineDone, h]; rfl
  all_goals
    refine happens (f := lineDone) hr ((lineDone_of_reply h hres).trans ?_)
  · rw [CommandLine.replyDone, ho]
    cases b <;> rfl
  · rw [CommandLine.replyDone, ho]
  · rw [replyDone_of_overrun ho]; rfl
  · rw [replyDone_of_overrun ho, if_neg (by omega)]; rfl

/-- The choice of the next line at a line boundary. -/
theorem lineChosen (l : CommandLine) :
    (l.writing ≠ none → l.offer = l) ∧
    (l.writing = none → l.headReply = none → l.reports = [] → l.offer = { l with gap := false }) ∧
    (∀ r, l.writing = none → l.headReply = some r → l.reports = [] ∨ l.lastReport ≠ some false →
      l.offer = { l with writing := some (.reply r) }) ∧
    (∀ p ps, l.writing = none → l.reports = p :: ps →
      l.headReply = none ∨ l.lastReport = some false →
      l.offer = { l with
        writing := some (.report p), dropped := 0
        reports := if 0 < l.dropped then ps ++ [.dropped l.dropped] else ps }) :=
  ⟨offer_of_writing, offer_of_none, fun _ => offer_of_reply,
    fun _ _ h hp hr => (offer_of_report h hp hr).trans (startReport_of_cons hp)⟩

theorem raised (s : State) (r : Report) :
    (s.sys.ready = false → s.raise r = s) ∧
    (s.sys.ready = true → s.line.reports.length < 32 →
      s.raise r = s.withLine { s.line with reports := s.line.reports ++ [r] }) ∧
    (s.sys.ready = true → 32 ≤ s.line.reports.length → s.line.dropped < 4294967295 →
      s.raise r = s.withLine { s.line with dropped := s.line.dropped + 1 }) ∧
    (s.sys.ready = true → 32 ≤ s.line.reports.length → s.line.dropped = 4294967295 → s.raise r = s) := by
  have full (h : 32 ≤ s.line.reports.length) : s.line.push r =
      { s.line with dropped := min (s.line.dropped + 1) 4294967295 } := if_neg (Nat.not_lt.2 h)
  refine ⟨fun h => if_neg (by simp [h]), fun h hl => ?_, fun h hl hd => ?_, fun h hl hd => ?_⟩ <;>
    rw [State.raise, if_pos h]
  · rw [CommandLine.push, if_pos (show s.line.reports.length < Config.maxReports from hl)]
  · rw [full hl, Nat.min_eq_left (by omega)]
  · rw [full hl, hd, Nat.min_eq_right (by omega), ← hd]
    rfl

theorem transmitted (s : State) (hr : runs s) :
    (s.line.writing = none → txdText s = [] ∧ ∀ k, deOut s k = false) ∧
    (∀ a, s.line.writing = some (.reply a) → txdText s = a.text ++ ['\r', '\n']) ∧
    (∀ a, s.line.writing = some (.report a) → txdText s = a.text ++ ['\r', '\n']) ∧
    ∀ k, deOut s k = true ↔
      (if s.line.gap then 1 else 0) ≤ k ∧ k < (if s.line.gap then 1 else 0) + (txdText s).length := by
  have hheld : s.sys.rstHeld = false := hr
  have hde (k : Nat) : deOut s k = true ↔
      (if s.line.gap then 1 else 0) ≤ k ∧ k < (if s.line.gap then 1 else 0) + (txdText s).length := by
    simp [deOut]
  refine ⟨fun h => ?_, fun a h => ?_, fun a h => ?_, hde⟩
  · have htext : txdText s = [] := by simp only [txdText, hheld, h]; rfl
    refine ⟨htext, fun k => ?_⟩
    rw [Bool.eq_false_iff, Ne, hde, htext, List.length_nil]
    omega
  · simp only [txdText, hheld, h]; rfl
  · simp only [txdText, hheld, h]; rfl

/-- Every word, and how it is spelled. -/
theorem words : ∀ ks : List Kw, ks = [
        .clock, .run, .hold, .set, .rate, .start, .key, .linear, .step, .g, .none, .drop, .list, .group,
        .dimmed, .soft, .hard, .switched, .lamp, .stagger, .to, .level, .until, .free, .bright, .scan,
        .normal, .allOn, .allOff, .walk, .matrix, .divider, .rows, .cols, .reversed, .flood, .source, .skyRed,
        .skyGreen, .skyBlue, .ambient, .bridge, .pwm, .sense, .on, .off, .trip, .restore, .stop, .resume,
        .threshold, .input, .mark, .index, .filter, .sectionW, .length, .a, .b, .buffer, .turnout, .legs,
        .throw, .reverse, .pulse, .position, .crossing, .lamps, .flash, .lead, .bell, .tone, .quiet, .unit,
        .train, .place, .lift, .find, .go, .park, .cab, .fwd, .rev, .name, .table, .ramp, .creep, .home,
        .cabtime, .service, .route, .add, .loop, .timetable, .autorun, .axis, .program, .speed, .clear,
        .direction, .gain, .kick, .maxduty, .stall, .slew, .plus, .minus, .budget, .ceiling, .map, .get,
        .status, .save, .erase, .reset, .running, .held, .light, .dark, .settled, .unsettled, .override,
        .claim, .duty, .staged, .driving, .dead, .cut, .ma, .occupied, .active, .inactive, .stuck, .last,
        .defW, .join, .leg, .trunk, .unknown, .moving, .queued, .idle, .phase, .warning, .protectedW,
        .sounding, .silent, .holder, .wait, .openW, .blocked, .reason, .head, .target, .auth, .unplaced,
        .parked, .waiting, .stopping, .dwelling, .halted, .lost, .faulted, .authority, .deadlock, .stopped,
        .starting, .stalled, .cause, .cmd, .meas, .dir, .max, .scale, .motion, .fixed, .demand, .total, .over,
        .under, .dimming, .axesLimited, .departuresHeld, .sw2460, .ready, .time, .halt, .store, .line, .latch,
        .valid, .invalid, .saving, .erasing, .trains] →
      (∀ k, k ∈ ks) ∧ ks.map Kw.text = [
        "CLOCK", "RUN", "HOLD", "SET", "RATE", "START", "KEY", "LINEAR", "STEP", "G", "NONE", "DROP", "LIST",
        "GROUP", "DIMMED", "SOFT", "HARD", "SWITCHED", "LAMP", "STAGGER", "TO", "LEVEL", "UNTIL", "FREE",
        "BRIGHT", "SCAN", "NORMAL", "ALL_ON", "ALL_OFF", "WALK", "MATRIX", "DIVIDER", "ROWS", "COLS",
        "REVERSED", "FLOOD", "SOURCE", "SKY_RED", "SKY_GREEN", "SKY_BLUE", "AMBIENT", "BRIDGE", "PWM",
        "SENSE", "ON", "OFF", "TRIP", "RESTORE", "STOP", "RESUME", "THRESHOLD", "INPUT", "MARK", "INDEX",
        "FILTER", "SECTION", "LENGTH", "A", "B", "BUFFER", "TURNOUT", "LEGS", "THROW", "REVERSE", "PULSE",
        "POSITION", "CROSSING", "LAMPS", "FLASH", "LEAD", "BELL", "TONE", "QUIET", "UNIT", "TRAIN", "PLACE",
        "LIFT", "FIND", "GO", "PARK", "CAB", "FWD", "REV", "NAME", "TABLE", "RAMP", "CREEP", "HOME",
        "CABTIME", "SERVICE", "ROUTE", "ADD", "LOOP", "TIMETABLE", "AUTORUN", "AXIS", "PROGRAM", "SPEED",
        "CLEAR", "DIRECTION", "GAIN", "KICK", "MAXDUTY", "STALL", "SLEW", "+", "-", "BUDGET", "CEILING",
        "MAP", "GET", "STATUS", "SAVE", "ERASE", "RESET", "RUNNING", "HELD", "LIGHT", "DARK", "SETTLED",
        "UNSETTLED", "OVERRIDE", "CLAIM", "DUTY", "STAGED", "DRIVING", "DEAD", "CUT", "MA", "OCCUPIED",
        "ACTIVE", "INACTIVE", "STUCK", "LAST", "DEF", "JOIN", "LEG", "TRUNK", "UNKNOWN", "MOVING", "QUEUED",
        "IDLE", "PHASE", "WARNING", "PROTECTED", "SOUNDING", "SILENT", "HOLDER", "WAIT", "OPEN", "BLOCKED",
        "REASON", "HEAD", "TARGET", "AUTH", "UNPLACED", "PARKED", "WAITING", "STOPPING", "DWELLING", "HALTED",
        "LOST", "FAULTED", "AUTHORITY", "DEADLOCK", "STOPPED", "STARTING", "STALLED", "CAUSE", "CMD", "MEAS",
        "DIR", "MAX", "SCALE", "MOTION", "FIXED", "DEMAND", "TOTAL", "OVER", "UNDER", "DIMMING",
        "AXES_LIMITED", "DEPARTURES_HELD", "SW2460", "READY", "TIME", "HALT", "STORE", "LINE", "LATCH",
        "VALID", "INVALID", "SAVING", "ERASING", "TRAINS"].map String.toList := by
  rintro ks rfl
  exact ⟨fun k => List.elem_iff.1 (by cases k <;> rfl), rfl⟩

/-- The texts of the reports. -/
theorem reports (num : Nat → List Char) (hnum : ∀ n, num n = ' ' :: Nat.toDigits 10 n) :
    (∀ (k : Channel) mA, Report.text (.trip k mA) = "#TRIP".toList ++ num k ++ num mA) ∧
      (∀ (i : InputId) (m : MarkId), i.val = m.val →
        Report.text (.stuck i) = "#MARK".toList ++ num m ++ " STUCK".toList ∧
        Report.text (.released i) = "#MARK".toList ++ num m ++ " RELEASED".toList) ∧
      (∀ (i : InputId) (n : Axis), i.val = 16 + n.val →
        Report.text (.stuck i) = "#INDEX".toList ++ num n ++ " STUCK".toList ∧
        Report.text (.released i) = "#INDEX".toList ++ num n ++ " RELEASED".toList) ∧
      (∀ t, Report.text (.turnout t .normal) = "#TURNOUT".toList ++ num t ++ " NORMAL".toList ∧
        Report.text (.turnout t .reverse) = "#TURNOUT".toList ++ num t ++ " REVERSE".toList) ∧
      (∀ x, Report.text (.stray x) = "#STRAY".toList ++ num x) ∧
      (∀ m, Report.text (.strayMark m) = "#STRAY MARK".toList ++ num m) ∧
      (∀ n u h, Report.text (.deadlock n u h) = "#DEADLOCK".toList ++ num n ++ num u ++ num h) ∧
      (∀ n, Report.text (.markMiss n) = "#MARKMISS".toList ++ num n ∧
        Report.text (.lost n) = "#LOST".toList ++ num n ∧ Report.text (.cab n) = "#CAB".toList ++ num n) ∧
      (∀ n r, Report.text (.missed n r) = "#MISSED".toList ++ num n ++ num r) ∧
      (∀ n, Report.text (.stall n) = "#STALL".toList ++ num n) ∧
      ∀ k, Report.text (.skipped k) = "#SKIPPED".toList ++ num k ∧
        Report.text (.dropped k) = "#DROPPED".toList ++ num k := by
  have one (t : List Char) (n : Nat) : joinToks [t, digits n] = t ++ num n := by
    rw [joinToks_cons, hnum]; simp [digits]
  have two (t : List Char) (m n : Nat) : joinToks [t, digits m, digits n] = t ++ num m ++ num n := by
    rw [joinToks_cons, hnum, hnum]; simp [digits]
  have named (t w : List Char) (n : Nat) : joinToks [t, digits n, w] = t ++ num n ++ ' ' :: w := by
    rw [joinToks_cons, hnum]; simp [digits]
  have mark {i : InputId} {m : MarkId} (h : i.val = m.val) : inputText i = ["#MARK".toList, digits m.val] := by
    rw [inputText, if_pos (by omega), h]
  have index {i : InputId} {n : Axis} (h : i.val = 16 + n.val) : inputText i = ["#INDEX".toList, digits n.val] := by
    rw [inputText, if_neg (by omega), h, Nat.add_sub_cancel_left]
  have stuckText (i : InputId) : Report.text (.stuck i) = joinToks (inputText i ++ ["STUCK".toList]) ∧
      Report.text (.released i) = joinToks (inputText i ++ ["RELEASED".toList]) := ⟨rfl, rfl⟩
  refine ⟨fun k mA => two "#TRIP".toList k.val mA, fun i m h => ?_, fun i n h => ?_,
    fun t => ⟨named "#TURNOUT".toList "NORMAL".toList t.val, named "#TURNOUT".toList "REVERSE".toList t.val⟩,
    fun x => one "#STRAY".toList x.val, fun m => ?_, fun n u k => ?_,
    fun n => ⟨one "#MARKMISS".toList n.val, one "#LOST".toList n.val, one "#CAB".toList n.val⟩,
    fun n r => two "#MISSED".toList n.val r.val, fun n => one "#STALL".toList n.val,
    fun k => ⟨one "#SKIPPED".toList k, one "#DROPPED".toList k⟩⟩
  · rw [(stuckText i).1, (stuckText i).2, mark h]
    exact ⟨named .., named ..⟩
  · rw [(stuckText i).1, (stuckText i).2, index h]
    exact ⟨named .., named ..⟩
  · show joinToks ["#STRAY".toList, "MARK".toList, digits m.val] = _
    rw [joinToks_cons, hnum]
    simp [digits]
  · show joinToks ["#DEADLOCK".toList, digits n.val, digits u.val, digits k.val] = _
    rw [joinToks_cons, hnum, hnum, hnum]
    simp [digits]

/-- Settles O47. -/
theorem linesWrittenAndReports : Obligations.LinesWrittenAndReports := by
  refine ⟨⟨linesWritten, lineChosen⟩, fun s r => ?_⟩
  obtain ⟨h1, h2, h3, h4⟩ := raised s r
  refine ⟨h1, h2, h3, h4, transmitted s, rfl, fun xs => ?_, fun a => ?_, rfl, words, fun _ => rfl, fun _ => rfl,
    fun _ => rfl, fun _ => rfl, fun n hn => ?_, fun h m x two hh hm hx htwo => timeText_eq hh hm hx htwo, rfl, rfl,
    reports⟩
  · show joinToks ("OK".toList :: xs.map Tok.text) = _
    rw [joinToks_cons, List.flatMap_map]
  · show joinToks ["NO".toList, a.text] = _
    rw [joinToks_cons]
    simp
  · obtain ⟨k, rfl⟩ : ∃ k, n = k + 1 := ⟨n - 1, by omega⟩
    rfl

end Sys2Proof.Proofs.Written
end

section
-- One theorem after the other: side by side, waiting proofs would pile up.
set_option Elab.async false
/-! SUPPORT. The forms of the lines in terms of their words: what a command says, what stands near it, and what
selects no form (R184, R185). -/

namespace Sys2Proof.Machine

open Sys2Proof.Safety

/-! ## Words of tokens -/

/-- The number or scene time of a word that a token reads as. -/
def Word.ok : Word → Prop
  | .num n => numOk n = true
  | .time t => t.wf = true
  | .kw k => k ∈ Kw.all
  | .other _ => True

theorem wordOf_ok (t : List Char) : (wordOf t).ok := by
  cases h : wordOf t with
  | kw k => exact (wordOf_eq_kw.1 h).1
  | num n => exact numOk_of_numberOf (wordOf_eq_num.1 h)
  | time x => exact (wordOf_eq_time.1 h).1
  | other cs => exact trivial

theorem wordOf_other {t cs : List Char} (h : wordOf t = .other cs) : cs = t := by
  unfold wordOf at h
  split at h <;> simp_all

theorem isDigit_not_alpha {c : Char} (h : c.isDigit = true) : c.isAlpha = false := by
  simp only [Char.isDigit, Bool.and_eq_true, decide_eq_true_eq] at h
  have h1 : 48 ≤ c.toNat := h.1
  have h2 : c.toNat ≤ 57 := h.2
  simp only [Char.isAlpha, Char.isUpper, Char.isLower, Bool.or_eq_false_iff, Bool.and_eq_false_iff,
    decide_eq_false_iff_not]
  refine ⟨fun h3 => ?_, .inl fun h3 => ?_⟩
  · have h4 : 65 ≤ c.toNat := h3.1
    omega
  · have h4 : 97 ≤ c.toNat := h3
    omega

theorem digitToken_not_wordlike {t : List Char} (h : ∃ c r, t = c :: r ∧ c.isDigit = true) : ¬ Wordlike t := by
  rintro ⟨c, r, rfl, hc⟩
  obtain ⟨d, q, e, hd⟩ := h
  obtain ⟨rfl, -⟩ := List.cons.inj e
  rw [isDigit_not_alpha hd] at hc
  cases hc

theorem exists_cons_digit {t : List Char} (hne : t ≠ []) (h : ∀ c ∈ t, c.isDigit = true) :
    ∃ c r, t = c :: r ∧ c.isDigit = true := by
  obtain ⟨c, r, rfl⟩ := List.exists_cons_of_ne_nil hne
  exact ⟨c, r, rfl, h c List.mem_cons_self⟩

theorem wordlike_iff_head (t : List Char) : Wordlike t ↔ (t.head?.any Char.isAlpha) = true := by
  cases t with
  | nil => exact iff_of_false (by rintro ⟨c, r, e, -⟩; cases e) nofun
  | cons c r =>
    refine ⟨?_, fun hc => ⟨c, r, rfl, hc⟩⟩
    rintro ⟨d, q, e, hd⟩
    obtain ⟨rfl, rfl⟩ := List.cons.inj e
    exact hd

theorem text_wordlike (k : Kw) : Wordlike k.text ↔ (k != .plus && k != .minus) = true := by
  have hhead : (k.text.head?.any Char.isAlpha) = (k != .plus && k != .minus) := by cases k <;> rfl
  rw [wordlike_iff_head, hhead]

/-- A token begins with a letter where it reads as a keyword, known or not (log 14). -/
theorem isKeyword_wordOf (t : List Char) : (wordOf t).isKeyword = true ↔ Wordlike t := by
  cases h : wordOf t with
  | kw k =>
    obtain ⟨-, rfl⟩ := wordOf_eq_kw.1 h
    exact (text_wordlike k).symm
  | num n =>
    obtain ⟨⟨h1, -, hd⟩, -⟩ := numberOf_eq_some.1 (wordOf_eq_num.1 h)
    exact iff_of_false nofun (digitToken_not_wordlike (exists_cons_digit (List.length_pos_iff.1 h1) hd))
  | time x =>
    refine iff_of_false nofun (digitToken_not_wordlike ?_)
    obtain ⟨-, f, hf, ht⟩ := wordOf_eq_time.1 h
    have hdig : ∃ c r, f = c :: r ∧ c.isDigit = true := by
      rcases hf with rfl | rfl
      · exact exists_cons_digit (digits_ne_nil _) fun c => isDigit_of_mem_digits
      · exact exists_cons_digit (plainToken_twoDigits _).1 fun c => isDigit_of_mem_twoDigits
    obtain ⟨c, r, rfl, hc⟩ := hdig
    rcases ht with rfl | ⟨-, rfl⟩ <;> exact ⟨c, _, rfl, hc⟩
  | other cs =>
    obtain rfl := wordOf_other h
    rw [wordlike_iff_head]
    cases cs <;> rfl

theorem isLongRun_wordOf {t : List Char} (hne : t ≠ []) : (wordOf t).isLongRun = true ↔ LongRun t := by
  have of_number {n : Nat} (h : numberOf t = some n) : ¬ LongRun t := fun g => by
    have := (numberOf_eq_some.1 h).1.2.1
    have := g.1
    omega
  cases h : wordOf t with
  | kw k =>
    obtain ⟨-, rfl⟩ := wordOf_eq_kw.1 h
    refine iff_of_false nofun fun g => ?_
    have := text_not_digits k
    rw [List.all_eq_true.2 g.2] at this
    cases this
  | num n => exact iff_of_false nofun (of_number (wordOf_eq_num.1 h))
  | time x =>
    exact iff_of_false nofun fun g => no_colon_of_digits g.2 (colon_of_saysTime (wordOf_eq_time.1 h).2)
  | other cs =>
    obtain rfl := wordOf_other h
    have hnum : numberOf cs = none := by
      cases hn : numberOf cs with
      | none => rfl
      | some n => rw [wordOf_eq_num.2 hn] at h; cases h
    simp only [Word.isLongRun, List.all_eq_true]
    refine ⟨fun g => ⟨?_, g⟩, fun g => g.2⟩
    by_contra hl
    have : numberOf cs = some (digitsValue cs) :=
      numberOf_eq_some.2 ⟨⟨List.length_pos_iff.2 hne, by omega, g⟩, rfl⟩
    rw [hnum] at this
    cases this

theorem numberToken_iff (t : List Char) : NumberToken t ↔ ∃ n, wordOf t = .num n := by
  simp only [wordOf_eq_num, numberOf_eq_some]
  exact ⟨fun h => ⟨_, h, rfl⟩, fun ⟨_, h, _⟩ => h⟩

/-! ## What the words of a line say -/

/-- A word that is a keyword, a number or a scene time. -/
def Word.plain : Word → Bool
  | .kw _ | .num _ | .time _ => true
  | .other _ => false

/-- The words `W` after verb `v` are those of command `i`: keywords, numbers and scene times. -/
def Says (v : Kw) (W : List Word) (i : Instr) : Prop :=
  i.wf = true ∧ (∀ n name, i ≠ .trainName n name) ∧ (∀ w ∈ W, w.plain = true) ∧
    ∃ us, spellTokens i = some (v.text :: us) ∧ us.map wordOf = W

/-- One word stands where another does: it is the same, or both are keywords. -/
def Word.Close (w x : Word) : Prop := w = x ∨ (w.isKeyword = true ∧ x.isKeyword = true ∧ x.ok)

/-- The words `W` after verb `v` have the form of command `i` but for keywords after those that select the form. -/
def Near (v : Kw) (W : List Word) (i : Instr) : Prop :=
  ∃ A B C, W = A ++ B ∧ Says v (A ++ C) i ∧ List.Forall₂ Word.Close B C ∧ LeavesKeywords i (A.length + 1)

/-- The words `W` after verb `v` are those of query `q` and then one that selects no form. -/
def SaysNone (v : Kw) (W : List Word) (q : Instr) : Prop :=
  ∃ A w R ks any, W = A ++ w :: R ∧ Says v A q ∧ Selects q ks any ∧
    (∀ k, w = .kw k → k.text ∉ ks.map String.toList) ∧ (any = true ∨ w.isKeyword = true) ∧
    ∀ m n, q = .timetableQuery → R ≠ [.num m, .num n]

/-- The second word of a line of verb `v` is none of those its chapter lists. -/
def SecondUnknown (v : Kw) (W : List Word) : Prop :=
  ∃ w R, W = w :: R ∧
    ((v = .clock ∧ ∀ k ∈ [Kw.set, .run, .hold, .rate, .start], w ≠ .kw k) ∨
      (v = .matrix ∧ ∀ k ∈ [Kw.divider, .rows, .cols], w ≠ .kw k) ∨
      (v = .budget ∧ ∀ k ∈ [Kw.ceiling, .lamp, .flood], w ≠ .kw k) ∨
      (v = .input ∧ (∀ k ∈ [Kw.mark, .index], w ≠ .kw k) ∧ W.any Word.isLongRun = false))

/-- What a line of verb `v` and words `W` that is read as `p` says. -/
def Tells (v : Kw) (W : List Word) (p : Parsed) : Prop :=
  (∀ i, p = .line i → Says v W i) ∧ (∀ i, p = .unknownIn i → Near v W i ∨ SaysNone v W i) ∧
    (∀ r, p = .refused r → (r = .syntaxErr ∧ ¬ SecondUnknown v W) ∨ (r = .unknown ∧ SecondUnknown v W))

theorem tells_line {v : Kw} {W : List Word} {i : Instr} (h : Says v W i) : Tells v W (.line i) :=
  ⟨fun j e => by cases e; exact h, nofun, nofun⟩

theorem tells_malformed {v : Kw} {W : List Word} (h : ¬ SecondUnknown v W) : Tells v W .malformed :=
  ⟨nofun, nofun, fun r e => .inl (by cases e; exact ⟨rfl, h⟩)⟩

theorem tells_unknown {v : Kw} {W : List Word} (h : SecondUnknown v W) : Tells v W (.refused .unknown) :=
  ⟨nofun, nofun, fun r e => .inr (by cases e; exact ⟨rfl, h⟩)⟩

theorem tells_unknownIn {v : Kw} {W : List Word} {i : Instr} (h : SaysNone v W i) : Tells v W (.unknownIn i) :=
  ⟨nofun, fun j e => by cases e; exact .inr h, nofun⟩

theorem keywords_eq_line {ps : List (Word × Bool)} {i j : Instr} :
    keywords ps i = .line j ↔ i = j ∧ ∀ p ∈ ps, p.2 = true := by
  unfold keywords
  rw [← List.all_eq_true]
  split
  · next h => simp [h]
  · next h => split <;> simp [Parsed.malformed, h]

theorem keywords_eq_unknownIn {ps : List (Word × Bool)} {i j : Instr} : keywords ps i = .unknownIn j ↔
    i = j ∧ (∀ p ∈ ps, p.2 = true ∨ p.1.isKeyword = true) ∧ ¬ ∀ p ∈ ps, p.2 = true := by
  have hall : (ps.all fun p => p.2 || p.1.isKeyword) = true ↔ ∀ p ∈ ps, p.2 = true ∨ p.1.isKeyword = true := by
    simp [List.all_eq_true]
  unfold keywords
  rw [← hall, ← List.all_eq_true]
  split
  · next h => simp [h]
  · next h => split <;> simp_all [Parsed.malformed]

theorem keywords_eq_refused {ps : List (Word × Bool)} {i : Instr} {r : Reason} (h : keywords ps i = .refused r) :
    r = .syntaxErr := by
  unfold keywords at h
  split at h
  · cases h
  · split at h
    · cases h
    · cases h; rfl

theorem tells_keywords {v : Kw} {W : List Word} {ps : List (Word × Bool)} {i : Instr} (hknown : ¬ SecondUnknown v W)
    (hline : (∀ p ∈ ps, p.2 = true) → Says v W i)
    (hnear : (∀ p ∈ ps, p.2 = true ∨ p.1.isKeyword = true) → Near v W i) : Tells v W (keywords ps i) := by
  refine ⟨fun j e => ?_, fun j e => ?_, fun r e => .inl ⟨keywords_eq_refused e, hknown⟩⟩
  · obtain ⟨rfl, h⟩ := keywords_eq_line.1 e
    exact hline h
  · obtain ⟨rfl, h, -⟩ := keywords_eq_unknownIn.1 e
    exact .inl (hnear h)

theorem near_of_says {v : Kw} {W : List Word} {i : Instr} {k : Nat} (h : Says v W i) (hk : LeavesKeywords i (k + 1))
    (hlen : k ≤ W.length) : Near v W i := by
  refine ⟨W.take k, W.drop k, W.drop k, (List.take_append_drop k W).symm, by rwa [List.take_append_drop],
    List.forall₂_same.2 fun w _ => .inl rfl, ?_⟩
  rwa [List.length_take, Nat.min_eq_left hlen]

/-- A form with one keyword: `d` stands in for the value of a keyword that is not known. -/
theorem tells_keyword {α : Type} {v : Kw} {W : List Word} {w : Word} {o : Option α} {d : α} {f : α → Instr}
    {k : Nat} (hknown : ¬ SecondUnknown v W) (hline : ∀ a, o = some a → Says v W (f a))
    (hd : w.isKeyword = true → Near v W (f d)) (hk : ∀ a, LeavesKeywords (f a) (k + 1)) (hlen : k ≤ W.length) : Tells v W (keyword w o d f) := by
  refine tells_keywords hknown (fun h => ?_) fun h => ?_
  · obtain ⟨a, rfl⟩ := Option.isSome_iff_exists.1 (h _ (List.mem_singleton.2 rfl))
    exact hline a rfl
  · cases ho : o with
    | some a => exact near_of_says (hline a ho) (hk a) hlen
    | none => exact hd ((h _ (List.mem_singleton.2 rfl)).resolve_left (by simp [ho]))

theorem tells_unknownWord {v : Kw} {W : List Word} {w : Word} {q : Instr} (hknown : ¬ SecondUnknown v W)
    (h : w.isKeyword = true → SaysNone v W q) : Tells v W (unknownWord w q) := by
  refine ⟨fun j e => ?_, fun j e => ?_, fun r e => .inl ⟨keywords_eq_refused e, hknown⟩⟩
  · exact absurd ((keywords_eq_line.1 e).2 _ (List.mem_singleton.2 rfl)) nofun
  · obtain ⟨rfl, hw, -⟩ := keywords_eq_unknownIn.1 e
    exact .inr (h ((hw _ (List.mem_singleton.2 rfl)).resolve_left nofun))

theorem tells_needing {α : Type} {v : Kw} {W : List Word} {o : Option α} {f : α → Instr}
    (hknown : ¬ SecondUnknown v W) (hline : ∀ a, o = some a → Says v W (f a)) : Tells v W (needing o f) := by
  unfold needing
  split
  · exact tells_malformed hknown
  · next a => exact tells_line (hline a rfl)

/-- Most verbs have no list of second words. -/
theorem known_of {v : Kw} (h : v ∉ [Kw.clock, .matrix, .budget, .input]) (W : List Word) : ¬ SecondUnknown v W := by
  simp only [List.mem_cons, List.not_mem_nil, or_false, not_or] at h
  rintro ⟨w, R, -, ⟨rfl, -⟩ | ⟨rfl, -⟩ | ⟨rfl, -⟩ | ⟨rfl, -⟩⟩ <;> simp at h

/-! ## Commands that their words make well formed -/

theorem numOk_of_plain {n : Nat} (h : (wordOf (digits n)).plain = true) : numOk n = true := by
  cases hw : wordOf (digits n) with
  | kw k =>
    have := ofChars_digits n
    rw [ofChars_eq_some.2 (wordOf_eq_kw.1 hw)] at this
    cases this
  | num m =>
    have hm := numberOf_eq_some.1 (wordOf_eq_num.1 hw)
    exact (numOk_iff n).2 hm.1.2.1
  | time x =>
    exact absurd (colon_of_saysTime (wordOf_eq_time.1 hw).2) (no_colon_of_digits fun c => isDigit_of_mem_digits)
  | other cs => rw [hw] at h; cases h

/-- A token that is the spelled time of `x` says no other time. -/
theorem saysTime_spelled {x y : TimeTok} (h : SaysTime y (spellTime x)) : y = x := by
  have hcolon (n : Nat) : ':' ∉ twoDigits n := no_colon_of_digits fun c => isDigit_of_mem_twoDigits
  have inj {m n : Nat} (g : twoDigits m = twoDigits n) : n = m := by rw [← twoDigits_value m, g, twoDigits_value]
  have hx : splitColons [] (spellTime x) = [twoDigits x.h, twoDigits x.m, twoDigits x.s] := by
    rw [spellTime, List.append_assoc, List.cons_append, splitColons_append (hcolon _), splitColons_append (hcolon _),
      splitColons_of_none (hcolon _)]
    rfl
  obtain ⟨h, hh, ht⟩ := h
  have hval : digitsValue h = y.h := by
    rcases hh with rfl | rfl
    · exact digitsValue_digits _
    · exact twoDigits_value _
  have hno : ':' ∉ h := by
    rcases hh with rfl | rfl
    · exact no_colon_of_digits fun c => isDigit_of_mem_digits
    · exact hcolon _
  rcases ht with ht | ⟨-, ht⟩
  · rw [ht, List.append_assoc, List.cons_append, splitColons_append hno, splitColons_append (hcolon _),
      splitColons_of_none (hcolon _)] at hx
    obtain ⟨e1, e⟩ := List.cons.inj hx
    obtain ⟨e2, e⟩ := List.cons.inj e
    obtain ⟨e3, -⟩ := List.cons.inj e
    rw [List.nil_append] at e1
    have h1 : y.h = x.h := by rw [← hval, e1, twoDigits_value]
    cases x; cases y
    simp only [TimeTok.mk.injEq]
    exact ⟨h1, (inj e2).symm, (inj e3).symm⟩
  · rw [ht, splitColons_append hno, splitColons_of_none (hcolon _)] at hx
    exact absurd (congrArg List.length hx) (by simp)

theorem wf_of_plain_time {x : TimeTok} (h : (wordOf (spellTime x)).plain = true) : x.wf = true := by
  have hcolon := colon_of_saysTime (saysTime_spellTime x)
  cases hw : wordOf (spellTime x) with
  | kw k => exact absurd ((wordOf_eq_kw.1 hw).2 ▸ hcolon) (text_has_no_colon k)
  | num m => exact absurd hcolon (no_colon_of_digits (numberOf_eq_some.1 (wordOf_eq_num.1 hw)).1.2.2)
  | time y =>
    obtain ⟨hy, h⟩ := wordOf_eq_time.1 hw
    rwa [← saysTime_spelled h]
  | other cs => rw [hw] at h; cases h

/-- Every token of a list is a keyword, a number or a scene time. -/
def AllPlain (us : List (List Char)) : Prop := (us.map wordOf).all Word.plain = true

theorem allPlain_cons {u : List Char} {us : List (List Char)} :
    AllPlain (u :: us) ↔ (wordOf u).plain = true ∧ AllPlain us := by
  rw [AllPlain, List.map_cons, List.all_cons, Bool.and_eq_true]; rfl

theorem allPlain_append {us vs : List (List Char)} : AllPlain (us ++ vs) ↔ AllPlain us ∧ AllPlain vs := by
  rw [AllPlain, List.map_append, List.all_append, Bool.and_eq_true]; rfl

theorem optNumOk_of_plain {g : Option Nat} (h : (wordOf (spellGroup g)).plain = true) : optNumOk g = true := by
  cases g with
  | none => rfl
  | some n => exact numOk_of_plain h

theorem optTimeOk_of_plain {x : Option TimeTok} (h : AllPlain (spellUntil x)) : optTimeOk x = true := by
  cases x with
  | none => rfl
  | some x => exact wf_of_plain_time (allPlain_cons.1 (allPlain_cons.1 h).2).1

theorem endTok_of_plain {e : EndTok} (h : AllPlain (spellEndTok e)) : e.wf = true :=
  numOk_of_plain (allPlain_cons.1 h).1

theorem pairsOk_of_groupPairs {ps : List (Nat × Nat)} (h : AllPlain (spellGroupPairs ps)) : pairsOk ps = true := by
  induction ps with
  | nil => rfl
  | cons p ps ih =>
    rw [spellGroupPairs, List.flatMap_cons, allPlain_append, allPlain_cons, allPlain_cons, allPlain_cons] at h
    obtain ⟨⟨-, h1, h2, -⟩, hps⟩ := h
    have := ih hps
    rw [pairsOk] at this ⊢
    rw [List.all_cons, numOk_of_plain h1, numOk_of_plain h2, this]
    rfl

/-- The command has no list that must hold something, and no name. -/
def listless : Instr → Bool
  | .runDefine .. | .routeDefine .. | .routeAdd .. | .trainTable .. | .trainName .. => false
  | _ => true

/-- A command whose tokens are keywords, numbers of 1 to 9 digits and scene times is well formed. -/
theorem wf_of_plain {i : Instr} {us : List (List Char)} (h : spellTokens i = some us) (hp : AllPlain us)
    (hl : listless i = true) : i.wf = true := by
  cases i
  any_goals (cases hl; done)
  case routeStop r i d m =>
    cases m <;> cases h <;> simp only [allPlain_cons] at hp <;>
      simp [Instr.wf, numOk_of_plain, hp, optNumOk]
  case trainCab n st o =>
    cases o <;> cases h <;> simp only [allPlain_cons] at hp <;> simp [Instr.wf, numOk_of_plain, hp]
  any_goals (cases h; done)
  all_goals
    cases h
    simp only [allPlain_cons, allPlain_append] at hp
    simp [Instr.wf, numOk_of_plain, wf_of_plain_time, optNumOk_of_plain, optTimeOk_of_plain, endTok_of_plain,
      pairsOk_of_groupPairs, hp]

/-- The token that spells a word. -/
def Word.spelled : Word → List Char
  | .kw k => k.text
  | .num n => digits n
  | .time t => spellTime t
  | .other cs => cs

theorem wordOf_spelled {w : Word} (hok : w.ok) (h : w.plain = true) : wordOf w.spelled = w := by
  cases w with
  | kw k => exact wordOf_kw hok
  | num n => exact wordOf_digits hok
  | time t => exact wordOf_time hok
  | other cs => cases h

theorem says_of_words {v : Kw} {W : List Word} {i : Instr} {us : List (List Char)}
    (hs : spellTokens i = some (v.text :: us)) (hw : us.map wordOf = W) (hv : (wordOf v.text).plain = true) (hp : W.all Word.plain = true)
    (hl : listless i = true) : Says v W i := by
  refine ⟨wf_of_plain hs (allPlain_cons.2 ⟨hv, by rw [AllPlain, hw, hp]⟩) hl, ?_,
    List.all_eq_true.1 hp, us, hs, hw⟩
  rintro n name rfl
  cases hl

/-- A command whose tokens spell the words one by one. -/
theorem says_of {v : Kw} {W : List Word} {i : Instr} (hv : v ∈ Kw.all) (hok : ∀ w ∈ W, w.ok)
    (hp : W.all Word.plain = true) (hs : spellTokens i = some (v.text :: W.map Word.spelled))
    (hl : listless i = true) : Says v W i := by
  refine says_of_words hs ?_ (by rw [wordOf_kw hv]; rfl) hp hl
  rw [List.map_map]
  exact (List.map_congr_left fun w h => wordOf_spelled (hok w h) (List.all_eq_true.1 hp w h)).trans (List.map_id W)

theorem ok_of_close {B C : List Word} (h : List.Forall₂ Word.Close B C) (hB : ∀ w ∈ B, w.ok) :
    ∀ w ∈ C, w.ok := by
  induction h with
  | nil => exact nofun
  | cons hc _ ih =>
    obtain ⟨h1, h2⟩ := List.forall_mem_cons.1 hB
    refine List.forall_mem_cons.2 ⟨?_, ih h2⟩
    rcases hc with rfl | ⟨-, -, h⟩
    · exact h1
    · exact h

/-- Words that stand where those of a command do. -/
theorem near_of {v : Kw} {A B C : List Word} {i : Instr} (hv : v ∈ Kw.all) (hok : ∀ w ∈ A ++ B, w.ok)
    (hc : List.Forall₂ Word.Close B C) (hp : (A ++ C).all Word.plain = true)
    (hs : spellTokens i = some (v.text :: (A ++ C).map Word.spelled)) (hl : listless i = true)
    (hk : LeavesKeywords i (A.length + 1)) : Near v (A ++ B) i := by
  obtain ⟨hA, hB⟩ := List.forall_mem_append.1 hok
  exact ⟨A, B, C, rfl, says_of hv (List.forall_mem_append.2 ⟨hA, ok_of_close hc hB⟩) hp hs hl, hc, hk⟩

/-- A query's words and then one that is none of those that select a form. -/
theorem saysNone_of {v : Kw} {A R : List Word} {w : Word} {q : Instr} {ks : List String} {ns : List Kw} {any : Bool}
    (hv : v ∈ Kw.all) (hok : ∀ x ∈ A ++ w :: R, x.ok) (hp : A.all Word.plain = true)
    (hs : spellTokens q = some (v.text :: A.map Word.spelled)) (hl : listless q = true) (hq : Selects q ks any)
    (hks : ks.map String.toList = ns.map Kw.text) (hw : ∀ k ∈ ns, w ≠ .kw k) (hns : ∀ k ∈ ns, k ∈ Kw.all)
    (hany : any = true ∨ w.isKeyword = true) (ht : ∀ m n, q = .timetableQuery → R ≠ [.num m, .num n]) :
    SaysNone v (A ++ w :: R) q := by
  obtain ⟨hA, hR⟩ := List.forall_mem_append.1 hok
  refine ⟨A, w, R, ks, any, rfl, says_of hv hA hp hs hl, hq, ?_, hany, ht⟩
  rintro k rfl hk
  rw [hks] at hk
  obtain ⟨j, hj, e⟩ := List.mem_map.1 hk
  have hkok : k ∈ Kw.all := hR (.kw k) List.mem_cons_self
  have := ofChars_text k hkok
  rw [← e, ofChars_text j (hns j hj)] at this
  exact hw j hj (by rw [Option.some.inj this])

theorem close_kw {w : Word} {k : Kw} (hk : (Word.kw k).isKeyword = true) (hall : k ∈ Kw.all)
    (h : (w.isKw k).2 = true ∨ (w.isKw k).1.isKeyword = true) : w.Close (.kw k) :=
  h.imp beq_iff_eq.1 fun h => ⟨h, hk, hall⟩

end Sys2Proof.Machine
end

section
-- One theorem after the other: side by side, waiting proofs would pile up.
set_option Elab.async false
/-! SUPPORT. What the lines of each verb say: every branch of the verb's forms, by its words (R184, R185). -/

namespace Sys2Proof.Machine

open Sys2Proof.Safety

theorem close_stand {w : Word} {k : Kw} (h : w.isKeyword = true) (hk : (Word.kw k).isKeyword = true)
    (hall : k ∈ Kw.all) : w.Close (.kw k) := .inr ⟨h, hk, hall⟩

theorem close_refl (w : Word) : w.Close w := .inl rfl

/-! ## Lists of numbers -/

theorem numbersOf_eq_some {ws : List Word} {xs : List Nat} (h : numbersOf ws = some xs) : ws = xs.map .num := by
  induction ws generalizing xs with
  | nil => cases h; rfl
  | cons w ws ih =>
    cases w with
    | num n =>
      obtain ⟨ys, hys, rfl⟩ := Option.map_eq_some_iff.1 h
      rw [ih hys]; rfl
    | kw k => cases h
    | time t => cases h
    | other cs => cases h

theorem pairsOf_eq_some {ws : List Word} {ps : List (Nat × Nat)} (h : pairsOf ws = some ps) :
    ws = ps.flatMap fun p => [.num p.1, .num p.2] := by
  fun_induction pairsOf ws generalizing ps with
  | case1 => cases h; rfl
  | case2 a b ws ih =>
    obtain ⟨qs, hqs, rfl⟩ := Option.map_eq_some_iff.1 h
    rw [ih hqs]; rfl
  | case3 => cases h

theorem groupPairsOf_eq_some {ws : List Word} {ps : List (Nat × Nat)} (h : groupPairsOf ws = some ps) :
    ws = ps.flatMap fun p => [.kw .g, .num p.1, .num p.2] := by
  fun_induction groupPairsOf ws generalizing ps with
  | case1 => cases h; rfl
  | case2 a b ws ih =>
    obtain ⟨qs, hqs, rfl⟩ := Option.map_eq_some_iff.1 h
    rw [ih hqs]; rfl
  | case3 => cases h

theorem spelled_pairs (ps : List (Nat × Nat)) :
    (ps.flatMap fun p => [Word.num p.1, .num p.2]).map Word.spelled = spellPairs ps := by
  rw [List.map_flatMap]; rfl

theorem spelled_groupPairs (ps : List (Nat × Nat)) :
    (ps.flatMap fun p => [Word.kw .g, .num p.1, .num p.2]).map Word.spelled = spellGroupPairs ps := by
  rw [List.map_flatMap]; rfl

theorem spelled_numbers (xs : List Nat) : (xs.map Word.num).map Word.spelled = xs.map digits := by
  rw [List.map_map]; rfl

/-- A command with a list, whose tokens spell the words one by one. -/
theorem says_of_list {v : Kw} {W : List Word} {i : Instr} (hok : ∀ w ∈ W, w.ok) (hp : ∀ w ∈ W, w.plain = true)
    (hs : spellTokens i = some (v.text :: W.map Word.spelled)) (hi : i.wf = true)
    (hn : ∀ n name, i ≠ .trainName n name) : Says v W i := by
  refine ⟨hi, hn, hp, _, hs, ?_⟩
  rw [List.map_map]
  exact (List.map_congr_left fun w h => wordOf_spelled (hok w h) (hp w h)).trans (List.map_id W)

theorem numOk_of_list {xs : List Nat} {A : List Word} (hok : ∀ w ∈ A ++ xs.map Word.num, w.ok) :
    xs.all numOk = true :=
  List.all_eq_true.2 fun x hx => hok (.num x) (List.mem_append_right _ (List.mem_map_of_mem hx))

theorem plain_of_list {xs : List Nat} {A : List Word} (hA : ∀ w ∈ A, w.plain = true) :
    ∀ w ∈ A ++ xs.map Word.num, w.plain = true := fun w h => (List.mem_append.1 h).elim (hA w) fun h => by
  obtain ⟨x, -, rfl⟩ := List.mem_map.1 h
  rfl

/-! ## Keywords of one place -/

theorem tells_isKw {v : Kw} {W : List Word} {w : Word} {k : Kw} {i : Instr} (hknown : ¬ SecondUnknown v W)
    (hk : (Word.kw k).isKeyword = true) (hall : k ∈ Kw.all) (hline : w = .kw k → Says v W i)
    (hnear : w.Close (.kw k) → Near v W i) : Tells v W (keywords [w.isKw k] i) :=
  tells_keywords hknown (fun h => hline (beq_iff_eq.1 (h _ (List.mem_singleton.2 rfl))))
    fun h => hnear (close_kw hk hall (h _ (List.mem_singleton.2 rfl)))

/-- The word for a group number or `NONE`. -/
def groupWord : Option Nat → Word
  | none => .kw .none
  | some g => .num g

theorem spelled_groupWord (g : Option Nat) : (groupWord g).spelled = spellGroup g := by cases g <;> rfl

theorem plain_groupWord (g : Option Nat) : (groupWord g).plain = true := by cases g <;> rfl

theorem groupOf_eq {w : Word} {g : Option Nat} (h : groupOf w = some g) : w = groupWord g := by
  unfold groupOf at h
  split at h <;> cases h <;> rfl

theorem close_group {w : Word} (h : (groupOf w).isSome = true ∨ w.isKeyword = true) :
    w.Close (groupWord ((groupOf w).getD none)) := by
  cases hw : groupOf w with
  | some g => exact .inl (groupOf_eq hw)
  | none =>
    rw [hw] at h
    exact close_stand (h.resolve_left nofun) rfl (by decide)

theorem spelled_endKw (e : End) : (Word.kw (endKw e)).spelled = spellEnd e := by cases e <;> rfl

theorem endOf_eq {w : Word} {e : End} (h : endOf w = some e) : w = .kw (endKw e) := by
  unfold endOf at h
  split at h <;> cases h <;> rfl

theorem close_end {w : Word} (h : (endOf w).isSome = true ∨ w.isKeyword = true) :
    w.Close (.kw (endKw ((endOf w).getD .a))) := by
  cases hw : endOf w with
  | some e => exact .inl (endOf_eq hw)
  | none =>
    rw [hw] at h
    exact close_stand (h.resolve_left nofun) rfl (by decide)

/-- The word for `ON` or `OFF`. -/
def switchKw (on : Bool) : Kw := if on then .on else .off

theorem switchOf_eq {w : Word} {on : Bool} (h : switchOf w = some on) : w = .kw (switchKw on) := by
  unfold switchOf at h
  split at h <;> cases h <;> rfl

theorem close_switch {w : Word} (h : (switchOf w).isSome = true ∨ w.isKeyword = true) :
    w.Close (.kw (switchKw ((switchOf w).getD false))) := by
  cases hw : switchOf w with
  | some e => exact .inl (switchOf_eq hw)
  | none =>
    rw [hw] at h
    exact close_stand (h.resolve_left nofun) rfl (by decide)

section
variable {W : List Word} (hok : ∀ w ∈ W, w.ok)
include hok

theorem parseClock_tells : Tells .clock W (parseClock W) := by
  unfold parseClock
  split
  any_goals exact tells_malformed (by simp [SecondUnknown])
  any_goals exact tells_line (says_of (by decide) hok rfl rfl rfl)
  cases W with
  | nil => simp_all
  | cons w R => exact tells_unknown ⟨w, R, rfl, .inl ⟨rfl, by simp_all⟩⟩

theorem parseMatrix_tells : Tells .matrix W (parseMatrix W) := by
  unfold parseMatrix
  split
  any_goals exact tells_malformed (by simp [SecondUnknown])
  any_goals exact tells_line (says_of (by decide) hok rfl rfl rfl)
  case h_3 w =>
    refine tells_needing (by simp [SecondUnknown]) fun a h => ?_
    unfold mirrorOf at h
    split at h <;> cases h <;> exact says_of (by decide) hok rfl rfl rfl
  case h_4 w =>
    refine tells_needing (by simp [SecondUnknown]) fun a h => ?_
    unfold mirrorOf at h
    split at h <;> cases h <;> exact says_of (by decide) hok rfl rfl rfl
  cases W with
  | nil => simp_all
  | cons w R => exact tells_unknown ⟨w, R, rfl, .inr (.inl ⟨rfl, by simp_all⟩)⟩

theorem parseBudget_tells : Tells .budget W (parseBudget W) := by
  unfold parseBudget
  split
  any_goals exact tells_malformed (by simp [SecondUnknown])
  any_goals exact tells_line (says_of (by decide) hok rfl rfl rfl)
  cases W with
  | nil => simp_all
  | cons w R => exact tells_unknown ⟨w, R, rfl, .inr (.inr (.inl ⟨rfl, by simp_all⟩))⟩

theorem parseInput_tells : Tells .input W (parseInput W) := by
  unfold parseInput
  split
  any_goals exact tells_malformed (by simp [SecondUnknown])
  any_goals exact tells_line (says_of (by decide) hok rfl rfl rfl)
  case h_7 =>
    exact tells_unknownIn (saysNone_of (A := [.kw .mark, .num _]) (ns := [.filter]) (by decide) hok rfl rfl rfl
      (.inputMark _) rfl (by simp_all) (by decide) (.inl rfl) nofun)
  case h_8 =>
    exact tells_unknownIn (saysNone_of (A := [.kw .index, .num _]) (ns := [.filter]) (by decide) hok rfl rfl rfl
      (.inputIndex _) rfl (by simp_all) (by decide) (.inl rfl) nofun)
  split
  · next h => exact tells_malformed (by simp [SecondUnknown, h])
  · next h =>
    cases W with
    | nil => simp_all
    | cons w R => exact tells_unknown ⟨w, R, rfl, .inr (.inr (.inr ⟨rfl, by simp_all, by simpa using h⟩))⟩

theorem parseKey_tells : Tells .key W (parseKey W) := by
  unfold parseKey
  split
  any_goals exact tells_malformed (known_of (by decide) _)
  any_goals exact tells_line (says_of (by decide) hok rfl rfl rfl)
  split
  · next t w r g b a ws tr ps htr hps =>
    obtain rfl := groupPairsOf_eq_some hps
    unfold transitionOf at htr
    split at htr <;> cases htr
    all_goals
      refine tells_line (says_of (by decide) hok ?_ ?_ rfl)
      · simp [Word.plain]
      · simp only [List.map_cons, spelled_groupPairs]; rfl
  · exact tells_malformed (known_of (by decide) _)

theorem parseGroup_tells : Tells .group W (parseGroup W) := by
  unfold parseGroup
  split
  any_goals exact tells_malformed (known_of (by decide) _)
  any_goals exact tells_line (says_of (by decide) hok rfl rfl rfl)
  case h_2 g w =>
    refine tells_keyword (known_of (by decide) _) (fun a h => ?_) (fun hw => ?_) (k := 2)
      (fun a => .groupDimmed g a) (by simp)
    · unfold curveOf at h
      split at h <;> cases h <;> exact says_of (by decide) hok rfl rfl rfl
    · exact near_of (A := [.num g, .kw .dimmed]) (C := [.kw .linear]) (by decide) hok
        (.cons (close_stand hw rfl (by decide)) .nil) rfl rfl rfl (.groupDimmed g _)
  case h_6 g w _ _ _ _ _ =>
    exact tells_unknownWord (known_of (by decide) _) fun hw => saysNone_of (A := [.num g])
      (ns := [.dimmed, .switched]) (by decide) hok rfl rfl rfl (.group g) rfl (by simp_all) (by decide) (.inr hw) nofun

theorem parseLamp_tells : Tells .lamp W (parseLamp W) := by
  have known := known_of (v := .lamp) (by decide)
  unfold parseLamp
  split
  any_goals exact tells_malformed (known _)
  any_goals exact tells_line (says_of (by decide) hok rfl rfl rfl)
  case h_2 n w =>
    refine tells_keyword (known _) (fun g h => ?_) (fun hw => ?_) (k := 2) (fun g => .lampGroup n g) (by simp)
    · obtain rfl := groupOf_eq h
      cases g <;> exact says_of (by decide) hok rfl rfl rfl
    · exact near_of (A := [.num n, .kw .group]) (C := [.kw .none]) (by decide) hok
        (.cons (close_stand hw rfl (by decide)) .nil) rfl rfl rfl (.lampGroup ..)
  case h_3 n w k st =>
    refine tells_keywords (known _) (fun h => ?_) fun h => ?_ <;>
      simp only [List.forall_mem_cons] at h <;> obtain ⟨hw, hk, -⟩ := h
    · obtain ⟨g, hg⟩ := Option.isSome_iff_exists.1 hw
      obtain rfl := beq_iff_eq.1 hk
      rw [hg]
      obtain rfl := groupOf_eq hg
      cases g <;> exact says_of (by decide) hok rfl rfl rfl
    · refine near_of (A := [.num n, .kw .group]) (C := [groupWord ((groupOf w).getD none), .kw .stagger, .num st])
        (by decide) hok (.cons (close_group hw) (.cons (close_kw rfl (by decide) hk) (.cons (close_refl _) .nil)))
        ?_ ?_ rfl (.lampGroupStagger ..)
      · simp only [List.cons_append, List.nil_append, List.all_cons, plain_groupWord]; rfl
      · simp only [List.cons_append, List.nil_append, List.map_cons, spelled_groupWord]; rfl
  case h_5 n m k w l st inc =>
    refine tells_keywords (known _) (fun h => ?_) fun h => ?_ <;>
      simp only [List.forall_mem_cons] at h <;> obtain ⟨hk, hw, hl, -⟩ := h
    · obtain ⟨g, hg⟩ := Option.isSome_iff_exists.1 hw
      obtain rfl := beq_iff_eq.1 hk
      obtain rfl := beq_iff_eq.1 hl
      rw [hg]
      obtain rfl := groupOf_eq hg
      cases g <;> exact says_of (by decide) hok rfl rfl rfl
    · refine near_of (A := [.num n, .kw .to])
        (C := [.num m, .kw .group, groupWord ((groupOf w).getD none), .kw .stagger, .num st, .num inc])
        (by decide) hok (.cons (close_refl _) (.cons (close_kw rfl (by decide) hk) (.cons (close_group hw)
          (.cons (close_kw rfl (by decide) hl) (.cons (close_refl _) (.cons (close_refl _) .nil))))))
        ?_ ?_ rfl (.lampRange ..)
      · simp only [List.cons_append, List.nil_append, List.all_cons, plain_groupWord]; rfl
      · simp only [List.cons_append, List.nil_append, List.map_cons, spelled_groupWord]; rfl
  case h_7 n x w t =>
    refine tells_isKw (known _) rfl (by decide) (fun h => ?_) fun h => ?_
    · obtain rfl := h
      exact says_of (by decide) hok rfl rfl rfl
    · exact near_of (A := [.num n, .kw .level]) (C := [.num x, .kw .until, .time t]) (by decide) hok
        (.cons (close_refl _) (.cons h (.cons (close_refl _) .nil))) rfl rfl rfl (.lampLevel ..)
  exact tells_unknownWord (known _) fun hw => saysNone_of (A := [.num _])
    (ns := [.group, .stagger, .to, .level, .free]) (by decide) hok rfl rfl rfl (.lamp _) rfl (by simp_all) (by decide)
    (.inr hw) nofun

theorem parseBright_tells : Tells .bright W (parseBright W) := by
  unfold parseBright
  split
  any_goals exact tells_malformed (known_of (by decide) _)
  all_goals exact tells_line (says_of (by decide) hok rfl rfl rfl)

theorem parseScan_tells : Tells .scan W (parseScan W) := by
  unfold parseScan
  split
  any_goals exact tells_malformed (known_of (by decide) _)
  any_goals exact tells_line (says_of (by decide) hok rfl rfl rfl)
  case h_2 w =>
    refine tells_keyword (known_of (by decide) _) (fun m h => ?_) (fun hw => ?_) (k := 0) (fun m => .scan m) (by simp)
    · unfold scanOf at h
      split at h <;> cases h <;> exact says_of (by decide) hok rfl rfl rfl
    · exact near_of (A := []) (C := [.kw .normal]) (by decide) hok (.cons (close_stand hw rfl (by decide)) .nil)
        rfl rfl rfl (.scan _)

theorem parseFlood_tells : Tells .flood W (parseFlood W) := by
  have known := known_of (v := .flood) (by decide)
  unfold parseFlood
  split
  any_goals exact tells_malformed (known _)
  any_goals exact tells_line (says_of (by decide) hok rfl rfl rfl)
  case h_2 n w =>
    refine tells_needing (known _) fun x h => ?_
    unfold sourceOf at h
    split at h <;> cases h <;> exact says_of (by decide) hok rfl rfl rfl
  split
  · exact tells_malformed (known _)
  · next n w R _ hsource hsrc =>
    have hno : ∀ k ∈ [Kw.skyRed, .skyGreen, .skyBlue, .ambient, .none], w ≠ .kw k := by
      rintro k hk rfl
      simp only [List.mem_cons, List.not_mem_nil, or_false] at hk
      rcases hk with rfl | rfl | rfl | rfl | rfl <;> exact hsrc rfl
    exact tells_unknownWord (known _) fun hw => saysNone_of (A := [.num n])
      (ns := [.source, .skyRed, .skyGreen, .skyBlue, .ambient, .none]) (by decide) hok rfl rfl rfl (.flood _) rfl
      (List.forall_mem_cons.2 ⟨hsource, hno⟩) (by decide) (.inr hw) nofun

theorem parseBridge_tells : Tells .bridge W (parseBridge W) := by
  have known := known_of (v := .bridge) (by decide)
  unfold parseBridge
  split
  any_goals exact tells_malformed (known _)
  any_goals exact tells_line (says_of (by decide) hok rfl rfl rfl)
  case h_3 n w =>
    refine tells_needing (known _) fun x h => ?_
    obtain rfl := switchOf_eq h
    cases x <;> exact says_of (by decide) hok rfl rfl rfl
  exact tells_unknownIn (saysNone_of (A := [.num _]) (ns := [.pwm, .sense, .trip]) (by decide) hok rfl rfl rfl
    (.bridge _) rfl (by simp_all) (by decide) (.inl rfl) nofun)

theorem parseSense_tells : Tells .sense W (parseSense W) := by
  have known := known_of (v := .sense) (by decide)
  unfold parseSense
  split
  any_goals exact tells_malformed (known _)
  any_goals exact tells_line (says_of (by decide) hok rfl rfl rfl)
  exact tells_unknownIn (saysNone_of (A := [.num _]) (ns := [.threshold]) (by decide) hok rfl rfl rfl
    (.sense _) rfl (by simp_all) (by decide) (.inl rfl) nofun)

theorem parseSection_tells : Tells .sectionW W (parseSection W) := by
  have known := known_of (v := .sectionW) (by decide)
  unfold parseSection
  split
  any_goals exact tells_malformed (known _)
  any_goals exact tells_line (says_of (by decide) hok rfl rfl rfl)
  case h_4 n w =>
    refine tells_isKw (known _) rfl (by decide) (fun h => ?_) fun h => ?_
    · obtain rfl := h
      exact says_of (by decide) hok rfl rfl rfl
    · exact near_of (A := [.num n, .kw .a]) (C := [.kw .buffer]) (by decide) hok (.cons h .nil) rfl rfl rfl
        (.sectionBuffer ..)
  case h_5 n w =>
    refine tells_isKw (known _) rfl (by decide) (fun h => ?_) fun h => ?_
    · obtain rfl := h
      exact says_of (by decide) hok rfl rfl rfl
    · exact near_of (A := [.num n, .kw .b]) (C := [.kw .buffer]) (by decide) hok (.cons h .nil) rfl rfl rfl
        (.sectionBuffer ..)
  case h_6 n x w =>
    refine tells_keyword (known _) (fun u h => ?_) (fun hw => ?_) (k := 2) (fun u => .sectionJoin n .a u) (by simp)
    · obtain ⟨e, he, rfl⟩ := Option.map_eq_some_iff.1 h
      obtain rfl := endOf_eq he
      cases e <;> exact says_of (by decide) hok rfl rfl rfl
    · exact near_of (A := [.num n, .kw .a]) (C := [.num x, .kw .a]) (by decide) hok
        (.cons (close_refl _) (.cons (close_stand hw rfl (by decide)) .nil)) rfl rfl rfl (.sectionJoin ..)
  case h_7 n x w =>
    refine tells_keyword (known _) (fun u h => ?_) (fun hw => ?_) (k := 2) (fun u => .sectionJoin n .b u) (by simp)
    · obtain ⟨e, he, rfl⟩ := Option.map_eq_some_iff.1 h
      obtain rfl := endOf_eq he
      cases e <;> exact says_of (by decide) hok rfl rfl rfl
    · exact near_of (A := [.num n, .kw .b]) (C := [.num x, .kw .a]) (by decide) hok
        (.cons (close_refl _) (.cons (close_stand hw rfl (by decide)) .nil)) rfl rfl rfl (.sectionJoin ..)
  exact tells_unknownWord (known _) fun hw => saysNone_of (A := [.num _]) (ns := [.length, .drop, .a, .b]) (by decide)
    hok rfl rfl rfl (.sectionW _) rfl (by simp_all) (by decide) (.inr hw) nofun

theorem parseTurnout_tells : Tells .turnout W (parseTurnout W) := by
  have known := known_of (v := .turnout) (by decide)
  unfold parseTurnout
  split
  any_goals exact tells_malformed (known _)
  any_goals exact tells_line (says_of (by decide) hok rfl rfl rfl)
  case h_2 t x p y q z r =>
    refine tells_keywords (known _) (fun h => ?_) fun h => ?_ <;>
      simp only [List.forall_mem_cons] at h <;> obtain ⟨hp, hq, hr, -⟩ := h
    · obtain ⟨trunk, ht⟩ := Option.isSome_iff_exists.1 hp
      obtain ⟨normal, hn⟩ := Option.isSome_iff_exists.1 hq
      obtain ⟨reverse, hv⟩ := Option.isSome_iff_exists.1 hr
      rw [ht, hn, hv]
      obtain rfl := endOf_eq ht
      obtain rfl := endOf_eq hn
      obtain rfl := endOf_eq hv
      exact says_of (by decide) hok rfl (by simp only [List.map_cons, spelled_endKw]; rfl) rfl
    · exact near_of (A := [.num t, .kw .legs]) (C := [.num x, .kw (endKw ((endOf p).getD .a)), .num y,
          .kw (endKw ((endOf q).getD .a)), .num z, .kw (endKw ((endOf r).getD .a))]) (by decide) hok
        (.cons (close_refl _) (.cons (close_end hp) (.cons (close_refl _) (.cons (close_end hq)
          (.cons (close_refl _) (.cons (close_end hr) .nil)))))) rfl
        (by simp only [List.cons_append, List.nil_append, List.map_cons, spelled_endKw]; rfl) rfl (.turnoutLegs ..)
  case h_4 t w =>
    refine tells_keyword (known _) (fun b h => ?_) (fun hw => ?_) (k := 2) (fun b => .turnoutThrow t b) (by simp)
    · unfold branchOf at h
      split at h <;> cases h <;> exact says_of (by decide) hok rfl rfl rfl
    · exact near_of (A := [.num t, .kw .throw]) (C := [.kw .normal]) (by decide) hok
        (.cons (close_stand hw rfl (by decide)) .nil) rfl rfl rfl (.turnoutThrow ..)
  exact tells_unknownWord (known _) fun hw => saysNone_of (A := [.num _]) (ns := [.legs, .drop, .throw, .pulse])
    (by decide) hok rfl rfl rfl (.turnout _) rfl (by simp_all) (by decide) (.inr hw) nofun

theorem parseRun_tells : Tells .run W (parseRun W) := by
  have known := known_of (v := .run) (by decide)
  unfold parseRun
  split
  any_goals exact tells_malformed (known _)
  any_goals exact tells_line (says_of (by decide) hok rfl rfl rfl)
  split
  · next r w ws _ _ _ xs hxs =>
    have e := numbersOf_eq_some hxs
    rw [e] at hok ⊢
    have hr : numOk r = true := hok (.num r) List.mem_cons_self
    have hne : xs.isEmpty = false := by cases xs with
      | nil => cases e
      | cons => rfl
    exact tells_line (says_of_list hok (plain_of_list (A := [.num r]) (by simp [Word.plain]))
      (by rw [List.map_cons, spelled_numbers]; rfl)
      (by simp only [Instr.wf, hr, hne, numOk_of_list (A := [.num r]) hok]; rfl) nofun)
  · exact tells_unknownWord (known _) fun hw => saysNone_of (A := [.num _]) (ns := [.drop]) (by decide) hok rfl rfl rfl
      (.run _) rfl (by simp_all) (by decide) (.inr hw) nofun

theorem parseMark_tells : Tells .mark W (parseMark W) := by
  have known := known_of (v := .mark) (by decide)
  unfold parseMark
  split
  any_goals exact tells_malformed (known _)
  any_goals exact tells_line (says_of (by decide) hok rfl rfl rfl)
  case h_3 m x mm w =>
    refine tells_keyword (known _) (fun k h => ?_) (fun hw => ?_) (k := 2) (fun k => .markDefine m x mm k) (by simp)
    · unfold markKindOf at h
      split at h <;> cases h <;> exact says_of (by decide) hok rfl rfl rfl
    · exact near_of (A := [.num m, .num x]) (C := [.num mm, .kw .position]) (by decide) hok
        (.cons (close_refl _) (.cons (close_stand hw rfl (by decide)) .nil)) rfl rfl rfl (.markDefine ..)
  exact tells_unknownWord (known _) fun hw => saysNone_of (A := [.num _]) (ns := [.drop]) (by decide) hok rfl rfl rfl
    (.mark _) rfl (by simp_all) (by decide) (.inr hw) nofun

theorem parseCrossing_tells : Tells .crossing W (parseCrossing W) := by
  have known := known_of (v := .crossing) (by decide)
  unfold parseCrossing
  split
  any_goals exact tells_malformed (known _)
  any_goals exact tells_line (says_of (by decide) hok rfl rfl rfl)
  case h_3 c x j a b k x' l n m w =>
    refine tells_keywords (known _) (fun h => ?_) fun h => ?_ <;>
      simp only [List.forall_mem_cons] at h <;> obtain ⟨hj, hk, hl, hm, hw, -⟩ := h
    · obtain ⟨on, hon⟩ := Option.isSome_iff_exists.1 hw
      rw [hon]
      obtain rfl := beq_iff_eq.1 hj
      obtain rfl := beq_iff_eq.1 hk
      obtain rfl := beq_iff_eq.1 hl
      obtain rfl := beq_iff_eq.1 hm
      obtain rfl := switchOf_eq hon
      exact says_of (by decide) hok rfl rfl rfl
    · exact near_of (A := [.num c, .num x]) (C := [.kw .lamps, .num a, .num b, .kw .flash, .num x', .kw .lead, .num n,
          .kw .bell, .kw (switchKw ((switchOf w).getD false))]) (by decide) hok
        (.cons (close_kw rfl (by decide) hj) (.cons (close_refl _) (.cons (close_refl _)
          (.cons (close_kw rfl (by decide) hk) (.cons (close_refl _) (.cons (close_kw rfl (by decide) hl)
            (.cons (close_refl _) (.cons (close_kw rfl (by decide) hm) (.cons (close_switch hw) .nil)))))))))
        rfl rfl rfl (.crossingDefine ..)
  exact tells_unknownWord (known _) fun hw => saysNone_of (A := [.num _]) (ns := [.drop]) (by decide) hok rfl rfl rfl
    (.crossing _) rfl (by simp_all) (by decide) (.inr hw) nofun

theorem parseBell_tells : Tells .bell W (parseBell W) := by
  have known := known_of (v := .bell) (by decide)
  unfold parseBell
  split
  any_goals exact tells_malformed (known _)
  any_goals exact tells_line (says_of (by decide) hok rfl rfl rfl)
  case h_4 w =>
    refine tells_isKw (known _) rfl (by decide) (fun h => ?_) fun h => ?_
    · obtain rfl := h
      exact says_of (by decide) hok rfl rfl rfl
    · exact near_of (A := [.kw .quiet]) (C := [.kw .none]) (by decide) hok (.cons h .nil) rfl rfl rfl .bellQuietNone
  exact tells_unknownWord (known _) fun hw => saysNone_of (A := []) (ns := [.tone, .quiet]) (by decide) hok rfl rfl rfl
    .bell rfl (by simp_all) (by decide) (.inr hw) nofun

theorem parseUnit_tells : Tells .unit W (parseUnit W) := by
  unfold parseUnit
  split
  any_goals exact tells_malformed (known_of (by decide) _)
  all_goals exact tells_line (says_of (by decide) hok rfl rfl rfl)

theorem parseTrain_tells (raw : List (List Char)) (hname : ∀ n w, W ≠ [.num n, .kw .name, w]) :
    Tells .train W (parseTrain raw W) := by
  have known := known_of (v := .train) (by decide)
  unfold parseTrain
  split
  any_goals exact tells_malformed (known _)
  any_goals exact tells_line (says_of (by decide) hok rfl rfl rfl)
  case h_3 n x w =>
    refine tells_needing (known _) fun e h => ?_
    obtain rfl := endOf_eq h
    cases e <;> exact says_of (by decide) hok rfl rfl rfl
  case h_5 n x w =>
    refine tells_needing (known _) fun e h => ?_
    obtain rfl := endOf_eq h
    cases e <;> exact says_of (by decide) hok rfl rfl rfl
  case h_9 n st w =>
    refine tells_needing (known _) fun o h => ?_
    unfold orientationOf at h
    split at h <;> cases h <;> exact says_of (by decide) hok rfl rfl rfl
  case h_10 n w => exact absurd rfl (hname n w)
  case h_13 n st ws hws =>
    refine tells_needing (known _) fun ps h => ?_
    obtain rfl := pairsOf_eq_some h
    have hn : numOk n = true := hok (.num n) List.mem_cons_self
    have hst : numOk st = true := hok (.num st) (by simp)
    have hne : ps.isEmpty = false := by cases ps with
      | nil => exact absurd rfl hws
      | cons => rfl
    have hps : pairsOk ps = true := List.all_eq_true.2 fun p hp => by
      have h1 : numOk p.1 = true := hok (.num p.1) (by
        simp only [List.mem_cons, List.mem_flatMap]
        exact .inr (.inr (.inr ⟨p, hp, by simp⟩)))
      have h2 : numOk p.2 = true := hok (.num p.2) (by
        simp only [List.mem_cons, List.mem_flatMap]
        exact .inr (.inr (.inr ⟨p, hp, by simp⟩)))
      rw [h1, h2]; rfl
    refine says_of_list hok ?_ (by simp only [List.map_cons, spelled_pairs]; rfl)
      (by simp only [Instr.wf, hn, hst, hne, hps]; rfl) nofun
    intro w hw
    simp only [List.mem_cons, List.mem_flatMap, List.not_mem_nil, or_false] at hw
    rcases hw with rfl | rfl | rfl | ⟨p, -, rfl | rfl⟩ <;> rfl
  case h_17 n x w =>
    refine tells_needing (known _) fun e h => ?_
    obtain rfl := endOf_eq h
    cases e <;> exact says_of (by decide) hok rfl rfl rfl
  exact tells_unknownIn (saysNone_of (A := [.num _]) (ns := [.resume, .place, .lift, .find, .go, .park, .cab, .name,
    .length, .table, .ramp, .creep, .home, .cabtime, .service]) (by decide) hok rfl rfl rfl (.train _) rfl
    (by simp_all) (by decide) (.inl rfl) nofun)

theorem parseRoute_tells : Tells .route W (parseRoute W) := by
  have known := known_of (v := .route) (by decide)
  have nonempty {w : Word} {ws : List Word} {xs : List Nat} (e : w :: ws = xs.map Word.num) : xs.isEmpty = false := by
    cases xs with
    | nil => cases e
    | cons => rfl
  unfold parseRoute
  split
  any_goals exact tells_malformed (known _)
  any_goals exact tells_line (says_of (by decide) hok rfl rfl rfl)
  case h_3 r w =>
    refine tells_keyword (known _) (fun on h => ?_) (fun hw => ?_) (k := 2) (fun on => .routeLoop r on) (by simp)
    · obtain rfl := switchOf_eq h
      cases on <;> exact says_of (by decide) hok rfl rfl rfl
    · exact near_of (A := [.num r, .kw .loop]) (C := [.kw .off]) (by decide) hok
        (.cons (close_stand hw rfl (by decide)) .nil) rfl rfl rfl (.routeLoop ..)
  case h_5 r i w _ =>
    refine tells_isKw (known _) rfl (by decide) (fun h => ?_) fun h => ?_
    · obtain rfl := h
      exact says_of (by decide) hok rfl rfl rfl
    · exact near_of (A := [.num r, .kw .stop]) (C := [.num i, .kw .none]) (by decide) hok
        (.cons (close_refl _) (.cons h .nil)) rfl rfl rfl (.routeStopNone ..)
  case h_6 r i d w m =>
    refine tells_isKw (known _) rfl (by decide) (fun h => ?_) fun h => ?_
    · obtain rfl := h
      exact says_of (by decide) hok rfl rfl rfl
    · exact near_of (A := [.num r, .kw .stop]) (C := [.num i, .num d, .kw .mark, .num m]) (by decide) hok
        (.cons (close_refl _) (.cons (close_refl _) (.cons h (.cons (close_refl _) .nil)))) rfl rfl rfl (.routeStop ..)
  case h_7 r w ws =>
    refine tells_needing (known _) fun xs hxs => ?_
    have e := numbersOf_eq_some hxs
    have hne := nonempty e
    rw [e] at hok ⊢
    have hr : numOk r = true := hok (.num r) List.mem_cons_self
    exact says_of_list hok (plain_of_list (A := [.num r, .kw .add]) (by simp [Word.plain]))
      (by simp only [List.map_cons, spelled_numbers]; rfl)
      (by simp only [Instr.wf, hr, hne, numOk_of_list (A := [.num r, .kw .add]) hok]; rfl) nofun
  split
  · next r w ws _ _ _ _ _ _ _ _ _ _ _ xs hxs =>
    have e := numbersOf_eq_some hxs
    have hne := nonempty e
    rw [e] at hok ⊢
    have hr : numOk r = true := hok (.num r) List.mem_cons_self
    exact tells_line (says_of_list hok (plain_of_list (A := [.num r]) (by simp [Word.plain]))
      (by rw [List.map_cons, spelled_numbers]; rfl)
      (by simp only [Instr.wf, hr, hne, numOk_of_list (A := [.num r]) hok]; rfl) nofun)
  · exact tells_unknownWord (known _) fun hw => saysNone_of (A := [.num _]) (ns := [.add, .stop, .loop, .drop])
      (by decide) hok rfl rfl rfl (.route _) rfl (by simp_all) (by decide) (.inr hw) nofun

theorem parseTimetable_tells : Tells .timetable W (parseTimetable W) := by
  have known := known_of (v := .timetable) (by decide)
  unfold parseTimetable
  split
  any_goals exact tells_malformed (known _)
  any_goals exact tells_line (says_of (by decide) hok rfl rfl rfl)
  case h_4 w =>
    refine tells_keyword (known _) (fun on h => ?_) (fun hw => ?_) (k := 1) (fun on => .timetableAutorun on) (by simp)
    · obtain rfl := switchOf_eq h
      cases on <;> exact says_of (by decide) hok rfl rfl rfl
    · exact near_of (A := [.kw .autorun]) (C := [.kw .off]) (by decide) hok
        (.cons (close_stand hw rfl (by decide)) .nil) rfl rfl rfl (.timetableAutorun _)
  exact tells_unknownWord (known _) fun hw => saysNone_of (A := []) (ns := [.drop, .autorun, .list]) (by decide) hok
    rfl rfl rfl .timetable rfl (by simp_all) (by decide) (.inr hw) (by simp_all)

theorem parseAxis_tells : Tells .axis W (parseAxis W) := by
  have known := known_of (v := .axis) (by decide)
  unfold parseAxis
  split
  any_goals exact tells_malformed (known _)
  any_goals exact tells_line (says_of (by decide) hok rfl rfl rfl)
  case h_9 n w =>
    refine tells_needing (known _) fun p h => ?_
    unfold polarityOf at h
    split at h <;> cases h <;> exact says_of (by decide) hok rfl rfl rfl
  exact tells_unknownIn (saysNone_of (A := [.num _]) (ns := [.program, .speed, .free, .clear, .direction, .gain, .kick,
    .maxduty, .stall, .slew]) (by decide) hok rfl rfl rfl (.axis _) rfl (by simp_all) (by decide) (.inl rfl) nofun)

theorem parseMap_tells : Tells .map W (parseMap W) := by
  have known := known_of (v := .map) (by decide)
  unfold parseMap
  split
  any_goals exact tells_malformed (known _)
  any_goals exact tells_line (says_of (by decide) hok rfl rfl rfl)
  case h_4 w base count k first =>
    refine tells_needing (known _) fun x h => ?_
    unfold fixtureKindOf at h
    split at h <;> cases h <;> exact says_of (by decide) hok rfl rfl rfl
  exact tells_unknownWord (known _) fun hw => saysNone_of (A := [.num _]) (ns := [.none]) (by decide) hok rfl rfl rfl
    (.map _) rfl (by simp_all) (by decide) (.inr hw) nofun

theorem parseSet_tells : Tells .set W (parseSet W) := by
  have known := known_of (v := .set) (by decide)
  unfold parseSet
  split
  any_goals exact tells_malformed (known _)
  any_goals exact tells_line (says_of (by decide) hok rfl rfl rfl)
  case h_2 f x w t =>
    refine tells_isKw (known _) rfl (by decide) (fun h => ?_) fun h => ?_
    · obtain rfl := h
      exact says_of (by decide) hok rfl rfl rfl
    · exact near_of (A := [.num f, .num x]) (C := [.kw .until, .time t]) (by decide) hok
        (.cons h (.cons (close_refl _) .nil)) rfl rfl rfl (.set ..)

theorem parseNumber_tells {v : Kw} {f : Nat → Instr} (hv : v ∈ Kw.all) (hknown : ∀ W, ¬ SecondUnknown v W)
    (hf : ∀ n, spellTokens (f n) = some [v.text, digits n]) (hl : ∀ n, listless (f n) = true) :
    Tells v W (parseNumber f W) := by
  unfold parseNumber
  split
  · exact tells_line (says_of hv hok rfl (hf _) (hl _))
  · exact tells_malformed (hknown _)

theorem parseAlone_tells {v : Kw} {i : Instr} (hv : v ∈ Kw.all) (hknown : ∀ W, ¬ SecondUnknown v W)
    (hi : spellTokens i = some [v.text]) (hl : listless i = true) : Tells v W (parseAlone i W) := by
  unfold parseAlone
  split
  · exact tells_line (says_of hv hok rfl hi hl)
  · exact tells_malformed (hknown _)

end

end Sys2Proof.Machine
end

section
-- One theorem after the other: side by side, waiting proofs would pile up.
set_option Elab.async false
/-! SUPPORT. What the words of a line are read as: by its verb, near a form, and where they select no form
(R184, R185). -/

namespace Sys2Proof.Machine

open Sys2Proof.Safety

/-! ## The verbs -/

/-- The verbs of the index of 11.7. -/
def verbKws : List Kw :=
  [.clock, .key, .group, .lamp, .bright, .scan, .matrix, .flood, .bridge, .restore, .stop, .resume, .sense, .input,
    .sectionW, .run, .mark, .crossing, .turnout, .bell, .unit, .train, .route, .timetable, .axis, .budget, .map, .set,
    .get, .free, .status, .save, .erase, .reset]

theorem verbs_eq : verbs = verbKws.map Kw.text := rfl

theorem verbKws_all : ∀ k ∈ verbKws, k ∈ Kw.all := by decide

theorem text_injective {j k : Kw} (hj : j ∈ Kw.all) (hk : k ∈ Kw.all) (h : j.text = k.text) : j = k := by
  have := ofChars_text j hj
  rw [h, ofChars_text k hk] at this
  exact (Option.some.inj this).symm

theorem text_mem_verbs {k : Kw} (hk : k ∈ Kw.all) : k.text ∈ verbs ↔ k ∈ verbKws := by
  rw [verbs_eq, List.mem_map]
  constructor
  · rintro ⟨j, hj, e⟩
    rwa [← text_injective (verbKws_all j hj) hk e]
  · exact fun h => ⟨k, h, rfl⟩

theorem parseVerb_other {k : Kw} (hk : k ∉ verbKws) (raw : List (List Char)) (W : List Word) :
    parseVerb raw k W = .refused .unknown := by
  unfold parseVerb
  split
  case h_35 => rfl
  all_goals exact absurd (by simp [verbKws]) hk

/-- What a line of each verb says. A `TRAIN` line that gives a name is read by its tokens. -/
theorem parseVerb_tells {v : Kw} (hv : v ∈ verbKws) {W : List Word} (hok : ∀ w ∈ W, w.ok) (raw : List (List Char))
    (hname : v = .train → ∀ n w, W ≠ [.num n, .kw .name, w]) : Tells v W (parseVerb raw v W) := by
  simp only [verbKws, List.mem_cons, List.not_mem_nil, or_false] at hv
  rcases hv with rfl | rfl | rfl | rfl | rfl | rfl | rfl | rfl | rfl | rfl | rfl | rfl | rfl | rfl | rfl | rfl | rfl |
    rfl | rfl | rfl | rfl | rfl | rfl | rfl | rfl | rfl | rfl | rfl | rfl | rfl | rfl | rfl | rfl | rfl
  · exact parseClock_tells hok
  · exact parseKey_tells hok
  · exact parseGroup_tells hok
  · exact parseLamp_tells hok
  · exact parseBright_tells hok
  · exact parseScan_tells hok
  · exact parseMatrix_tells hok
  · exact parseFlood_tells hok
  · exact parseBridge_tells hok
  · exact parseNumber_tells hok (by decide) (known_of (by decide)) (fun _ => rfl) fun _ => rfl
  · exact parseAlone_tells hok (by decide) (known_of (by decide)) rfl rfl
  · exact parseAlone_tells hok (by decide) (known_of (by decide)) rfl rfl
  · exact parseSense_tells hok
  · exact parseInput_tells hok
  · exact parseSection_tells hok
  · exact parseRun_tells hok
  · exact parseMark_tells hok
  · exact parseCrossing_tells hok
  · exact parseTurnout_tells hok
  · exact parseBell_tells hok
  · exact parseUnit_tells hok
  · exact parseTrain_tells hok raw (hname rfl)
  · exact parseRoute_tells hok
  · exact parseTimetable_tells hok
  · exact parseAxis_tells hok
  · exact parseBudget_tells hok
  · exact parseMap_tells hok
  · exact parseSet_tells hok
  · exact parseNumber_tells hok (by decide) (known_of (by decide)) (fun _ => rfl) fun _ => rfl
  · exact parseNumber_tells hok (by decide) (known_of (by decide)) (fun _ => rfl) fun _ => rfl
  · exact parseAlone_tells hok (by decide) (known_of (by decide)) rfl rfl
  · exact parseAlone_tells hok (by decide) (known_of (by decide)) rfl rfl
  · exact parseAlone_tells hok (by decide) (known_of (by decide)) rfl rfl
  · exact parseAlone_tells hok (by decide) (known_of (by decide)) rfl rfl

/-! ## A second word that is not known -/

theorem parseVerb_secondUnknown {v : Kw} {W : List Word} (h : SecondUnknown v W) (raw : List (List Char)) :
    parseVerb raw v W = .refused .unknown := by
  obtain ⟨w, R, rfl, ⟨rfl, hw⟩ | ⟨rfl, hw⟩ | ⟨rfl, hw⟩ | ⟨rfl, hw, hruns⟩⟩ := h
  · simp only [List.forall_mem_cons] at hw
    show parseClock _ = _
    unfold parseClock
    split <;> simp_all
  · simp only [List.forall_mem_cons] at hw
    show parseMatrix _ = _
    unfold parseMatrix
    split <;> simp_all
  · simp only [List.forall_mem_cons] at hw
    show parseBudget _ = _
    unfold parseBudget
    split <;> simp_all
  · simp only [List.forall_mem_cons] at hw
    show parseInput _ = _
    unfold parseInput
    split <;> simp_all

/-! ## Words that select no form -/

theorem unknownWord_eq {w : Word} {q : Instr} (h : w.isKeyword = true) : unknownWord w q = .unknownIn q :=
  keywords_eq_unknownIn.2 ⟨rfl, by simpa using h, by simp⟩

theorem listed_ne {w : Word} {ks : List String} {ns : List Kw} (h : ∀ k, w = .kw k → k.text ∉ ks.map String.toList)
    (hks : ks.map String.toList = ns.map Kw.text) : ∀ k ∈ ns, w ≠ .kw k := by
  rintro k hk rfl
  exact h k rfl (hks ▸ List.mem_map_of_mem hk)

/-- The words of a command: a verb, and words that its tokens read as. -/
theorem words_of_says {v k : Kw} {A ws : List Word} {q : Instr} {us : List (List Char)} (h : Says v A q)
    (hv : v ∈ Kw.all) (hq : spellTokens q = some (k.text :: us)) (hk : k ∈ Kw.all)
    (hw : q.wf = true → us.map wordOf = ws) : v = k ∧ A = ws := by
  obtain ⟨hwf, -, -, us', hs, rfl⟩ := h
  obtain ⟨e, rfl⟩ := List.cons.inj (Option.some.inj (hs.symm.trans hq))
  exact ⟨text_injective hv hk e, hw hwf⟩

section
variable {w : Word} {R : List Word}

theorem parseGroup_selectsNone {g : Nat} (hkey : w.isKeyword = true) (hw : ∀ k ∈ [Kw.dimmed, .switched], w ≠ .kw k) :
    parseGroup (.num g :: w :: R) = .unknownIn (.groupQuery g) := by
  cases w with
  | kw k =>
    cases k
    any_goals rfl
    all_goals simp_all [Word.isKeyword]
  | num x => cases hkey
  | time x => cases hkey
  | other cs => exact unknownWord_eq hkey

theorem parseLamp_selectsNone {n : Nat} (hkey : w.isKeyword = true) (hw : ∀ k ∈ [Kw.group, .stagger, .to, .level,
    .free], w ≠ .kw k) : parseLamp (.num n :: w :: R) = .unknownIn (.lampQuery n) := by
  cases w with
  | kw k =>
    cases k
    any_goals rfl
    all_goals simp_all [Word.isKeyword]
  | num x => cases hkey
  | time x => cases hkey
  | other cs => exact unknownWord_eq hkey

theorem parseFlood_selectsNone {n : Nat} (hkey : w.isKeyword = true) (hw : ∀ k ∈ [Kw.source, .skyRed, .skyGreen,
    .skyBlue, .ambient, .none], w ≠ .kw k) : parseFlood (.num n :: w :: R) = .unknownIn (.floodQuery n) := by
  cases w with
  | kw k =>
    cases k
    any_goals rfl
    all_goals simp_all [Word.isKeyword]
  | num x => cases hkey
  | time x => cases hkey
  | other cs => exact unknownWord_eq hkey

theorem parseBridge_selectsNone {n : Nat} (hw : ∀ k ∈ [Kw.pwm, .sense, .trip], w ≠ .kw k) : parseBridge (.num n :: w
    :: R) = .unknownIn (.bridgeQuery n) := by
  cases w with
  | kw k =>
    cases k
    any_goals rfl
    all_goals simp_all
  | num x => rfl
  | time x => rfl
  | other cs => rfl

theorem parseSense_selectsNone {n : Nat} (hw : ∀ k ∈ [Kw.threshold], w ≠ .kw k) : parseSense (.num n :: w :: R) =
    .unknownIn (.senseSectionQuery n) := by
  cases w with
  | kw k =>
    cases k
    any_goals rfl
    all_goals simp_all
  | num x => rfl
  | time x => rfl
  | other cs => rfl

theorem parseInputMark_selectsNone {m : Nat} (hw : ∀ k ∈ [Kw.filter], w ≠ .kw k) : parseInput (.kw .mark :: .num m ::
    w :: R) = .unknownIn (.inputMarkQuery m) := by
  cases w with
  | kw k =>
    cases k
    any_goals rfl
    all_goals simp_all
  | num x => rfl
  | time x => rfl
  | other cs => rfl

theorem parseInputIndex_selectsNone {n : Nat} (hw : ∀ k ∈ [Kw.filter], w ≠ .kw k) : parseInput (.kw .index :: .num n
    :: w :: R) = .unknownIn (.inputIndexQuery n) := by
  cases w with
  | kw k =>
    cases k
    any_goals rfl
    all_goals simp_all
  | num x => rfl
  | time x => rfl
  | other cs => rfl

theorem parseSection_selectsNone {n : Nat} (hkey : w.isKeyword = true) (hw : ∀ k ∈ [Kw.length, .drop, .a, .b], w ≠ .kw
    k) : parseSection (.num n :: w :: R) = .unknownIn (.sectionQuery n) := by
  cases w with
  | kw k =>
    cases k
    any_goals rfl
    all_goals simp_all [Word.isKeyword]
  | num x => cases hkey
  | time x => cases hkey
  | other cs => exact unknownWord_eq hkey

theorem parseTurnout_selectsNone {t : Nat} (hkey : w.isKeyword = true) (hw : ∀ k ∈ [Kw.legs, .drop, .throw, .pulse], w
    ≠ .kw k) : parseTurnout (.num t :: w :: R) = .unknownIn (.turnoutQuery t) := by
  cases w with
  | kw k =>
    cases k
    any_goals rfl
    all_goals simp_all [Word.isKeyword]
  | num x => cases hkey
  | time x => cases hkey
  | other cs => exact unknownWord_eq hkey

theorem parseRun_selectsNone {r : Nat} (hkey : w.isKeyword = true) (hw : ∀ k ∈ [Kw.drop], w ≠ .kw k) : parseRun (.num
    r :: w :: R) = .unknownIn (.runQuery r) := by
  cases w with
  | kw k =>
    cases k
    any_goals rfl
    all_goals simp_all [Word.isKeyword]
  | num x => cases hkey
  | time x => cases hkey
  | other cs => exact unknownWord_eq hkey

theorem parseMark_selectsNone {m : Nat} (hkey : w.isKeyword = true) (hw : ∀ k ∈ [Kw.drop], w ≠ .kw k) : parseMark
    (.num m :: w :: R) = .unknownIn (.markQuery m) := by
  cases w with
  | kw k =>
    cases k
    any_goals rfl
    all_goals simp_all [Word.isKeyword]
  | num x => cases hkey
  | time x => cases hkey
  | other cs => exact unknownWord_eq hkey

theorem parseCrossing_selectsNone {c : Nat} (hkey : w.isKeyword = true) (hw : ∀ k ∈ [Kw.drop], w ≠ .kw k) :
    parseCrossing (.num c :: w :: R) = .unknownIn (.crossingQuery c) := by
  cases w with
  | kw k =>
    cases k
    any_goals rfl
    all_goals simp_all [Word.isKeyword]
  | num x => cases hkey
  | time x => cases hkey
  | other cs => exact unknownWord_eq hkey

theorem parseBell_selectsNone (hkey : w.isKeyword = true) (hw : ∀ k ∈ [Kw.tone, .quiet], w ≠ .kw k) : parseBell (w ::
    R) = .unknownIn .bellQuery := by
  cases w with
  | kw k =>
    cases k
    any_goals rfl
    all_goals simp_all [Word.isKeyword]
  | num x => cases hkey
  | time x => cases hkey
  | other cs => exact unknownWord_eq hkey

theorem parseTrain_selectsNone (raw : List (List Char)) {n : Nat} (hw : ∀ k ∈ [Kw.resume, .place, .lift, .find, .go,
    .park, .cab, .name, .length, .table, .ramp, .creep, .home, .cabtime, .service], w ≠ .kw k) : parseTrain raw (.num
    n :: w :: R) = .unknownIn (.trainQuery n) := by
  cases w with
  | kw k =>
    cases k
    any_goals rfl
    all_goals simp_all
  | num x => rfl
  | time x => rfl
  | other cs => rfl

theorem parseRoute_selectsNone {r : Nat} (hkey : w.isKeyword = true) (hw : ∀ k ∈ [Kw.add, .stop, .loop, .drop], w ≠
    .kw k) : parseRoute (.num r :: w :: R) = .unknownIn (.routeQuery r) := by
  cases w with
  | kw k =>
    cases k
    any_goals rfl
    all_goals simp_all [Word.isKeyword]
  | num x => cases hkey
  | time x => cases hkey
  | other cs => exact unknownWord_eq hkey

theorem parseTimetable_selectsNone (hkey : w.isKeyword = true) (hw : ∀ k ∈ [Kw.drop, .autorun, .list], w ≠ .kw k) (ht
    : ∀ m n, R ≠ [.num m, .num n]) : parseTimetable (w :: R) = .unknownIn .timetableQuery := by
  simp only [List.forall_mem_cons] at hw
  rw [← unknownWord_eq hkey]
  unfold parseTimetable
  split <;> simp_all

theorem parseAxis_selectsNone {n : Nat} (hw : ∀ k ∈ [Kw.program, .speed, .free, .clear, .direction, .gain, .kick,
    .maxduty, .stall, .slew], w ≠ .kw k) : parseAxis (.num n :: w :: R) = .unknownIn (.axisQuery n) := by
  cases w with
  | kw k =>
    cases k
    any_goals rfl
    all_goals simp_all
  | num x => rfl
  | time x => rfl
  | other cs => rfl

theorem parseMap_selectsNone {n : Nat} (hkey : w.isKeyword = true) (hw : ∀ k ∈ [Kw.none], w ≠ .kw k) : parseMap (.num
    n :: w :: R) = .unknownIn (.mapQuery n) := by
  cases w with
  | kw k =>
    cases k
    any_goals rfl
    all_goals simp_all [Word.isKeyword]
  | num x => cases hkey
  | time x => cases hkey
  | other cs => exact unknownWord_eq hkey

end

/-- The words of a query and then one that selects no form: the line is refused as `UNKNOWN` (log 14). -/
theorem parseVerb_saysNone {v : Kw} {W : List Word} {q : Instr} (hv : v ∈ Kw.all) (h : SaysNone v W q)
    (raw : List (List Char)) : parseVerb raw v W = .unknownIn q := by
  obtain ⟨A, w, R, ks, any, rfl, hsays, hsel, hno, hany, htime⟩ := h
  have one {n : Nat} (hn : numOk n = true) : [digits n].map wordOf = [.num n] := words_num rfl hn
  cases hsel with
  | group g =>
    obtain ⟨rfl, rfl⟩ := words_of_says hsays hv rfl (k := .group) (by decide) one
    have hkey := hany.resolve_left nofun
    exact parseGroup_selectsNone hkey (listed_ne hno rfl)
  | lamp n =>
    obtain ⟨rfl, rfl⟩ := words_of_says hsays hv rfl (k := .lamp) (by decide) one
    have hkey := hany.resolve_left nofun
    exact parseLamp_selectsNone hkey (listed_ne hno rfl)
  | flood n =>
    obtain ⟨rfl, rfl⟩ := words_of_says hsays hv rfl (k := .flood) (by decide) one
    have hkey := hany.resolve_left nofun
    exact parseFlood_selectsNone hkey (listed_ne hno rfl)
  | bridge n =>
    obtain ⟨rfl, rfl⟩ := words_of_says hsays hv rfl (k := .bridge) (by decide) one
    exact parseBridge_selectsNone (listed_ne hno rfl)
  | sense n =>
    obtain ⟨rfl, rfl⟩ := words_of_says hsays hv rfl (k := .sense) (by decide) one
    exact parseSense_selectsNone (listed_ne hno rfl)
  | inputMark m =>
    obtain ⟨rfl, rfl⟩ := words_of_says hsays hv rfl (k := .input) (by decide)
      (fun h => words_kw (one h) (by decide))
    exact parseInputMark_selectsNone (listed_ne hno rfl)
  | inputIndex n =>
    obtain ⟨rfl, rfl⟩ := words_of_says hsays hv rfl (k := .input) (by decide)
      (fun h => words_kw (one h) (by decide))
    exact parseInputIndex_selectsNone (listed_ne hno rfl)
  | sectionW n =>
    obtain ⟨rfl, rfl⟩ := words_of_says hsays hv rfl (k := .sectionW) (by decide) one
    have hkey := hany.resolve_left nofun
    exact parseSection_selectsNone hkey (listed_ne hno rfl)
  | turnout t =>
    obtain ⟨rfl, rfl⟩ := words_of_says hsays hv rfl (k := .turnout) (by decide) one
    have hkey := hany.resolve_left nofun
    exact parseTurnout_selectsNone hkey (listed_ne hno rfl)
  | run r =>
    obtain ⟨rfl, rfl⟩ := words_of_says hsays hv rfl (k := .run) (by decide) one
    have hkey := hany.resolve_left nofun
    exact parseRun_selectsNone hkey (listed_ne hno rfl)
  | mark m =>
    obtain ⟨rfl, rfl⟩ := words_of_says hsays hv rfl (k := .mark) (by decide) one
    have hkey := hany.resolve_left nofun
    exact parseMark_selectsNone hkey (listed_ne hno rfl)
  | crossing c =>
    obtain ⟨rfl, rfl⟩ := words_of_says hsays hv rfl (k := .crossing) (by decide) one
    have hkey := hany.resolve_left nofun
    exact parseCrossing_selectsNone hkey (listed_ne hno rfl)
  | bell =>
    obtain ⟨rfl, rfl⟩ := words_of_says hsays hv rfl (k := .bell) (by decide) (fun _ => rfl)
    have hkey := hany.resolve_left nofun
    exact parseBell_selectsNone hkey (listed_ne hno rfl)
  | train n =>
    obtain ⟨rfl, rfl⟩ := words_of_says hsays hv rfl (k := .train) (by decide) one
    exact parseTrain_selectsNone raw (listed_ne hno rfl)
  | route r =>
    obtain ⟨rfl, rfl⟩ := words_of_says hsays hv rfl (k := .route) (by decide) one
    have hkey := hany.resolve_left nofun
    exact parseRoute_selectsNone hkey (listed_ne hno rfl)
  | timetable =>
    obtain ⟨rfl, rfl⟩ := words_of_says hsays hv rfl (k := .timetable) (by decide) (fun _ => rfl)
    have hkey := hany.resolve_left nofun
    exact parseTimetable_selectsNone hkey (listed_ne hno rfl) fun m n => htime m n rfl
  | axis n =>
    obtain ⟨rfl, rfl⟩ := words_of_says hsays hv rfl (k := .axis) (by decide) one
    exact parseAxis_selectsNone (listed_ne hno rfl)
  | map n =>
    obtain ⟨rfl, rfl⟩ := words_of_says hsays hv rfl (k := .map) (by decide) one
    have hkey := hany.resolve_left nofun
    exact parseMap_selectsNone hkey (listed_ne hno rfl)

end Sys2Proof.Machine
end

section
-- One theorem after the other: side by side, waiting proofs would pile up.
set_option Elab.async false
/-! SUPPORT. Words that stand near a form are read as a command or refused with a form they stand near
(R185; log 14). -/

namespace Sys2Proof.Machine

open Sys2Proof.Safety

/-- The words are read as a command, or refused as `UNKNOWN` with a form they stand near. -/
def NearRead (v : Kw) (W : List Word) (p : Parsed) : Prop :=
  (∃ j, p = .line j) ∨ ∃ j, p = .unknownIn j ∧ Near v W j

theorem isKeyword_of_close {w x : Word} (h : w.Close x) (hx : x.isKeyword = true) : w.isKeyword = true := by
  rcases h with rfl | ⟨h, -, -⟩
  · exact hx
  · exact h

theorem eq_of_close {w x : Word} (h : w.Close x) (hx : x.isKeyword = false) : w = x := by
  rcases h with rfl | ⟨-, h, -⟩
  · rfl
  · rw [hx] at h; cases h

/-- What a keyword stands for is known, or the word in its place is a keyword all the same. -/
theorem some_or_keyword {α : Type} {f : Word → Option α} {w x : Word} (h : w.Close x) (hx : (f x).isSome = true) :
    (f w).isSome = true ∨ w.isKeyword = true := by
  rcases h with rfl | ⟨h, -, -⟩
  · exact .inl hx
  · exact .inr h

theorem isKw_or_keyword {w : Word} {k : Kw} (h : w.Close (.kw k)) :
    (w.isKw k).2 = true ∨ (w.isKw k).1.isKeyword = true := by
  rcases h with rfl | ⟨h, -, -⟩
  · exact .inl (beq_iff_eq.2 rfl)
  · exact .inr h

/-- A form whose words are known or keywords is read as a command or refused with the form. -/
theorem nearRead_keywords {v : Kw} {W : List Word} {ps : List (Word × Bool)} {i : Instr}
    (ht : Tells v W (keywords ps i)) (hps : ∀ p ∈ ps, p.2 = true ∨ p.1.isKeyword = true) (hi : ∀ ks any, ¬ Selects i ks any) :
    NearRead v W (keywords ps i) := by
  by_cases hall : ∀ p ∈ ps, p.2 = true
  · exact .inl ⟨i, keywords_eq_line.2 ⟨rfl, hall⟩⟩
  · have e : keywords ps i = .unknownIn i := keywords_eq_unknownIn.2 ⟨rfl, hps, hall⟩
    obtain ⟨-, hnear, -⟩ := ht
    refine .inr ⟨i, e, (hnear i e).resolve_right ?_⟩
    rintro ⟨_, _, _, ks, any, -, -, hsel, -⟩
    exact hi ks any hsel

theorem nearRead_keyword {α : Type} {v : Kw} {W : List Word} {w x : Word} {g : Word → Option α} {d : α}
    {f : α → Instr} (ht : Tells v W (keyword w (g w) d f)) (hc : w.Close x) (hx : (g x).isSome = true)
    (hi : ∀ a ks any, ¬ Selects (f a) ks any) : NearRead v W (keyword w (g w) d f) :=
  nearRead_keywords ht (List.forall_mem_singleton.2 (some_or_keyword hc hx)) (hi _)

/-- The words of a form taken apart at the place where others may stand for its keywords. -/
theorem near_words {v k : Kw} {A B C P Q : List Word} {i : Instr} {us : List (List Char)} (hv : v ∈ Kw.all)
    (hsays : Says v (A ++ C) i) (hc : List.Forall₂ Word.Close B C) (hq : spellTokens i = some (k.text :: us))
    (hk : k ∈ Kw.all) (hw : i.wf = true → us.map wordOf = P ++ Q) (hlen : P.length + 1 = A.length + 1) :
    v = k ∧ A = P ∧ List.Forall₂ Word.Close B Q := by
  obtain ⟨rfl, e⟩ := words_of_says hsays hv hq hk hw
  obtain ⟨rfl, rfl⟩ := List.append_inj e (Nat.succ.inj hlen).symm
  exact ⟨rfl, rfl, hc⟩

/-- Words near a form: every one of the forms whose chapter leaves a keyword to R185 (log 14). -/
theorem parseVerb_near {v : Kw} {W : List Word} {i : Instr} (hv : v ∈ Kw.all) (hok : ∀ w ∈ W, w.ok)
    (h : Near v W i) (raw : List (List Char)) : NearRead v W (parseVerb raw v W) := by
  obtain ⟨A, B, C, rfl, hsays, hc, hleaves⟩ := h
  obtain ⟨k, hlen⟩ : ∃ k, k = A.length + 1 := ⟨_, rfl⟩
  rw [← hlen] at hleaves
  have hwf := hsays.1
  cases hleaves with
  | groupDimmed g c =>
    obtain ⟨rfl, rfl, hc⟩ := near_words (P := [.num g, .kw .dimmed]) hv hsays hc rfl (k := .group) (by decide)
      (fun h => words_num (words_kw (words_word rfl _) (by decide)) h) hlen
    rcases hc with _ | ⟨hw, _ | _⟩
    exact nearRead_keyword (parseGroup_tells hok) hw (by rw [curveOf_eq_some.2 rfl]; rfl) nofun
  | lampGroup n g =>
    obtain ⟨hn, hg⟩ := Bool.and_eq_true_iff.1 hwf
    obtain ⟨rfl, rfl, hc⟩ := near_words (P := [.num n, .kw .group]) hv hsays hc rfl (k := .lamp) (by decide)
      (fun _ => words_num (words_kw (words_word rfl _) (by decide)) hn) hlen
    rcases hc with _ | ⟨hw, _ | _⟩
    exact nearRead_keyword (parseLamp_tells hok) hw (by rw [(groupOf_eq_some hg).2 rfl]; rfl) nofun
  | lampGroupStagger n g st =>
    simp only [Instr.wf, Bool.and_eq_true] at hwf
    obtain ⟨⟨hn, hg⟩, hst⟩ := hwf
    obtain ⟨rfl, rfl, hc⟩ := near_words (P := [.num n, .kw .group]) hv hsays hc rfl (k := .lamp) (by decide)
      (fun _ => words_num (words_kw (words_word (words_kw (words_num rfl hst) (by decide)) _) (by decide)) hn)
      hlen
    rcases hc with _ | ⟨hw, _ | ⟨hk, _ | ⟨hst, _ | _⟩⟩⟩
    obtain rfl := eq_of_close hst rfl
    refine nearRead_keywords (parseLamp_tells hok) (List.forall_mem_cons.2
      ⟨some_or_keyword hw ?_, List.forall_mem_singleton.2 (isKw_or_keyword hk)⟩) nofun
    rw [(groupOf_eq_some hg).2 rfl]; rfl
  | lampRange n m g st k =>
    simp only [Instr.wf, Bool.and_eq_true] at hwf
    obtain ⟨⟨⟨⟨hn, hm⟩, hg⟩, hst⟩, hk⟩ := hwf
    obtain ⟨rfl, rfl, hc⟩ := near_words (P := [.num n, .kw .to]) hv hsays hc rfl (k := .lamp) (by decide)
      (fun _ => words_num (words_kw (words_num (words_kw (words_word (words_kw (words_num (words_num rfl hk) hst)
        (by decide)) _) (by decide)) hm) (by decide)) hn) hlen
    rcases hc with _ | ⟨hm, _ | ⟨hj, _ | ⟨hw, _ | ⟨hl, _ | ⟨hst, _ | ⟨hk, _ | _⟩⟩⟩⟩⟩⟩
    obtain rfl := eq_of_close hm rfl
    obtain rfl := eq_of_close hst rfl
    obtain rfl := eq_of_close hk rfl
    refine nearRead_keywords (parseLamp_tells hok) (List.forall_mem_cons.2 ⟨isKw_or_keyword hj, List.forall_mem_cons.2
      ⟨some_or_keyword hw ?_, List.forall_mem_singleton.2 (isKw_or_keyword hl)⟩⟩) nofun
    rw [(groupOf_eq_some hg).2 rfl]; rfl
  | lampLevel n v u =>
    simp only [Instr.wf, Bool.and_eq_true] at hwf
    obtain ⟨⟨hn, hx⟩, hu⟩ := hwf
    cases u with
    | none =>
      obtain ⟨rfl, rfl, hc⟩ := near_words (P := [.num n, .kw .level]) hv hsays hc rfl (k := .lamp) (by decide)
        (fun _ => words_num (words_kw (words_num rfl hx) (by decide)) hn) hlen
      rcases hc with _ | ⟨hx, _ | _⟩
      obtain rfl := eq_of_close hx rfl
      exact .inl ⟨_, rfl⟩
    | some t =>
      obtain ⟨rfl, rfl, hc⟩ := near_words (P := [.num n, .kw .level]) hv hsays hc rfl (k := .lamp) (by decide)
        (fun _ => words_num (words_kw (words_num (words_kw (words_time rfl hu) (by decide)) hx) (by decide)) hn)
        hlen
      rcases hc with _ | ⟨hx, _ | ⟨hk, _ | ⟨ht, _ | _⟩⟩⟩
      obtain rfl := eq_of_close hx rfl
      obtain rfl := eq_of_close ht rfl
      exact nearRead_keywords (parseLamp_tells hok) (List.forall_mem_singleton.2 (isKw_or_keyword hk)) nofun
  | scan m =>
    obtain ⟨rfl, rfl, hc⟩ := near_words (P := []) hv hsays hc rfl (k := .scan) (by decide)
      (fun _ => words_word rfl _) hlen
    rcases hc with _ | ⟨hw, _ | _⟩
    exact nearRead_keyword (parseScan_tells hok) hw (by rw [scanOf_eq_some.2 rfl]; rfl) nofun
  | sectionBuffer n e =>
    obtain ⟨rfl, rfl, hc⟩ := near_words (P := [.num n, .kw (endKw e)]) hv hsays hc rfl (k := .sectionW) (by decide)
      (fun h => words_num (words_end (words_kw rfl (by decide)) e) h) hlen
    rcases hc with _ | ⟨hw, _ | _⟩
    cases e <;>
      exact nearRead_keywords (parseSection_tells hok) (List.forall_mem_singleton.2 (isKw_or_keyword hw)) nofun
  | sectionJoin n e u =>
    obtain ⟨hn, hu⟩ := Bool.and_eq_true_iff.1 hwf
    obtain ⟨rfl, rfl, hc⟩ := near_words (P := [.num n, .kw (endKw e)]) hv hsays hc rfl (k := .sectionW) (by decide)
      (fun _ => words_num (words_end (words_num (words_word rfl _) hu) e) hn) hlen
    rcases hc with _ | ⟨hx, _ | ⟨hw, _ | _⟩⟩
    obtain rfl := eq_of_close hx rfl
    have hsome : (endTokOf u.sec (wordOf (spellEnd u.e))).isSome = true := by rw [endTokOf_spellEnd]; rfl
    cases e
    · exact nearRead_keyword (parseSection_tells hok) hw hsome nofun
    · exact nearRead_keyword (parseSection_tells hok) hw hsome nofun
  | turnoutLegs t p q r =>
    simp only [Instr.wf, Bool.and_eq_true] at hwf
    obtain ⟨⟨⟨ht, hp⟩, hq⟩, hr⟩ := hwf
    obtain ⟨rfl, rfl, hc⟩ := near_words (P := [.num t, .kw .legs]) hv hsays hc rfl (k := .turnout) (by decide)
      (fun _ => words_num (words_kw (words_num (words_end (words_num (words_end (words_num (words_end rfl r.e) hr) q.e)
        hq) p.e) hp) (by decide)) ht) hlen
    rcases hc with _ | ⟨hx, _ | ⟨hp, _ | ⟨hy, _ | ⟨hq, _ | ⟨hz, _ | ⟨hr, _ | _⟩⟩⟩⟩⟩⟩
    obtain rfl := eq_of_close hx rfl
    obtain rfl := eq_of_close hy rfl
    obtain rfl := eq_of_close hz rfl
    have hsome (e : End) : (endOf (.kw (endKw e))).isSome = true := by rw [endOf_endKw]; rfl
    exact nearRead_keywords (parseTurnout_tells hok) (List.forall_mem_cons.2 ⟨some_or_keyword hp (hsome _),
      List.forall_mem_cons.2 ⟨some_or_keyword hq (hsome _), List.forall_mem_singleton.2
        (some_or_keyword hr (hsome _))⟩⟩) nofun
  | turnoutThrow t b =>
    obtain ⟨rfl, rfl, hc⟩ := near_words (P := [.num t, .kw .throw]) hv hsays hc rfl (k := .turnout) (by decide)
      (fun h => words_num (words_kw (words_word rfl _) (by decide)) h) hlen
    rcases hc with _ | ⟨hw, _ | _⟩
    exact nearRead_keyword (parseTurnout_tells hok) hw (by rw [branchOf_eq_some.2 rfl]; rfl) nofun
  | markDefine m x mm k =>
    simp only [Instr.wf, Bool.and_eq_true] at hwf
    obtain ⟨⟨hm, hx⟩, hmm⟩ := hwf
    obtain ⟨rfl, rfl, hc⟩ := near_words (P := [.num m, .num x]) hv hsays hc rfl (k := .mark) (by decide)
      (fun _ => words_num (words_num (words_num (words_word rfl _) hmm) hx) hm) hlen
    rcases hc with _ | ⟨hmm, _ | ⟨hw, _ | _⟩⟩
    obtain rfl := eq_of_close hmm rfl
    exact nearRead_keyword (parseMark_tells hok) hw (by rw [markKindOf_eq_some.2 rfl]; rfl) nofun
  | crossingDefine c x a b v l on =>
    simp only [Instr.wf, Bool.and_eq_true] at hwf
    obtain ⟨⟨⟨⟨⟨hn, hx⟩, ha⟩, hb⟩, hv'⟩, hl⟩ := hwf
    obtain ⟨rfl, rfl, hc⟩ := near_words (P := [.num c, .num x]) hv hsays hc rfl (k := .crossing) (by decide)
      (fun _ => words_num (words_num (words_kw (words_num (words_num (words_kw (words_num (words_kw (words_num (words_kw
        (words_word rfl _) (by decide)) hl) (by decide)) hv') (by decide)) hb) ha) (by decide)) hx) hn)
      hlen
    rcases hc with _ | ⟨hj, _ | ⟨ha, _ | ⟨hb, _ | ⟨hk, _ | ⟨hv, hc⟩⟩⟩⟩⟩
    rcases hc with _ | ⟨hl, _ | ⟨hn, _ | ⟨hm, _ | ⟨hw, _ | _⟩⟩⟩⟩
    obtain rfl := eq_of_close ha rfl
    obtain rfl := eq_of_close hb rfl
    obtain rfl := eq_of_close hv rfl
    obtain rfl := eq_of_close hn rfl
    refine nearRead_keywords (parseCrossing_tells hok) ?_ nofun
    simp only [List.forall_mem_cons]
    refine ⟨isKw_or_keyword hj, isKw_or_keyword hk, isKw_or_keyword hl, isKw_or_keyword hm,
      some_or_keyword hw ?_, nofun⟩
    rw [switchOf_eq_some.2 rfl]; rfl
  | bellQuietNone =>
    obtain ⟨rfl, rfl, hc⟩ := near_words (P := [.kw .quiet]) hv hsays hc rfl (k := .bell) (by decide)
      (fun _ => words_kw (words_kw rfl (by decide)) (by decide)) hlen
    rcases hc with _ | ⟨hw, _ | _⟩
    rename_i w
    have hkey : w.isKeyword = true := isKeyword_of_close hw rfl
    have hps : ∀ p ∈ [w.isKw .none], p.2 = true ∨ p.1.isKeyword = true :=
      List.forall_mem_singleton.2 (isKw_or_keyword hw)
    cases w with
    | kw k => exact nearRead_keywords (parseBell_tells hok) hps nofun
    | other cs => exact nearRead_keywords (parseBell_tells hok) hps nofun
    | num n => cases hkey
    | time t => cases hkey
  | routeStop r i d m =>
    simp only [Instr.wf, Bool.and_eq_true] at hwf
    obtain ⟨⟨⟨hr, hi⟩, hd⟩, hm⟩ := hwf
    cases m with
    | none =>
      obtain ⟨rfl, rfl, hc⟩ := near_words (P := [.num r, .kw .stop]) hv hsays hc rfl (k := .route) (by decide)
        (fun _ => words_num (words_kw (words_num (words_num rfl hd) hi) (by decide)) hr) hlen
      rcases hc with _ | ⟨hi, _ | ⟨hd, _ | _⟩⟩
      obtain rfl := eq_of_close hi rfl
      obtain rfl := eq_of_close hd rfl
      exact .inl ⟨_, rfl⟩
    | some m =>
      obtain ⟨rfl, rfl, hc⟩ := near_words (P := [.num r, .kw .stop]) hv hsays hc rfl (k := .route) (by decide)
        (fun _ => words_num (words_kw (words_num (words_num (words_kw (words_num rfl hm) (by decide)) hd) hi)
          (by decide)) hr) hlen
      rcases hc with _ | ⟨hi, _ | ⟨hd, _ | ⟨hw, _ | ⟨hm, _ | _⟩⟩⟩⟩
      obtain rfl := eq_of_close hi rfl
      obtain rfl := eq_of_close hd rfl
      obtain rfl := eq_of_close hm rfl
      exact nearRead_keywords (parseRoute_tells hok) (List.forall_mem_singleton.2 (isKw_or_keyword hw)) nofun
  | routeStopNone r i =>
    obtain ⟨hr, hi⟩ := Bool.and_eq_true_iff.1 hwf
    obtain ⟨rfl, rfl, hc⟩ := near_words (P := [.num r, .kw .stop]) hv hsays hc rfl (k := .route) (by decide)
      (fun _ => words_num (words_kw (words_num (words_kw rfl (by decide)) hi) (by decide)) hr) hlen
    rcases hc with _ | ⟨hi, _ | ⟨hw, _ | _⟩⟩
    obtain rfl := eq_of_close hi rfl
    rename_i w
    have hkey : w.isKeyword = true := isKeyword_of_close hw rfl
    have hps : ∀ p ∈ [w.isKw .none], p.2 = true ∨ p.1.isKeyword = true :=
      List.forall_mem_singleton.2 (isKw_or_keyword hw)
    cases w with
    | kw k => exact nearRead_keywords (parseRoute_tells hok) hps nofun
    | other cs => exact nearRead_keywords (parseRoute_tells hok) hps nofun
    | num n => cases hkey
    | time t => cases hkey
  | routeLoop r on =>
    obtain ⟨rfl, rfl, hc⟩ := near_words (P := [.num r, .kw .loop]) hv hsays hc rfl (k := .route) (by decide)
      (fun h => words_num (words_kw (words_word rfl _) (by decide)) h) hlen
    rcases hc with _ | ⟨hw, _ | _⟩
    exact nearRead_keyword (parseRoute_tells hok) hw (by rw [switchOf_eq_some.2 rfl]; rfl) nofun
  | timetableAutorun on =>
    obtain ⟨rfl, rfl, hc⟩ := near_words (P := [.kw .autorun]) hv hsays hc rfl (k := .timetable) (by decide)
      (fun _ => words_kw (words_word rfl _) (by decide)) hlen
    rcases hc with _ | ⟨hw, _ | _⟩
    exact nearRead_keyword (parseTimetable_tells hok) hw (by rw [switchOf_eq_some.2 rfl]; rfl) nofun
  | set f v u =>
    simp only [Instr.wf, Bool.and_eq_true] at hwf
    obtain ⟨⟨hf, hx⟩, hu⟩ := hwf
    cases u with
    | none =>
      have := congrArg List.length (words_of_says hsays hv rfl (k := .set) (by decide)
        (fun _ => words_num (words_num rfl hx) hf)).2
      obtain ⟨rfl, rfl, hc⟩ := near_words (P := [.num f, .num v]) (Q := []) hv hsays hc rfl (k := .set) (by decide)
        (fun _ => words_num (words_num rfl hx) hf) hlen
      cases hc
      exact .inl ⟨_, rfl⟩
    | some t =>
      obtain ⟨rfl, rfl, hc⟩ := near_words (P := [.num f, .num v]) hv hsays hc rfl (k := .set) (by decide)
        (fun _ => words_num (words_num (words_kw (words_time rfl hu) (by decide)) hx) hf) hlen
      rcases hc with _ | ⟨hk, _ | ⟨ht, _ | _⟩⟩
      obtain rfl := eq_of_close ht rfl
      exact nearRead_keywords (parseSet_tells hok) (List.forall_mem_singleton.2 (isKw_or_keyword hk)) nofun

end Sys2Proof.Machine
end

section
-- One theorem after the other: side by side, waiting proofs would pile up.
set_option Elab.async false
/-! SUPPORT. The tokens of a line and their words say the same (R184, R185). -/

namespace Sys2Proof.Machine

open Sys2Proof.Safety Sys2Proof.Proofs.RoundTrip

/-! ## Tokens of a command -/

/-- Tokens stand for readable ones where they read as the same words. -/
theorem forall₂_standsFor {us : List (List Char)} (hus : AllReadable us) (ts : List (List Char)) :
    List.Forall₂ StandsFor ts us ↔ ts.map wordOf = us.map wordOf := by
  induction us generalizing ts with
  | nil => cases ts <;> simp
  | cons u us ih =>
    obtain ⟨hu, hus⟩ := allReadable_cons.1 hus
    cases ts with
    | nil => simp
    | cons t ts => rw [List.forall₂_cons, hu.stands, ih hus, List.map_cons, List.map_cons, List.cons.injEq]

theorem words_ok (ts : List (List Char)) : ∀ w ∈ ts.map wordOf, w.ok := fun w h => by
  obtain ⟨t, -, rfl⟩ := List.mem_map.1 h
  exact wordOf_ok t

/-- The tokens of a command are its verb and words that say it. -/
theorem tokens_begin {i : Instr} (hi : i.wf = true) (hname : ∀ n name, i ≠ .trainName n name) {us : List (List Char)}
    (h : spellTokens i = some us) : ∃ v ∈ verbKws, ∃ us', us = v.text :: us' ∧ Says v (us'.map wordOf) i ∧
      ∀ raw, parseVerb raw v (us'.map wordOf) = .line i := by
  obtain ⟨v, us', -, hs, hp⟩ := readBack (by rw [isLine, h]; nofun) hname hi
  obtain rfl := Option.some.inj (h.symm.trans hs)
  have hv : v ∈ verbKws := by
    by_contra hn
    have := hp []
    rw [parseVerb_other hn] at this
    cases this
  have htrain : v = .train → ∀ n w, us'.map wordOf ≠ [.num n, .kw .name, w] := by
    rintro rfl n w e
    have := hp []
    rw [e] at this
    cases this
  obtain ⟨hline, -⟩ := parseVerb_tells hv (words_ok us') [] htrain
  exact ⟨v, hv, us', rfl, hline i (hp []), hp⟩

theorem allReadable_tail {v : Kw} {i : Instr} (hi : i.wf = true) (hname : ∀ n name, i ≠ .trainName n name)
    {us : List (List Char)} (h : spellTokens i = some (v.text :: us)) : AllReadable us :=
  (allReadable_cons.1 (readable_tokens hi hname h)).2

/-- A token that stands for a verb is the verb. -/
theorem text_of_standsFor {t : List Char} {k : Kw} (hk : k ∈ Kw.all) (h : StandsFor t k.text) : t = k.text :=
  (wordOf_eq_kw.1 ((standsFor_kw hk).1 h)).2

theorem says_iff {k : Kw} (hk : k ∈ Kw.all) {ws : List (List Char)} {i : Instr} : Says k (ws.map wordOf) i ↔
    i.wf = true ∧ (∀ n name, i ≠ .trainName n name) ∧
      ∃ us, spellTokens i = some us ∧ List.Forall₂ StandsFor (k.text :: ws) us := by
  constructor
  · rintro ⟨hi, hname, -, us, hs, hw⟩
    refine ⟨hi, hname, _, hs, .cons (.inl rfl) ?_⟩
    exact (forall₂_standsFor (allReadable_tail hi hname hs) ws).2 hw.symm
  · rintro ⟨hi, hname, us, hs, hF⟩
    obtain ⟨v, hv, us', rfl, hsays, -⟩ := tokens_begin hi hname hs
    obtain ⟨hverb, hws⟩ := List.forall₂_cons.1 hF
    obtain rfl : k = v := text_injective hk (verbKws_all v hv) (text_of_standsFor (verbKws_all v hv) hverb)
    rwa [(forall₂_standsFor (allReadable_tail hi hname hs) ws).1 hws]

/-- A command that says something is read back from its words. -/
theorem parseVerb_says {k : Kw} (hk : k ∈ Kw.all) {W : List Word} {i : Instr} (h : Says k W i) (raw : List (List Char)) :
    parseVerb raw k W = .line i := by
  obtain ⟨hi, hname, -, us, hs, rfl⟩ := h
  obtain ⟨v, hv, us', e, -, hp⟩ := tokens_begin hi hname hs
  obtain ⟨hverb, rfl⟩ := List.cons.inj e
  rw [text_injective hk (verbKws_all v hv) hverb, hp]

theorem plain_not_longRun {w : Word} (h : w.plain = true) : w.isLongRun = false := by
  cases w with
  | other cs => cases h
  | kw k => rfl
  | num n => rfl
  | time t => rfl

theorem isKeyword_not_longRun {w : Word} (h : w.isKeyword = true) : w.isLongRun = false := by
  cases w with
  | other cs =>
    cases cs with
    | nil => cases h
    | cons c r =>
      have hd : c.isDigit = false := by
        by_contra hd
        have hc : c.isAlpha = true := h
        rw [isDigit_not_alpha (by simpa using hd)] at hc
        cases hc
      simp [Word.isLongRun, hd]
  | kw k => rfl
  | num n => rfl
  | time t => rfl

/-! ## Words near a form -/

theorem leaves_not_name {i : Instr} {k : Nat} (h : LeavesKeywords i k) : ∀ n name, i ≠ .trainName n name := by
  rintro n name rfl
  cases h

theorem leaves_length {i : Instr} {k : Nat} (h : LeavesKeywords i k) {us : List (List Char)}
    (hs : spellTokens i = some us) : 1 ≤ k ∧ k ≤ us.length := by
  cases h
  case routeStop r i d m => cases m <;> cases hs <;> simp
  all_goals cases hs; simp [spellEndTok]

theorem close_wordOf {t u : List Char} (ht : Wordlike t) (hu : Wordlike u) : (wordOf t).Close (wordOf u) :=
  .inr ⟨(isKeyword_wordOf t).2 ht, (isKeyword_wordOf u).2 hu, wordOf_ok u⟩

/-- The words of one place. -/
theorem close_iff {t u : List Char} (hu : Readable u) :
    (wordOf t).Close (wordOf u) ↔ StandsFor t u ∨ (Wordlike t ∧ Wordlike u) := by
  rw [hu.stands]
  constructor
  · rintro (h | ⟨ht, hk, -⟩)
    · exact .inl h
    · exact .inr ⟨(isKeyword_wordOf t).1 ht, (isKeyword_wordOf u).1 hk⟩
  · rintro (h | ⟨ht, hk⟩)
    · exact .inl h
    · exact close_wordOf ht hk

theorem forall_places_cons {α β : Type} {a : α} {b : β} {as : List α} {bs : List β} {P : Nat → α → β → Prop} :
    (∀ j t u, (a :: as)[j]? = some t → (b :: bs)[j]? = some u → P j t u) ↔
      P 0 a b ∧ ∀ j t u, as[j]? = some t → bs[j]? = some u → P (j + 1) t u := by
  constructor
  · exact fun h => ⟨h 0 a b rfl rfl, fun j t u => h (j + 1) t u⟩
  · rintro ⟨h0, h⟩ j t u ht hu
    cases j with
    | zero => cases ht; cases hu; exact h0
    | succ j => exact h j t u ht hu

/-- Tokens that stand for those of a form, but that those after the first `m` may be other words. -/
theorem near_places {ws us : List (List Char)} (hread : AllReadable us) (m : Nat) (hm : m ≤ ws.length) :
    (ws.length = us.length ∧ ∀ j t u, ws[j]? = some t → us[j]? = some u →
      StandsFor t u ∨ (m ≤ j ∧ Wordlike t ∧ Wordlike u)) ↔
    (ws.take m).map wordOf = (us.take m).map wordOf ∧
      List.Forall₂ Word.Close ((ws.drop m).map wordOf) ((us.drop m).map wordOf) := by
  induction ws generalizing us m with
  | nil =>
    obtain rfl : m = 0 := Nat.le_zero.1 hm
    cases us <;> simp
  | cons w ws ih =>
    cases us with
    | nil => cases m <;> simp
    | cons u us =>
      obtain ⟨hu, hread⟩ := allReadable_cons.1 hread
      cases m with
      | zero =>
        have := ih hread 0 (Nat.zero_le _)
        simp only [List.length_cons, Nat.add_right_cancel_iff, forall_places_cons, Nat.zero_le, true_and, List.take_zero,
          List.map_nil, List.drop_zero, List.map_cons, List.forall₂_cons, close_iff hu] at this ⊢
        rw [← this, and_left_comm]
      | succ m =>
        have := ih hread m (Nat.le_of_succ_le_succ hm)
        simp only [List.length_cons, Nat.add_right_cancel_iff, forall_places_cons, Nat.add_le_add_iff_right,
          List.take_succ_cons, List.drop_succ_cons, List.map_cons, List.cons.injEq, ← hu.stands, and_assoc] at this ⊢
        rw [← this, and_left_comm]
        exact and_congr_left fun _ => or_iff_left fun h => Nat.not_succ_le_zero _ h.1

/-- The tokens of a line stand near a form where its words do. -/
theorem near_iff {k : Kw} (hk : k ∈ Kw.all) {ws : List (List Char)} {i : Instr} :
    StandsNear (k.text :: ws) i ↔ Near k (ws.map wordOf) i := by
  constructor
  · rintro ⟨hi, n, us, hl, hs, hlen, hplaces⟩
    have hname := leaves_not_name hl
    obtain ⟨v, hv, us, rfl, hsays, -⟩ := tokens_begin hi hname hs
    obtain ⟨h1, hn⟩ := leaves_length hl hs
    obtain ⟨m, rfl⟩ : ∃ m, n = m + 1 := ⟨n - 1, by omega⟩
    obtain ⟨hhead, htail⟩ := forall_places_cons.1 hplaces
    obtain rfl : k = v := text_injective hk (verbKws_all v hv)
      (text_of_standsFor (verbKws_all v hv) (hhead.resolve_right fun h => Nat.not_succ_le_zero _ h.1))
    simp only [List.length_cons, Nat.add_le_add_iff_right, Nat.add_right_cancel_iff] at hlen hn htail
    obtain ⟨htake, hdrop⟩ := (near_places (allReadable_tail hi hname hs) m (hlen ▸ hn)).1 ⟨hlen, htail⟩
    refine ⟨(ws.take m).map wordOf, (ws.drop m).map wordOf, (us.drop m).map wordOf, ?_, ?_, hdrop, ?_⟩
    · rw [← List.map_append, List.take_append_drop]
    · rwa [htake, ← List.map_append, List.take_append_drop]
    · rwa [List.length_map, List.length_take, Nat.min_eq_left (hlen ▸ hn)]
  · rintro ⟨A, B, C, hW, ⟨hi, hname, -, us, hs, hus⟩, hc, hl⟩
    obtain ⟨as, bs, rfl, rfl, rfl⟩ := List.map_eq_append_iff.1 hW
    obtain ⟨xs, cs, rfl, hA, rfl⟩ := List.map_eq_append_iff.1 hus
    have hlen : xs.length = as.length := by simpa using congrArg List.length hA
    rw [List.length_map] at hl
    have hm : as.length ≤ (as ++ bs).length := by simp
    have hplaces := (near_places (us := xs ++ cs) (allReadable_tail hi hname hs) as.length hm).2 ⟨by
      rw [List.take_left, ← hlen, List.take_left, hA], by rwa [List.drop_left, ← hlen, List.drop_left]⟩
    obtain ⟨hlens, htail⟩ := hplaces
    refine ⟨hi, _, _, hl, hs, congrArg (· + 1) hlens, forall_places_cons.2 ⟨.inl (.inl rfl), ?_⟩⟩
    simpa only [Nat.add_le_add_iff_right] using htail

/-- Words near a form hold no run of more than 9 digits. -/
theorem near_no_longRun {v : Kw} {W : List Word} {i : Instr} (h : Near v W i) : W.any Word.isLongRun = false := by
  obtain ⟨A, B, C, rfl, ⟨-, -, hplain, -⟩, hc, -⟩ := h
  obtain ⟨hA, hC⟩ := List.forall_mem_append.1 hplain
  have hB : ∀ w ∈ B, w.isLongRun = false := by
    clear hplain
    induction hc with
    | nil => exact nofun
    | cons hw _ ih =>
      obtain ⟨hx, hC⟩ := List.forall_mem_cons.1 hC
      refine List.forall_mem_cons.2 ⟨?_, ih hC⟩
      rcases hw with rfl | ⟨hw, -, -⟩
      · exact plain_not_longRun hx
      · exact isKeyword_not_longRun hw
  rw [List.any_eq_false]
  intro w hw
  rcases List.mem_append.1 hw with hw | hw
  · simp [plain_not_longRun (hA w hw)]
  · simp [hB w hw]

end Sys2Proof.Machine
end

section
-- One theorem after the other: side by side, waiting proofs would pile up.
set_option Elab.async false
/-! SUPPORT. Lines of tokens: which are commands, and why the others are refused (R184, R185). -/

namespace Sys2Proof.Machine

open Sys2Proof.Safety Sys2Proof.Proofs.RoundTrip

/-! ## Tokens that select no form -/

theorem oneOf_iff {ks : List String} {ns : List Kw} (hks : ks.map String.toList = ns.map Kw.text)
    (hall : ∀ k ∈ ns, k ∈ Kw.all) (t : List Char) : OneOf ks t ↔ ∃ k ∈ ns, wordOf t = .kw k := by
  rw [OneOf, hks, List.mem_map]
  constructor
  · rintro ⟨k, hk, rfl⟩
    exact ⟨k, hk, wordOf_kw (hall k hk)⟩
  · rintro ⟨k, hk, h⟩
    exact ⟨k, hk, (wordOf_eq_kw.1 h).2.symm⟩

theorem not_oneOf_iff {ks : List String} {ns : List Kw} (hks : ks.map String.toList = ns.map Kw.text)
    (hall : ∀ k ∈ ns, k ∈ Kw.all) (t : List Char) : ¬ OneOf ks t ↔ ∀ k ∈ ns, wordOf t ≠ .kw k := by
  rw [oneOf_iff hks hall]
  push Not
  rfl

theorem longRuns_iff {ts : List (List Char)} (hne : ∀ t ∈ ts, t ≠ []) :
    (ts.map wordOf).any Word.isLongRun = false ↔ ∀ t ∈ ts, ¬ LongRun t := by
  simp only [List.any_eq_false, List.forall_mem_map]
  exact forall₂_congr fun t ht => not_congr (isLongRun_wordOf (hne t ht))

theorem selects_not_name {i : Instr} {ks : List String} {any : Bool} (h : Selects i ks any) :
    ∀ n name, i ≠ .trainName n name := by
  rintro n name rfl
  cases h

/-- The words that select a form are keywords. -/
theorem selects_listed {q : Instr} {ks : List String} {any : Bool} (h : Selects q ks any) :
    ∀ t ∈ ks.map String.toList, ∃ k, wordOf t = .kw k ∧ k.text = t := by
  have hall : ((ks.map String.toList).all fun t => (Kw.ofChars t).isSome) = true := by cases h <;> rfl
  intro t ht
  obtain ⟨k, hk⟩ := Option.isSome_iff_exists.1 (List.all_eq_true.1 hall t ht)
  obtain ⟨hkall, rfl⟩ := ofChars_eq_some.1 hk
  exact ⟨k, wordOf_kw hkall, rfl⟩

/-- The tokens of a line are a query's and one that selects no form where its words are so. -/
theorem selectsNone_iff {k : Kw} (hk : k ∈ Kw.all) {ws : List (List Char)} (hne : ∀ t ∈ ws, t ≠ []) {q : Instr} :
    SelectsNone (k.text :: ws) q ↔
      SaysNone k (ws.map wordOf) q ∧ (ws.map wordOf).any Word.isLongRun = false := by
  rw [longRuns_iff hne]
  constructor
  · rintro ⟨hq, ks, any, us, as, t, rest, hsel, hs, hts, hF, hno, hany, ht, hrest, htime⟩
    have hname := selects_not_name hsel
    obtain ⟨v, hv, us, rfl, -, -⟩ := tokens_begin hq hname hs
    cases as with
    | nil => cases hF
    | cons a as =>
      obtain ⟨rfl, rfl⟩ := List.cons.inj hts
      have hsays := (says_iff hk).2 ⟨hq, hname, _, hs, hF⟩
      refine ⟨⟨as.map wordOf, wordOf t, rest.map wordOf, ks, any, by simp, hsays, hsel, ?_, ?_, ?_⟩, ?_⟩
      · rintro j hj hmem
        obtain ⟨-, rfl⟩ := wordOf_eq_kw.1 hj
        exact hno hmem
      · rwa [isKeyword_wordOf]
      · intro m n hq hR
        obtain ⟨x, ys, rfl, hx, hys⟩ := List.map_eq_cons_iff.1 hR
        obtain ⟨y, zs, rfl, hy, hzs⟩ := List.map_eq_cons_iff.1 hys
        obtain rfl := List.map_eq_nil_iff.1 hzs
        exact htime x y hq rfl ⟨(numberToken_iff x).2 ⟨m, hx⟩, (numberToken_iff y).2 ⟨n, hy⟩⟩
      · have has : ∀ x ∈ as, ¬ LongRun x := (longRuns_iff fun x hx => hne x (List.mem_append_left _ hx)).1 (by
          obtain ⟨-, -, hplain, -⟩ := hsays
          exact List.any_eq_false.2 fun w hw => by simp [plain_not_longRun (hplain w hw)])
        exact List.forall_mem_append.2 ⟨has, List.forall_mem_cons.2 ⟨ht, hrest⟩⟩
  · rintro ⟨⟨A, w, R, ks, any, hW, hsays, hsel, hno, hany, htime⟩, hruns⟩
    obtain ⟨as, ts, rfl, rfl, hts⟩ := List.map_eq_append_iff.1 hW
    obtain ⟨t, rest, rfl, rfl, rfl⟩ := List.map_eq_cons_iff.1 hts
    obtain ⟨-, hrest⟩ := List.forall_mem_append.1 hruns
    obtain ⟨ht, hrest⟩ := List.forall_mem_cons.1 hrest
    obtain ⟨hq, -, us, hs, hF⟩ := (says_iff hk).1 hsays
    refine ⟨hq, ks, any, us, k.text :: as, t, rest, hsel, hs, rfl, hF, ?_, ?_, ht, hrest, ?_⟩
    · intro hmem
      obtain ⟨j, hj, e⟩ := selects_listed hsel t hmem
      exact hno j hj (e ▸ hmem)
    · rwa [← isKeyword_wordOf]
    · rintro x y hq rfl ⟨hx, hy⟩
      obtain ⟨m, hm⟩ := (numberToken_iff x).1 hx
      obtain ⟨n, hn⟩ := (numberToken_iff y).1 hy
      exact htime m n hq (by rw [List.map_cons, List.map_cons, hm, hn]; rfl)

/-! ## Lines that are not known -/

theorem notKnown_iff {k : Kw} (hk : k ∈ verbKws) {ws : List (List Char)} (hne : ∀ t ∈ ws, t ≠ []) :
    NotKnown k.text ws ↔ SecondUnknown k (ws.map wordOf) := by
  have hverb {j : Kw} (hj : j ∈ Kw.all) : k.text = j.text ↔ k = j :=
    ⟨text_injective (verbKws_all k hk) hj, fun h => h ▸ rfl⟩
  rw [NotKnown, or_iff_right (fun h => h ((text_mem_verbs (verbKws_all k hk)).2 hk))]
  have clock : k.text = "CLOCK".toList ↔ k = .clock := hverb (j := .clock) (by decide)
  have matrix : k.text = "MATRIX".toList ↔ k = .matrix := hverb (j := .matrix) (by decide)
  have budget : k.text = "BUDGET".toList ↔ k = .budget := hverb (j := .budget) (by decide)
  have input : k.text = "INPUT".toList ↔ k = .input := hverb (j := .input) (by decide)
  have clocks := not_oneOf_iff (ks := ["SET", "RUN", "HOLD", "RATE", "START"])
    (ns := [.set, .run, .hold, .rate, .start]) rfl (by decide)
  have matrices := not_oneOf_iff (ks := ["DIVIDER", "ROWS", "COLS"]) (ns := [.divider, .rows, .cols]) rfl (by decide)
  have budgets := not_oneOf_iff (ks := ["CEILING", "LAMP", "FLOOD"]) (ns := [.ceiling, .lamp, .flood]) rfl (by decide)
  have inputs := not_oneOf_iff (ks := ["MARK", "INDEX"]) (ns := [.mark, .index]) rfl (by decide)
  rw [SecondUnknown, longRuns_iff hne]
  simp only [clock, matrix, budget, input, clocks, matrices, budgets, inputs]
  constructor
  · rintro ⟨w, rest, rfl, h⟩
    exact ⟨wordOf w, rest.map wordOf, rfl, h⟩
  · rintro ⟨w, R, hW, h⟩
    obtain ⟨w, rest, rfl, rfl, -⟩ := List.map_eq_cons_iff.1 hW
    exact ⟨w, rest, rfl, h⟩

/-! ## Lines read -/

theorem afterRuns_eq_line {ws : List Word} {p : Parsed} {i : Instr} : p.afterRuns ws = .line i ↔ p = .line i := by
  cases p with
  | unknownIn j => rw [Parsed.afterRuns]; split <;> simp [Parsed.malformed]
  | line j => exact Iff.rfl
  | refused r => exact Iff.rfl

theorem afterRuns_eq_unknownIn {ws : List Word} {p : Parsed} {i : Instr} :
    p.afterRuns ws = .unknownIn i ↔ p = .unknownIn i ∧ ws.any Word.isLongRun = false := by
  cases p with
  | unknownIn j => rw [Parsed.afterRuns]; split <;> simp_all [Parsed.malformed]
  | line j => exact iff_of_false nofun fun h => nomatch h.1
  | refused r => exact iff_of_false nofun fun h => nomatch h.1

theorem afterRuns_eq_refused {ws : List Word} {p : Parsed} {r : Reason} : p.afterRuns ws = .refused r ↔
    p = .refused r ∨ (r = .syntaxErr ∧ (∃ i, p = .unknownIn i) ∧ ws.any Word.isLongRun = true) := by
  cases p with
  | unknownIn j =>
    rw [Parsed.afterRuns]
    split
    · next h =>
      refine ⟨fun e => ?_, ?_⟩
      · cases e
        exact .inr ⟨rfl, ⟨j, rfl⟩, h⟩
      · rintro (e | ⟨rfl, -⟩)
        · cases e
        · rfl
    · next h =>
      refine iff_of_false nofun ?_
      rintro (e | ⟨-, -, hr⟩)
      · cases e
      · exact h hr
  | line j => exact iff_of_false nofun (by simp)
  | refused r => simp [Parsed.afterRuns]

theorem parseLine_other {cs v : List Char} {ws : List (List Char)} (h : lineTokens cs = v :: ws) (hv : v ∉ verbs) :
    parseLine cs = .refused .unknown := by
  simp only [parseLine, h, List.map_cons]
  cases hw : wordOf v with
  | kw k =>
    obtain ⟨hk, rfl⟩ := wordOf_eq_kw.1 hw
    simp only [parseVerb_other fun hn => hv ((text_mem_verbs hk).2 hn), Parsed.afterRuns]
  | num n => rfl
  | time t => rfl
  | other cs => rfl

/-- A `TRAIN` line that gives a name is taken whatever the characters of the name (log 54). -/
theorem parseVerb_name {ws : List (List Char)} {n : Nat} {w : Word} (hW : ws.map wordOf = [.num n, .kw .name, w])
    (v : List Char) : ∃ t name, ws = [t, Kw.name.text, name] ∧ wordOf t = .num n ∧
      parseVerb (v :: ws) .train (ws.map wordOf) = .line (.trainName n name) := by
  obtain ⟨t, xs, rfl, ht, hxs⟩ := List.map_eq_cons_iff.1 hW
  obtain ⟨k, ys, rfl, hk, hys⟩ := List.map_eq_cons_iff.1 hxs
  obtain ⟨name, zs, rfl, -, hzs⟩ := List.map_eq_cons_iff.1 hys
  obtain rfl := List.map_eq_nil_iff.1 hzs
  obtain ⟨-, rfl⟩ := wordOf_eq_kw.1 hk
  refine ⟨t, name, rfl, ht, ?_⟩
  rw [List.map_cons, List.map_cons, List.map_cons, ht, hk]
  rfl

/-- What a line of a known verb is read as. -/
theorem parseLine_verb {cs : List Char} {k : Kw} (hk : k ∈ verbKws) {ws : List (List Char)}
    (h : lineTokens cs = k.text :: ws) :
    (∃ n t name, k = .train ∧ ws = [t, Kw.name.text, name] ∧ wordOf t = .num n ∧
      parseLine cs = .line (.trainName n name)) ∨
    ∃ p, parseLine cs = p.afterRuns (ws.map wordOf) ∧
      p = parseVerb (k.text :: ws) k (ws.map wordOf) ∧ Tells k (ws.map wordOf) p := by
  have hparse := parseLine_of_tokens (verbKws_all k hk) h
  by_cases hname : k = .train ∧ ∃ n w, ws.map wordOf = [.num n, .kw .name, w]
  · obtain ⟨rfl, n, w, hW⟩ := hname
    obtain ⟨t, name, rfl, ht, hp⟩ := parseVerb_name hW Kw.train.text
    refine .inl ⟨n, t, name, rfl, rfl, ht, ?_⟩
    rw [hparse, hp]
    rfl
  · exact .inr ⟨_, hparse, rfl, parseVerb_tells hk (words_ok ws) _ fun e n w hW => hname ⟨e, n, w, hW⟩⟩

end Sys2Proof.Machine
end

section
-- One theorem after the other: side by side, waiting proofs would pile up.
set_option Elab.async false
/-! SUPPORT. The tokens of a line decide what it is read as (R184, R185; logs 14, 54, 55). -/

namespace Sys2Proof.Machine

open Sys2Proof.Safety Sys2Proof.Proofs.RoundTrip

/-! ## Tokens -/

theorem splitTokens_ne_nil (cs cur : List Char) : ∀ t ∈ splitTokens cur cs, t ≠ [] := by
  induction cs generalizing cur with
  | nil =>
    unfold splitTokens
    split <;> simp_all
  | cons c cs ih =>
    unfold splitTokens
    split
    · split
      · exact ih []
      · next h => exact List.forall_mem_cons.2 ⟨by simpa using h, ih []⟩
    · exact ih _

theorem lineTokens_ne_nil {cs v : List Char} {ws : List (List Char)} (h : lineTokens cs = v :: ws) :
    ∀ t ∈ ws, t ≠ [] := fun t ht => splitTokens_ne_nil _ [] t (by
  rw [show splitTokens [] (cs.map Char.toUpper) = v :: ws from h]
  exact List.mem_cons_of_mem _ ht)

theorem exists_verb {v : List Char} (h : v ∈ verbs) : ∃ k ∈ verbKws, v = k.text := by
  obtain ⟨k, hk, e⟩ := List.mem_map.1 (verbs_eq ▸ h)
  exact ⟨k, hk, e.symm⟩

/-- A line whose first token stands for that of a command has the command's verb. -/
theorem verb_of_standsFor {v : List Char} {us : List (List Char)} {i : Instr} (hi : i.wf = true)
    (hname : ∀ n name, i ≠ .trainName n name) (hs : spellTokens i = some us)
    (hv : ∀ u, us[0]? = some u → StandsFor v u) : ∃ k ∈ verbKws, v = k.text := by
  obtain ⟨k, hk, us', rfl, -⟩ := tokens_begin hi hname hs
  exact ⟨k, hk, text_of_standsFor (verbKws_all k hk) (hv _ rfl)⟩

theorem verb_of_near {v : List Char} {ws : List (List Char)} {i : Instr} (h : StandsNear (v :: ws) i) :
    ∃ k ∈ verbKws, v = k.text := by
  obtain ⟨hi, n, us, hl, hs, -, hplaces⟩ := h
  obtain ⟨hn, -⟩ := leaves_length hl hs
  exact verb_of_standsFor hi (leaves_not_name hl) hs fun u hu => (hplaces 0 v u rfl hu).resolve_right (by omega)

theorem verb_of_selectsNone {v : List Char} {ws : List (List Char)} {i : Instr} (h : SelectsNone (v :: ws) i) :
    ∃ k ∈ verbKws, v = k.text := by
  obtain ⟨hi, ks, any, us, as, t, rest, hsel, hs, hts, hF, -⟩ := h
  refine verb_of_standsFor hi (selects_not_name hsel) hs fun u hu => ?_
  cases hF with
  | nil => cases hu
  | cons hhead _ =>
    obtain ⟨rfl, -⟩ := List.cons.inj hts
    cases hu
    exact hhead

/-! ## Commands -/

section
variable {cs v : List Char} {ws : List (List Char)} (h : lineTokens cs = v :: ws)
include h

theorem parseLine_of_isLineOf {i : Instr} (hi : IsLineOf (v :: ws) i) : parseLine cs = .line i := by
  rcases hi with ⟨hwf, hname, us, hs, hF⟩ | ⟨n, t, name, rfl, hn, ht, hts⟩
  · obtain ⟨k, hk, rfl⟩ := verb_of_standsFor (v := v) hwf hname hs fun u hu => by
      cases hF with
      | cons hhead _ => cases hu; exact hhead
    have hkall := verbKws_all k hk
    rw [parseLine_of_tokens hkall h, parseVerb_says hkall ((says_iff hkall).2 ⟨hwf, hname, us, hs, hF⟩)]
    rfl
  · obtain ⟨rfl, rfl⟩ := List.cons.inj hts
    have hw := (standsFor_digits (decide_eq_true hn)).1 ht
    have hk : wordOf "NAME".toList = .kw .name := wordOf_kw (k := .name) (by decide)
    have hparse := parseLine_of_tokens (v := .train) (by decide) h
    simp only [List.map_cons, List.map_nil, hw, hk] at hparse
    exact hparse

theorem parseLine_eq_line {i : Instr} : parseLine cs = .line i ↔ IsLineOf (v :: ws) i := by
  refine ⟨fun hp => ?_, parseLine_of_isLineOf h⟩
  by_cases hv : v ∈ verbs
  · obtain ⟨k, hk, rfl⟩ := exists_verb hv
    rcases parseLine_verb hk h with ⟨n, t, name, rfl, rfl, ht, e⟩ | ⟨p, e, -, hline, -⟩
    · rw [hp] at e
      cases e
      have hn : numOk n = true := numOk_of_numberOf (wordOf_eq_num.1 ht)
      exact .inr ⟨n, t, name, rfl, of_decide_eq_true hn, (standsFor_digits hn).2 ht, rfl⟩
    · exact .inl ((says_iff (verbKws_all k hk)).1 (hline i (afterRuns_eq_line.1 (e ▸ hp))))
  · rw [parseLine_other h hv] at hp
    cases hp

/-! ## Refusals -/

theorem parseLine_eq_refused {r : Reason} (hp : parseLine cs = .refused r) :
    (r = .unknown ∧ NotKnown v ws) ∨ (r = .syntaxErr ∧ ¬ NotKnown v ws) := by
  by_cases hv : v ∈ verbs
  · obtain ⟨k, hk, rfl⟩ := exists_verb hv
    rw [notKnown_iff hk (lineTokens_ne_nil h)]
    rcases parseLine_verb hk h with ⟨n, t, name, rfl, rfl, ht, e⟩ | ⟨p, e, hpv, hline, hnear, href⟩
    · rw [hp] at e
      cases e
    · rcases afterRuns_eq_refused.1 (e ▸ hp) with rfl | ⟨rfl, ⟨i, rfl⟩, -⟩
      · exact (href r rfl).symm
      · refine .inr ⟨rfl, fun hn => ?_⟩
        rw [parseVerb_secondUnknown hn] at hpv
        cases hpv
  · rw [parseLine_other h hv] at hp
    cases hp
    exact .inl ⟨rfl, .inl hv⟩

theorem parseLine_unknown : parseLine cs = .refused .unknown ↔ NotKnown v ws := by
  constructor
  · intro hp
    rcases parseLine_eq_refused h hp with ⟨-, hn⟩ | ⟨e, -⟩
    · exact hn
    · cases e
  · intro hn
    by_cases hv : v ∈ verbs
    · obtain ⟨k, hk, rfl⟩ := exists_verb hv
      rw [notKnown_iff hk (lineTokens_ne_nil h)] at hn
      rw [parseLine_of_tokens (verbKws_all k hk) h, parseVerb_secondUnknown hn]
      rfl
    · exact parseLine_other h hv

/-- A line refused with a form is near it, or selects no form. -/
theorem parseLine_unknownIn {i : Instr} (hp : parseLine cs = .unknownIn i) :
    StandsNear (v :: ws) i ∨ SelectsNone (v :: ws) i := by
  by_cases hv : v ∈ verbs
  · obtain ⟨k, hk, rfl⟩ := exists_verb hv
    rcases parseLine_verb hk h with ⟨n, t, name, rfl, rfl, ht, e⟩ | ⟨p, e, -, -, hnear, -⟩
    · rw [hp] at e
      cases e
    · obtain ⟨rfl, hruns⟩ := afterRuns_eq_unknownIn.1 (e ▸ hp)
      rw [near_iff (verbKws_all k hk), selectsNone_iff (verbKws_all k hk) (lineTokens_ne_nil h)]
      exact (hnear i rfl).imp_right fun hs => ⟨hs, hruns⟩
  · rw [parseLine_other h hv] at hp
    cases hp

theorem parseLine_of_near {i : Instr} (hi : StandsNear (v :: ws) i) (hline : ∀ j, parseLine cs ≠ .line j) :
    ∃ j, parseLine cs = .unknownIn j ∧ StandsNear (v :: ws) j := by
  obtain ⟨k, hk, rfl⟩ := verb_of_near hi
  have hkall := verbKws_all k hk
  have hparse := parseLine_of_tokens hkall h
  rcases parseVerb_near hkall (words_ok ws) ((near_iff hkall).1 hi) (k.text :: ws) with ⟨j, e⟩ | ⟨j, e, hj⟩
  · exact absurd (hparse.trans (afterRuns_eq_line.2 e)) (hline j)
  · exact ⟨j, hparse.trans (afterRuns_eq_unknownIn.2 ⟨e, near_no_longRun hj⟩), (near_iff hkall).2 hj⟩

theorem parseLine_of_selectsNone {i : Instr} (hi : SelectsNone (v :: ws) i) : parseLine cs = .unknownIn i := by
  obtain ⟨k, hk, rfl⟩ := verb_of_selectsNone hi
  have hkall := verbKws_all k hk
  obtain ⟨hs, hruns⟩ := (selectsNone_iff hkall (lineTokens_ne_nil h)).1 hi
  exact (parseLine_of_tokens hkall h).trans (afterRuns_eq_unknownIn.2 ⟨parseVerb_saysNone hkall hs _, hruns⟩)

/-- A run of more than 9 digits after the verb (log 55). -/
theorem parseLine_of_longRun (hrun : ∃ t ∈ ws, LongRun t) (hn : ¬ NotKnown v ws) :
    parseLine cs = .refused .syntaxErr ∨ ∃ n name, parseLine cs = .line (.trainName n name) := by
  have hv : v ∈ verbs := by
    by_contra hv
    exact hn (.inl hv)
  obtain ⟨k, hk, rfl⟩ := exists_verb hv
  have hany : ¬ (ws.map wordOf).any Word.isLongRun = false := by
    rw [longRuns_iff (lineTokens_ne_nil h)]
    obtain ⟨t, ht, hl⟩ := hrun
    exact fun hno => hno t ht hl
  rcases parseLine_verb hk h with ⟨n, t, name, rfl, rfl, ht, e⟩ | ⟨p, e, -, hline, -, -⟩
  · exact .inr ⟨n, name, e⟩
  · left
    cases hp : parseLine cs with
    | line i =>
      obtain ⟨-, -, hplain, -⟩ := hline i (afterRuns_eq_line.1 (e ▸ hp))
      refine absurd (List.any_eq_false.2 fun w hw => ?_) hany
      rw [plain_not_longRun (hplain w hw)]
      exact Bool.false_ne_true
    | unknownIn i => exact absurd (afterRuns_eq_unknownIn.1 (e ▸ hp)).2 hany
    | refused r =>
      rcases parseLine_eq_refused h hp with ⟨-, hu⟩ | ⟨rfl, -⟩
      · exact absurd hu hn
      · rfl

end

end Sys2Proof.Machine
end

section
-- One theorem after the other: side by side, waiting proofs would pile up.
set_option Elab.async false
/-! SUPPORT. The characters of a line: how they are received, and how they split into tokens (R181 to R184). -/

namespace Sys2Proof.Machine

open Sys2Proof.Safety

/-! ## Splitting a line at its blanks (R184) -/

theorem isBlank_iff (c : Char) : isBlank c = true ↔ c = ' ' ∨ c = '\t' := by simp [isBlank]

theorem not_blank_of_le {c : Char} (h : 33 ≤ c.toNat) : isBlank c = false := by
  rw [← Bool.not_eq_true, isBlank_iff]
  rintro (rfl | rfl) <;> exact absurd h (by decide)

/-- Capitals have the blanks of the line. -/
theorem isBlank_toUpper (c : Char) : isBlank c.toUpper = isBlank c := by
  unfold Char.toUpper
  split
  · next h =>
    obtain ⟨h1, h2⟩ := h
    have h1 : 97 ≤ c.val.toNat := h1
    have h2 : c.val.toNat ≤ 122 := h2
    rw [not_blank_of_le (c := c) (by show 33 ≤ c.val.toNat; omega), not_blank_of_le]
    show 33 ≤ (c.val + ('A'.val - 'a'.val)).toNat
    rw [UInt32.toNat_add]
    show 33 ≤ (c.val.toNat + 4294967264) % 4294967296
    omega
  · rfl

/-- Blanks before a token. -/
theorem splitTokens_blanks {bs : List Char} (h : ∀ c ∈ bs, isBlank c = true) (cs : List Char) :
    splitTokens [] (bs ++ cs) = splitTokens [] cs := by
  induction bs with
  | nil => rfl
  | cons b bs ih =>
    obtain ⟨hb, hbs⟩ := List.forall_mem_cons.1 h
    rw [List.cons_append, splitTokens, if_pos hb]
    exact ih hbs

/-- A run of characters that are no blanks joins the token in progress. -/
theorem splitTokens_token {t : List Char} (h : ∀ c ∈ t, isBlank c = false) (cur cs : List Char) :
    splitTokens cur (t ++ cs) = splitTokens (cur ++ t) cs := by
  induction t generalizing cur with
  | nil => simp
  | cons c t ih =>
    obtain ⟨hc, ht⟩ := List.forall_mem_cons.1 h
    rw [List.cons_append, splitTokens, hc, if_neg Bool.false_ne_true, ih ht, List.append_assoc]
    rfl

/-- A token ends at a blank or at the end of the line. -/
theorem splitTokens_end {cur : List Char} (hcur : cur ≠ []) {cs : List Char} (h : ∀ c r, cs = c :: r → isBlank c = true) :
    splitTokens cur cs = cur :: splitTokens [] cs := by
  cases cs with
  | nil => rw [splitTokens, if_neg (by simpa using hcur)]; rfl
  | cons c r =>
    have hc := h c r rfl
    rw [splitTokens, if_pos hc, if_neg (by simpa using hcur), splitTokens, if_pos hc]
    rfl

/-- Spaces and tabs part a line into its tokens, read in capitals (R184). -/
theorem lineTokens_spacedOut {cs : List Char} {ts : List (List Char)} (h : SpacedOut cs ts) :
    lineTokens cs = ts.map fun t => t.map Char.toUpper := by
  have upper {bs : List Char} {b : Bool} (hbs : ∀ c ∈ bs, isBlank c = b) : ∀ c ∈ bs.map Char.toUpper, isBlank c = b :=
    List.forall_mem_map.2 fun c hc => (isBlank_toUpper c).trans (hbs c hc)
  induction h with
  | blanks bs hbs =>
    have := splitTokens_blanks (upper fun c hc => (isBlank_iff c).2 (hbs c hc)) []
    rw [List.append_nil] at this
    exact this
  | token bs t cs ts hbs hne ht hend _ ih =>
    have htok : ∀ c ∈ t, isBlank c = false := fun c hc => by
      rw [← Bool.not_eq_true, isBlank_iff, not_or]
      exact ht c hc
    rw [lineTokens, List.map_append, List.map_append, List.append_assoc,
      splitTokens_blanks (upper fun c hc => (isBlank_iff c).2 (hbs c hc)), splitTokens_token (upper htok), List.nil_append,
      splitTokens_end (by simpa using hne), List.map_cons]
    · exact congrArg _ ih
    · intro c r e
      obtain ⟨d, q, rfl, rfl, -⟩ := List.map_eq_cons_iff.1 e
      rw [isBlank_toUpper, isBlank_iff]
      exact hend d q rfl

end Sys2Proof.Machine
end

section
-- One theorem after the other: side by side, waiting proofs would pile up.
set_option Elab.async false
/-! SUPPORT. Characters, terminators and lines at the receiver (R181 to R184). -/

namespace Sys2Proof.Machine

open Sys2Proof.Safety

/-! ## Characters -/

/-- The state at a character that is none of a CR. -/
def afterChar (s : State) : State := s.withLine { s.line with afterCr := false }

/-- The state at a terminator. -/
def atEnd (s : State) (e : BitVec 8) : State := s.withLine { s.line with afterCr := decide (e = 13) }

theorem receiveChar_of_char {c : BitVec 8} {fe : Bool} (h : fe = true ∨ (c ≠ 13 ∧ c ≠ 10)) (s : State) :
    receiveChar c fe s = s.withLine ((afterChar s).line.addChar c fe) := by
  unfold receiveChar
  cases fe with
  | true =>
    have hcr : (decide (c = 13) && !true) = false := Bool.and_false _
    rw [hcr]
    rfl
  | false =>
    obtain ⟨h1, h2⟩ := h.resolve_left nofun
    have hcr : (decide (c = 13) && !false) = false := by rw [decide_eq_false h1]; rfl
    rw [hcr]
    exact (if_neg h1).trans (if_neg h2)

theorem receiveChar_of_end {e : BitVec 8} {s : State} (h : ends s e) :
    receiveChar e false s = endLine (atEnd s e) := by
  unfold receiveChar
  rcases h with rfl | ⟨rfl, ha⟩
  · simp [atEnd]
  · simp [atEnd, ha]

theorem exec_char {c : BitVec 8} {fe : Bool} {s : State} (hs : runs s) (h : fe = true ∨ (c ≠ 13 ∧ c ≠ 10)) :
    exec (.receiveCharacter c fe) s = acts (s.withLine ((afterChar s).line.addChar c fe)) :=
  (event_of_runs hs).trans (by rw [receiveChar_of_char h])

theorem exec_end {e : BitVec 8} {s : State} (hs : runs s) (h : ends s e) : exec (.receiveCharacter e false) s =
    acts (endLine (atEnd s e)) :=
  (event_of_runs hs).trans (by rw [receiveChar_of_end h])

/-- An LF right after a CR is part of its terminator (R182). -/
theorem exec_lf {s : State} (hs : runs s) (h : s.line.afterCr = true) :
    exec (.receiveCharacter 10 false) s = acts (afterChar s) := by
  refine (event_of_runs hs).trans ?_
  simp [receiveChar, afterChar, h]

theorem addChar_of_slot {l : CommandLine} {b : Bool} {x : Line} (hrx : l.rx = .slot b) (hx : l.slot b = .receiving x)
    (c : BitVec 8) (fe : Bool) : l.addChar c fe = l.setSlot b (.receiving (x.add c fe)) := by
  simp only [CommandLine.addChar, hrx, hx, Slot.line]

theorem addChar_of_overrun {l : CommandLine} {b : Bool} (hrx : l.rx = .overrun b) (c : BitVec 8) (fe : Bool) :
    l.addChar c fe = { l with rx := .overrun (b && !fe && isSpace c) } := by
  simp only [CommandLine.addChar, hrx]

theorem addChar_of_free {l : CommandLine} {b : Bool} (hrx : l.rx = .idle) (hb : l.freeSlot = some b)
    (c : BitVec 8) (fe : Bool) : l.addChar c fe =
      { (l.setSlot b (.receiving (Line.none.add c fe))) with rx := .slot b, order := l.order ++ [.slot b] } := by
  simp only [CommandLine.addChar, hrx, hb]

theorem addChar_of_full {l : CommandLine} (hrx : l.rx = .idle) (hb : l.freeSlot = none)
    (c : BitVec 8) (fe : Bool) : l.addChar c fe = { l with rx := .overrun (!fe && isSpace c) } := by
  simp only [CommandLine.addChar, hrx, hb]

theorem freeSlot_eq_some {l : CommandLine} {b : Bool} (h : (b = false ∧ l.slotA = .empty) ∨
    (b = true ∧ l.slotA ≠ .empty ∧ l.slotB = .empty)) : l.freeSlot = some b := by
  rcases h with ⟨rfl, ha⟩ | ⟨rfl, ha, hb⟩
  · rw [CommandLine.freeSlot, ha]
  · unfold CommandLine.freeSlot
    split
    · next h => exact absurd h ha
    · rfl
    · next h => exact absurd hb h

theorem freeSlot_eq_none {l : CommandLine} (ha : l.slotA ≠ .empty) (hb : l.slotB ≠ .empty) : l.freeSlot = none := by
  unfold CommandLine.freeSlot
  split
  · next h => exact absurd h ha
  · next h _ => exact absurd h hb
  · rfl

theorem slot_setSlot (l : CommandLine) (b : Bool) (x : Slot) : (l.setSlot b x).slot b = x := by cases b <;> rfl

theorem isSpace_eq (c : BitVec 8) : isSpace c = decide (c = 32 ∨ c = 9) := by
  rw [Bool.eq_iff_iff]
  simp [isSpace]

/-- What a character adds to the line being received (R182, R183). -/
theorem line_add (x : Line) (c : BitVec 8) (fe : Bool) :
    (x.chars.length < 96 → (x.add c fe).chars = x.chars ++ [Char.ofNat c.toNat] ∧ (x.add c fe).long = x.long) ∧
    (96 ≤ x.chars.length → (x.add c fe).chars = x.chars ∧ (x.add c fe).long = true) ∧
    ((x.add c fe).bad = true ↔ x.bad = true ∨ fe = true ∨ (c ≠ 9 ∧ (c.toNat < 32 ∨ 126 < c.toNat))) ∧
    ((x.add c fe).blank = true ↔ x.blank = true ∧ fe = false ∧ (c = 32 ∨ c = 9)) := by
  refine ⟨fun h => ?_, fun h => ?_, ?_, ?_⟩
  · have hn : ¬ 96 ≤ x.chars.length := by omega
    simp [Line.add, Config.maxLine, h, hn]
  · have hn : ¬ x.chars.length < 96 := by omega
    simp [Line.add, Config.maxLine, h, hn]
  · have hp : (!isPrintable c) = true ↔ c ≠ 9 ∧ (c.toNat < 32 ∨ 126 < c.toNat) := by
      simp [isPrintable]
    show (x.bad || fe || !isPrintable c) = true ↔ _
    rw [Bool.or_eq_true, Bool.or_eq_true, hp, or_assoc]
  · show (x.blank && !fe && isSpace c) = true ↔ _
    rw [isSpace_eq]
    simp [and_assoc]

/-! ## Terminators -/

theorem endLine_of_slot {s : State} {b : Bool} {x : Line} (hrx : s.line.rx = .slot b)
    (hx : s.line.slot b = .receiving x) (hblank : x.blank = false) :
    endLine s = holdLine b x (s.withLine { s.line with rx := .idle }) := by
  simp only [endLine, hrx, hx, Slot.line, hblank, Bool.false_eq_true, if_false]

/-- A line of blanks leaves no trace (R183). -/
theorem endLine_of_blank {s : State} {b : Bool} {x : Line} (hrx : s.line.rx = .slot b)
    (hx : s.line.slot b = .receiving x) (hblank : x.blank = true) : endLine s =
      s.withLine ({ s.line with rx := .idle, order := s.line.order.erase (.slot b) }.setSlot b .empty) := by
  simp only [endLine, hrx, hx, Slot.line, hblank, if_true]
  cases b <;> rfl

theorem endLine_of_overrun {s : State} (hrx : s.line.rx = .overrun false) :
    endLine s = s.withLine { s.line with rx := .idle, order := countOverrun s.line.order } := by
  simp only [endLine, hrx]
  rfl

theorem endLine_of_blankOverrun {s : State} (hrx : s.line.rx = .overrun true) :
    endLine s = s.withLine { s.line with rx := .idle } := by
  simp only [endLine, hrx]

theorem countOverrun_of_room {es : List Entry} {k : Nat} (h : k < 65535) :
    countOverrun (es ++ [.overrun k]) = es ++ [.overrun (k + 1)] := by
  have hk : k < Config.maxOverrun := h
  simp [countOverrun, hk]

theorem countOverrun_of_full {order : List Entry} (h : ∀ es k, order = es ++ [.overrun k] → 65535 ≤ k) :
    countOverrun order = order ++ [.overrun 1] := by
  unfold countOverrun
  split
  · next k hk =>
    obtain ⟨es, e⟩ := List.getLast?_eq_some_iff.1 hk
    exact if_neg (Nat.not_lt.2 (h es k e))
  · rfl

/-! ## Lines taken -/

theorem holdLine_of_takeLine {s : State} {b : Bool} {x : Line} {a : Ans} (hc : s.line.closed = false)
    (h : takeLine x s = a) : holdLine b x s = a.1.withLine (a.1.line.setSlot b (.held x (some a.2))) := by
  rw [holdLine, hc, h]
  rfl

theorem takeLine_of_long {x : Line} {s : State} (h : x.long = true) : takeLine x s = refuse .long s := by
  rw [takeLine, if_pos h]

theorem takeLine_of_bad {x : Line} {s : State} (hl : x.long = false) (h : x.bad = true) :
    takeLine x s = refuse .syntaxErr s := by
  simp [takeLine, hl, h]

/-- A line that is printable and not too long, once the part is READY or for `STATUS`. -/
theorem takeLine_of_parse {x : Line} {s : State} (hl : x.long = false) (hb : x.bad = false)
    (hr : s.sys.ready = true ∨ verbIsStatus x.chars = true) {p : Parsed} (hp : parseLine x.chars = p) :
    (∀ i, p = .line i → takeLine x s = takeCommand i s) ∧ (∀ r, p = .refused r → takeLine x s = refuse r s) ∧
      ∀ i, p = .unknownIn i → takeLine x s = unknownKeyword i s := by
  have hn : ¬ (s.sys.ready = false ∧ verbIsStatus x.chars = false) := by
    rintro ⟨h1, h2⟩
    rcases hr with h | h
    · rw [h] at h1; cases h1
    · rw [h] at h2; cases h2
  subst hp
  refine ⟨fun i e => ?_, fun r e => ?_, fun i e => ?_⟩ <;>
    simp only [takeLine, hl, hb, if_neg hn, e, Bool.false_eq_true, if_false]

theorem takeLine_of_start {x : Line} {s : State} (hl : x.long = false) (hb : x.bad = false) (hr : s.sys.ready = false)
    (hv : verbIsStatus x.chars = false) : takeLine x s = refuse .start s := by
  simp [takeLine, hl, hb, hr, hv]

theorem unknownKeyword_of_before {i : Instr} {s : State} {w : Reason} (hw : w = .range ∨ w = .busy ∨ w = .layout)
    (h : (takeCommand i s).2 = .no w) : unknownKeyword i s = refuse w s := by
  rw [unknownKeyword, h]
  rcases hw with rfl | rfl | rfl <;> rfl

theorem unknownKeyword_of_other {i : Instr} {s : State}
    (h : ∀ w, (w = .range ∨ w = .busy ∨ w = .layout) → (takeCommand i s).2 ≠ .no w) :
    unknownKeyword i s = refuse .unknown s := by
  unfold unknownKeyword
  split
  · next r hr =>
    have hr' : r.beforeUnknown = false := by
      cases r
      case range => exact absurd hr (h _ (.inl rfl))
      case busy => exact absurd hr (h _ (.inr (.inl rfl)))
      case layout => exact absurd hr (h _ (.inr (.inr rfl)))
      all_goals rfl
    rw [hr']
    rfl
  all_goals rfl

end Sys2Proof.Machine
end

section
-- One theorem after the other: side by side, waiting proofs would pile up.
set_option Elab.async false
/-! SUPPORT. A printable line sent to an idle receiver (R182, R183). -/

namespace Sys2Proof.Machine

open Sys2Proof.Safety

/-- State `t` is `s` but for its command line block, which receives line `x` in slot `b`. -/
structure Receiving (s t : State) (b : Bool) (x : Line) : Prop where
  other : t = s.withLine t.line
  rx : t.line.rx = .slot b
  line : t.line.slot b = .receiving x
  closed : t.line.closed = s.line.closed
  afterCr : t.line.afterCr = false

/-- The transmitter leaves the receiver as it is. -/
theorem offer_receiver (l : CommandLine) : l.offer.rx = l.rx ∧ (∀ b, l.offer.slot b = l.slot b) ∧
    l.offer.closed = l.closed ∧ l.offer.afterCr = l.afterCr := by
  have hs : l.startReport.rx = l.rx ∧ (∀ b, l.startReport.slot b = l.slot b) ∧
      l.startReport.closed = l.closed ∧ l.startReport.afterCr = l.afterCr := by
    unfold CommandLine.startReport
    split <;> exact ⟨rfl, fun _ => rfl, rfl, rfl⟩
  unfold CommandLine.offer
  split
  · exact ⟨rfl, fun _ => rfl, rfl, rfl⟩
  · split
    · exact ⟨rfl, fun _ => rfl, rfl, rfl⟩
    · exact hs
    · exact ⟨rfl, fun _ => rfl, rfl, rfl⟩
    · split
      · exact hs
      · exact ⟨rfl, fun _ => rfl, rfl, rfl⟩

theorem receiving_offer {s t : State} {b : Bool} {x : Line} (h : Receiving s t b x) : Receiving s t.offer b x := by
  obtain ⟨hrx, hslot, hclosed, hcr⟩ := offer_receiver t.line
  exact
    { other := by rw [State.offer_eq, State.withLine_line]; conv_lhs => rw [h.other]
                  rfl
      rx := hrx.trans h.rx
      line := (hslot b).trans h.line
      closed := hclosed.trans h.closed
      afterCr := hcr.trans h.afterCr }

theorem setSlot_rx (l : CommandLine) (b : Bool) (x : Slot) : (l.setSlot b x).rx = l.rx := by cases b <;> rfl
theorem setSlot_closed (l : CommandLine) (b : Bool) (x : Slot) : (l.setSlot b x).closed = l.closed := by
  cases b <;> rfl
theorem setSlot_afterCr (l : CommandLine) (b : Bool) (x : Slot) : (l.setSlot b x).afterCr = l.afterCr := by
  cases b <;> rfl

/-- The first character of a line. -/
theorem receiving_first {s : State} {b : Bool} {c : BitVec 8} (hs : runs s) (hrx : s.line.rx = .idle)
    (hb : (b = false ∧ s.line.slotA = .empty) ∨ (b = true ∧ s.line.slotA ≠ .empty ∧ s.line.slotB = .empty))
    (hc : c ≠ 13 ∧ c ≠ 10) : ∃ t, exec (.receiveCharacter c false) s = .next t ∧
      Receiving s t b (Line.none.add c false) := by
  refine ⟨_, exec_char hs (.inr hc), receiving_offer ?_⟩
  rw [addChar_of_free (l := (afterChar s).line) (b := b) hrx (freeSlot_eq_some hb)]
  exact
    { other := rfl
      rx := rfl
      line := slot_setSlot (afterChar s).line b _
      closed := setSlot_closed ..
      afterCr := setSlot_afterCr .. }

/-- A character more. -/
theorem receiving_next {s t : State} {b : Bool} {x : Line} {c : BitVec 8} (hs : runs s) (h : Receiving s t b x)
    (hc : c ≠ 13 ∧ c ≠ 10) : ∃ u, exec (.receiveCharacter c false) t = .next u ∧
      Receiving s u b (x.add c false) := by
  have ht : runs t := by rw [h.other]; exact hs
  refine ⟨_, exec_char ht (.inr hc), receiving_offer ?_⟩
  rw [addChar_of_slot (l := (afterChar t).line) h.rx h.line]
  exact
    { other := by conv_lhs => rw [h.other]
                  rfl
      rx := (setSlot_rx ..).trans h.rx
      line := slot_setSlot ..
      closed := (setSlot_closed ..).trans h.closed
      afterCr := setSlot_afterCr .. }

/-! ## Printable characters -/

/-- A character sent to the receiver is printable. -/
def Printable (c : Char) : Prop := 32 ≤ c.toNat ∧ c.toNat ≤ 126

theorem toNat_sent {c : Char} (h : Printable c) : (BitVec.ofNat 8 c.toNat).toNat = c.toNat := by
  obtain ⟨h1, h2⟩ := h
  rw [BitVec.toNat_ofNat]
  omega

theorem sent_ne {c : Char} (h : Printable c) {n : Nat} (hn : n < 32) : BitVec.ofNat 8 c.toNat ≠ BitVec.ofNat 8 n := by
  intro e
  have := congrArg BitVec.toNat e
  obtain ⟨h1, h2⟩ := h
  rw [BitVec.toNat_ofNat, BitVec.toNat_ofNat] at this
  omega

theorem sent_eq_space {c : Char} (h : Printable c) : BitVec.ofNat 8 c.toNat = 32 ↔ c = ' ' := by
  constructor
  · intro e
    have := congrArg BitVec.toNat e
    rw [toNat_sent h] at this
    rw [← Char.ofNat_toNat c, this]
    rfl
  · rintro rfl
    rfl

/-- A printable character joins a printable line that is not full. -/
theorem add_printable {c : Char} (h : Printable c) {cs : List Char} (hl : cs.length < 96) (blank : Bool) :
    Line.add (BitVec.ofNat 8 c.toNat) false ⟨cs, false, false, blank⟩ =
      ⟨cs ++ [c], false, false, blank && decide (c = ' ')⟩ := by
  obtain ⟨hroom, -, hbad, hblank⟩ := line_add ⟨cs, false, false, blank⟩ (BitVec.ofNat 8 c.toNat) false
  obtain ⟨hchars, hlong⟩ := hroom hl
  rw [toNat_sent h, Char.ofNat_toNat] at hchars
  have hbad' : (Line.add (BitVec.ofNat 8 c.toNat) false ⟨cs, false, false, blank⟩).bad = false := by
    rw [← Bool.not_eq_true, hbad, toNat_sent h]
    rintro (e | e | ⟨-, e⟩)
    · cases e
    · cases e
    · obtain ⟨h1, h2⟩ := h
      omega
  have hblank' : (Line.add (BitVec.ofNat 8 c.toNat) false ⟨cs, false, false, blank⟩).blank =
      (blank && decide (c = ' ')) := by
    have htab : BitVec.ofNat 8 c.toNat ≠ 9 := sent_ne h (n := 9) (by decide)
    rw [Bool.eq_iff_iff, hblank, or_iff_left htab, sent_eq_space h, Bool.and_eq_true,
      decide_eq_true_iff]
    simp
  generalize Line.add (BitVec.ofNat 8 c.toNat) false ⟨cs, false, false, blank⟩ = y at hchars hlong hbad' hblank'
  cases y
  exact Line.mk.injEq .. ▸ ⟨hchars, hlong, hbad', hblank'⟩

theorem feed_cons {c : Char} {cs : List Char} {s t : State}
    (h : exec (.receiveCharacter (BitVec.ofNat 8 c.toNat) false) s = .next t) : feed (c :: cs) s = feed cs t := by
  rw [feed, h]

theorem receiving_feed {s t : State} {b : Bool} {pre cs : List Char} {blank : Bool} (hs : runs s)
    (h : Receiving s t b ⟨pre, false, false, blank⟩) (hcs : ∀ c ∈ cs, Printable c) (hl : pre.length + cs.length ≤ 96) :
    Receiving s (feed cs t) b ⟨pre ++ cs, false, false, blank && cs.all fun c => decide (c = ' ')⟩ := by
  induction cs generalizing pre t blank with
  | nil => simpa [feed] using h
  | cons c cs ih =>
    obtain ⟨hc, hcs⟩ := List.forall_mem_cons.1 hcs
    rw [List.length_cons] at hl
    obtain ⟨u, hu, hrec⟩ := receiving_next hs h ⟨sent_ne hc (n := 13) (by decide), sent_ne hc (n := 10) (by decide)⟩
    rw [add_printable hc (by omega)] at hrec
    have := ih hrec hcs (by rw [List.length_append, List.length_singleton]; omega)
    rwa [feed_cons hu, List.all_cons, ← Bool.and_assoc, List.append_cons]

/-- A printable line of at most 96 characters that is not empty is received as it stands. -/
theorem receiving_line {s : State} {b : Bool} {cs : List Char} (hs : runs s) (hrx : s.line.rx = .idle)
    (hb : (b = false ∧ s.line.slotA = .empty) ∨ (b = true ∧ s.line.slotA ≠ .empty ∧ s.line.slotB = .empty))
    (hcs : ∀ c ∈ cs, Printable c) (hne : ∃ c ∈ cs, c ≠ ' ') (hl : cs.length ≤ 96) :
    Receiving s (feed cs s) b ⟨cs, false, false, false⟩ := by
  cases cs with
  | nil => obtain ⟨c, hc, -⟩ := hne; cases hc
  | cons c cs =>
    obtain ⟨hc, hcs'⟩ := List.forall_mem_cons.1 hcs
    obtain ⟨t, ht, hrec⟩ := receiving_first hs hrx hb
      ⟨sent_ne hc (n := 13) (by decide), sent_ne hc (n := 10) (by decide)⟩
    rw [show Line.none = ⟨[], false, false, true⟩ from rfl, add_printable hc (by decide)] at hrec
    have hfeed := receiving_feed hs hrec hcs' (by rw [List.length_cons] at hl; simpa [Nat.add_comm] using hl)
    have hblank : (true && decide (c = ' ') && cs.all fun c => decide (c = ' ')) = false := by
      rw [Bool.true_and, ← List.all_cons (f := fun c => decide (c = ' '))]
      obtain ⟨d, hd, hne⟩ := hne
      exact List.all_eq_false.2 ⟨d, hd, by simpa using hne⟩
    rw [hblank] at hfeed
    rwa [feed_cons ht]

end Sys2Proof.Machine
end

section
-- One theorem after the other: side by side, waiting proofs would pile up.
set_option Elab.async false
namespace Sys2Proof.Proofs.Received

open Sys2Proof.Machine Sys2Proof.Safety

/-- A terminator completes the line of a slot: the answer of the line joins it there. -/
theorem exec_end_held {s u : State} {b : Bool} {x : Line} {e : BitVec 8} {a : Ans} (hs : runs s)
    (hclosed : s.line.closed = false) (he : ends s e) (hrx : s.line.rx = .slot b) (hx : s.line.slot b = .receiving x)
    (hblank : x.blank = false) (hu : u = s.withLine { s.line with rx := .idle, afterCr := decide (e = 13) })
    (ha : takeLine x u = a) : exec (.receiveCharacter e false) s =
      acts (a.1.withLine (a.1.line.setSlot b (.held x (some a.2)))) := by
  rw [exec_end hs he, endLine_of_slot (s := atEnd s e) hrx hx hblank]
  refine congrArg acts (holdLine_of_takeLine hclosed ?_)
  rw [← ha, hu]
  rfl

/-- A line of printable characters is taken by the block of its command. -/
theorem lineTaken {s : State} (hs : takes s) {b : Bool} {e : BitVec 8} {cs : List Char} {i : Instr}
    (hrx : s.line.rx = .idle)
    (hb : (b = false ∧ s.line.slotA = .empty) ∨ (b = true ∧ s.line.slotA ≠ .empty ∧ s.line.slotB = .empty))
    (he : e = 13 ∨ e = 10) (hcs : ∀ c ∈ cs, 32 ≤ c.toNat ∧ c.toNat ≤ 126) (hne : ∃ c ∈ cs, c ≠ ' ')
    (hl : cs.length ≤ 96) (hp : parseLine cs = .line i) : ∃ t u : State, feed cs s = t ∧ t = s.withLine t.line ∧
      u = t.withLine { t.line with rx := .idle, afterCr := decide (e = 13) } ∧
      exec (.receiveCharacter e false) t = acts ((takeCommand i u).1.withLine
        ((takeCommand i u).1.line.setSlot b (.held ⟨cs, false, false, false⟩ (some (takeCommand i u).2)))) := by
  obtain ⟨hready, hruns, hclosed⟩ := hs
  have h := receiving_line hruns hrx hb hcs hne hl
  refine ⟨_, _, rfl, h.other, rfl, ?_⟩
  have ht : runs (feed cs s) := by rw [h.other]; exact hruns
  have hready' : (feed cs s).sys.ready = true := by rw [h.other]; exact hready
  refine exec_end_held ht (h.closed.trans hclosed) (he.imp_right fun h' => ⟨h', h.afterCr⟩) h.rx h.line rfl rfl ?_
  refine (takeLine_of_parse (x := ⟨cs, false, false, false⟩) rfl rfl (.inl ?_) hp).1 i rfl
  exact hready'

/-- A line that is refused. -/
theorem lineRefused {s u : State} (hs : takes s) {b : Bool} {e : BitVec 8} {x : Line} {r : Reply} (he : ends s e)
    (hrx : s.line.rx = .slot b) (hx : s.line.slot b = .receiving x) (hblank : x.blank = false)
    (hu : u = s.withLine { s.line with rx := .idle, afterCr := decide (e = 13) })
    (hr : (x.long = true ∧ r = .no .long) ∨ (x.long = false ∧ x.bad = true ∧ r = .no .syntaxErr) ∨
      (∃ w, x.long = false ∧ x.bad = false ∧ parseLine x.chars = .refused w ∧ r = .no w) ∨
      (∃ i, x.long = false ∧ x.bad = false ∧ parseLine x.chars = .unknownIn i ∧
        ((∃ w, (w = .range ∨ w = .busy ∨ w = .layout) ∧ (takeCommand i u).2 = .no w ∧ r = .no w) ∨
          ((∀ w, (w = .range ∨ w = .busy ∨ w = .layout) → (takeCommand i u).2 ≠ .no w) ∧
            r = .no .unknown)))) :
    exec (.receiveCharacter e false) s = acts (u.withLine (u.line.setSlot b (.held x (some r)))) := by
  obtain ⟨hready, hruns, hclosed⟩ := hs
  have hready' : u.sys.ready = true := by rw [hu]; exact hready
  refine exec_end_held hruns hclosed he hrx hx hblank hu (a := (u, r)) ?_
  rcases hr with ⟨hl, rfl⟩ | ⟨hl, hbad, rfl⟩ | ⟨w, hl, hbad, hp, rfl⟩ | ⟨i, hl, hbad, hp, h⟩
  · exact takeLine_of_long hl
  · exact takeLine_of_bad hl hbad
  · exact (takeLine_of_parse hl hbad (.inl hready') hp).2.1 w rfl
  · refine ((takeLine_of_parse hl hbad (.inl hready') hp).2.2 i rfl).trans ?_
    rcases h with ⟨w, hw, hc, rfl⟩ | ⟨hc, rfl⟩
    · exact unknownKeyword_of_before hw hc
    · exact unknownKeyword_of_other hc

theorem verbIsStatus_of_tokens {cs v : List Char} {ws : List (List Char)} (h : lineTokens cs = v :: ws) :
    verbIsStatus cs = true ↔ v = "STATUS".toList := by
  rw [verbIsStatus, h]
  exact beq_iff_eq

/-- Before `#READY` every line but `STATUS` is answered `NO START` (R184). -/
theorem lineAtStart {s u : State} (hruns : runs s) (hclosed : s.line.closed = false) (hready : s.sys.ready = false)
    {b : Bool} {e : BitVec 8} {x : Line} {r : Reply} (he : ends s e) (hrx : s.line.rx = .slot b)
    (hx : s.line.slot b = .receiving x) (hblank : x.blank = false)
    (hu : u = s.withLine { s.line with rx := .idle, afterCr := decide (e = 13) })
    (hr : (x.long = true ∧ r = .no .long) ∨ (x.long = false ∧ x.bad = true ∧ r = .no .syntaxErr) ∨
      (∃ v ws, x.long = false ∧ x.bad = false ∧ lineTokens x.chars = v :: ws ∧
        ((v ≠ "STATUS".toList ∧ r = .no .start) ∨ (v = "STATUS".toList ∧ ws ≠ [] ∧ r = .no .syntaxErr) ∨
          (v = "STATUS".toList ∧ ws = [] ∧ r = (takeCommand .status u).2)))) :
    exec (.receiveCharacter e false) s = acts (u.withLine (u.line.setSlot b (.held x (some r)))) := by
  have hready' : u.sys.ready = false := by rw [hu]; exact hready
  refine exec_end_held hruns hclosed he hrx hx hblank hu (a := (u, r)) ?_
  rcases hr with ⟨hl, rfl⟩ | ⟨hl, hbad, rfl⟩ | ⟨v, ws, hl, hbad, htokens, h⟩
  · exact takeLine_of_long hl
  · exact takeLine_of_bad hl hbad
  · have hverb := verbIsStatus_of_tokens htokens
    rcases h with ⟨hv, rfl⟩ | ⟨rfl, hws, rfl⟩ | ⟨rfl, rfl, rfl⟩
    · exact takeLine_of_start hl hbad hready' (by rwa [← Bool.not_eq_true, hverb])
    · have hp : parseLine x.chars = .refused .syntaxErr := by
        rw [RoundTrip.parseLine_of_tokens (v := .status) (by decide) htokens]
        obtain ⟨w, ws', rfl⟩ := List.exists_cons_of_ne_nil hws
        rfl
      exact (takeLine_of_parse hl hbad (.inr (hverb.2 rfl)) hp).2.1 _ rfl
    · have hp : parseLine x.chars = .line .status := by
        rw [RoundTrip.parseLine_of_tokens (v := .status) (by decide) htokens]
        rfl
      exact (takeLine_of_parse hl hbad (.inr (hverb.2 rfl)) hp).1 _ rfl

/-- With no slot EMPTY the characters of a line go nowhere, and its end counts it (R183). -/
theorem overruns {s : State} (hs : runs s) :
    (∀ c : BitVec 8, s.line.rx = .idle → s.line.slotA ≠ .empty → s.line.slotB ≠ .empty →
      c ≠ 13 → c ≠ 10 → exec (.receiveCharacter c false) s = acts (s.withLine { s.line with
        afterCr := false, rx := .overrun (decide (c = 32 ∨ c = 9)) })) ∧
    (∀ (c : BitVec 8) (b : Bool), s.line.rx = .overrun b → c ≠ 13 → c ≠ 10 →
      exec (.receiveCharacter c false) s = acts (s.withLine { s.line with
        afterCr := false, rx := .overrun (b && decide (c = 32 ∨ c = 9)) })) ∧
    ∀ e : BitVec 8, ends s e →
      (∀ es k, s.line.rx = .overrun false → s.line.order = es ++ [.overrun k] → k < 65535 →
        exec (.receiveCharacter e false) s = acts (s.withLine { s.line with
          afterCr := decide (e = 13), rx := .idle, order := es ++ [.overrun (k + 1)] })) ∧
      (s.line.rx = .overrun false → (∀ es k, s.line.order = es ++ [.overrun k] → 65535 ≤ k) →
        exec (.receiveCharacter e false) s = acts (s.withLine { s.line with
          afterCr := decide (e = 13), rx := .idle, order := s.line.order ++ [.overrun 1] })) ∧
      (s.line.rx = .overrun true → exec (.receiveCharacter e false) s = acts (s.withLine { s.line with
        afterCr := decide (e = 13), rx := .idle })) := by
  refine ⟨fun c hrx ha hb h1 h2 => ?_, fun c b hrx h1 h2 => ?_, fun e he => ⟨fun es k hrx ho hk => ?_,
    fun hrx ho => ?_, fun hrx => ?_⟩⟩
  · rw [exec_char hs (.inr ⟨h1, h2⟩), addChar_of_full (l := (afterChar s).line) hrx (freeSlot_eq_none ha hb), isSpace_eq]
    rfl
  · rw [exec_char hs (.inr ⟨h1, h2⟩), addChar_of_overrun (l := (afterChar s).line) hrx, isSpace_eq, Bool.not_false,
      Bool.and_true]
    rfl
  · rw [exec_end hs he, endLine_of_overrun (s := atEnd s e) hrx]
    simp only [atEnd, State.withLine_line, ho, countOverrun_of_room hk]
    rfl
  · rw [exec_end hs he, endLine_of_overrun (s := atEnd s e) hrx]
    simp only [atEnd, State.withLine_line, countOverrun_of_full ho]
    rfl
  · rw [exec_end hs he, endLine_of_blankOverrun (s := atEnd s e) hrx]
    rfl

/-- Settles O46: what characters and terminators do at the receiver, and which lines their tokens make commands or
refuse, each by a lemma of its own. -/
theorem receivedLines : Obligations.ReceivedLines := by
  refine ⟨fun s hs => ⟨fun b e cs i hrx hb he hcs hne hl hp => lineTaken hs hrx hb he hcs hne hl hp,
      fun b e x u r he hrx hx hblank hu hr => lineRefused hs he hrx hx hblank hu hr,
      fun b e x u he hrx hx hblank hu => ?_, fun b x c fe u hrx hx hc hu => ?_, fun ha => exec_lf hs.2.1 ha⟩,
    fun s u b e x r hs hclosed hready he hrx hx hblank hu hr => lineAtStart hs hclosed hready he hrx hx hblank hu hr,
    fun cs ts h => lineTokens_spacedOut h, fun cs v ws h => ?_, fun s hs => overruns hs⟩
  · rw [exec_end hs.2.1 he, endLine_of_blank (s := atEnd s e) hrx hx hblank, hu]
    rfl
  · refine ⟨x.add c fe, ?_, line_add x c fe⟩
    rw [exec_char hs.2.1 hc, addChar_of_slot (l := (afterChar s).line) hrx hx, hu]
    rfl
  · exact ⟨fun i => parseLine_eq_line h, parseLine_unknown h, fun i => parseLine_unknownIn h,
      fun i => parseLine_of_near h, fun i => parseLine_of_selectsNone h,
      fun w hw => (parseLine_eq_refused h hw).imp And.left And.left, parseLine_of_longRun h⟩

end Sys2Proof.Proofs.Received
end
